-- ==== Sys2Proof/Word.lean ====
section
/-! DEFINITION. The plain word types of the Zalquin model and the identifiers of R13. -/

namespace Sys2Proof

/-- One byte. -/
abbrev Byte := BitVec 8
/-- A byte string: a record, a datagram, the value of a BLOB (R629). -/
abbrev Bytes := List Byte
/-- The 64-bit word of a scalar register (R205) and of a tick count (R27). -/
abbrev Word := BitVec 64
/-- A binary32 bit pattern (R66). -/
abbrev F32 := BitVec 32

/-- Core C0 to C31 (R13). -/
abbrev CoreId := Fin 32
/-- Context 0 to 63; context n is VF n and context 0 the PF (R13). -/
abbrev CtxId := Fin 64
/-- Link L0 to L11 (R13). -/
abbrev LinkId := Fin 12
/-- Matrix array A0 to A7 of a core (R13). -/
abbrev ArrayId := Fin 8
/-- Scalar register S0 to S15 (R205). -/
abbrev SReg := Fin 16
/-- Vector register V0 to V31 (R205). -/
abbrev VReg := Fin 32
/-- Command ring 0 to 3 of a context (R789). -/
abbrev RingId := Fin 4
/-- Engine number of R504: cores 0 to 31, Quill 32, HBM 33, links 34 to 45, conductor 46. -/
abbrev EngineId := Fin 47
/-- Collective group 0 to 4,095 (R13). -/
abbrev GroupId := Fin 4096
/-- Glyph slot 0 to 63 (R13). -/
abbrev GlyphSlot := Fin 64

/-- A sparse table: key and value pairs with keys strictly rising; a key that is not listed holds the table's
default. Its operations stand in Machine/Table.lean. -/
abbrev SMap (α : Type) := List (Nat × α)

end Sys2Proof
end

