-- ==== Sys2Proof/Syntax.lean ====
section
/-! DEFINITION. The commands of the Zalquin: one constructor of `Instr` for each row of spec/opcode_table.json,
in the table's order, with the operands the rule of the row gives it. -/

namespace Sys2Proof

/-- The condition of BRANCH, MOD[1:0] (R888); `reserved` is the value 3. -/
inductive BranchCond where
  | zero
  | nonzero
  | negative
  | reserved
  deriving DecidableEq, Repr

/-- The operation a VOP names. R888 puts the codes into a file that is not part of the spec, so the command
carries the operation itself: binary32 arithmetic, compare, select and conversion (R210, R220, R106). -/
inductive VopOp where
  | add
  | sub
  | mul
  | div
  | fma
  | min
  | max
  | cmpEq
  | cmpLt
  | cmpLe
  | select
  | mov
  | abs
  | neg
  /-- Conversion of FP32 lanes to the format of the given R177 code and, for the floating formats, back. -/
  | cvt (format : BitVec 8)
  deriving DecidableEq, Repr

/-- The memories whose units are scrubbed (R160, R343). -/
inductive ScrubMem where
  | sram
  | hbm
  | reservoir
  | staging
  deriving DecidableEq, Repr

/-- What the ECC of a read found (R174, R175). -/
inductive EccResult where
  | clean
  | corrected
  | uncorrectable
  deriving DecidableEq, Repr

/-- An error of a line read from HBM: a symbol, 0 to 63 of the data and 64 to 71 of the check bytes, and the bits of it that
are flipped (R174). -/
structure SymbolError where
  symbol : Fin 72
  flips : Byte
  deriving DecidableEq, Repr

/-- One member's part of a count exchange (R308). -/
structure Contribution where
  tokenBase : Nat
  tokens : Nat
  counts : List Nat
  check : BitVec 64
  deriving DecidableEq, Repr

/-- The four values of a tick marker (R42, R43). -/
structure Marker where
  tick : Word
  state : BitVec 3
  depth : BitVec 8
  elapsed : Word
  deriving DecidableEq, Repr

/-- The four stamps of one delay exchange (R37), in root cycles. -/
structure Stamps where
  t1 : Nat
  t2 : Nat
  t3 : Nat
  t4 : Nat
  deriving DecidableEq, Repr

/-- The fields of an identity block (R478); `sigOk` says whether its signature verifies (R479). -/
structure IdBlock where
  serial : BitVec 128
  signature : BitVec 128
  fwDigest : Bytes
  addr : BitVec 16
  role : BitVec 8
  pairRole : BitVec 8
  sendLink : BitVec 8
  grade : BitVec 8
  stepping : BitVec 8
  expressAxis : BitVec 8
  extents : BitVec 16
  mapVersion : BitVec 32
  sigOk : Bool
  deriving DecidableEq, Repr

/-- KIND of a flit (R447). -/
inductive FlitKind where
  | idle
  | head
  | body
  | control
  | nak
  | linkDown
  deriving DecidableEq, Repr

/-- A flit (R447), without its CRC. -/
structure Flit where
  vc : BitVec 2
  ctx : CtxId
  kind : FlitKind
  seq : BitVec 10
  credit : BitVec 8
  payload : Bytes
  deriving DecidableEq, Repr

/-- The byte errors that the decoder of a block met in the codeword of the even-numbered and of the odd-numbered bytes
(R449). -/
structure Fec where
  even : Nat := 0
  odd : Nat := 0
  deriving DecidableEq, Repr

/-- What a packet is for at its target (R327, R332, R417, R424, R448). -/
inductive PacketUse where
  /-- Bytes from `offset` of a row for an expert queue of the COUNT with a group step number, and the row's origin tag
  (R326, R413). -/
  | queueRow (group : GroupId) (step queue row offset : Nat) (tag : BitVec 64)
  /-- Bytes from `offset` of a row for RET_DESC element (·, j, t) (R332). -/
  | returnRow (group : GroupId) (step slot token offset : Nat)
  /-- A partial sum of a collective step going up tree A or B, elements from `first` (R417, R418). -/
  | collUp (group : GroupId) (step : Nat) (treeB : Bool) (fromRight : Bool) (first : Nat) (check : BitVec 64)
  /-- A finished block of a collective step coming down (R417). -/
  | collDown (group : GroupId) (step : Nat) (treeB : Bool) (first : Nat) (check : BitVec 64)
  /-- A packet whose header names a target space, offset and a semaphore to credit (R448). -/
  | write (space : BitVec 8) (offset : Nat) (sem : BitVec 16)
  deriving DecidableEq, Repr

/-- A packet as it lands at its target (R448). -/
structure Packet where
  ctx : CtxId
  src : BitVec 16
  dst : BitVec 16
  use : PacketUse
  data : Bytes
  deriving DecidableEq, Repr

/-- One report to the lead (R481), with the claims R484 tests. -/
structure Report where
  addr : BitVec 16
  linkMask : BitVec 12
  serial : BitVec 128
  signature : BitVec 128
  extents : BitVec 16
  express : BitVec 8
  /-- PAIR_ROLE of the identity block, which R32 and R604 look at. -/
  pairRole : BitVec 8
  deriving DecidableEq, Repr

/-- The messages of a CONTROL flit (R461). -/
inductive CtlMsg where
  | mapUpdate (version : BitVec 32) (entries : List (BitVec 16 × BitVec 64))
  /-- A new route table: the detection tick and the EXPRESS_AXIS of the devices it uses (R473, R476). -/
  | routeTable (detectTick : Word) (express : List (BitVec 16 × BitVec 8))
  | lowestSerial (serial : BitVec 128)
  /-- The spanning tree's part for this device: its upstream link, depth and downstream links (R32, R43). -/
  | upstreamAssign (link : LinkId) (depth : BitVec 8) (downstream : BitVec 12)
  | leadChange (epoch : BitVec 32) (addr : BitVec 16)
  /-- A device's report on its way to the lead (R472, R481). -/
  | report (r : Report)
  deriving DecidableEq, Repr

/-- One item of a dictionary WRITE (R640): index × 256 + sub, type code and value bytes. -/
structure WriteItem where
  key : Nat
  type : Nat
  value : Bytes
  deriving DecidableEq, Repr

/-- An input that a primary forwards to its secondary (R605, R812). -/
inductive FwdInput where
  | descriptor (ctx : CtxId) (ring : RingId) (bytes : Bytes)
  | bar2Write (ctx : CtxId) (offset : Nat) (bytes : Bytes)
  | regWrite (ctx : CtxId) (offset : Nat) (value : BitVec 32)
  | request (ctx : CtxId) (bytes : Bytes)
  | configSet (items : List WriteItem) (activation : Word)
  | packet (p : Packet)
  | flr (ctx : CtxId)
  | hostLoss
  deriving DecidableEq, Repr

/-- Where a dictionary request comes from: a GDP datagram of the O path, or the PF mailbox (H path). -/
inductive ReqSource where
  | gdp (datagram : Bytes)
  | pf
  deriving DecidableEq, Repr

/-- A vote of a participant (R686). -/
inductive Vote where
  | ready (version : BitVec 32)
  | veto (reason : Nat)
  deriving DecidableEq, Repr

/-- The cause of a host loss (R809). -/
inductive HostLossKind where
  | perst
  | dll
  deriving DecidableEq, Repr

/-- The commands of the block: one constructor per row of the opcode table. -/
inductive Instr where
  -- The instruction stream of a core (R220, R888).
  | loop (k : CoreId) (n : SReg) (count : BitVec 16) (offset : BitVec 16)
  | branch (k : CoreId) (cond : BranchCond) (n : SReg) (offset : BitVec 16)
  | waitsem (k : CoreId) (sem : BitVec 16) (n : BitVec 16)
  | waitsemRelease (c : CtxId) (sem : BitVec 16)
  | sigsem (k : CoreId) (sem : BitVec 16) (n : BitVec 16)
  | waittick (k : CoreId) (n : SReg)
  | waittickRelease (k : CoreId)
  | sets (k : CoreId) (n : SReg) (imm : BitVec 32)
  | adds (k : CoreId) (n : SReg) (imm : BitVec 32)
  | endProgram (k : CoreId)
  | tloadv (k : CoreId) (vd : VReg) (desc : BitVec 16) (org : SReg) (high : Option SReg)
  | tstorev (k : CoreId) (vs : VReg) (desc : BitVec 16) (org : SReg) (high : Option SReg) (round : BitVec 2)
  | dma (k : CoreId) (src dst : BitVec 16) (sem : BitVec 16)
  | dmaRetire (k : CoreId)
  | atomaddXa (k : CoreId) (vs : VReg) (desc : BitVec 16) (org : SReg) (high : Option SReg)
  | atomaddF32 (k : CoreId) (vs : VReg) (desc : BitVec 16) (org : SReg) (high : Option SReg)
  | mma (k : CoreId) (array : ArrayId) (a b : BitVec 16) (org sk : SReg) (clear ta tb : Bool)
  | xspill (k : CoreId) (array : ArrayId) (desc : BitVec 16) (org : SReg) (high : Option SReg) (release : Bool)
  | xfill (k : CoreId) (array : ArrayId) (desc : BitVec 16) (org : SReg) (high : Option SReg)
  | xout (k : CoreId) (array : ArrayId) (desc : BitVec 16) (org : SReg) (high : Option SReg) (round : BitVec 2)
  | vop (k : CoreId) (op : VopOp) (vd vs vt : VReg)
  | sfu (k : CoreId) (slot : GlyphSlot) (vd vs vt : VReg)
  | softmax (k : CoreId) (src dst scratch : BitVec 16) (org : SReg) (round : BitVec 2)
  | norm (k : CoreId) (stable : Bool) (src : BitVec 16) (vd : VReg) (org sr : SReg)
  | stipple (k : CoreId) (vd : VReg) (sn st : SReg)
  -- The Quill (chapters 07 and 08).
  | route (k : CoreId) (n : SReg) (sem : BitVec 16)
  | routeDone (c : CtxId)
  | balReset (k : CoreId) (n : SReg) (sem : BitVec 16)
  | count (k : CoreId) (n : SReg) (sem : BitVec 16)
  | countExchangeResult (c : CtxId) (parts : List Contribution)
  | countComplete (c : CtxId) (spill : List Contribution)
  | scatter (k : CoreId) (n : SReg) (sem : BitVec 16)
  | scatterDone (c : CtxId)
  | ret (k : CoreId) (n : SReg) (sem : BitVec 16)
  | returnDone (c : CtxId)
  | combine (k : CoreId) (n : SReg) (sem : BitVec 16)
  | combineTokenStart (c : CtxId) (token : Nat)
  | combineDone (c : CtxId)
  | exitTest (k : CoreId) (n : SReg) (sem : BitVec 16)
  | queueRelease (c : CtxId) (queue : Nat)
  -- Collectives (chapter 10).
  | coll (k : CoreId) (n : SReg) (sem : BitVec 16)
  | collF32 (k : CoreId) (n : SReg) (sem : BitVec 16)
  | collAlloc (g : GroupId) (step : Nat)
  | collStepOk (g : GroupId) (step : Nat)
  | collTimeout (g : GroupId) (step : Nat)
  | abortFloodReceive (g : GroupId) (code : BitVec 8) (tick : Word) (rank : BitVec 32)
  | abortFix (g : GroupId)
  | collAbortSettle (g : GroupId)
  | groupReform (g : GroupId) (members : Option (List (BitVec 16)))
  -- Grouped work (chapter 09).
  | gclaim (k : CoreId) (n sd : SReg)
  | rosterReady (c : CtxId) (header : Nat)
  | rosterRelease (c : CtxId) (header : Nat) (entry : Nat)
  | gclaimResult (k : CoreId)
  -- Commands (chapter 06); `uid` is the command's place in its context's order of acceptance.
  | launch (c : CtxId) (uid : Nat)
  | descCreate (c : CtxId) (uid : Nat)
  | descDestroy (c : CtxId) (uid : Nat)
  | dmaCommand (c : CtxId) (uid : Nat)
  | signal (c : CtxId) (uid : Nat)
  | abort (c : CtxId) (uid : Nat)
  | fence (c : CtxId) (uid : Nat)
  | distSet (c : CtxId) (uid : Nat)
  | commandStart (c : CtxId) (uid : Nat)
  | launchStart (c : CtxId) (uid : Nat)
  | commandTerminal (c : CtxId) (uid : Nat) (ats : Bool)
  | trackerWaitEnd (k : CoreId)
  -- Contexts, the ruling, the HBM controller (chapters 05 and 12).
  | waitTimeout (k : CoreId) (c : CtxId)
  | teardownStop (c : CtxId)
  | scrubStart (c : CtxId)
  | transactionAbandon (c : CtxId)
  | teardownFree (c : CtxId)
  | scrubUnitDone (m : ScrubMem) (unit : Nat)
  | createComplete (c : CtxId)
  | slotStart (e : EngineId)
  | preemptSaveDone (k : CoreId)
  | restoreDone (k : CoreId)
  | rulingSwitch (e : EngineId)
  | hbmLineIssue (c : CtxId)
  | hbmRefresh
  | hbmReadReturn (xfer : Nat) (line : Nat) (errors : List SymbolError)
  | hbmWriteRetire (xfer : Nat) (line : Nat)
  -- The tick (chapter 02).
  | tickMarkerSend
  | tickMarkerReceive (l : LinkId) (m : Marker) (arrival : Nat)
  | holdoverEntry
  | holdoverLongEntry
  | slewStep
  | frequencyLock
  -- Links (chapter 11).
  | linkTrainStart (l : LinkId)
  | linkEqualised (l : LinkId)
  | linkAligned (l : LinkId)
  | identityReceive (l : LinkId) (b : IdBlock)
  | delayComplete (l : LinkId) (stamps : List Stamps)
  | linkStateTimeout (l : LinkId)
  | flitSend (l : LinkId)
  | dataFlitReceive (l : LinkId) (f : Flit) (fec : Fec)
  | controlFlitReceive (l : LinkId) (f : Flit) (fec : Fec) (msgs : List CtlMsg)
  | linkAckReceive (l : LinkId) (seq : BitVec 10) (credit : BitVec 8) (fec : Fec)
  | flitError (l : LinkId)
  | nakReceive (l : LinkId) (seq : BitVec 10) (credit : BitVec 8) (fec : Fec)
  | nakRepeat (l : LinkId)
  | linkDown (l : LinkId)
  | blockLockLost (l : LinkId)
  | packetLand (p : Packet)
  | discoveryReport (r : Report)
  | deviceDepart (addr : BitVec 16)
  | routeTableSwitch
  | electionComplete
  | positionAssign (l : LinkId) (peerAddr : BitVec 16) (extents : BitVec 16)
  | soloLead
  -- Leads and mirrored pairs (chapter 14).
  | leadBeatSend
  | leadBeatReceive (l : LinkId) (epoch : BitVec 32) (lead : BitVec 16) (mapVersion : BitVec 32)
  | standbyTakeover
  | pairBeatSend
  | partnerLost
  | forwardedInputReceive (stamp : Word) (input : FwdInput)
  | forwardedInputApply
  | lagOverrun
  | digestCompare (c : CtxId) (cmdId : BitVec 32) (digest : BitVec 256) (terminal : Word)
  | promotion
  | promote
  -- Serving (chapter 13).
  | stepBuild (c : CtxId)
  | stepPost (c : CtxId)
  | ctxSeqReqTail (c : CtxId) (v : BitVec 32)
  -- The dictionary and its paths (chapter 15).
  | read (src : ReqSource)
  | write (src : ReqSource)
  | snapshot (src : ReqSource)
  | snapRead (src : ReqSource)
  | mbxTService (c : CtxId)
  | mbxReply (f : CtxId)
  | flagsClear (c : CtxId) (mask : BitVec 16)
  | oobClear (c : CtxId)
  | govClear (c : CtxId)
  -- Flash and configuration sets (chapters 16 and 17).
  | flashWrite (offset : Nat) (data : Bytes)
  | flashWriteDone
  | check
  | checkDone
  | commit
  | revert
  | discard
  | configAbort
  | prepareReceive (commitId : BitVec 32) (actTick : Word) (epoch : BitVec 32)
  | voteReceive (addr : BitVec 16) (v : Vote)
  | commitDecide
  | decisionReceive (version : Option (BitVec 32))
  | noDecision
  | setActivation
  | fuseProgram
  -- Energy and safety (chapters 18 and 19).
  | energyWindowStart (measured : Nat)
  | thermalSample (milliC : Int)
  | railSample (rail : Fin 16) (mV : BitVec 16)
  | tripAssert
  | tripStop
  | partitionWatchdog
  -- The host interface (chapter 20).
  | ringDoorbell (c : CtxId) (r : RingId) (v : BitVec 32)
  | ringEnable (c : CtxId) (r : RingId) (enable : Bool) (log2 : BitVec 4)
  | cqHeadWrite (c : CtxId) (r : RingId) (v : BitVec 32)
  | descriptorTake (c : CtxId) (r : RingId) (fetched : Option Bytes)
  | counterLoRead (f : CtxId) (offset : Nat)
  | bar2Access (f : CtxId) (offset : Nat) (write : Option Bytes) (length : Nat) (poisoned : Bool)
  | registerWrite (f : CtxId) (offset : Nat) (value : BitVec 32)
  | vfFlr (c : CtxId)
  | pfFlr
  | hostLoss (kind : HostLossKind)
  | perstDeassert
  | sriovControlWrite (numVfs : BitVec 16) (vfEnable : Bool)
  | ideCheckFail (stream : Fin 4)
  | getMeasurements (index : BitVec 8)
  | challenge (nonce : Bytes)
  | keyExchange (peer : Bytes)
  | ideKm (stream : Fin 4) (key : Bytes)
  | neighbourDiscovery (src : Bytes)
  | icmpv6Echo (src payload : Bytes)
  | dhcpv4 (addr : BitVec 32)
  | i2cRead (length : Nat)
  | i2cWrite (data : Bytes)
  -- Boundary scan (chapter 21).
  | bypass
  | idcode
  | samplePreload (cells : Bytes)
  | extest
  | clamp
  | highz
  | extestPulse
  | extestTrain
  -- Power and bring-up (chapters 17, 21 and 22).
  | porReset
  | porRise (i2cAddr : BitVec 2) (xspiOctal : Bool)
  | rootPllLock
  | romVerifyDone
  | bootWatchdog
  | readyPoint
  | hbmTrainDone (failed : Option (Fin 8))
  | powerOnScrubDone
  | pcieLinkUp (rate : BitVec 4) (width : BitVec 5) (flit : Bool)
  | mbxRing (f : CtxId)
  | pairBeatReceive (l : LinkId)
  | balRowWritten (c : CtxId) (layer : Nat)
  | unitFree (k : CoreId) (unit : Fin 11)
  | undefinedOpcode (k : CoreId)
  deriving DecidableEq, Repr

end Sys2Proof
end

