-- ==== Sys2Proof/Decode.lean ====
section
/-! DEFINITION. The decoder of the 64-bit words of the instruction stream (R219 to R221, R260, R297, R888), and the
decoder over the rows of the opcode table that give bits. -/

namespace Sys2Proof

/-- The fields of an instruction word (R219). -/
structure WordFields where
  opcode : Nat
  mod : Nat
  a : Nat
  b : Nat
  c : Nat
  deriving DecidableEq, Repr

/-- OPCODE [63:56], MOD [55:48], OPA [47:32], OPB [31:16], OPC [15:0] of a word (R219). -/
def wordFields (w : Nat) : WordFields :=
  { opcode := w / 2 ^ 56 % 256, mod := w / 2 ^ 48 % 256, a := w / 2 ^ 32 % 65536, b := w / 65536 % 65536, c := w % 65536 }

/-- The scalar register a field's low bits name. -/
def fieldS (v : Nat) : SReg := Fin.ofNat 16 v
/-- The vector register a field's low bits name. -/
def fieldV (v : Nat) : VReg := Fin.ofNat 32 v
/-- The high-coordinates operand in OPC: Sh when bit 4 is 1 (R888). -/
def fieldHigh (c : Nat) : Option SReg := if c / 16 % 2 = 1 then some (fieldS c) else none

/-- A decoded form that stands when the bits R888 does not assign are zero; else the word is undefined (R221). -/
def WordFields.form (k : CoreId) (ok : Bool) (i : Instr) : Instr := if ok then i else .undefinedOpcode k

/-- The instruction a word holds on core k (R220, R888). A VOP's operation codes stand in a file that is not part of the
spec, so a VOP word holds whichever operation `op` is asked for (log entry 11). -/
def decodeWord (k : CoreId) (op : VopOp) (w : Nat) : Instr :=
  let f := wordFields w
  let s16 := fun v => BitVec.ofNat 16 v
  let form := WordFields.form k
  let plain := f.mod == 0
  let origin := decide (f.mod < 16)
  let rounded := decide (f.mod < 64)
  let high := decide (f.c < 32)
  match f.opcode with
  | 0x01 => form (plain && decide (f.a < 16)) (.loop k (fieldS f.a) (s16 f.b) (s16 f.c))
  | 0x02 => form (decide (f.mod < 4) && decide (f.a < 16) && f.b == 0)
      (.branch k (match f.mod with | 0 => .zero | 1 => .nonzero | 2 => .negative | _ => .reserved) (fieldS f.a) (s16 f.c))
  | 0x03 => form (plain && f.c == 0) (.waitsem k (s16 f.a) (s16 f.b))
  | 0x04 => form (plain && f.c == 0) (.sigsem k (s16 f.a) (s16 f.b))
  | 0x05 => form (plain && decide (f.a < 16) && f.b == 0 && f.c == 0) (.waittick k (fieldS f.a))
  | 0x06 => form (decide (f.mod < 2) && decide (f.a < 16))
      (let imm := BitVec.ofNat 32 (f.b * 65536 + f.c)
       if f.mod = 0 then .sets k (fieldS f.a) imm else .adds k (fieldS f.a) imm)
  | 0x07 => form (plain && f.a == 0 && f.b == 0 && f.c == 0) (.endProgram k)
  | 0x10 => form (origin && decide (f.b < 32) && high) (.tloadv k (fieldV f.b) (s16 f.a) (fieldS f.mod) (fieldHigh f.c))
  | 0x11 => form (rounded && decide (f.b < 32) && high)
      (.tstorev k (fieldV f.b) (s16 f.a) (fieldS f.mod) (fieldHigh f.c) (BitVec.ofNat 2 (f.mod / 16)))
  | 0x12 => form plain (.dma k (s16 f.a) (s16 f.b) (s16 f.c))
  | 0x13 => form (origin && decide (f.b < 32) && high) (.atomaddXa k (fieldV f.b) (s16 f.a) (fieldS f.mod) (fieldHigh f.c))
  | 0x14 => form (origin && decide (f.b < 32) && high) (.atomaddF32 k (fieldV f.b) (s16 f.a) (fieldS f.mod) (fieldHigh f.c))
  | 0x20 => form (origin && decide (f.c < 1024))
      (.mma k (Fin.ofNat 8 (f.c / 16)) (s16 f.a) (s16 f.b) (fieldS f.mod) (fieldS f.c) (f.c / 128 % 2 == 1)
        (f.c / 256 % 2 == 1) (f.c / 512 % 2 == 1))
  | 0x21 => form (f.mod / 16 % 8 == 0 && decide (f.b < 8) && high)
      (.xspill k (Fin.ofNat 8 f.b) (s16 f.a) (fieldS f.mod) (fieldHigh f.c) (f.mod / 128 == 1))
  | 0x22 => form (origin && decide (f.b < 8) && high) (.xfill k (Fin.ofNat 8 f.b) (s16 f.a) (fieldS f.mod) (fieldHigh f.c))
  | 0x23 => form (rounded && decide (f.b < 8) && high)
      (.xout k (Fin.ofNat 8 f.b) (s16 f.a) (fieldS f.mod) (fieldHigh f.c) (BitVec.ofNat 2 (f.mod / 16)))
  | 0x30 => form (decide (f.a < 32) && decide (f.b < 32) && decide (f.c < 32))
      (.vop k op (fieldV f.a) (fieldV f.b) (fieldV f.c))
  | 0x31 => form (decide (f.mod < 64) && decide (f.a < 32) && decide (f.b < 32) && decide (f.c < 32))
      (.sfu k (Fin.ofNat 64 f.mod) (fieldV f.a) (fieldV f.b) (fieldV f.c))
  | 0x32 => form rounded (.softmax k (s16 f.a) (s16 f.b) (s16 f.c) (fieldS f.mod) (BitVec.ofNat 2 (f.mod / 16)))
  | 0x33 => form (decide (f.mod < 32) && decide (f.b < 32) && decide (f.c < 16))
      (.norm k (f.mod / 16 == 1) (s16 f.a) (fieldV f.b) (fieldS f.mod) (fieldS f.c))
  | 0x34 => form (plain && decide (f.a < 32) && decide (f.b < 16) && decide (f.c < 16))
      (.stipple k (fieldV f.a) (fieldS f.b) (fieldS f.c))
  | 0x40 => form (decide (f.a < 16) && f.c == 0)
      (match f.mod with
        | 0x01 => .route k (fieldS f.a) (s16 f.b)
        | 0x02 => .balReset k (fieldS f.a) (s16 f.b)
        | 0x10 => .count k (fieldS f.a) (s16 f.b)
        | 0x11 => .scatter k (fieldS f.a) (s16 f.b)
        | 0x12 => .ret k (fieldS f.a) (s16 f.b)
        | 0x13 => .combine k (fieldS f.a) (s16 f.b)
        | 0x14 => .exitTest k (fieldS f.a) (s16 f.b)
        | _ => .undefinedOpcode k)
  | 0x50 => form (plain && decide (f.a < 16) && f.c == 0) (.coll k (fieldS f.a) (s16 f.b))
  | 0x51 => form (plain && decide (f.a < 16) && f.c == 0) (.collF32 k (fieldS f.a) (s16 f.b))
  | 0x60 => form (plain && decide (f.a < 16) && decide (f.b < 16) && f.c == 0) (.gclaim k (fieldS f.a) (fieldS f.b))
  | _ => .undefinedOpcode k

/-- The operation that a VOP command carries; any other command carries none. -/
def Instr.vopOp : Instr → VopOp
  | .vop _ op _ _ _ => op
  | _ => .add

/-- The command a word of `nbits` bits spells: none, because the opcode table gives no row any bits. The words of the
instruction stream are decoded where a core fetches them, by `decodeWord`. -/
def decodeTableWord (_nbits _w : Nat) : Option Instr := none

end Sys2Proof
end

