-- ==== Sys2Proof/Config.lean ====
section
/-! DEFINITION. What one Zalquin fixes for good, the limits of the spec, and the values the spec leaves open:
each open value is a constant with no body, so nothing can be proved of which value it takes. -/

namespace Sys2Proof

/-- The header fields and the segment coefficients of a glyph (R119), as the evaluation of R110 to R114 uses them.
A segment lists c0 to c5 and, for a RATIONAL glyph, the six denominator coefficients after them. -/
structure Glyph where
  functionId : BitVec 16
  reduction : BitVec 8
  rational : Bool
  lo : F32
  hi : F32
  flush : F32
  logScale : F32
  segments : List (List F32)
  deriving DecidableEq, Repr, Inhabited

namespace Config

/-- The bytes that the file ZLQ-2_glyphs_r2.bin gives for ROM slots 0 to 13. The file ships with the manual and is not
part of the spec (R884), so they are free; `romImage` sets the fields the spec states (log entry 10). -/
opaque romFile : Nat → Bytes
/-- PAIR_LAG in force on the pair partner at a tick, which no message of the spec carries (R602, log entry 37). -/
opaque partnerLag : Nat → Nat
/-- The pair partner has no context other than 0 outside FREE, at a tick (R602, log entry 37). -/
opaque partnerIdle : Nat → Bool
/-- The bytes of the same file for the eight compatibility images of R126, by slot: free (log entry 10). -/
opaque compatFile : Nat → Bytes
/-- A loaded glyph at an argument that its reduction does not take (R110 states none): free (log entry 10). -/
opaque glyphSpecial : Glyph → F32 → F32
/-- pow of slot 10 away from the special cases of R117: free (log entry 10). -/
opaque powCore : F32 → F32 → F32
/-- e^x of slot 12 as E11 (1.11.16), for a logit in −700 to +700: free within the bound of R132, which `slotTwelve`
holds it to (log entry 10). -/
opaque expE11 : F32 → BitVec 28
/-- 1 ÷ S of slot 13 in sum form (1.13.40): free within the bound of R116, which `slotThirteen` holds it to (log entry
10). -/
opaque recipSum : BitVec 54 → BitVec 54
/-- The lane a VOP compare delivers when it holds: the operation codes' file is not part of the spec (log entry 11). -/
opaque vopTrue : F32
/-- The lane a VOP compare delivers when it does not hold (log entry 11). -/
opaque vopFalse : F32
/-- The lane a VOP minimum or maximum delivers where the operands are not ordered or are equal zeros (log entry 11). -/
opaque vopMinMax : F32 → F32 → F32
/-- The lane a VOP select delivers from Vd, Vs and Vt (log entry 11). -/
opaque vopSelect : F32 → F32 → F32 → F32
/-- ECDSA P-384 signing under the device identity key, whose private half no one outside holds (log entry 12). -/
opaque ecdsaSign : Bytes → Bytes
/-- ECDSA P-384 verification: key, message digest, signature (log entry 12). -/
opaque ecdsaVerify : Bytes → Bytes → Bytes → Bool
/-- The secured-session key an SPDM KEY_EXCHANGE derives (log entry 12). -/
opaque spdmSessionKey : Bytes → Bytes
/-- SHA-384 of the device ROM, measurement 1 of R774 (log entry 12). -/
opaque romDigest : Bytes
/-- The twelve RS(140,128) parity bytes of a codeword: the spec names no generator (R449, log entry 13). -/
opaque rsParity : Bytes → Bytes
/-- The bytes that stand for the key, the type and the length of an entry in measurement 5: R774 names these fields and not
their widths (log entry 16). -/
opaque entryHead : Nat → Nat → Nat → Bytes
/-- The IPv6 address that stateless autoconfiguration forms on the management port (R645, log entry 42). -/
opaque autoAddress : BitVec 128 → Bytes
/-- The boundary-scan cells the pins drive, which no rule gives (R845, log entry 14). -/
opaque pinSample : Nat → Bytes
/-- The 16 header bytes of a packet from destination, source, payload length, use, target space with offset, and the
arrival counter or semaphore to credit: R448 lists the fields and not their places (log entry 13). -/
opaque packetHeader : BitVec 16 → BitVec 16 → Nat → Nat → Nat → Nat → Bytes
/-- The destination that the 16 header bytes of a packet name (log entry 13). -/
opaque headerDst : Bytes → BitVec 16
/-- The bytes that stand for an output's kind and destination, and for its length, in its hash: R609 names these fields
and neither their widths nor their codes (log entry 16). -/
opaque outputKind : Nat → Nat → Bytes
opaque outputLength : Nat → Bytes

/-- The 64-bit stipple seed of a rounding instruction: R91 says that the instruction names it and R888 gives it no
field, so it is free in the context and the program counter of the instruction (log entry 17). -/
opaque roundSeed : Nat → Nat → BitVec 64
/-- The global linear index of an element of an OWNER_TABLE tensor that lies in no block the table gives this device, by
context, record and coordinates (log entry 18). -/
opaque ownerIndex : Nat → Nat → List Nat → Nat

/-- A byte that an operation of the hub or of a command would read outside its context's share: R158 lets no such
address be formed and no rule states the byte (log entry 25). -/
opaque outsideShare : Nat → Byte
/-- The 8 check bytes of a line of 64 bytes: R174 says what they correct and detect and names no code (log entry 79). -/
opaque eccBytes : Bytes → Bytes
/-- What the check bytes find of an error in three or more symbols, which R174 leaves open: 0 nothing, 1 corrected, else
uncorrectable (log entry 79). -/
opaque eccBeyond : List Nat → Nat
/-- Fields of log records that the spec does not state, by a number of the model's own (log entry 33). -/
opaque logField : Nat → Nat
/-- The trace point, of 0 to 1,023, that the firmware has in a service: the firmware's own (R724, log entry 86). -/
opaque tracePoint : Nat → Option (Fin 1024)
/-- Largest number of commands' outstanding transactions per core (R22). -/
def trackersPerSlot : Nat := 16
/-- Cores a wheel can name (R513). -/
def banksPerCore : Nat := 4
/-- Sixty-four slots to a wheel (R23). -/
def wheelSlots : Nat := 64
/-- Semaphores of a context (R230). -/
def semaphores : Nat := 16384
/-- Descriptor store entries (R183). -/
def descStore : Nat := 16384
/-- The save area at the end of each SRAM share (R503). -/
def saveArea : Nat := 327680
/-- 39 MiB of partitionable core SRAM (R149). -/
def sramBytes : Nat := 39 * 1048576
/-- The SRAM of core k starts at k times this in the one SRAM map of State. -/
def sramStride : Nat := 67108864
/-- 48 MiB of reservoir (R149). -/
def reservoirBytes : Nat := 48 * 1048576
/-- 96 MiB of Quill staging memory (R149). -/
def stagingBytes : Nat := 96 * 1048576
/-- 288 GiB of HBM (R149). -/
def hbmBytes : Nat := 288 * 1073741824
/-- The anchor range of R73. -/
def anchorMin : Int := -352
/-- The anchor range of R73. -/
def anchorMax : Int := 96
/-- The native anchor of R71. -/
def anchorNative : Int := -64
/-- Read latency in GT (R170). -/
def hbmReadLat : Nat := 96
/-- Write latency in GT (R170). -/
def hbmWriteLat : Nat := 64
/-- Ticks of holdover before HOLDOVER_LONG (R56). -/
def holdoverLong : Nat := 6250000
/-- Lead of a launch's arming (R49). -/
def armLead : Nat := 8
/-- Settling time of a collective abort (R427). -/
def abortSettle : Nat := 32768
/-- Softmax row limit (R131). -/
def softmaxMaxRow : Nat := 262144
/-- Replay buffer depth in flits (R456). -/
def replayDepth : Nat := 960
/-- Ticks to a mailbox reply on the T path (R655). -/
def mbxLatency : Nat := 62500
/-- Log ring records (R721). -/
def logRecords : Nat := 2048

end Config
end Sys2Proof
end

