-- ==== Sys2Proof/Machine/Table.lean ====
section
/-! DEFINITION. Sparse tables, byte memories in one canonical form, and little-endian fields (R6). -/

namespace Sys2Proof

/-- The value a table holds at key `i`; `d` where no entry is listed. -/
def SMap.get {α : Type} (d : α) : SMap α → Nat → α
  | [], _ => d
  | (k, v) :: t, i => if k = i then v else SMap.get d t i

/-- The table with `v` at key `i`, keys kept strictly rising. -/
def SMap.put {α : Type} : SMap α → Nat → α → SMap α
  | [], i, v => [(i, v)]
  | (k, w) :: t, i, v =>
    if i < k then (i, v) :: (k, w) :: t
    else if i = k then (i, v) :: t
    else (k, w) :: SMap.put t i v

/-- The table without the entry at key `i`. -/
def SMap.del {α : Type} : SMap α → Nat → SMap α
  | [], _ => []
  | (k, w) :: t, i => if i = k then t else (k, w) :: SMap.del t i

/-- Keys strictly rising and above `lo`. -/
def SMap.wfFrom {α : Type} : Option Nat → SMap α → Bool
  | _, [] => true
  | lo, (k, _) :: t => (match lo with | none => true | some l => decide (l < k)) && SMap.wfFrom (some k) t

/-- Keys strictly rising. -/
def SMap.wf {α : Type} (m : SMap α) : Bool := SMap.wfFrom none m

namespace Machine

/-- A byte memory: addresses strictly rising, no entry equal to 0, which is what an unlisted byte reads as (R201). -/
abbrev Memory := List Host.Cell

/-- The byte at an address. -/
def Memory.read : Memory → Nat → Byte
  | [], _ => 0
  | (k, v) :: t, a => if k = a then v else Memory.read t a

/-- The memory with byte `v` at address `a`; writing 0 removes the entry. -/
def Memory.write : Memory → Nat → Byte → Memory
  | [], a, v => if v = 0 then [] else [(a, v)]
  | (k, w) :: t, a, v =>
    if a < k then (if v = 0 then (k, w) :: t else (a, v) :: (k, w) :: t)
    else if a = k then (if v = 0 then t else (a, v) :: t)
    else (k, w) :: Memory.write t a v

/-- The canonical form, with every address above `lo`. -/
def Memory.wfFrom : Option Nat → Memory → Bool
  | _, [] => true
  | lo, (k, v) :: t =>
    (match lo with | none => true | some l => decide (l < k)) && decide (v ≠ 0) && Memory.wfFrom (some k) t

/-- The canonical form. -/
def Memory.wf (m : Memory) : Bool := Memory.wfFrom none m

/-- `n` bytes from address `a`. -/
def Memory.readBytes (m : Memory) (a : Nat) : Nat → Bytes
  | 0 => []
  | n + 1 => m.read a :: Memory.readBytes m (a + 1) n

/-- The bytes written from address `a` upward. -/
def Memory.writeBytes (m : Memory) (a : Nat) : Bytes → Memory
  | [] => m
  | b :: t => Memory.writeBytes (m.write a b) (a + 1) t

/-- Zero in `n` bytes from `a`: the entries of the range are removed. -/
def Memory.zero (m : Memory) (a n : Nat) : Memory :=
  m.filter fun c => !(decide (a ≤ c.1) && decide (c.1 < a + n))

end Machine

namespace Machine

/-- The unsigned number of little-endian bytes (R6). -/
def leNat : Bytes → Nat
  | [] => 0
  | b :: t => b.toNat + 256 * leNat t

/-- `n` little-endian bytes of a number (R6). -/
def toLe : Nat → Nat → Bytes
  | 0, _ => []
  | n + 1, v => BitVec.ofNat 8 v :: toLe n (v / 256)

/-- Bytes `off` to `off + n − 1` of a record; bytes beyond its end read 0. -/
def slice (b : Bytes) (off n : Nat) : Bytes :=
  let t := (b.drop off).take n
  t ++ List.replicate (n - t.length) 0

/-- The little-endian field of `n` bytes at `off`. -/
def field (b : Bytes) (off n : Nat) : Nat := leNat (slice b off n)

/-- The signed little-endian field of `n` bytes at `off`. -/
def sfield (b : Bytes) (off n : Nat) : Int := (BitVec.ofNat (8 * n) (field b off n)).toInt

/-- Every byte of the range is zero. -/
def zeros (b : Bytes) (off n : Nat) : Bool := (slice b off n).all (· = 0)

/-- Bits `hi` down to `lo` of a number (R2). -/
def bits (v hi lo : Nat) : Nat := v / 2 ^ lo % 2 ^ (hi + 1 - lo)

/-- Bit `i` of a number. -/
def bit (v i : Nat) : Bool := v / 2 ^ i % 2 = 1

/-- Ceiling of a quotient. -/
def ceilDiv (a b : Nat) : Nat := (a + b - 1) / b

/-- Saturating addition to a counter of width w. -/
def satAdd {w : Nat} (x : BitVec w) (n : Nat) : BitVec w :=
  BitVec.ofNat w (min (x.toNat + n) (2 ^ w - 1))

/-- A Bool as a number. -/
def b2n (b : Bool) : Nat := if b then 1 else 0

/-- Position of the first entry a test holds of. -/
def indexOf {α : Type} (p : α → Bool) : List α → Option Nat
  | [] => none
  | x :: t => if p x then some 0 else (indexOf p t).map (· + 1)

/-- The list with `f` applied to the entries a test holds of. -/
def mapIf {α : Type} (p : α → Bool) (f : α → α) (l : List α) : List α := l.map fun x => if p x then f x else x

/-- `f 0`, …, `f (n − 1)`. -/
def tabulate {α : Type} (f : Nat → α) (n : Nat) : List α := (List.range n).map f

/-- Inserts into a list in ascending order of a key, after entries with an equal key. -/
def insertBy {α : Type} (key : α → Nat) (x : α) : List α → List α
  | [] => [x]
  | y :: t => if key x < key y then x :: y :: t else y :: insertBy key x t

/-- A stable sort by a key. -/
def sortBy {α : Type} (key : α → Nat) (l : List α) : List α := l.foldl (fun acc x => insertBy key x acc) []

end Machine
end Sys2Proof
end

