-- ==== Sys2Proof/Machine/Catalogue.lean ====
section
/-! DEFINITION. The catalogue of dictionary entries: one row per entry of the tables R62, R103, R147, R197, R256,
R291, R346, R390, R436, R491, R547, R581, R622, R661, R696, R727, R753 and R777, and the value ranges those
chapters state. -/

namespace Sys2Proof.Machine

/-- Access code of a path (R8, R630); `none` is "—". -/
inductive Access where
  | none
  | ro
  | rw
  | wo
  | rc
  | rs
  deriving DecidableEq, Repr

/-- An entry: first index and number of its records, subindex, type code (R629), access per path, default, whether
its writes stage into the draft, and whether its records are per-context (R657). -/
structure Entry where
  base : Nat
  records : Nat
  sub : Nat
  type : Nat
  o : Access
  h : Access
  t : Access
  dflt : Nat
  staged : Bool
  perCtx : Bool
  deriving DecidableEq, Repr

/-- Rows of the dictionary tables of 02_time_base.md. -/
def catalogueTimeBase0 : List Entry :=
  [⟨0xA000, 1, 0, 1, .ro, .ro, .ro, 6, false, false⟩,
   ⟨0xA000, 1, 1, 9, .rs, .rs, .rs, 0, false, false⟩,
   ⟨0xA000, 1, 2, 1, .rs, .rs, .rs, 0, false, false⟩,
   ⟨0xA000, 1, 3, 2, .rs, .rs, .none, 0, false, false⟩,
   ⟨0xA000, 1, 4, 1, .rs, .rs, .none, 255, false, false⟩,
   ⟨0xA000, 1, 5, 1, .rs, .rs, .none, 0, false, false⟩,
   ⟨0xA000, 1, 6, 4, .rs, .rs, .rs, 0, false, false⟩,
   ⟨0xA001, 1, 0, 1, .ro, .ro, .none, 12, false, false⟩,
   ⟨0xA001, 1, 1, 3, .rs, .rs, .none, 4294967295, false, false⟩,
   ⟨0xA001, 1, 2, 3, .rs, .rs, .none, 4294967295, false, false⟩,
   ⟨0xA001, 1, 3, 3, .rs, .rs, .none, 4294967295, false, false⟩,
   ⟨0xA001, 1, 4, 3, .rs, .rs, .none, 4294967295, false, false⟩,
   ⟨0xA001, 1, 5, 3, .rs, .rs, .none, 4294967295, false, false⟩,
   ⟨0xA001, 1, 6, 3, .rs, .rs, .none, 4294967295, false, false⟩,
   ⟨0xA001, 1, 7, 3, .rs, .rs, .none, 4294967295, false, false⟩,
   ⟨0xA001, 1, 8, 3, .rs, .rs, .none, 4294967295, false, false⟩]

/-- Rows of the dictionary tables of 02_time_base.md. -/
def catalogueTimeBase1 : List Entry :=
  [⟨0xA001, 1, 9, 3, .rs, .rs, .none, 4294967295, false, false⟩,
   ⟨0xA001, 1, 10, 3, .rs, .rs, .none, 4294967295, false, false⟩,
   ⟨0xA001, 1, 11, 3, .rs, .rs, .none, 4294967295, false, false⟩,
   ⟨0xA001, 1, 12, 3, .rs, .rs, .none, 4294967295, false, false⟩]

/-- Rows of the dictionary tables of 03_numerics.md. -/
def catalogueNumerics0 : List Entry :=
  [⟨0xB000, 1, 0, 1, .ro, .ro, .ro, 6, false, false⟩,
   ⟨0xB000, 1, 1, 3, .ro, .ro, .ro, 2, false, false⟩,
   ⟨0xB000, 1, 2, 8, .rs, .rs, .rs, 0, false, false⟩,
   ⟨0xB000, 1, 3, 1, .rw, .ro, .ro, 1, true, false⟩,
   ⟨0xB000, 1, 4, 5, .ro, .ro, .ro, 4294967232, false, false⟩,
   ⟨0xB000, 1, 5, 5, .ro, .ro, .ro, 4294966944, false, false⟩,
   ⟨0xB000, 1, 6, 5, .ro, .ro, .ro, 96, false, false⟩,
   ⟨0xB100, 64, 0, 1, .ro, .ro, .ro, 2, false, true⟩,
   ⟨0xB100, 64, 1, 2, .rs, .rs, .rs, 0, false, true⟩,
   ⟨0xB100, 64, 2, 2, .wo, .wo, .wo, 0, false, true⟩]

/-- Rows of the dictionary tables of 04_special_functions.md. -/
def catalogueSpecialFunctions0 : List Entry :=
  [⟨0xB010, 1, 0, 1, .ro, .ro, .ro, 3, false, false⟩,
   ⟨0xB010, 1, 1, 6, .rw, .rw, .ro, 0, true, false⟩,
   ⟨0xB010, 1, 2, 3, .ro, .ro, .ro, 262144, false, false⟩,
   ⟨0xB010, 1, 3, 5, .ro, .ro, .ro, 700, false, false⟩,
   ⟨0xB200, 64, 0, 1, .ro, .ro, .ro, 5, false, false⟩,
   ⟨0xB200, 64, 1, 1, .rs, .rs, .rs, 0, false, false⟩,
   ⟨0xB200, 64, 2, 2, .rs, .rs, .rs, 0, false, false⟩,
   ⟨0xB200, 64, 3, 1, .rs, .rs, .rs, 0, false, false⟩,
   ⟨0xB200, 64, 4, 8, .rs, .rs, .rs, 0, false, false⟩,
   ⟨0xB200, 64, 5, 8, .wo, .wo, .none, 0, true, false⟩]

/-- Rows of the dictionary tables of 05_memory_and_tensors.md. -/
def catalogueEmoryAndTensors0 : List Entry :=
  [⟨0xC000, 1, 0, 1, .ro, .ro, .ro, 8, false, false⟩,
   ⟨0xC000, 1, 1, 1, .ro, .ro, .ro, 8, false, false⟩,
   ⟨0xC000, 1, 2, 1, .ro, .ro, .ro, 64, false, false⟩,
   ⟨0xC000, 1, 3, 4, .ro, .ro, .ro, 20480000000000, false, false⟩,
   ⟨0xC000, 1, 4, 4, .ro, .ro, .ro, 17920000000000, false, false⟩,
   ⟨0xC000, 1, 5, 2, .ro, .ro, .ro, 96, false, false⟩,
   ⟨0xC000, 1, 6, 2, .ro, .ro, .ro, 64, false, false⟩,
   ⟨0xC000, 1, 7, 4, .rs, .rs, .none, 0, false, false⟩,
   ⟨0xC000, 1, 8, 4, .rs, .rs, .none, 0, false, false⟩,
   ⟨0xC100, 64, 0, 1, .ro, .ro, .ro, 11, false, true⟩,
   ⟨0xC100, 64, 1, 4, .rw, .rw, .none, 0, true, true⟩,
   ⟨0xC100, 64, 2, 4, .rw, .rw, .ro, 0, true, true⟩,
   ⟨0xC100, 64, 3, 4, .rw, .rw, .none, 0, true, true⟩,
   ⟨0xC100, 64, 4, 4, .rw, .rw, .ro, 0, true, true⟩,
   ⟨0xC100, 64, 5, 4, .rw, .rw, .none, 0, true, true⟩,
   ⟨0xC100, 64, 6, 4, .rw, .rw, .ro, 0, true, true⟩]

/-- Rows of the dictionary tables of 05_memory_and_tensors.md. -/
def catalogueEmoryAndTensors1 : List Entry :=
  [⟨0xC100, 64, 7, 2, .rw, .rw, .ro, 0, true, true⟩,
   ⟨0xC100, 64, 8, 2, .rs, .rs, .rs, 0, false, true⟩,
   ⟨0xC100, 64, 9, 4, .rs, .rs, .rs, 0, false, true⟩,
   ⟨0xC100, 64, 10, 6, .wo, .wo, .wo, 0, false, true⟩,
   ⟨0xC100, 64, 11, 4, .rs, .rs, .none, 0, false, true⟩]

/-- Rows of the dictionary tables of 06_compute_core.md. -/
def catalogueComputeCore0 : List Entry :=
  [⟨0x1010, 1, 0, 1, .ro, .ro, .ro, 6, false, false⟩,
   ⟨0x1010, 1, 1, 3, .ro, .ro, .ro, 0, false, false⟩,
   ⟨0x1010, 1, 2, 4, .ro, .ro, .ro, 0, false, false⟩,
   ⟨0x1010, 1, 3, 2, .ro, .ro, .ro, 16384, false, false⟩,
   ⟨0x1010, 1, 4, 2, .ro, .ro, .ro, 16, false, false⟩,
   ⟨0x1010, 1, 5, 3, .ro, .ro, .ro, 32768, false, false⟩,
   ⟨0x1010, 1, 6, 1, .ro, .ro, .ro, 12, false, false⟩]

/-- Rows of the dictionary tables of 07_quill_routing.md. -/
def catalogueQuillRouting0 : List Entry :=
  [⟨0x5000, 1, 0, 1, .ro, .ro, .ro, 6, false, false⟩,
   ⟨0x5000, 1, 1, 3, .ro, .ro, .ro, 65536, false, false⟩,
   ⟨0x5000, 1, 2, 2, .ro, .ro, .ro, 512, false, false⟩,
   ⟨0x5000, 1, 3, 1, .ro, .ro, .ro, 16, false, false⟩,
   ⟨0x5000, 1, 4, 3, .ro, .ro, .ro, 131072, false, false⟩,
   ⟨0x5000, 1, 5, 2, .ro, .ro, .ro, 256, false, false⟩,
   ⟨0x5000, 1, 6, 2, .ro, .ro, .ro, 4096, false, false⟩,
   ⟨0x5100, 64, 0, 1, .ro, .ro, .ro, 3, false, true⟩,
   ⟨0x5100, 64, 1, 2, .rs, .rs, .rs, 0, false, true⟩,
   ⟨0x5100, 64, 2, 2, .ro, .ro, .ro, 256, false, true⟩,
   ⟨0x5100, 64, 3, 9, .rs, .rs, .rs, 0, false, true⟩]

/-- Rows of the dictionary tables of 08_quill_movement.md. -/
def catalogueQuillMovement0 : List Entry :=
  [⟨0x5010, 1, 0, 1, .ro, .ro, .ro, 5, false, false⟩,
   ⟨0x5010, 1, 1, 2, .ro, .ro, .ro, 64, false, false⟩,
   ⟨0x5010, 1, 2, 2, .ro, .ro, .ro, 512, false, false⟩,
   ⟨0x5010, 1, 3, 2, .ro, .ro, .ro, 1024, false, false⟩,
   ⟨0x5010, 1, 4, 4, .ro, .ro, .ro, 100663296, false, false⟩,
   ⟨0x5010, 1, 5, 3, .ro, .ro, .ro, 65536, false, false⟩,
   ⟨0x5200, 64, 0, 1, .ro, .ro, .ro, 6, false, true⟩,
   ⟨0x5200, 64, 1, 4, .rw, .rw, .none, 0, true, true⟩,
   ⟨0x5200, 64, 2, 4, .rw, .rw, .ro, 0, true, true⟩,
   ⟨0x5200, 64, 3, 3, .rw, .rw, .rw, 2139095040, false, true⟩,
   ⟨0x5200, 64, 4, 4, .rs, .rs, .rs, 0, false, true⟩,
   ⟨0x5200, 64, 5, 4, .rs, .rs, .rs, 0, false, true⟩,
   ⟨0x5200, 64, 6, 4, .rs, .rs, .rs, 0, false, true⟩]

/-- Rows of the dictionary tables of 09_grouped_work.md. -/
def catalogueGroupedWork0 : List Entry :=
  [⟨0x1020, 1, 0, 1, .ro, .ro, .ro, 4, false, false⟩,
   ⟨0x1020, 1, 1, 2, .ro, .ro, .ro, 4096, false, false⟩,
   ⟨0x1020, 1, 2, 3, .ro, .ro, .ro, 65536, false, false⟩,
   ⟨0x1020, 1, 3, 1, .ro, .ro, .ro, 8, false, false⟩,
   ⟨0x1020, 1, 4, 2, .ro, .ro, .ro, 128, false, false⟩,
   ⟨0x4300, 64, 0, 1, .ro, .ro, .ro, 6, false, true⟩,
   ⟨0x4300, 64, 1, 1, .rw, .rw, .ro, 0, true, true⟩,
   ⟨0x4300, 64, 2, 4, .rw, .rw, .rw, 0, false, true⟩,
   ⟨0x4300, 64, 3, 3, .rw, .rw, .rw, 0, false, true⟩,
   ⟨0x4300, 64, 4, 4, .rw, .rw, .rw, 0, false, true⟩,
   ⟨0x4300, 64, 5, 3, .rw, .rw, .rw, 0, false, true⟩,
   ⟨0x4300, 64, 6, 1, .rs, .rs, .rs, 0, false, true⟩]

/-- Rows of the dictionary tables of 10_collectives.md. -/
def catalogueCollectives0 : List Entry :=
  [⟨0x1030, 1, 0, 1, .ro, .ro, .ro, 4, false, false⟩,
   ⟨0x1030, 1, 1, 2, .ro, .ro, .ro, 4096, false, false⟩,
   ⟨0x1030, 1, 2, 3, .ro, .ro, .ro, 65536, false, false⟩,
   ⟨0x1030, 1, 3, 3, .ro, .ro, .ro, 1048576, false, false⟩,
   ⟨0x1030, 1, 4, 3, .ro, .ro, .ro, 32768, false, false⟩,
   ⟨0x6000, 4096, 0, 1, .ro, .ro, .ro, 10, false, false⟩,
   ⟨0x6000, 4096, 1, 1, .rs, .rs, .rs, 0, false, false⟩,
   ⟨0x6000, 4096, 2, 8, .rw, .rw, .rs, 0, true, false⟩,
   ⟨0x6000, 4096, 3, 8, .rw, .rw, .rs, 0, true, false⟩,
   ⟨0x6000, 4096, 4, 3, .rs, .rs, .rs, 0, false, false⟩,
   ⟨0x6000, 4096, 5, 3, .rs, .rs, .rs, 0, false, false⟩,
   ⟨0x6000, 4096, 6, 3, .rs, .rs, .rs, 0, false, false⟩,
   ⟨0x6000, 4096, 7, 1, .rs, .rs, .rs, 0, false, false⟩,
   ⟨0x6000, 4096, 8, 9, .rs, .rs, .rs, 0, false, false⟩,
   ⟨0x6000, 4096, 9, 3, .rs, .rs, .rs, 0, false, false⟩,
   ⟨0x6000, 4096, 10, 4, .rs, .rs, .rs, 0, false, false⟩]

/-- Rows of the dictionary tables of 11_links_topology.md. -/
def catalogueLinksTopology0 : List Entry :=
  [⟨0x9000, 1, 0, 1, .ro, .ro, .ro, 8, false, false⟩,
   ⟨0x9000, 1, 1, 2, .rs, .rs, .rs, 0, false, false⟩,
   ⟨0x9000, 1, 2, 2, .rs, .rs, .rs, 0, false, false⟩,
   ⟨0x9000, 1, 3, 2, .rs, .rs, .none, 0, false, false⟩,
   ⟨0x9000, 1, 4, 6, .rw, .rw, .none, 0, true, false⟩,
   ⟨0x9000, 1, 5, 3, .rs, .rs, .none, 0, false, false⟩,
   ⟨0x9000, 1, 6, 8, .rs, .rs, .none, 0, false, false⟩,
   ⟨0x9000, 1, 7, 2, .wo, .wo, .none, 0, true, false⟩,
   ⟨0x9000, 1, 8, 1, .rw, .rw, .none, 255, true, false⟩,
   ⟨0x9100, 12, 0, 1, .ro, .ro, .none, 9, false, false⟩,
   ⟨0x9100, 12, 1, 1, .rs, .rs, .none, 0, false, false⟩,
   ⟨0x9100, 12, 2, 6, .rw, .rw, .none, 1, true, false⟩,
   ⟨0x9100, 12, 3, 2, .rs, .rs, .none, 65535, false, false⟩,
   ⟨0x9100, 12, 4, 1, .rs, .rs, .none, 255, false, false⟩,
   ⟨0x9100, 12, 5, 4, .rs, .rs, .none, 0, false, false⟩,
   ⟨0x9100, 12, 6, 4, .rs, .rs, .none, 0, false, false⟩]

/-- Rows of the dictionary tables of 11_links_topology.md. -/
def catalogueLinksTopology1 : List Entry :=
  [⟨0x9100, 12, 7, 3, .rs, .rs, .none, 0, false, false⟩,
   ⟨0x9100, 12, 8, 9, .rs, .rs, .none, 0, false, false⟩,
   ⟨0x9100, 12, 9, 3, .rs, .rs, .none, 0, false, false⟩,
   ⟨0x9200, 64, 0, 1, .ro, .ro, .ro, 2, false, true⟩,
   ⟨0x9200, 64, 1, 2, .rw, .rw, .ro, 0, true, true⟩,
   ⟨0x9200, 64, 2, 4, .rs, .rs, .none, 0, false, true⟩]

/-- Rows of the dictionary tables of 12_contexts_ruling.md. -/
def catalogue2ContextsRuling0 : List Entry :=
  [⟨0x4000, 1, 0, 1, .ro, .ro, .ro, 6, false, false⟩,
   ⟨0x4000, 1, 1, 1, .ro, .ro, .ro, 64, false, false⟩,
   ⟨0x4000, 1, 2, 1, .ro, .ro, .ro, 47, false, false⟩,
   ⟨0x4000, 1, 3, 1, .ro, .ro, .ro, 4, false, false⟩,
   ⟨0x4000, 1, 4, 2, .ro, .ro, .ro, 960, false, false⟩,
   ⟨0x4000, 1, 5, 3, .ro, .ro, .ro, 1250000, false, false⟩,
   ⟨0x4000, 1, 6, 4, .rs, .rs, .none, 0, false, false⟩,
   ⟨0x4100, 64, 0, 1, .ro, .ro, .ro, 10, false, true⟩,
   ⟨0x4100, 64, 1, 1, .rs, .rs, .rs, 0, false, true⟩,
   ⟨0x4100, 64, 2, 1, .wo, .wo, .none, 0, true, true⟩,
   ⟨0x4100, 64, 3, 1, .rw, .rw, .ro, 0, true, true⟩,
   ⟨0x4100, 64, 4, 6, .rw, .rw, .ro, 0, true, true⟩,
   ⟨0x4100, 64, 5, 3, .rw, .rw, .ro, 625000000, true, true⟩,
   ⟨0x4100, 64, 6, 6, .rw, .rw, .ro, 0, true, true⟩,
   ⟨0x4100, 64, 7, 4, .rs, .rs, .rs, 0, false, true⟩,
   ⟨0x4100, 64, 8, 9, .rs, .rs, .rs, 0, false, true⟩]

/-- Rows of the dictionary tables of 12_contexts_ruling.md. -/
def catalogue2ContextsRuling1 : List Entry :=
  [⟨0x4100, 64, 9, 9, .rs, .rs, .none, 0, false, true⟩,
   ⟨0x4100, 64, 10, 1, .rs, .rs, .none, 0, false, true⟩,
   ⟨0x4200, 47, 0, 1, .ro, .ro, .none, 2, false, false⟩,
   ⟨0x4200, 47, 1, 2, .rw, .rw, .none, 1024, true, false⟩,
   ⟨0x4200, 47, 2, 8, .rw, .rw, .none, 0, true, false⟩]

/-- Rows of the dictionary tables of 13_serving.md. -/
def catalogueServing0 : List Entry :=
  [⟨0xD000, 1, 0, 1, .ro, .ro, .ro, 2, false, false⟩,
   ⟨0xD000, 1, 1, 2, .ro, .ro, .ro, 16384, false, false⟩,
   ⟨0xD000, 1, 2, 1, .ro, .ro, .ro, 16, false, false⟩,
   ⟨0xD100, 64, 0, 1, .ro, .ro, .ro, 23, false, true⟩,
   ⟨0xD100, 64, 1, 2, .rw, .rw, .ro, 0, true, true⟩,
   ⟨0xD100, 64, 2, 2, .rw, .rw, .ro, 0, true, true⟩,
   ⟨0xD100, 64, 3, 6, .rw, .rw, .ro, 0, true, true⟩,
   ⟨0xD100, 64, 4, 2, .rw, .rw, .rw, 0, false, true⟩,
   ⟨0xD100, 64, 5, 4, .rw, .rw, .rw, 0, false, true⟩,
   ⟨0xD100, 64, 6, 2, .rw, .rw, .rw, 16, false, true⟩,
   ⟨0xD100, 64, 7, 4, .rw, .rw, .rw, 0, false, true⟩,
   ⟨0xD100, 64, 8, 4, .rw, .rw, .rw, 0, false, true⟩,
   ⟨0xD100, 64, 9, 2, .rw, .rw, .rw, 65535, false, true⟩,
   ⟨0xD100, 64, 10, 2, .rw, .rw, .rw, 65535, false, true⟩,
   ⟨0xD100, 64, 11, 2, .rw, .rw, .rw, 65535, false, true⟩,
   ⟨0xD100, 64, 12, 3, .rw, .rw, .rw, 64, false, true⟩]

/-- Rows of the dictionary tables of 13_serving.md. -/
def catalogueServing1 : List Entry :=
  [⟨0xD100, 64, 13, 9, .rw, .rw, .rw, 0, false, true⟩,
   ⟨0xD100, 64, 14, 3, .rw, .rw, .rw, 0, false, true⟩,
   ⟨0xD100, 64, 15, 3, .rw, .rw, .rw, 0, false, true⟩,
   ⟨0xD100, 64, 16, 4, .rw, .rw, .rw, 0, false, true⟩,
   ⟨0xD100, 64, 17, 4, .rw, .rw, .rw, 0, false, true⟩,
   ⟨0xD100, 64, 18, 4, .rs, .rs, .rs, 0, false, true⟩,
   ⟨0xD100, 64, 19, 2, .rs, .rs, .rs, 0, false, true⟩,
   ⟨0xD100, 64, 20, 4, .rs, .rs, .rs, 0, false, true⟩,
   ⟨0xD100, 64, 21, 4, .rs, .rs, .rs, 0, false, true⟩,
   ⟨0xD100, 64, 22, 4, .rs, .rs, .rs, 0, false, true⟩,
   ⟨0xD100, 64, 23, 8, .rs, .rs, .rs, 0, false, true⟩]

/-- Rows of the dictionary tables of 14_scale_out.md. -/
def catalogueScaleOut0 : List Entry :=
  [⟨0x9010, 1, 0, 1, .ro, .ro, .none, 5, false, false⟩,
   ⟨0x9010, 1, 1, 2, .rw, .rw, .none, 0, true, false⟩,
   ⟨0x9010, 1, 2, 2, .rw, .rw, .none, 65535, true, false⟩,
   ⟨0x9010, 1, 3, 1, .rs, .rs, .none, 0, false, false⟩,
   ⟨0x9010, 1, 4, 3, .rs, .rs, .none, 0, false, false⟩,
   ⟨0x9010, 1, 5, 9, .rs, .rs, .none, 0, false, false⟩,
   ⟨0x9020, 1, 0, 1, .ro, .ro, .none, 9, false, false⟩,
   ⟨0x9020, 1, 1, 1, .rw, .rw, .rs, 0, true, false⟩,
   ⟨0x9020, 1, 2, 3, .rw, .rw, .none, 262144, true, false⟩,
   ⟨0x9020, 1, 3, 1, .rs, .rs, .none, 0, false, false⟩,
   ⟨0x9020, 1, 4, 4, .rw, .rw, .none, 0, true, false⟩,
   ⟨0x9020, 1, 5, 9, .rs, .rs, .none, 0, false, false⟩,
   ⟨0x9020, 1, 6, 1, .rs, .rs, .none, 0, false, false⟩,
   ⟨0x9020, 1, 7, 3, .rs, .rs, .none, 0, false, false⟩,
   ⟨0x9020, 1, 8, 9, .rs, .rs, .none, 0, false, false⟩,
   ⟨0x9020, 1, 9, 6, .wo, .wo, .none, 0, false, false⟩]

/-- Rows of the dictionary tables of 15_dictionary.md. -/
def catalogueDictionary0 : List Entry :=
  [⟨0x1000, 1, 0, 1, .ro, .ro, .ro, 8, false, false⟩,
   ⟨0x1000, 1, 1, 8, .ro, .ro, .ro, 0, false, false⟩,
   ⟨0x1000, 1, 2, 7, .ro, .ro, .ro, 0, false, false⟩,
   ⟨0x1000, 1, 3, 1, .ro, .ro, .ro, 0, false, false⟩,
   ⟨0x1000, 1, 4, 1, .ro, .ro, .ro, 0, false, false⟩,
   ⟨0x1000, 1, 5, 3, .ro, .ro, .ro, 1, false, false⟩,
   ⟨0x1000, 1, 6, 3, .ro, .ro, .none, 0, false, false⟩,
   ⟨0x1000, 1, 7, 1, .ro, .ro, .ro, 0, false, false⟩,
   ⟨0x1000, 1, 8, 3, .ro, .ro, .ro, 1500, false, false⟩,
   ⟨0x1040, 1, 0, 1, .ro, .ro, .none, 7, false, false⟩,
   ⟨0x1040, 1, 1, 2, .ro, .ro, .none, 47720, false, false⟩,
   ⟨0x1040, 1, 2, 8, .rw, .rw, .none, 0, true, false⟩,
   ⟨0x1040, 1, 3, 6, .rw, .rw, .none, 1, true, false⟩,
   ⟨0x1040, 1, 4, 8, .rs, .rs, .none, 0, false, false⟩,
   ⟨0x1040, 1, 5, 4, .rs, .rs, .none, 0, false, false⟩,
   ⟨0x1040, 1, 6, 3, .ro, .ro, .ro, 62500, false, false⟩]

/-- Rows of the dictionary tables of 15_dictionary.md. -/
def catalogueDictionary1 : List Entry :=
  [⟨0x1040, 1, 7, 3, .ro, .ro, .none, 1048576, false, false⟩,
   ⟨0x1050, 4, 0, 1, .ro, .ro, .none, 3, false, false⟩,
   ⟨0x1050, 4, 1, 1, .rs, .rs, .none, 0, false, false⟩,
   ⟨0x1050, 4, 2, 4, .rs, .rs, .none, 0, false, false⟩,
   ⟨0x1050, 4, 3, 4, .rs, .rs, .none, 0, false, false⟩]

/-- Rows of the dictionary tables of 16_configuration_sets.md. -/
def catalogueOnfigurationSets0 : List Entry :=
  [⟨0x2000, 1, 0, 1, .ro, .ro, .ro, 17, false, false⟩,
   ⟨0x2000, 1, 1, 3, .rs, .rs, .rs, 0, false, false⟩,
   ⟨0x2000, 1, 2, 3, .rs, .rs, .none, 0, false, false⟩,
   ⟨0x2000, 1, 3, 1, .rs, .rs, .none, 0, false, false⟩,
   ⟨0x2000, 1, 4, 2, .rs, .rs, .none, 0, false, false⟩,
   ⟨0x2000, 1, 5, 3, .rs, .rs, .none, 0, false, false⟩,
   ⟨0x2000, 1, 6, 1, .wo, .wo, .none, 0, false, false⟩,
   ⟨0x2000, 1, 7, 9, .rw, .rw, .none, 0, false, false⟩,
   ⟨0x2000, 1, 8, 1, .rw, .rw, .none, 0, false, false⟩,
   ⟨0x2000, 1, 9, 3, .rs, .rs, .none, 0, false, false⟩,
   ⟨0x2000, 1, 10, 1, .rs, .rs, .none, 0, false, false⟩,
   ⟨0x2000, 1, 11, 2, .rs, .rs, .none, 0, false, false⟩,
   ⟨0x2000, 1, 12, 3, .rs, .rs, .none, 0, false, false⟩,
   ⟨0x2000, 1, 13, 9, .rs, .rs, .none, 0, false, false⟩,
   ⟨0x2000, 1, 14, 9, .rs, .rs, .none, 0, false, false⟩,
   ⟨0x2000, 1, 15, 9, .rs, .rs, .rs, 0, false, false⟩]

/-- Rows of the dictionary tables of 16_configuration_sets.md. -/
def catalogueOnfigurationSets1 : List Entry :=
  [⟨0x2000, 1, 16, 2, .rs, .rs, .none, 65535, false, false⟩,
   ⟨0x2000, 1, 17, 1, .rs, .rs, .none, 0, false, false⟩,
   ⟨0x2010, 1, 0, 1, .ro, .ro, .none, 1, false, false⟩,
   ⟨0x2010, 1, 1, 8, .rw, .rw, .none, 0, false, false⟩]

/-- Rows of the dictionary tables of 17_firmware.md. -/
def catalogueFirmware0 : List Entry :=
  [⟨0x7000, 1, 0, 1, .ro, .ro, .ro, 8, false, false⟩,
   ⟨0x7000, 1, 1, 3, .ro, .ro, .ro, 0, false, false⟩,
   ⟨0x7000, 1, 2, 8, .ro, .ro, .ro, 0, false, false⟩,
   ⟨0x7000, 1, 3, 3, .ro, .ro, .none, 0, false, false⟩,
   ⟨0x7000, 1, 4, 3, .rs, .rs, .none, 0, false, false⟩,
   ⟨0x7000, 1, 5, 1, .ro, .ro, .none, 0, false, false⟩,
   ⟨0x7000, 1, 6, 1, .ro, .ro, .none, 0, false, false⟩,
   ⟨0x7000, 1, 7, 1, .rs, .rs, .none, 0, false, false⟩,
   ⟨0x7000, 1, 8, 3, .ro, .ro, .none, 0, false, false⟩,
   ⟨0x7010, 1, 0, 1, .ro, .ro, .none, 7, false, false⟩,
   ⟨0x7010, 1, 1, 8, .wo, .wo, .none, 0, false, false⟩,
   ⟨0x7010, 1, 2, 6, .rs, .rs, .none, 0, false, false⟩,
   ⟨0x7010, 1, 3, 1, .rw, .rw, .none, 0, true, false⟩,
   ⟨0x7010, 1, 4, 6, .wo, .wo, .none, 0, true, false⟩,
   ⟨0x7010, 1, 5, 6, .wo, .none, .none, 0, true, false⟩,
   ⟨0x7010, 1, 6, 6, .wo, .none, .none, 0, true, false⟩]

/-- Rows of the dictionary tables of 17_firmware.md. -/
def catalogueFirmware1 : List Entry :=
  [⟨0x7010, 1, 7, 3, .rs, .rs, .none, 0, false, false⟩,
   ⟨0x7020, 1, 0, 1, .ro, .ro, .none, 5, false, false⟩,
   ⟨0x7020, 1, 1, 8, .rs, .rs, .none, 0, false, false⟩,
   ⟨0x7020, 1, 2, 3, .rs, .rs, .none, 0, false, false⟩,
   ⟨0x7020, 1, 3, 4, .rs, .rs, .none, 0, false, false⟩,
   ⟨0x7020, 1, 4, 1, .rw, .rw, .none, 1, false, false⟩,
   ⟨0x7020, 1, 5, 8, .rw, .rw, .none, 0, false, false⟩]

/-- Rows of the dictionary tables of 18_energy.md. -/
def catalogueEnergy0 : List Entry :=
  [⟨0x3000, 1, 0, 1, .ro, .ro, .ro, 14, false, false⟩,
   ⟨0x3000, 1, 1, 3, .rw, .rw, .none, 1500, true, false⟩,
   ⟨0x3000, 1, 2, 3, .ro, .ro, .none, 0, false, false⟩,
   ⟨0x3000, 1, 3, 3, .ro, .ro, .ro, 0, false, false⟩,
   ⟨0x3000, 1, 4, 3, .rw, .rw, .none, 65536, true, false⟩,
   ⟨0x3000, 1, 5, 2, .rw, .rw, .none, 16, true, false⟩,
   ⟨0x3000, 1, 6, 4, .rw, .rw, .none, 1000000, true, false⟩,
   ⟨0x3000, 1, 7, 2, .rs, .rs, .none, 256, false, false⟩,
   ⟨0x3000, 1, 8, 5, .rs, .rs, .none, 0, false, false⟩,
   ⟨0x3000, 1, 9, 4, .rs, .rs, .none, 0, false, false⟩,
   ⟨0x3000, 1, 10, 1, .rs, .rs, .none, 2, false, false⟩,
   ⟨0x3000, 1, 11, 1, .wo, .wo, .none, 0, true, false⟩,
   ⟨0x3000, 1, 12, 5, .rs, .rs, .none, 0, false, false⟩,
   ⟨0x3000, 1, 13, 6, .rs, .rs, .none, 0, false, false⟩,
   ⟨0x3000, 1, 14, 2, .rw, .rw, .none, 192, true, false⟩,
   ⟨0x3010, 1, 0, 1, .ro, .ro, .ro, 9, false, false⟩]

/-- Rows of the dictionary tables of 18_energy.md. -/
def catalogueEnergy1 : List Entry :=
  [⟨0x3010, 1, 1, 3, .ro, .ro, .ro, 3277, false, false⟩,
   ⟨0x3010, 1, 2, 3, .ro, .ro, .ro, 3900, false, false⟩,
   ⟨0x3010, 1, 3, 3, .ro, .ro, .ro, 4200, false, false⟩,
   ⟨0x3010, 1, 4, 3, .ro, .ro, .ro, 80, false, false⟩,
   ⟨0x3010, 1, 5, 3, .ro, .ro, .ro, 60, false, false⟩,
   ⟨0x3010, 1, 6, 3, .ro, .ro, .ro, 40, false, false⟩,
   ⟨0x3010, 1, 7, 3, .ro, .ro, .ro, 1024, false, false⟩,
   ⟨0x3010, 1, 8, 3, .ro, .ro, .ro, 10240, false, false⟩,
   ⟨0x3010, 1, 9, 3, .ro, .ro, .ro, 150, false, false⟩,
   ⟨0x3100, 64, 0, 1, .ro, .ro, .ro, 5, false, true⟩,
   ⟨0x3100, 64, 1, 2, .rw, .rw, .ro, 0, true, true⟩,
   ⟨0x3100, 64, 2, 5, .rs, .rs, .none, 0, false, true⟩,
   ⟨0x3100, 64, 3, 1, .rs, .rs, .rs, 0, false, true⟩,
   ⟨0x3100, 64, 4, 6, .wo, .wo, .wo, 0, false, true⟩,
   ⟨0x3100, 64, 5, 4, .rs, .rs, .none, 0, false, true⟩]

/-- Rows of the dictionary tables of 19_safety_partition.md. -/
def catalogueSafetyPartition0 : List Entry :=
  [⟨0x8000, 1, 0, 1, .ro, .ro, .ro, 10, false, false⟩,
   ⟨0x8000, 1, 1, 5, .rw, .ro, .none, 110000, true, false⟩,
   ⟨0x8000, 1, 2, 3, .rw, .ro, .none, 1500, true, false⟩,
   ⟨0x8000, 1, 3, 6, .rw, .ro, .ro, 0, true, false⟩,
   ⟨0x8000, 1, 4, 1, .rs, .rs, .none, 0, false, false⟩,
   ⟨0x8000, 1, 5, 1, .rs, .rs, .none, 0, false, false⟩,
   ⟨0x8000, 1, 6, 9, .rs, .rs, .none, 0, false, false⟩,
   ⟨0x8000, 1, 7, 4, .rs, .rs, .none, 0, false, false⟩,
   ⟨0x8000, 1, 8, 1, .wo, .none, .none, 0, true, false⟩,
   ⟨0x8000, 1, 9, 8, .wo, .none, .none, 0, true, false⟩,
   ⟨0x8000, 1, 10, 1, .rs, .rs, .none, 0, false, false⟩,
   ⟨0x8010, 4, 0, 1, .ro, .ro, .none, 2, false, false⟩,
   ⟨0x8010, 4, 1, 1, .rs, .rs, .none, 0, false, false⟩,
   ⟨0x8010, 4, 2, 8, .ro, .ro, .none, 0, false, false⟩,
   ⟨0x8020, 16, 0, 1, .ro, .ro, .none, 3, false, false⟩,
   ⟨0x8020, 16, 1, 2, .rw, .ro, .none, 0, true, false⟩]

/-- Rows of the dictionary tables of 19_safety_partition.md. -/
def catalogueSafetyPartition1 : List Entry :=
  [⟨0x8020, 16, 2, 2, .rw, .ro, .none, 0, true, false⟩,
   ⟨0x8020, 16, 3, 2, .rs, .rs, .none, 0, false, false⟩,
   ⟨0x8100, 64, 0, 1, .ro, .ro, .ro, 1, false, true⟩,
   ⟨0x8100, 64, 1, 8, .rs, .rs, .rs, 0, false, true⟩]

/-- Every entry of the dictionary (R660). -/
def catalogue : List Entry :=
  catalogueTimeBase0 ++ catalogueTimeBase1 ++ catalogueNumerics0 ++ catalogueSpecialFunctions0 ++ 
    catalogueEmoryAndTensors0 ++ catalogueEmoryAndTensors1 ++ catalogueComputeCore0 ++ 
    catalogueQuillRouting0 ++ catalogueQuillMovement0 ++ catalogueGroupedWork0 ++ catalogueCollectives0 ++ 
    catalogueLinksTopology0 ++ catalogueLinksTopology1 ++ catalogue2ContextsRuling0 ++ 
    catalogue2ContextsRuling1 ++ catalogueServing0 ++ catalogueServing1 ++ catalogueScaleOut0 ++ 
    catalogueDictionary0 ++ catalogueDictionary1 ++ catalogueOnfigurationSets0 ++ 
    catalogueOnfigurationSets1 ++ catalogueFirmware0 ++ catalogueFirmware1 ++ catalogueEnergy0 ++ 
    catalogueEnergy1 ++ catalogueSafetyPartition0 ++ catalogueSafetyPartition1

/-- The key of an entry: index × 256 + sub (R675). -/
def ekey (idx sub : Nat) : Nat := idx * 256 + sub

/-- The catalogue row of a key, if a chapter defines it (R660). -/
def entryOf (key : Nat) : Option Entry :=
  catalogue.find? fun e =>
    decide (e.base ≤ key / 256) && decide (key / 256 < e.base + e.records) && e.sub == key % 256

/-- VMIN_MV and VMAX_MV of each rail by default (R828). -/
def railLimits : List (Nat × Nat) :=
  [(700, 800), (700, 800), (700, 800), (700, 800), (700, 800), (750, 850), (1000, 1100), (665, 735), (1710, 1890),
   (800, 900), (1140, 1260), (800, 900), (855, 945), (700, 800), (1665, 1935), (3050, 3550)]

/-- The default of a numeric entry by key (R631, R777, R828, R547). -/
def defaultNum (key : Nat) : Nat :=
  if 0x8020 ≤ key / 256 ∧ key / 256 < 0x8030 then
    let r := railLimits.getD (key / 256 - 0x8020) (0, 0)
    if key % 256 = 0 then 3 else if key % 256 = 1 then r.1 else if key % 256 = 2 then r.2 else 0
  else if key = 0x410004 then 1
  else match entryOf key with
    | some e => e.dflt
    | none => 0

/-- The default of a BLOB entry by key. -/
def defaultBlob (key : Nat) : Bytes :=
  if key = 0x104002 then List.replicate 16 0
  else if key = 0x702005 then List.replicate 128 0
  else if 0x4200 ≤ key / 256 ∧ key / 256 < 0x422F then List.replicate 64 0x40
  else []

/-- Bytes of a value of a type (R629); BLOB and STR vary. -/
def typeLen : Nat → Option Nat
  | 1 => some 1
  | 2 => some 2
  | 3 => some 4
  | 4 => some 8
  | 5 => some 4
  | 6 => some 1
  | 9 => some 8
  | _ => none

/-- v is a power of two from lo to hi. -/
def powerOfTwoIn (v lo hi : Nat) : Bool := decide (lo ≤ v) && decide (v ≤ hi) && 2 ^ Nat.log2 v == v

/-- A number lies in the range its chapter states (R635): enumerations, bounds, alignments. -/
def numInRange (key v : Nat) : Bool :=
  let base := key / 256
  let sub := key % 256
  if key = 0xB00003 then v == 1 || v == 2
  else if 0x9200 ≤ base ∧ base < 0x9240 ∧ sub = 1 then v == 0 || (decide (32 ≤ v ∧ v ≤ 2048) && v % 16 == 0)
  else if 0x4100 ≤ base ∧ base < 0x4140 then
    if sub = 2 then decide (1 ≤ v ∧ v ≤ 4) else if sub = 3 then decide (v ≤ 1)
    else if sub = 5 then decide (1024 ≤ v) else true
  else if 0x4300 ≤ base ∧ base < 0x4340 then
    if sub = 1 then decide (v ≤ 1) else if sub = 3 then v % 64 == 0 else true
  else if 0xD100 ≤ base ∧ base < 0xD140 then
    if sub = 5 then v % 64 == 0 else if sub = 6 then powerOfTwoIn v 16 4096
    else if sub = 12 then decide (8 ≤ v ∧ v ≤ 65535) else true
  else if key = 0x200006 then decide (1 ≤ v ∧ v ≤ 5)
  else if key = 0x200008 then decide (v ≤ 1)
  else if key = 0x902001 then decide (v ≤ 2)
  else if key = 0x902002 then decide (65536 ≤ v ∧ v ≤ 16777216)
  else if key = 0x702004 then decide (v ≤ 4)
  else if key = 0x30000B then v == 0 || v == 3
  else if key = 0x900008 then decide (v ≤ 3) || v == 255
  else if key = 0x701003 then decide (v ≤ 1)
  else true

/-- A BLOB has the length its chapter states (R635). -/
def blobInRange (key len : Nat) : Bool :=
  let base := key / 256
  let sub := key % 256
  if key = 0x104002 then len == 16
  else if key = 0x702005 then len == 128
  else if 0x4200 ≤ base ∧ base < 0x422F then len == 64
  else if 0x6000 ≤ base ∧ base < 0x7000 then (if sub = 2 then len == 32 else len % 2 == 0 && decide (len ≤ 131072))
  else if key = 0x201001 then len % 2 == 0
  else if key = 0x800009 then len == 33
  else if key = 0x701001 then decide (260 ≤ len ∧ len ≤ 1028) && len % 256 == 4
  else decide (len ≤ 1048576)

end Sys2Proof.Machine
end

