-- ==== Sys2Proof/Machine/Sha.lean ====
section
/-! DEFINITION. SHA-256, SHA-384 and HMAC-SHA-256 as FIPS 180-4 and RFC 2104 define them, which the spec names
without restating (R100, R308, R405, R415, R609, R646, R703), and the CRCs of R447 and R699. PRESUMED: taken from
those standards (log entry 15). -/

namespace Sys2Proof.Machine.Sha

/-- The words of a number, the highest first. -/
def wordsOf (w n x : Nat) : List Nat := tabulate (fun i => x / 2 ^ (w * (n - 1 - i)) % 2 ^ w) n

/-- The round constants of SHA-384: the first 64 fraction bits of the cube roots of the first 80 primes, five to a number. -/
def roots : List Nat :=
  [0x428a2f98d728ae227137449123ef65cdb5c0fbcfec4d3b2fe9b5dba58189dbbc3956c25bf348b538,
   0x59f111f1b605d019923f82a4af194f9bab1c5ed5da6d8118d807aa98a303024212835b0145706fbe,
   0x243185be4ee4b28c550c7dc3d5ffb4e272be5d74f27b896f80deb1fe3b1696b19bdc06a725c71235,
   0xc19bf174cf692694e49b69c19ef14ad2efbe4786384f25e30fc19dc68b8cd5b5240ca1cc77ac9c65,
   0x2de92c6f592b02754a7484aa6ea6e4835cb0a9dcbd41fbd476f988da831153b5983e5152ee66dfab,
   0xa831c66d2db43210b00327c898fb213fbf597fc7beef0ee4c6e00bf33da88fc2d5a79147930aa725,
   0x06ca6351e003826f142929670a0e6e7027b70a8546d22ffc2e1b21385c26c9264d2c6dfc5ac42aed,
   0x53380d139d95b3df650a73548baf63de766a0abb3c77b2a881c2c92e47edaee692722c851482353b,
   0xa2bfe8a14cf10364a81a664bbc423001c24b8b70d0f89791c76c51a30654be30d192e819d6ef5218,
   0xd69906245565a910f40e35855771202a106aa07032bbd1b819a4c116b8d2d0c81e376c085141ab53,
   0x2748774cdf8eeb9934b0bcb5e19b48a8391c0cb3c5c95a634ed8aa4ae3418acb5b9cca4f7763e373,
   0x682e6ff3d6b2b8a3748f82ee5defb2fc78a5636f43172f6084c87814a1f0ab728cc702081a6439ec,
   0x90befffa23631e28a4506cebde82bde9bef9a3f7b2c67915c67178f2e372532bca273eceea26619c,
   0xd186b8c721c0c207eada7dd6cde0eb1ef57d4f7fee6ed17806f067aa72176fba0a637dc5a2c898a6,
   0x113f9804bef90dae1b710b35131c471b28db77f523047d8432caab7b40c724933c9ebe0a15c9bebc,
   0x431d67c49c100d4c4cc5d4becb3e42b6597f299cfc657e2a5fcb6fab3ad6faec6c44198c4a475817]

/-- The round constants of SHA-384. -/
def k512 : List Nat := roots.flatMap (wordsOf 64 5)

/-- The round constants of SHA-256: the first 32 fraction bits of the first 64 of the same roots. -/
def k256 : List Nat := (k512.take 64).map (· / 2 ^ 32)

/-- The initial hash value of SHA-384: 64 fraction bits of the square roots of the ninth to the sixteenth prime. -/
def h384 : List Nat :=
  wordsOf 64 8 (2 ^ 256 * 0xcbbb9d5dc1059ed8629a292a367cd5079159015a3070dd17152fecd8f70e5939 +
    0x67332667ffc00b318eb44a8768581511db0c2e0d64f98fa747b5481dbefa4fa4)

/-- The initial hash value of SHA-256: 32 fraction bits of the square roots of the first eight primes. -/
def h256 : List Nat := wordsOf 32 8 0x6a09e667bb67ae853c6ef372a54ff53a510e527f9b05688c1f83d9ab5be0cd19

/-- Rotation to the right in a word of w bits. -/
def rotr (w x n : Nat) : Nat := (x >>> n) ||| ((x <<< (w - n)) % 2 ^ w)

/-- The big-endian number of a byte string. -/
def beNat (b : Bytes) : Nat := b.foldl (fun a x => 256 * a + x.toNat) 0

/-- `n` big-endian bytes of a number. -/
def toBe (n v : Nat) : Bytes := (toLe n v).reverse

/-- Cuts a byte string into `n` blocks of `k` bytes. -/
def blocks (k : Nat) : Nat → Bytes → List Bytes
  | 0, _ => []
  | n + 1, b => b.take k :: blocks k n (b.drop k)

/-- Padding: 0x80, zeros, and the length in bits in the block's last bytes. -/
def pad (block lenBytes : Nat) (b : Bytes) : Bytes :=
  let l := b.length
  let z := (block - (l + 1 + lenBytes) % block) % block
  b ++ [0x80] ++ List.replicate z 0 ++ toBe lenBytes (8 * l)

/-- Rotation amounts of one of the two hash families. -/
structure Params where
  w : Nat
  bs0 : Nat × Nat × Nat
  bs1 : Nat × Nat × Nat
  ss0 : Nat × Nat × Nat
  ss1 : Nat × Nat × Nat

/-- SHA-256's parameters. -/
def p256 : Params := ⟨32, (2, 13, 22), (6, 11, 25), (7, 18, 3), (17, 19, 10)⟩
/-- SHA-384's parameters. -/
def p512 : Params := ⟨64, (28, 34, 39), (14, 18, 41), (1, 8, 7), (19, 61, 6)⟩

/-- The upper-case sigma functions. -/
def bigSigma (w : Nat) (r : Nat × Nat × Nat) (x : Nat) : Nat := rotr w x r.1 ^^^ rotr w x r.2.1 ^^^ rotr w x r.2.2
/-- The lower-case sigma functions. -/
def smallSigma (w : Nat) (r : Nat × Nat × Nat) (x : Nat) : Nat := rotr w x r.1 ^^^ rotr w x r.2.1 ^^^ (x >>> r.2.2)

/-- One round on the eight working words, with the window of sixteen schedule words. -/
def round (p : Params) (st : List Nat × List Nat) (k : Nat) : List Nat × List Nat :=
  match st with
  | ([a, b, c, d, e, f, g, h], w0 :: ws) =>
    let m := 2 ^ p.w
    let ch := (e &&& f) ^^^ ((m - 1 - e) &&& g)
    let maj := (a &&& b) ^^^ (a &&& c) ^^^ (b &&& c)
    let t1 := (h + bigSigma p.w p.bs1 e + ch + k + w0) % m
    let t2 := (bigSigma p.w p.bs0 a + maj) % m
    let next := (smallSigma p.w p.ss1 (ws.getD 13 0) + ws.getD 8 0 + smallSigma p.w p.ss0 (ws.getD 0 0) + w0) % m
    ([(t1 + t2) % m, a, b, c, (d + t1) % m, e, f, g], ws ++ [next])
  | st => st

/-- One block. -/
def compress (p : Params) (ks : List Nat) (h : List Nat) (block : Bytes) : List Nat :=
  let ws := (blocks (p.w / 8) 16 block).map beNat
  let r := ks.foldl (round p) (h, ws)
  List.zipWith (fun x y => (x + y) % 2 ^ p.w) h r.1

/-- The hash of a padded message. -/
def digest (p : Params) (ks h : List Nat) (b : Bytes) : List Nat :=
  let m := pad (2 * p.w) (p.w / 4) b
  (blocks (2 * p.w) (m.length / (2 * p.w)) m).foldl (compress p ks) h

/-- SHA-256, 32 bytes. -/
def sha256 (b : Bytes) : Bytes := (digest p256 k256 h256 b).flatMap (toBe 4)

/-- SHA-384, 48 bytes. -/
def sha384 (b : Bytes) : Bytes := ((digest p512 k512 h384 b).take 6).flatMap (toBe 8)

/-- HMAC-SHA-256 (R646). -/
def hmac256 (key msg : Bytes) : Bytes :=
  let k := if 64 < key.length then sha256 key else key
  let k := k ++ List.replicate (64 - k.length) 0
  sha256 (k.map (· ^^^ 0x5c) ++ sha256 (k.map (· ^^^ 0x36) ++ msg))

/-- `f` applied `n` times. -/
def times (f : Nat → Nat) : Nat → Nat → Nat
  | 0, x => x
  | n + 1, x => times f n (f x)

/-- One bit step of a CRC with the high bit first. -/
def crcStep16 (c : Nat) : Nat := if 32768 ≤ c then ((2 * c) % 65536) ^^^ 0x1021 else 2 * c

/-- CRC-16 of R447: polynomial x^16 + x^12 + x^5 + 1, initial value 0xFFFF. -/
def crc16 (b : Bytes) : BitVec 16 :=
  BitVec.ofNat 16 (b.foldl (fun c x => times crcStep16 8 (c ^^^ (256 * x.toNat))) 0xFFFF)

/-- One bit step of the reflected IEEE 802.3 CRC. -/
def crcStep32 (c : Nat) : Nat := if c % 2 = 1 then (c / 2) ^^^ 0xEDB88320 else c / 2

/-- CRC-32 with the IEEE 802.3 polynomial (R699). -/
def crc32 (b : Bytes) : BitVec 32 :=
  BitVec.ofNat 32 (b.foldl (fun c x => times crcStep32 8 (c ^^^ x.toNat)) 0xFFFFFFFF ^^^ 0xFFFFFFFF)

end Sys2Proof.Machine.Sha
end

