-- ==== Sys2Proof/Machine/State.lean ====
section
/-! DEFINITION. Everything the spec gives the Zalquin to hold, as plain data, and the state right after reset.
Sparse tables (`SMap`) list only what differs from their default. Docstrings name the rule of spec/ that names the
field; the reset value is the structure's default value. -/

namespace Sys2Proof.Machine

/-- Why the machine stops with a fault. No meaning raises one: every exception of the spec (CTX_FAULT, a trip, a
refused request) is an effect on State. -/
inductive Fault where
  /-- Raised by no meaning; kept so that the type is not empty. Safe. -/
  | unreachable
  deriving DecidableEq, Repr

/-- Why a command has no meaning. -/
inductive Refusal where
  /-- Raised by a refused arm of exec for a command not modelled yet. Safe. -/
  | notModelled (mnemonic : String)
  deriving DecidableEq, Repr

/-! ## Numbers -/

/-- An element of an exact accumulator: N, the carry word, the tag and the infinity bits (R78, R80, R85). -/
structure XaElem where
  n : BitVec 192 := 0
  carry : BitVec 32 := 0
  /-- 0 finite, 1 +∞, 2 −∞, 3 NaN (R85). -/
  tag : BitVec 2 := 0
  posInf : Bool := false
  negInf : Bool := false
  deriving DecidableEq, Repr

/-- The XA tile of an array: 32 × 32 elements at one anchor (R205, R206, R883). -/
structure Tile where
  live : Bool := false
  /-- The anchor of the tile (R883): the native anchor of R71 until an instruction sets another (log entry 22). -/
  anchor : Int := -64
  elems : SMap XaElem := []
  deriving DecidableEq, Repr

/-! ## Descriptors -/

/-- A tensor descriptor (R176), its fields decoded; extents and strides list dimensions 0 to 5. -/
structure Desc where
  tensorId : BitVec 32 := 0
  format : Nat := 0
  rank : Nat := 0
  space : Nat := 0
  saturate : Bool := false
  distributed : Bool := false
  fill : BitVec 32 := 0
  anchor : Int := 0
  distIndex : Nat := 0
  base : Nat := 0
  extents : List Nat := []
  /-- STRIDE1 to STRIDE5 in units of 64 bytes. -/
  strides : List Nat := []
  /-- The reserved flag bits and bytes 60 to 63 (R181, reason 11). -/
  reserved : Nat := 0
  deriving DecidableEq, Repr

/-- A distribution record (R192, R893). -/
structure DistRec where
  ownerTable : Bool := false
  rank : Nat := 0
  globalExtents : List Nat := []
  shardings : List Nat := []
  axes : List Nat := []
  blocks : List Nat := []
  tableOffset : Nat := 0
  deriving DecidableEq, Repr

/-! ## Effects in flight -/

/-- What a movement record counts when a write of the Quill has been made. -/
inductive MoveEvent where
  /-- A row has landed in an expert queue; `own` says that this device sent it (R327, R329). -/
  | arrival (queue row : Nat) (tag : BitVec 64) (own : Bool)
  /-- A row has landed in RET_DESC for a token (R332, R333). -/
  | landing (token : Nat) (own : Bool)
  /-- The combined row of a token has been written (R338). -/
  | combined (token : Nat)
  deriving DecidableEq, Repr

/-- What an issued operation does when it finishes. -/
inductive Effect where
  /-- Bytes into HBM (device address), the SRAM map, the reservoir or the staging memory. -/
  | mem (space : ScrubMem) (addr : Nat) (bytes : Bytes)
  /-- An atomic addition of a lane into an XA element of a width at an anchor, or into a binary32 element. -/
  | atomXa (space : ScrubMem) (addr width : Nat) (anchor : Int) (value : F32)
  | atomF32 (space : ScrubMem) (addr : Nat) (value : F32)
  | vreg (v : VReg) (lanes : List F32)
  | lane (v : VReg) (lane : Nat) (value : F32)
  | tile (a : ArrayId) (t : Tile)
  | flags (mask : BitVec 16)
  | oob (n : Nat) (write : Bool)
  | sem (number : BitVec 16) (n : Nat)
  /-- The data of a BAR2 read goes to the host (R785). -/
  | bar2 (f : CtxId) (addr n : Nat)
  /-- A count of the movement record of a key. -/
  | moved (key : Nat) (e : MoveEvent)
  /-- The pending biases of a layer stand in their row (R285, R287). -/
  | balRow (layer update : Nat)
  /-- An element run of a collective step has been written to DST_DESC (R416). -/
  | collWritten (g generation number : Nat)
  /-- A cause of an MSI-X vector of the context's function (R384). -/
  | irq (vector : Nat)
  /-- The copy of a SNAPSHOT for the context's mailbox is in its HBM share (R644, R655). -/
  | copied
  deriving DecidableEq, Repr

/-- An operation a unit has issued and not finished (R208, R889). -/
structure InFlight where
  stream : Nat := 0
  ctx : CtxId := 0
  uid : Nat := 0
  /-- Core cycles the operation occupies its unit (R210, R116, R137, R224, R229). -/
  cycles : Nat := 0
  effects : List Effect := []
  /-- Lines that wait for a tracker (R253), and trackers held for lines that are no HBM lines (R252). -/
  linesLeft : Nat := 0
  held : Nat := 0
  /-- HBM transfers the operation waits for, when it moves HBM lines. -/
  xfers : List Nat := []
  /-- Metered energy of the operation in pJ (R743, R744). -/
  picojoule : Nat := 0
  deriving DecidableEq, Repr

/-- An HBM transfer: the lines still to issue, the lines in flight with their data slot's tick, and what it does
when its last line retires (R168 to R170). -/
structure Xfer where
  id : Nat := 0
  ctx : CtxId := 0
  write : Bool := false
  /-- The core whose trackers the lines hold; none for hub engines (R252). -/
  core : Option CoreId := none
  /-- The tick of its submission: it starts in a later data slot (R168). -/
  submitted : Word := 0
  /-- It moves data of the Quill, of a collective step or of another engine of the hub, not of a BAR2 window (R149). -/
  hub : Bool := false
  /-- The command a transfer of the hub works for; none for what lands from outside and for the serving engine. -/
  uid : Option Nat := none
  lines : List Nat := []
  /-- Lines that still wait for a tracker and so may not issue (R252, R253). -/
  waiting : Nat := 0
  flying : List (Nat × Word) := []
  /-- Lines whose data waits in the landing buffer for the context's next slot (R512). -/
  landed : List Nat := []
  /-- A line of the read met an uncorrectable error (R175, R814). -/
  poisoned : Bool := false
  /-- The transfer has issued its first line (R168). -/
  started : Bool := false
  effects : List Effect := []
  deriving DecidableEq, Repr

/-! ## The compute core -/

/-- One level of the loop stack (R205, R888). -/
structure LoopLevel where
  reg : SReg := 0
  count : Nat := 0
  iter : Nat := 0
  start : Nat := 0
  last : Nat := 0
  deriving DecidableEq, Repr

/-- What a stream is doing. -/
inductive StreamStatus where
  /-- No program on this core. -/
  | idle
  | running
  /-- A WAITSEM waits (R233). -/
  | waitSem (sem : BitVec 16) (n : BitVec 16)
  /-- A WAITTICK waits (R52). -/
  | waitTick (t : Word)
  /-- The instruction is held until a unit is free (R208). -/
  | held (i : Instr)
  /-- An issued instruction waits for a tracker (R253). -/
  | waitTracker (unit : Nat)
  /-- A GCLAIM waits (R361, R373). -/
  | waitClaim (header : Nat) (sd : SReg)
  /-- A ROUTE waits for the bias row (R287). -/
  | ended
  deriving DecidableEq, Repr

/-- The state of R205 of one stream: a context's stream or its urgent stream on one core. -/
structure Stream where
  sregs : SMap Word := []
  /-- Lane ℓ of Vn at key 256 n + ℓ. -/
  vregs : SMap F32 := []
  /-- Vector registers written since LAUNCH (R526). -/
  liveV : List Nat := []
  tiles : SMap Tile := []
  pc : Nat := 0
  loops : List LoopLevel := []
  status : StreamStatus := .idle
  uid : Nat := 0
  launchTick : Word := 0
  agreed : Bool := false
  /-- First waiting tick, and the context's suspended ticks before it (R533). -/
  waitSince : Word := 0
  waitSusp : Nat := 0
  /-- The state stands in the save area (R524). -/
  saved : Bool := false
  /-- Operations of arrays and of the SFU that paused with the stream, by unit (R525). -/
  paused : List (Nat × InFlight) := []
  deriving DecidableEq, Repr

/-- A save or restore in progress on a core (R526 to R528). -/
structure Switch where
  save : Bool := true
  stream : Nat := 0
  forStream : Option Nat := none
  cycles : Nat := 0
  deriving DecidableEq, Repr

/-- One core: the stream its slot belongs to, its state banks, its units and its trackers in use
(R15, R205, R252, R522). Stream key 2 c is context c's stream and 2 c + 1 its urgent stream. -/
structure Core where
  cur : Option Nat := none
  streams : SMap Stream := []
  /-- The operation of context c in unit u, at key 16 c + u: units 0 to 7 the arrays, 8 the vector unit, 9 the SFU, 10 the
  tensor engine (R889). Each context has its own, since a unit works for a context in its slots alone (R511, R512,
  R522). -/
  units : SMap (Option InFlight) := []
  /-- Trackers in use: those bound to slot s of the wheel that context c's transactions hold, at key 64 s + c (R252). -/
  trackers : SMap Nat := []
  /-- Saves and restores in progress (R527, R528, R554). -/
  switches : List Switch := []
  /-- Its clock is gated, from RETENTION to the wheel-turn boundary at which it issues again (R748, R749). -/
  asleep : Bool := false
  /-- DMA instructions whose transfers have not retired, oldest first (R258). -/
  dmas : List InFlight := []
  deriving DecidableEq, Repr

/-! ## Commands -/

/-- How far a command has come. -/
inductive CmdPhase where
  | accepted
  | deferred
  | started
  | armed
  | running
  | finished
  deriving DecidableEq, Repr

/-- A command taken from a ring and not yet terminal (R211 to R217, R239). -/
structure Cmd where
  uid : Nat := 0
  ring : RingId := 0
  type : Nat := 0
  agreed : Bool := false
  urgent : Bool := false
  sem : BitVec 16 := 0
  cmdId : BitVec 32 := 0
  launchTick : Word := 0
  mask : BitVec 32 := 0
  entry : Nat := 0
  tag : Nat := 0
  args : List (BitVec 32) := []
  acceptTick : Word := 0
  /-- Its place in the order in which the context's launches were armed (R51). -/
  armOrder : Nat := 0
  phase : CmdPhase := .accepted
  /-- The command an ABORT targets: the earliest at its acceptance (R243). -/
  target : Option Nat := none
  result : BitVec 32 := 0
  /-- Conditions that decide the status under R239. -/
  aborted : Bool := false
  collAbort : Bool := false
  refused : Bool := false
  late : Bool := false
  abortLate : Bool := false
  oobWrite : Bool := false
  diverged : Bool := false
  debited : Bool := false
  picojoule : Nat := 0
  /-- Sum of the output hashes of a mirrored command (R609). -/
  digest : BitVec 256 := 0
  /-- Where the step record of its serving step lies in the HBM share, which takes the digest (R611). -/
  step : Option Nat := none
  deriving DecidableEq, Repr

/-- The registers of a command ring and its completion ring (R789). -/
structure Ring where
  base : BitVec 64 := 0
  enable : Bool := false
  log2 : BitVec 4 := 4
  tail : BitVec 32 := 0
  head : BitVec 32 := 0
  fulls : BitVec 32 := 0
  cqBase : BitVec 64 := 0
  cqHead : BitVec 32 := 0
  cqTail : BitVec 32 := 0
  /-- The tick of the latest take and the takes in it (R795). -/
  takeTick : Word := 0
  takes : Nat := 0
  deriving DecidableEq, Repr

/-- A mailbox block (R651 to R656). -/
structure Mailbox where
  busy : Bool := false
  done : Bool := false
  /-- MBX_REQUEST and MBX_REPLY, byte offset in the area. -/
  request : Memory := []
  reply : Memory := []
  /-- The request taken at tick r (R652). -/
  taken : Bytes := []
  ringTick : Word := 0
  /-- The served reply, and the first tick at which it may be shown (R655). -/
  ready : Option (Bytes × Word) := none
  /-- The copy of a SNAPSHOT is under way, and the tick at which the last line of the latest copy retired (R655). -/
  copying : Bool := false
  copied : Option Word := none
  deriving DecidableEq, Repr

/-! ## The Quill -/

/-- One assignment of a token: slot, global expert index, gate weight (R265), and its placement (R314, R318). -/
structure Assign where
  token : Nat := 0
  slot : Nat := 0
  expert : Nat := 0
  gate : F32 := 0
  /-- The queue row, none while unplaced or when dropped. -/
  row : Option Nat := none
  overflow : Bool := false
  /-- The global index of the expert of the queue, after a SPILL its candidate (R318, R321). -/
  placed : Nat := 0
  deriving DecidableEq, Repr

/-- A balancing state (R281). -/
structure BalState where
  steps : Nat := 0
  loads : SMap Nat := []
  epoch : Nat := 0
  pendingAct : Option Word := none
  /-- The pending row is written (R287), and what it holds until then (R285). -/
  rowWritten : Bool := true
  rowValues : List F32 := []
  /-- Updates computed so far (R284). -/
  updates : Nat := 0
  /-- The row of BIAS_DESC that the pending biases go to, and the core in whose SRAM it may lie. -/
  row : Nat := 0
  core : CoreId := 0
  biasDesc : BitVec 16 := 0xFFFF
  eCount : Nat := 0
  deriving DecidableEq, Repr

/-- A routing operation in the Quill (R267, R287). -/
structure RouteOp where
  image : Bytes := []
  row : Nat := 0
  core : CoreId := 0
  uid : Nat := 0
  sem : BitVec 16 := 0xFFFF
  /-- Waits for the pending bias row of its layer (R287). -/
  held : Bool := false
  layer : Nat := 0
  launchTick : Word := 0
  deriving DecidableEq, Repr

/-- The progress of a COUNT (R307 to R320). -/
inductive CountPhase where
  | none
  | exchanging
  | placing
  | complete
  | failed
  deriving DecidableEq, Repr

/-- What the Quill keeps for one movement record, which a core and an offset in its SRAM share name (R298, R344). The
operation fields `uid`, `sem` and `phase` are those of the latest COUNT. -/
structure MoveState where
  /-- The key of the record: 32 times the offset, plus the core. -/
  record : Nat := 0
  core : CoreId := 0
  uid : Nat := 0
  sem : BitVec 16 := 0xFFFF
  phase : CountPhase := .none
  /-- Its place in the order in which the context's COUNTs issued. -/
  order : Nat := 0
  /-- The record and the route record as the COUNT took them, the LAUNCH_TICK of its command (R285), its group and the
  step number of its exchange (R413). -/
  image : Bytes := []
  route : Bytes := []
  launch : Word := 0
  group : Nat := 0
  step : Nat := 0
  /-- Staging bytes it holds (R344), and the candidates of its SPILL requests: token, slot, expert (R318). -/
  stage : Nat := 0
  requests : List (Nat × Nat × Nat) := []
  /-- n_e, N_e, B_e and the final row counts KEPT_e, by layer-local expert. -/
  counts : List Nat := []
  totals : List Nat := []
  bases : List Nat := []
  kept : List Nat := []
  globalTokens : Nat := 0
  capacity : Nat := 0
  assigns : List Assign := []
  /-- The adjusted scores, or the hash keys, that the step's ROUTE formed, by token (R268, R275, R318). -/
  adjusted : List (List F32) := []
  hashKeys : List (Nat × Nat) := []
  /-- A_q by queue (R316), arrivals by queue (R329), released queues (R330). -/
  expectRows : SMap Nat := []
  arrivals : SMap Nat := []
  released : List Nat := []
  /-- R_t by token (R316), landings by token (R333). -/
  expectContrib : SMap Nat := []
  landings : SMap Nat := []
  /-- Origin tags by queue × 2^24 + row (R326). -/
  tags : SMap (BitVec 64) := []
  dropped : Nat := 0
  spilled : Nat := 0
  /-- SCATTER, RETURN and COMBINE in progress, each with its command: rows for this device not yet written and rows that
  were lost (R328, R332, R338, R475). -/
  scatterOut : Option Nat := none
  scatterSem : BitVec 16 := 0xFFFF
  scatterUid : Nat := 0
  returnOut : Option Nat := none
  returnSem : BitVec 16 := 0xFFFF
  returnUid : Nat := 0
  combining : Bool := false
  combineSem : BitVec 16 := 0xFFFF
  combineUid : Nat := 0
  combineSeed : BitVec 64 := 0
  /-- Tokens whose row has been summed, and those whose row is in memory (R334, R338). -/
  summed : List Nat := []
  combined : List Nat := []
  deriving DecidableEq, Repr

/-- One thing a section of the conductor's template asks for (R385): a word into SRAM, a descriptor on ring 3, or the
fault of a record that breaks R385. -/
inductive CondOp where
  | patch (off value : Nat)
  | post (desc : Bytes)
  | broken
  deriving DecidableEq, Repr

/-- The movement operations that do all their work in one slot of the Quill. -/
inductive MoveKind where
  | scatter
  | ret
  | exit
  deriving DecidableEq, Repr

/-- A SCATTER, RETURN or EXIT that has issued and waits for a Quill slot of its context (R303). -/
structure MoveTodo where
  kind : MoveKind := .scatter
  key : Nat := 0
  uid : Nat := 0
  sem : BitVec 16 := 0xFFFF
  image : Bytes := []
  route : Bytes := []
  deriving DecidableEq, Repr

/-- The Quill state of a context (chapters 07 and 08). -/
structure CtxQuill where
  /-- The assignments of the latest ROUTE (R265), with its layer, the staging bytes it takes (R344), and the adjusted
  scores or hash keys it formed, by token (R268, R275). -/
  assigns : List Assign := []
  assignLayer : Nat := 0
  assignStage : Nat := 0
  adjusted : List (List F32) := []
  hashKeys : List (Nat × Nat) := []
  /-- ROUTEs issued and not done, oldest first (R267). -/
  routes : List RouteOp := []
  bal : SMap BalState := []
  balLastAct : Word := 0
  /-- LAUNCH_TICK and command of each layer's latest ROUTE with BALANCE, which BAL_RESET leaves (R289). -/
  balLaunch : SMap (Option (Word × Nat)) := []
  moves : SMap MoveState := []
  /-- COUNTs issued so far. -/
  counted : Nat := 0
  /-- SCATTERs, RETURNs and EXITs that wait for a Quill slot, oldest first (R303). -/
  todo : List MoveTodo := []
  dropped : BitVec 64 := 0
  spilled : BitVec 64 := 0
  exited : BitVec 64 := 0
  summarySeq : BitVec 64 := 0
  /-- What is left of the section the conductor is in (R386, R387). -/
  conductor : List CondOp := []
  deriving DecidableEq, Repr

/-! ## Grouped work -/

/-- A tile of a roster (R363, R365, R370). -/
structure RTile where
  entry : Nat := 0
  row : Nat := 0
  rows : Nat := 0
  col : Nat := 0
  cols : Nat := 0
  pos : Nat := 0
  /-- The core on whose list the tile stands; none for the common list. -/
  home : Option CoreId := none
  deriving DecidableEq, Repr

/-- A roster outside IDLE (R360 to R377). -/
structure Roster where
  ready : Bool := false
  mask : BitVec 32 := 0
  doneSem : BitVec 16 := 0xFFFF
  /-- RELEASE_SEM of each entry, and the entries whose count has been consumed. -/
  releaseSems : List (BitVec 16) := []
  releasedEntries : List Nat := []
  tiles : List RTile := []
  doneCores : List Nat := []
  doneSignalled : Bool := false
  /-- The commands whose GCLAIMs have named it (R396). -/
  users : List Nat := []
  deriving DecidableEq, Repr

/-! ## Serving -/

/-- An entry of the sequence table (R557). -/
structure SeqEntry where
  active : Bool := false
  seqId : BitVec 32 := 0
  position : BitVec 32 := 0
  kvDesc : BitVec 16 := 0
  bitmapPtr : Nat := 0
  joinStep : Nat := 0
  joinTick : Word := 0
  deriving DecidableEq, Repr

/-- A step being built or waiting to be posted (R564 to R579). -/
structure StepBuild where
  step : Nat := 0
  openTick : Word := 0
  tokens : Nat := 0
  joins : Nat := 0
  leaves : Nat := 0
  refused : Nat := 0
  /-- Hub cycles of owned Quill slots the build takes (R566). -/
  cycles : Nat := 0
  /-- The entries 0x04 to 0x11 in force when the build opened (R583). -/
  conf : List Nat := []
  /-- The descriptor to post, once the record is written (R572, R573). -/
  descriptor : Option Bytes := none
  deriving DecidableEq, Repr

/-- The serving state of a context (chapter 13). -/
structure Serving where
  reqTail : BitVec 32 := 0
  reqHead : BitVec 32 := 0
  seqs : SMap SeqEntry := []
  step : Nat := 0
  /-- On a secondary, request records its primary has consumed, applied and not yet taken by a build (R605). -/
  handed : List Bytes := []
  refused : BitVec 64 := 0
  fallbacks : BitVec 64 := 0
  misses : BitVec 64 := 0
  build : Option StepBuild := none
  /-- Where the records of the steps lie that were posted on ring 2 and not taken yet, oldest first (R611), each with the
  hub cycles of its build (R743). -/
  posted : List (Nat × Nat) := []
  /-- The latest step record's offset in the HBM share and LAUNCH_TICK, and the last tick at which a slot was withheld
  (R570). -/
  lastRecord : Option Nat := none
  lastLaunch : Word := 0
  lastWithheld : Option Word := none
  deriving DecidableEq, Repr

/-! ## Contexts -/

/-- State of a context (R498). -/
inductive CtxState where
  | free
  | creating
  | live
  | suspended
  | tearingDown
  deriving DecidableEq, Repr

/-- The life of a context (R498 to R502, R533, R537 to R543). -/
structure Life where
  state : CtxState := .free
  /-- A SUSPEND activated while CREATING (R892). -/
  suspendOnCreate : Bool := false
  /-- Creation's start tick while CREATING, and a CREATE that waits for FREE (R501). -/
  createStart : Word := 0
  createWaits : Bool := false
  jobs : BitVec 64 := 0
  createTick : Word := 0
  teardownTick : Word := 0
  /-- 0 none, 1 DESTROYED, 2 FAULTED, 3 WAIT_TIMEOUT, 4 FLR (R536). -/
  cause : Nat := 0
  stopped : Bool := false
  scrubStarted : Bool := false
  abandoned : Bool := false
  suspendedAt : Word := 0
  suspendedTicks : Nat := 0
  /-- Former shares still counted by SCRUB_PENDING (R197): memory code, base, size. -/
  former : List (Nat × Nat × Nat) := []
  /-- The HBM ruling slots that stay with the scrub of the former HBM shares (R162). -/
  scrubSlots : List Nat := []
  deriving DecidableEq, Repr

/-- The energy account of a context (chapter 18). -/
structure CtxEnergy where
  balance : Int := 0
  refill : Int := 0
  governed : Bool := false
  deferrals : BitVec 64 := 0
  deriving DecidableEq, Repr

/-- The host side of a function: rings, mailbox, interrupt status, counter latches (chapter 20). -/
structure HostFn where
  rings : SMap Ring := []
  mbx : Mailbox := {}
  intStatus : BitVec 11 := 0
  /-- Latched high halves of TICK_NOW and, on the PF, HI_HOST_LOSS_TICK, with the tick of the latch (R802). -/
  tickLatch : Option (BitVec 32 × Word) := none
  lossLatch : Option (BitVec 32 × Word) := none
  /-- Doorbells that wait for the function's earlier BAR2 writes, oldest first (R786). -/
  doorbells : List (RingId × BitVec 32) := []
  deriving DecidableEq, Repr

/-- One context with everything the spec keeps per context. -/
structure Ctx where
  life : Life := {}
  /-- Sticky numerics flags (R98). -/
  flags : BitVec 16 := 0
  oobCount : BitVec 64 := 0
  sems : SMap (BitVec 32) := []
  descs : SMap (Option Desc) := []
  dists : SMap (Option DistRec) := []
  cmds : List Cmd := []
  nextUid : Nat := 0
  /-- Launches armed so far (R51). -/
  armed : Nat := 0
  quill : CtxQuill := {}
  rosters : SMap (Option Roster) := []
  serving : Serving := {}
  energy : CtxEnergy := {}
  host : HostFn := {}
  /-- DISCARDED_UNROUTABLE (R475, R491). -/
  unroutable : BitVec 64 := 0
  /-- Reservoir bytes allocated to collective steps (R420). -/
  resAlloc : Nat := 0
  deriving DecidableEq, Repr

/-! ## Memory units, HBM, wheels -/

/-- The HBM controller (chapter 05). -/
structure Hbm where
  xfers : List Xfer := []
  nextXfer : Nat := 0
  /-- Direction and last data slot of each context's previous transfer (R168, R169). -/
  lastDir : SMap (Option (Bool × Word)) := []
  eccCorrected : BitVec 64 := 0
  eccUncorrectable : BitVec 64 := 0
  /-- Pseudo-channels already used in the current data slot (R166). -/
  slotTick : Word := 0
  slotUsed : List Nat := []
  /-- The bank target last refreshed and its tick (R171). -/
  lastRefresh : Option (Nat × Word) := none
  trained : Bool := false
  /-- The power-on scrub has ended (R866). -/
  scrubbed : Bool := false
  failedStacks : List Nat := []
  selfRefresh : Bool := false
  deriving DecidableEq, Repr

/-- A ruling change that waits for its boundary (R514). -/
structure WheelChange where
  len : Nat := 1024
  table : Bytes := []
  from_ : Word := 0
  deriving DecidableEq, Repr

/-- The ruling wheel of an engine (R505 to R508). -/
structure Wheel where
  len : Nat := 1024
  /-- One byte per slot; slots not listed are IDLE (0x40). -/
  table : Bytes := []
  changes : List WheelChange := []
  /-- The owner byte of the slot that is running, as SLOT_START set it. -/
  owner : Byte := 0x40
  deriving DecidableEq, Repr

/-! ## The tick unit -/

/-- The tick unit (chapter 02). -/
structure TickUnit where
  now : Word := 0
  /-- 0 UNLOCKED, 1 MASTER, 2 LOCKED, 3 HOLDOVER, 4 HOLDOVER_LONG, 5 SLEWING (R53). -/
  state : BitVec 3 := 0
  holdover : Bool := false
  elapsed : Word := 0
  masterAddr : BitVec 16 := 0
  upstream : Option LinkId := none
  depth : BitVec 8 := 0
  hopDelay : SMap (BitVec 32) := []
  /-- Aligned since power-on (R34, R39). -/
  aligned : Bool := false
  rootLocked : Bool := false
  freqLocked : Bool := false
  /-- Where the tick edge stands within the root cycles that the stamps of R37 count, in 1/1,024 root cycles: 0 to
  16,383 (R39). -/
  phase : Nat := 0
  /-- Phase still to slew, in 1/1,024 root cycles of 0.1 ns; 16 root cycles are 1 GT (R41, R61). -/
  residual : Nat := 0
  slewTick : Word := 0
  /-- The residual has been measured: false from the assignment of a new upstream until its delay is known (R60, R597). -/
  measured : Bool := true
  /-- Tick at which the upstream link was declared down (R54). -/
  downAt : Option Word := none
  /-- HOLDOVER was entered under R55 and the own upstream link has stayed UP since (R887). -/
  byMarker : Bool := false
  /-- Downstream tree links (R42, R43). -/
  downstream : List LinkId := []
  /-- Last multiple of 1,024 for which markers were sent (R462). -/
  markerSent : Word := 0
  deriving DecidableEq, Repr

/-! ## Links and topology -/

/-- State of a link (R477). -/
inductive LinkState where
  | down
  | equalise
  | align
  | identity
  | delay
  | up
  | quarantined
  | miswired
  | disabled
  deriving DecidableEq, Repr

/-- One link port (chapter 11). -/
structure Link where
  state : LinkState := .down
  since : Word := 0
  /-- Earliest tick at which a DOWN link trains again (R477). -/
  retryAt : Word := 0
  peerAddr : BitVec 16 := 0xFFFF
  peerLink : BitVec 8 := 0xFF
  peerSerial : Option (BitVec 128) := none
  peerRole : BitVec 8 := 0
  /-- The peer's signature, grade, stepping and firmware digest (R478, R602). -/
  peerId : Option IdBlock := none
  fecCorrected : BitVec 64 := 0
  replays : BitVec 64 := 0
  downEvents : BitVec 32 := 0
  lastDownTick : Word := 0
  idFailures : BitVec 32 := 0
  /-- Transmitter: next sequence number, replay buffer with each flit's replay count, flits to resend (R451 to R456). -/
  txSeq : BitVec 10 := 0
  replayBuf : List (Flit × Nat) := []
  resend : List Flit := []
  lastReplay : Option (BitVec 10 × Word) := none
  /-- Receiver: next expected sequence number, whether a flit has been delivered since training, REPLAY_WAIT, the NAK due
  and the tick of the last (R452, R453, R457). -/
  rxSeq : BitVec 10 := 0
  delivered : Bool := false
  replayWait : Bool := false
  nakDue : Bool := false
  nakTick : Word := 0
  /-- Ticks of the flits discarded under R453 in the last 1,048,576 flit times (R488). -/
  discardTicks : List Word := []
  /-- Flits sent and not yet returned as credits, by 4 × context + VC; freed flits waiting to be returned, same key
  (R467, R468). -/
  credits : SMap Nat := []
  /-- Where the packet that context and VC carry goes on to, same key (R463, R470). -/
  transit : SMap (Option (LinkId × BitVec 2)) := []
  owed : SMap Nat := []
  /-- Flits of contexts waiting to be sent, and control messages (R460, R461). -/
  queue : List Flit := []
  control : List Bytes := []
  deriving DecidableEq, Repr

/-- Device state in the topology map (R482). -/
inductive DevState where
  | absent
  | present
  | admitted
  | quarantined
  | departed
  deriving DecidableEq, Repr

/-- An entry of the topology map (R481). -/
structure MapEntry where
  dev : DevState := .absent
  linkMask : BitVec 12 := 0
  serialDigest : BitVec 32 := 0
  /-- What the last report claimed (R484), and when its last link left UP (R890). -/
  serial : BitVec 128 := 0
  signature : BitVec 128 := 0
  extents : BitVec 16 := 0
  express : BitVec 8 := 0xFF
  pairRole : BitVec 8 := 0
  downSince : Option Word := none
  /-- The tick at which this device's map marked it DEPARTED (R614). -/
  departedAt : Option Word := none
  conflict : Bool := false
  deriving DecidableEq, Repr

/-- What a route table takes from one device (R473). -/
structure RouteEntry where
  departed : Bool := false
  linkMask : BitVec 12 := 0
  express : BitVec 8 := 0xFF
  deriving DecidableEq, Repr

/-- Position, lead and topology (chapters 11, 14 and 22). -/
structure Topo where
  selfAddr : BitVec 16 := 0
  positioned : Bool := false
  positionFailed : Bool := false
  extents : BitVec 16 := 0
  leadAddr : BitVec 16 := 0
  /-- Identity-block ROLE: 0 UNASSIGNED, 1 LEAD, 2 STANDBY, 3 FOLLOWER (R478). -/
  role : BitVec 8 := 0
  leadEpoch : BitVec 32 := 0
  leadChangeTick : Word := 0
  lastBeat : Word := 0
  beatSent : Word := 0
  map : SMap MapEntry := []
  mapVersion : BitVec 32 := 0
  /-- Detection tick of the route change that waits for D + 65,536 (R476). -/
  routeChange : Option Word := none
  /-- The entries the route tables in force are made from, by device address (R473). -/
  routeMap : SMap (Option RouteEntry) := []
  /-- The same of the tables that wait. -/
  nextRoutes : SMap (Option RouteEntry) := []
  /-- Election: lowest SERIAL seen, tick the last torus link entered UP, election done (R869). -/
  lowestSerial : Option (BitVec 128) := none
  lastTorusUp : Option Word := none
  elected : Bool := false
  deriving DecidableEq, Repr

/-! ## Collectives -/

/-- State of a group (R436). -/
inductive GroupState where
  | free
  | active
  | aborted
  | reforming
  deriving DecidableEq, Repr

/-- Outcome of a collective step on this member. -/
inductive StepPhase where
  | waiting
  | running
  | ok
  | aborted
  deriving DecidableEq, Repr

/-- A collective step in flight (R409 to R421). -/
structure CollStep where
  number : Nat := 0
  ctx : CtxId := 0
  core : CoreId := 0
  uid : Nat := 0
  record : Nat := 0
  /-- The record's image as the step took it (R410). -/
  image : Bytes := []
  sem : BitVec 16 := 0xFFFF
  f32 : Bool := false
  /-- The stipple seed of its roundings (R91, log entry 17). -/
  seed : BitVec 64 := 0
  /-- A COUNT's exchange takes a step number too (R413). -/
  exchange : Bool := false
  /-- What an exchange contributes (R308). -/
  part : Option Contribution := none
  issueTick : Word := 0
  phase : StepPhase := .waiting
  alloc : Nat := 0
  check : BitVec 64 := 0
  /-- Links that carried its traffic (R423). -/
  links : List Nat := []
  /-- Its own elements have entered: an ALL_GATHER enters them once every check word has been compared (R415). -/
  ownIn : Bool := false
  /-- Elements whose writes to DST_DESC are not in memory yet (R416), and a packet of it was discarded (R475). -/
  writing : Nat := 0
  lost : Bool := false
  /-- Accumulators by element, tree contributions received, elements written (R416, R417). -/
  accs : SMap XaElem := []
  f32Own : SMap F32 := []
  f32Left : SMap (Option F32) := []
  f32Right : SMap (Option F32) := []
  received : SMap Nat := []
  /-- Elements gone up or finished, and elements written or come down, by key and tree (R416). -/
  up : List Nat := []
  down : List Nat := []
  deriving DecidableEq, Repr

/-- A packet of a step that waits in the receive buffer until this member has started the step, or until an ALL_GATHER
goes on (R415). -/
structure EarlyPacket where
  step : Nat := 0
  first : Nat := 0
  up : Bool := false
  fromRight : Bool := false
  check : BitVec 64 := 0
  data : Bytes := []
  /-- The link it came by. -/
  link : Option Nat := none
  deriving DecidableEq, Repr

/-- A group (R397, R403, R436). -/
structure Group where
  state : GroupState := .free
  entry : Bytes := []
  memberList : List (BitVec 16) := []
  /-- The members in canonical order as in force (R400, R433). -/
  members : List (BitVec 16) := []
  generation : BitVec 32 := 0
  abortCode : BitVec 8 := 0
  abortTick : Word := 0
  abortRank : BitVec 32 := 0
  aborts : BitVec 64 := 0
  nextStep : Nat := 0
  steps : List CollStep := []
  early : List EarlyPacket := []
  /-- Lowest detection received: code, tick, rank; and fixed (R425). -/
  detection : Option (BitVec 8 × Word × BitVec 32) := none
  fixed : Bool := false
  deriving DecidableEq, Repr

/-! ## The dictionary, configuration sets -/

/-- The value of a settable dictionary entry: a number of its type, or the bytes of a BLOB. -/
inductive DVal where
  | num (v : Nat)
  | blob (b : Bytes)
  deriving DecidableEq, Repr

/-- State of the draft (R670). -/
inductive DraftState where
  | empty
  | opened
  | checking
  | checked
  | committing
  | prepared
  deriving DecidableEq, Repr

/-- A configuration command in service (R672 to R674). -/
inductive CfgCmd where
  | check
  | commit
  | revert
  deriving DecidableEq, Repr

/-- A pending set: its items and its activation tick (R678). -/
structure PendingSet where
  items : List (Nat × DVal) := []
  actTick : Word := 0
  commitId : BitVec 32 := 0
  version : Option (BitVec 32) := none
  group : Bool := false
  deriving DecidableEq, Repr

/-- Configuration sets (chapter 16). -/
structure CfgSets where
  draft : List (Nat × DVal) := []
  draftState : DraftState := .empty
  pending : Option PendingSet := none
  /-- The retained previous configuration (R683). -/
  previous : Option (SMap DVal) := none
  activeVersion : BitVec 32 := 0
  previousVersion : BitVec 32 := 0
  commitId : BitVec 32 := 0
  status : Nat := 0
  checkReason : Nat := 0
  checkEntry : Nat := 0
  terminalTick : Word := 0
  lastActTick : Word := 0
  vetoAddr : BitVec 16 := 0xFFFF
  holdoverFlag : Bool := false
  /-- The command in service until its terminal status, whether its check has ended, its tick of acceptance and the
  ACT_TICK it took (R672 to R675). -/
  service : Option CfgCmd := none
  serviceDone : Bool := false
  serviceTick : Word := 0
  serviceActTick : Word := 0
  /-- ACT_TICK and SCOPE as last written (R696). -/
  actTick : Word := 0
  groupScope : Bool := false
  /-- Tick at which CMD was last written (R673). -/
  cmdTick : Option Word := none
  /-- Group commit on the lead: acceptance tick, participants, votes (R685 to R687). -/
  groupActTick : Option Word := none
  participants : List (BitVec 16) := []
  votes : List (BitVec 16 × Vote) := []
  /-- Group commit on a participant: the lead epoch of the PREPARE (R686, R691). -/
  preparedEpoch : Option (BitVec 32) := none
  preparedTick : Word := 0
  preparedId : BitVec 32 := 0
  deriving DecidableEq, Repr

/-- GDP, its keys and the snapshot buffer (chapter 15). -/
structure Mgmt where
  /-- Key of each slot, none when EMPTY (R769, R770). -/
  keys : SMap (Option Bytes) := []
  lastSeq : SMap Word := []
  kept : SMap (Option (Bytes × Bytes)) := []
  authFails : SMap (BitVec 64) := []
  formFails : BitVec 64 := 0
  ipv4 : BitVec 32 := 0
  /-- The operator's snapshot: bytes and sample tick (R643). -/
  snap : Option (Bytes × Word) := none
  /-- The tick of the latest WRITE that took effect, the values that the entries it touched held before that tick, by key
  (R633, R664), and the rank of the path that wrote an entry last in it (R638). -/
  wroteTick : Word := 0
  held : SMap (Option Bytes) := []
  wroteBy : SMap Nat := []
  deriving DecidableEq, Repr

/-! ## Firmware, energy, safety -/

/-- A record of the log ring (R721). -/
structure LogRec where
  tick : Word := 0
  seq : BitVec 32 := 0
  severity : Nat := 0
  source : Nat := 0
  code : Nat := 0
  args : List Nat := []
  deriving DecidableEq, Repr

/-- Firmware, boot and the log (chapters 17 and 22). -/
structure Firmware where
  /-- 0 RESET, 1 ROM, 2 RUNNING: I²C STAGE (R859). -/
  stage : Nat := 0
  bootFailed : Bool := false
  started : Bool := false
  bootSlot : Nat := 0
  bootCause : Nat := 0
  fwVersion : BitVec 32 := 0
  fwDigest : Bytes := []
  securityVersion : Nat := 0
  keyIndex : Nat := 0
  trial : Nat := 0
  /-- Slots that missed the ready point since power-on (R708). -/
  watchdogFailed : List Nat := []
  /-- Tick at which the ROM started the image, and tick of the ready point (R708, R860). -/
  startedAt : Word := 0
  startTick : Word := 0
  flashBusy : Bool := false
  log : List LogRec := []
  logSeq : BitVec 32 := 0
  logOverwritten : BitVec 64 := 0
  /-- Records whose place in the full ring has been freed and who enter it in the next cycle (R250, R722). -/
  logWaiting : List LogRec := []
  deriving DecidableEq, Repr

/-- The energy account of the device (chapter 18). -/
structure Energy where
  scale : Nat := 256
  reconError : Int := 0
  measured : Nat := 0
  powerState : Nat := 2
  junctionMc : Int := 0
  sampled : Bool := false
  thermalWarn : Bool := false
  coolSince : Option Word := none
  /-- Debits and metered amounts of the window, deferrals in it, windows in a row with no excess (R745, R746). -/
  windowDebits : Int := 0
  windowDeferred : Bool := false
  quietWindows : Nat := 0
  windowStart : Word := 0
  /-- CAP_W, WINDOW_GT, CARRY and SHARE as in force, latched at a window start (R736). -/
  capW : Nat := 1500
  windowGt : Nat := 65536
  carry : Nat := 16
  shares : SMap Nat := []
  retention : Bool := false
  wakeAt : Option Word := none
  deriving DecidableEq, Repr

/-- The safety partition (chapter 19). -/
structure Safety where
  tripped : Bool := false
  stopped : Bool := false
  /-- A trip condition met: cause and sample tick (R760 to R762). -/
  tripPending : Option (Nat × Word) := none
  tripCause : Nat := 0
  tripTick : Word := 0
  refusedWrites : BitVec 64 := 0
  /-- Firmware key slots: public key and revoked (R766). -/
  fwKeys : SMap (Option Bytes) := []
  revoked : List Nat := []
  /-- The floor as it reads, the blown rollback fuses, and the fuse writes still to program (R767, R768). -/
  rollback : Nat := 0
  blown : Nat := 0
  rollbackTarget : Nat := 0
  revokePending : List Nat := []
  /-- Latest sample of each rail, and consecutive samples out of limits (R759, R760). -/
  railMv : SMap (BitVec 16) := []
  railBad : SMap Nat := []
  deriving DecidableEq, Repr

/-! ## Pair, host link, pins -/

/-- The mirrored pair (chapter 14). -/
structure Pair where
  /-- 0 NONE, 1 MIRRORING, 2 DIVERGED, 3 PARTNER_LOST, 4 LAG_OVERRUN, 5 PROMOTED (R622). -/
  state : Nat := 0
  /-- 0 NONE, 1 PRIMARY, 2 SECONDARY, as in force. -/
  role : Nat := 0
  divergeTick : Word := 0
  divergeCtx : CtxId := 0
  divergeCmd : BitVec 32 := 0
  promoteTick : Word := 0
  lastBeat : Word := 0
  beatSent : Word := 0
  /-- Forwarded inputs in order with the primary's stamp (R605, R608). -/
  forwarded : List (Word × FwdInput) := []
  /-- Digests of own terminal commands awaiting the partner's: context, CMD_ID, digest, terminal tick (R610). -/
  digests : List (CtxId × BitVec 32 × BitVec 256 × Word) := []
  /-- Completion records kept back by a secondary: context, vector, bus address, record, terminal tick (R607, R615). -/
  heldRecords : List (CtxId × Nat × Nat × Bytes × Word) := []
  suspended : List Nat := []
  partnerLostTick : Word := 0
  primaryWasLead : Bool := false
  deriving DecidableEq, Repr

/-- The PCIe side of the device (chapter 20). -/
structure Pcie where
  perst : Bool := false
  linkUp : Bool := false
  rate : BitVec 4 := 0
  width : BitVec 5 := 0
  flit : Bool := false
  bar2Window : BitVec 64 := 0
  hostLossCount : BitVec 32 := 0
  hostLossTick : Word := 0
  numVfs : BitVec 16 := 0
  vfEnable : Bool := false
  /-- Selective IDE streams: key, insecure (R815, R816). -/
  ideKeys : SMap (Option Bytes) := []
  ideInsecure : List Nat := []
  spdmSession : Option Bytes := none
  deriving DecidableEq, Repr

/-- The pins of reset, straps, I²C and the TAP (chapter 21). -/
structure Pins where
  por : Bool := false
  i2cAddr : BitVec 2 := 0
  xspiOctal : Bool := false
  i2cPointer : BitVec 8 := 0
  tripN : Bool := false
  /-- Low-speed and pair drive of the boundary-scan test modes: 0 normal, 1 EXTEST, 2 CLAMP, 3 HIGHZ, 4 pulse, 5 train. -/
  testMode : Nat := 0
  cells : Bytes := []
  /-- The selected TAP instruction: 0 BYPASS, 1 IDCODE, 2 SAMPLE/PRELOAD, 3 EXTEST, 4 CLAMP, 5 HIGHZ, 6 EXTEST_PULSE,
  7 EXTEST_TRAIN; and the captures of the boundary cells so far, which number the free values of log entry 14. -/
  tapReg : Nat := 0
  captures : Nat := 0
  deriving DecidableEq, Repr

/-- The grade of a device (R7). On grade B22 one core of each compute die D0 to D3 is fused off (R18): its number on
the die, 0 to 7. -/
inductive Grade where
  | a25
  | b22 (d0 d1 d2 d3 : Fin 8)
  deriving DecidableEq, Repr

/-- Grade B22. -/
def Grade.isB22 : Grade → Bool
  | .a25 => false
  | .b22 .. => true

/-- The fused-off cores: core n sits on die n div 8 (R13, R18). -/
def Grade.fused : Grade → List Nat
  | .a25 => []
  | .b22 d0 d1 d2 d3 => [d0.val, 8 + d1.val, 16 + d2.val, 24 + d3.val]

/-- F, the size of the flash (R697). -/
inductive FlashSize where
  | mib8
  | mib16
  | mib32
  | mib64
  deriving DecidableEq, Repr

/-- F in MiB. -/
def FlashSize.mib : FlashSize → Nat
  | .mib8 => 8
  | .mib16 => 16
  | .mib32 => 32
  | .mib64 => 64

/-- What is fused or fixed in one device. -/
structure Ident where
  grade : Grade := .a25
  steppingB0 : Bool := false
  serial : BitVec 128 := 0
  bootCount : BitVec 32 := 0
  staticW : Nat := 0
  flash : FlashSize := .mib64
  deriving DecidableEq, Repr

/-- A hardware queue (R246): a command ring, an expert queue, a list of a roster (a core's own, or the common one), the log
ring. -/
inductive QueueId where
  | ring (c : CtxId) (r : RingId)
  | expert (c : CtxId) (record queue : Nat)
  | roster (c : CtxId) (header : Nat) (home : Option CoreId)
  | log
  deriving DecidableEq, Repr

/-- What a queue raises at the end of a cycle (R249, R251). -/
inductive QueueEvent where
  | empty
  | notEmpty
  | full
  | notFull
  deriving DecidableEq, Repr

/-- What the device sends outside, in order. -/
inductive Output where
  | queue (q : QueueId) (e : QueueEvent)
  | msix (f : CtxId) (vector : Nat)
  | hostWrite (addr : Nat) (bytes : Bytes)
  /-- A flit with the two codewords of its block: even-numbered bytes, odd-numbered bytes (R449). -/
  | flit (l : LinkId) (f : Flit) (even odd : Bytes)
  | packet (p : Packet)
  | control (l : LinkId) (bytes : Bytes)
  | flood (g : GroupId) (code : BitVec 8) (tick : Word) (rank : BitVec 32)
  | exchange (g : GroupId) (step : Nat) (part : Contribution)
  | gdp (bytes : Bytes)
  | bar2Read (f : CtxId) (data : Bytes)
  | bar2Poisoned (f : CtxId)
  | regRead (f : CtxId) (value : BitVec 32)
  | unsupported (f : CtxId)
  | completerAbort (f : CtxId)
  | aer (f : CtxId) (what : Nat)
  | spdm (bytes : Bytes)
  | i2c (bytes : Bytes)
  | i2cNack (count : Nat)
  | tap (bits : Bytes)
  | net (bytes : Bytes)
  | prepare (commitId : BitVec 32) (actTick : Word) (epoch : BitVec 32)
  | vote (v : Vote)
  | decision (version : Option (BitVec 32))
  | pairBeat (l : LinkId)
  | forward (stamp : Word) (input : FwdInput)
  | digest (c : CtxId) (cmdId : BitVec 32) (digest : BitVec 256) (terminal : Word)
  | idBlock (l : LinkId) (bytes : Bytes)
  | report (r : Report)
  deriving DecidableEq, Repr

/-- The whole machine. -/
structure State where
  ident : Ident := {}
  tick : TickUnit := {}
  ctxs : SMap Ctx := []
  cores : SMap Core := []
  wheels : SMap Wheel := []
  hbm : Hbm := {}
  /-- HBM by device address, SRAM by core × stride + offset, reservoir, Quill staging memory, flash, and the
  host's memory as the device reads and writes it. -/
  hbmMem : Memory := []
  sramMem : Memory := []
  resMem : Memory := []
  stageMem : Memory := []
  /-- The control SRAM but for its member pool, snapshot buffer and log ring, which `groups`, `mgmt` and `fw` hold
  (R149, R707). -/
  ctlMem : Memory := []
  flash : Memory := []
  hostMem : Memory := []
  /-- The units in state SCRUBBING (R160), as ranges (first unit, number); at power-on every unit is (R865). A unit
  of SRAM counts for all enabled cores together. -/
  scrubSram : List (Nat × Nat) := [(0, 624)]
  scrubHbm : List (Nat × Nat) := [(0, 147456)]
  scrubRes : List (Nat × Nat) := [(0, 768)]
  scrubStage : List (Nat × Nat) := [(0, 1536)]
  links : SMap Link := []
  topo : Topo := {}
  groups : SMap Group := []
  /-- The settable entries in force that differ from their defaults, by index × 256 + sub. -/
  cfg : SMap DVal := []
  sets : CfgSets := {}
  mgmt : Mgmt := {}
  fw : Firmware := {}
  energy : Energy := {}
  safety : Safety := {}
  pair : Pair := {}
  pcie : Pcie := {}
  pins : Pins := {}
  /-- Packets discarded for contexts neither LIVE nor SUSPENDED (R541). -/
  discardedInactive : BitVec 64 := 0
  /-- What has been sent outside, newest first. -/
  out : List Output := []
  /-- Commands waiting, first in first out. -/
  pending : List Instr := []
  deriving DecidableEq, Repr

/-- The machine right after reset: POR_N low, nothing started, every field at its default. -/
def State.reset : State := {}

end Sys2Proof.Machine
end

