-- ==== Sys2Proof/Machine/TickUnit.lean ====
section
/-! DEFINITION. The changes of state of the tick unit alone: holdover, slewing and the residual that a marker gives
(R37, R39, R41, R54 to R61, R64, R886, R887). Phases and residuals are counted in 1/1,024 of a root cycle, so that the
mean of 1,024 exchanges is exact: 1,024 are one root cycle, 16,384 are 1 GT. -/

namespace Sys2Proof.Machine

/-- One root cycle of 0.1 ns in the unit of phases and residuals. -/
def rootCycle : Nat := 1024

/-- HOLDOVER_ELAPSED as it reads (R62). -/
def TickUnit.elapsedNow (t : TickUnit) : Word := if t.state = 0 || t.state = 1 || t.state = 2 then 0 else t.elapsed

/-- The tick unit of a device that has become master (R31, R65): its count goes on. -/
def TickUnit.toMaster (t : TickUnit) (addr : BitVec 16) : TickUnit :=
  { t with
    state := 1, holdover := false, elapsed := 0, masterAddr := addr, upstream := none, depth := 0, aligned := true
    residual := 0, measured := true, downAt := none, byMarker := false }

/-- Enters SLEWING with a residual (R60, R61, R887). -/
def TickUnit.toSlewing (t : TickUnit) (residual : Nat) : TickUnit :=
  { t with state := 5, residual := residual, measured := true, slewTick := t.now, downAt := none, byMarker := false }

/-- A follower whose upstream link was declared down at d enters HOLDOVER at d + 16 (R54). One that is in HOLDOVER or
HOLDOVER_LONG already, under R55, keeps its state and its running elapsed time: R54 states no entry for it (log entry
76). -/
def TickUnit.enterHoldover (t : TickUnit) : TickUnit :=
  if t.state == 2 || t.state == 5 then
    { t with state := 3, holdover := true, elapsed := 0, downAt := none, byMarker := false }
  else { t with downAt := none, byMarker := false }

/-- The entry of R54 is due. -/
def TickUnit.holdoverDue (t : TickUnit) : Bool :=
  match t.downAt with
  | none => false
  | some d => decide (d.toNat + 16 ≤ t.now.toNat)

/-- HOLDOVER_LONG is due (R56). -/
def TickUnit.longDue (t : TickUnit) : Bool := t.state == 3 && decide (Config.holdoverLong ≤ t.elapsed.toNat)

/-- The end of 1,024 GT of slewing has come (R41, R886). -/
def TickUnit.slewDue (t : TickUnit) : Bool :=
  decide (t.slewTick.toNat + 1024 ≤ t.now.toNat) && (t.state == 2 || (t.state == 5 && t.measured))

/-- One slewing step of one root cycle; at a residual of at most 1/16 GT the follower is LOCKED, its HOLDOVER flag clear
and its elapsed time 0 (R41, R61, R886). The residual is compared at the end of each step, also one that was at most
1/16 GT when SLEWING was entered (log entry 76). -/
def TickUnit.slew (t : TickUnit) : TickUnit :=
  let r := t.residual - rootCycle
  if t.state == 5 && decide (r ≤ rootCycle) then
    { t with residual := r, slewTick := t.now, state := 2, holdover := false, elapsed := 0 }
  else { t with residual := r, slewTick := t.now }

/-- The changes that are due at this tick take effect from its start (R64). -/
def TickUnit.settle (t : TickUnit) : TickUnit :=
  let t := if t.holdoverDue then t.enterHoldover else t
  let t := if t.longDue then { t with state := 4 } else t
  if t.slewDue then t.slew else t

/-- R57: an agreed launch runs in this state of the tick unit; a residual of 8 root cycles is 0.5 GT. -/
def TickUnit.agrees (t : TickUnit) : Bool :=
  t.state == 1 || t.state == 2 || t.state == 3 || (t.state == 5 && t.measured && decide (t.residual ≤ 8 * rootCycle))

/-- The residual a marker gives: between this device's tick edge at its arrival, in root cycles of its own count, and the
marker's tick edge plus the hop delay (R887, R41). -/
def TickUnit.markerResidual (t : TickUnit) (l : Nat) (m : Marker) (arrival : Nat) : Nat :=
  ((arrival : Int) - (16 * m.tick.toNat + (t.hopDelay.get 0 l).toNat)).natAbs * rootCycle

/-- The alignment write: count and phase less the offset, in 1/1,024 root cycles (R37, R39). The fraction of a tick that
remains is the phase. -/
def TickUnit.align (t : TickUnit) (offset : Int) : TickUnit :=
  let root : Int := 16384 * t.now.toNat + t.phase - offset
  { t with
    now := BitVec.ofNat 64 (root / 16384).toNat, phase := (root % 16384).toNat, state := 2, aligned := true, residual := 0
    measured := true, holdover := false, elapsed := 0, byMarker := false, slewTick := BitVec.ofNat 64 (root / 16384).toNat }

end Sys2Proof.Machine
end

