-- ==== Sys2Proof/Machine/Flags.lean ====
section
/-! DEFINITION. The sticky numerics flags (R98) as masks, and their union (R107). -/

namespace Sys2Proof.Machine.Flag

/-- Bit 0, overflow (R98). -/
def ovf : BitVec 16 := 0x0001
/-- Bit 1, underflow (R95). -/
def unf : BitVec 16 := 0x0002
/-- Bit 2, inexact (R96). -/
def inx : BitVec 16 := 0x0004
/-- Bit 3, invalid (R80, R81, R93, R94). -/
def inv : BitVec 16 := 0x0008
/-- Bit 4, window saturated at the top (R77, R82). -/
def ldg : BitVec 16 := 0x0010
/-- Bit 5, bits truncated below the floor (R76, R83). -/
def ldt : BitVec 16 := 0x0020
/-- Bit 6, an SFU result flushed to zero (R114, R132). -/
def ftz : BitVec 16 := 0x0040
/-- Bit 7, out of bounds (R189). -/
def oob : BitVec 16 := 0x0080
/-- The bits R98 defines; [15:8] are reserved and read 0 (R9). -/
def defined : BitVec 16 := 0x00FF

/-- A flag when a condition holds. -/
def when (c : Bool) (f : BitVec 16) : BitVec 16 := if c then f else 0

/-- The union of the flags several results raise (R107). -/
def union (l : List (BitVec 16)) : BitVec 16 := l.foldl (· ||| ·) 0

end Sys2Proof.Machine.Flag
end

