-- ==== Sys2Proof/Machine/Float.lean ====
section
/-! DEFINITION. The number formats of R66: decoding, one exact rounding, and the binary32 arithmetic of the vector
unit (R68, R88 to R96, R106). A finite magnitude is a quotient of naturals times a power of two, so every operation
is exact before its one rounding. -/

namespace Sys2Proof.Machine

/-- A binary floating format: exponent and fraction widths, bias, and whether it has infinities. -/
structure Fmt where
  eb : Nat
  fb : Nat
  bias : Int
  hasInf : Bool
  deriving DecidableEq, Repr

/-- OFP8 E4M3 (R66). -/
def fmtE4M3 : Fmt := ⟨4, 3, 7, false⟩
/-- OFP8 E5M2 (R66). -/
def fmtE5M2 : Fmt := ⟨5, 2, 15, true⟩
/-- BF16 (R66). -/
def fmtBF16 : Fmt := ⟨8, 7, 127, true⟩
/-- FP16 (R66). -/
def fmtFP16 : Fmt := ⟨5, 10, 15, true⟩
/-- FP32 (R66). -/
def fmtFP32 : Fmt := ⟨8, 23, 127, true⟩
/-- E11, SFU-internal (R66, R130); no infinity or NaN is ever held in it. -/
def fmtE11 : Fmt := ⟨11, 16, 1023, true⟩
/-- The sum form of R133. -/
def fmtSum : Fmt := ⟨13, 40, 4095, true⟩

/-- A number before rounding: finite with sign and magnitude (n ÷ d) × 2^e, an infinity, or a NaN. -/
inductive Num where
  | fin (neg : Bool) (n d : Nat) (e : Int)
  | inf (neg : Bool)
  | nan (signalling : Bool)
  deriving DecidableEq, Repr

/-- The exact value i × 2^e. -/
def Num.ofInt (i : Int) (e : Int) : Num := .fin (decide (i < 0)) i.natAbs 1 e

/-- The NaN encoding that is written (R66, R67). -/
def Fmt.nanBits (f : Fmt) : Nat :=
  if f.hasInf then (2 ^ f.eb - 1) * 2 ^ f.fb + 2 ^ (f.fb - 1) else 2 ^ (f.eb + f.fb) - 1

/-- The encoding of +∞. -/
def Fmt.infBits (f : Fmt) : Nat := (2 ^ f.eb - 1) * 2 ^ f.fb

/-- The encoding of the largest finite value (R66). -/
def Fmt.maxBits (f : Fmt) : Nat := if f.hasInf then f.infBits - 1 else 2 ^ (f.eb + f.fb) - 2

/-- The sign bit. -/
def Fmt.signBit (f : Fmt) : Nat := 2 ^ (f.eb + f.fb)

/-- The number an encoding stands for (R66). -/
def Fmt.decode (f : Fmt) (w : Nat) : Num :=
  let neg := bit w (f.eb + f.fb)
  let ex := bits w (f.eb + f.fb - 1) f.fb
  let fr := w % 2 ^ f.fb
  if f.hasInf && ex == 2 ^ f.eb - 1 then
    if fr = 0 then .inf neg else .nan (!bit fr (f.fb - 1))
  else if !f.hasInf && ex == 2 ^ f.eb - 1 && fr == 2 ^ f.fb - 1 then .nan false
  else if ex = 0 then .fin neg fr 1 (1 - f.bias - f.fb)
  else .fin neg (2 ^ f.fb + fr) 1 (ex - f.bias - f.fb)

/-- How a conversion rounds: to nearest even, or stochastically against the word u (R89, R90). -/
inductive RoundBy where
  | rne
  | stochastic (u : BitVec 32)
  deriving DecidableEq, Repr

/-- Rounds r ÷ d, a fraction of one unit in the last place above `i`, up or not (R90). -/
def roundUp (m : RoundBy) (i r d : Nat) : Bool :=
  match m with
  | .rne => decide (d < 2 * r) || (decide (2 * r = d) && i % 2 == 1)
  | .stochastic u => decide (u.toNat < r * 2 ^ 32 / d)

/-- (n ÷ d) × 2^s as a fraction of naturals. -/
def scaleFrac (n d : Nat) (s : Int) : Nat × Nat :=
  match s with
  | .ofNat k => (n * 2 ^ k, d)
  | .negSucc k => (n, d * 2 ^ (k + 1))

/-- floor(log2(n ÷ d)) for nonzero n. -/
def floorLog2 (n d : Nat) : Int :=
  let g : Int := (Nat.log2 n : Int) - Nat.log2 d
  let (a, b) := scaleFrac n d (-g)
  if a < b then g - 1 else g

/-- Rounds a magnitude at the quantum 2^q: the integer, and whether anything was discarded. -/
def roundAt (m : RoundBy) (n d : Nat) (e q : Int) : Nat × Bool :=
  let (a, b) := scaleFrac n d (e - q)
  let i := a / b
  let r := a % b
  (if r ≠ 0 && roundUp m i r b then i + 1 else i, decide (r ≠ 0))

/-- The encoding of i × 2^q where i has at most fb + 2 bits and q is a quantum of the format. -/
def Fmt.pack (f : Fmt) (i : Nat) (q : Int) : Nat :=
  if i < 2 ^ f.fb then i
  else if i < 2 ^ (f.fb + 1) then (q + f.bias + f.fb).toNat * 2 ^ f.fb + (i - 2 ^ f.fb)
  else (q + 1 + f.bias + f.fb).toNat * 2 ^ f.fb

/-- Rounds a finite magnitude once into a format: encoding without sign, flags (R88, R92, R95, R96). -/
def Fmt.roundMag (f : Fmt) (m : RoundBy) (sat : Bool) (n d : Nat) (e : Int) : Nat × BitVec 16 :=
  if n = 0 then (0, 0)
  else
    let lg := floorLog2 n d + e
    let qmin : Int := 1 - f.bias - f.fb
    let q := max (lg - f.fb) qmin
    let (i, inexact) := roundAt m n d e q
    let w := f.pack i q
    if f.maxBits < w then
      (if f.hasInf && !sat then f.infBits else f.maxBits, Flag.ovf ||| Flag.inx)
    else
      -- Tininess after rounding with an unbounded exponent (R95).
      let (iu, _) := roundAt m n d e (lg - f.fb)
      let tiny := decide (lg < 1 - f.bias) &&
        !(decide (lg + 1 = 1 - f.bias) && decide (iu = 2 ^ (f.fb + 1)))
      (w, Flag.when inexact Flag.inx ||| Flag.when (inexact && tiny) Flag.unf)

/-- A number converted to a floating format. `fromXa` marks an XA source, whose NaN raises nothing (R94) and whose
infinity becomes NaN with INV where the format has no infinity (R93). -/
def Fmt.encode (f : Fmt) (m : RoundBy) (sat : Bool) : Num → Nat × BitVec 16
  | .fin neg n d e =>
    let (w, fl) := f.roundMag m sat n d e
    (if neg then f.signBit + w else w, fl)
  | .inf neg =>
    if f.hasInf then (if neg then f.signBit + f.infBits else f.infBits, 0) else (f.nanBits, Flag.inv)
  | .nan s => (f.nanBits, Flag.when s Flag.inv)

/-- A number converted to a two's-complement integer of w bits (R92 to R94, R96). -/
def encodeInt (w : Nat) (m : RoundBy) : Num → Nat × BitVec 16
  | .fin neg n d e =>
    let (i, inexact) := roundAt m n d e 0
    let v : Int := if neg then -(i : Int) else i
    let hi : Int := 2 ^ (w - 1) - 1
    let lo : Int := -(2 ^ (w - 1))
    if hi < v then (hi.toNat, Flag.ovf)
    else if v < lo then (2 ^ (w - 1), Flag.ovf)
    else ((BitVec.ofInt w v).toNat, Flag.when inexact Flag.inx)
  | .inf neg => (if neg then 2 ^ (w - 1) else 2 ^ (w - 1) - 1, Flag.inv)
  | .nan _ => (0, Flag.inv)

/-! ## Formats by code (R177) -/

/-- The floating format of a code, if it is one. -/
def floatFmt : Nat → Option Fmt
  | 0 => some fmtE4M3
  | 1 => some fmtE5M2
  | 2 => some fmtBF16
  | 3 => some fmtFP16
  | 4 => some fmtFP32
  | _ => none

/-- Element size in bytes (R177). -/
def elemSize : Nat → Nat
  | 0 => 1
  | 1 => 1
  | 2 => 2
  | 3 => 2
  | 4 => 4
  | 5 => 1
  | 6 => 4
  | 7 => 8
  | 8 => 12
  | 9 => 32
  | _ => 0

/-- The number an element of a floating or integer format stands for. -/
def decodeElem (fmt w : Nat) : Num :=
  match fmt with
  | 5 => Num.ofInt (BitVec.ofNat 8 w).toInt 0
  | 6 => Num.ofInt (BitVec.ofNat 32 w).toInt 0
  | _ => match floatFmt fmt with
    | some f => f.decode w
    | none => .nan false

/-- A number converted once into a floating or integer format (R88 to R96). -/
def encodeElem (fmt : Nat) (m : RoundBy) (sat : Bool) (x : Num) : Nat × BitVec 16 :=
  match fmt with
  | 5 => encodeInt 8 m x
  | 6 => encodeInt 32 m x
  | _ => match floatFmt fmt with
    | some f => f.encode m sat x
    | none => (0, 0)

/-! ## binary32 arithmetic (R68) -/

/-- The number a binary32 pattern stands for. -/
def f32 (x : F32) : Num := fmtFP32.decode x.toNat

/-- A number rounded once to binary32 by RNE. -/
def toF32 (x : Num) : F32 × BitVec 16 :=
  let (w, fl) := fmtFP32.encode .rne false x
  (BitVec.ofNat 32 w, fl)

/-- The canonical binary32 NaN (R66). -/
def f32NaN : F32 := 0x7FC00000

/-- Sign change of a number. -/
def Num.neg : Num → Num
  | .fin s n d e => .fin (!s) n d e
  | .inf s => .inf (!s)
  | .nan q => .nan q

/-- Any operand is a signalling NaN. -/
def Num.isSig : Num → Bool
  | .nan s => s
  | _ => false

/-- A NaN. -/
def Num.isNan : Num → Bool
  | .nan _ => true
  | _ => false

/-- The exact sum; an exact zero is +0 unless both operands are negative. -/
def Num.add (x y : Num) : Num × Bool :=
  match x, y with
  | .nan a, .nan b => (.nan false, a || b)
  | .nan a, _ => (.nan false, a)
  | _, .nan b => (.nan false, b)
  | .inf a, .inf b => if a = b then (.inf a, false) else (.nan false, true)
  | .inf a, _ => (.inf a, false)
  | _, .inf b => (.inf b, false)
  | .fin sx nx dx ex, .fin sy ny dy ey =>
    let e := min ex ey
    let ax : Int := nx * dy * 2 ^ (ex - e).toNat
    let ay : Int := ny * dx * 2 ^ (ey - e).toNat
    let v := (if sx then -ax else ax) + (if sy then -ay else ay)
    (.fin (if v = 0 then sx && sy else decide (v < 0)) v.natAbs (dx * dy) e, false)

/-- The exact product. -/
def Num.mul (x y : Num) : Num × Bool :=
  match x, y with
  | .nan a, .nan b => (.nan false, a || b)
  | .nan a, _ => (.nan false, a)
  | _, .nan b => (.nan false, b)
  | .inf a, .inf b => (.inf (a != b), false)
  | .inf a, .fin s n _ _ => if n = 0 then (.nan false, true) else (.inf (a != s), false)
  | .fin s n _ _, .inf b => if n = 0 then (.nan false, true) else (.inf (s != b), false)
  | .fin sx nx dx ex, .fin sy ny dy ey => (.fin (sx != sy) (nx * ny) (dx * dy) (ex + ey), false)

/-- The exact quotient; a nonzero value over ±0 is an infinity with OVF (R68). -/
def Num.div (x y : Num) : Num × BitVec 16 :=
  match x, y with
  | .nan a, .nan b => (.nan false, Flag.when (a || b) Flag.inv)
  | .nan a, _ => (.nan false, Flag.when a Flag.inv)
  | _, .nan b => (.nan false, Flag.when b Flag.inv)
  | .inf _, .inf _ => (.nan false, Flag.inv)
  | .inf a, .fin s _ _ _ => (.inf (a != s), 0)
  | .fin s _ _ _, .inf b => (.fin (s != b) 0 1 0, 0)
  | .fin sx nx dx ex, .fin sy ny dy ey =>
    if ny = 0 then
      if nx = 0 then (.nan false, Flag.inv) else (.inf (sx != sy), Flag.ovf)
    else (.fin (sx != sy) (nx * dy) (dx * ny) (ex - ey), 0)

/-- Rounds an exact result and adds the INV of the operation. -/
def finish (r : Num × Bool) : F32 × BitVec 16 :=
  let (w, fl) := toF32 r.1
  (w, fl ||| Flag.when r.2 Flag.inv)

/-- binary32 addition. -/
def fadd (x y : F32) : F32 × BitVec 16 := finish (Num.add (f32 x) (f32 y))
/-- binary32 subtraction. -/
def fsub (x y : F32) : F32 × BitVec 16 := finish (Num.add (f32 x) (f32 y).neg)
/-- binary32 multiplication. -/
def fmul (x y : F32) : F32 × BitVec 16 := finish (Num.mul (f32 x) (f32 y))
/-- binary32 division. -/
def fdiv (x y : F32) : F32 × BitVec 16 :=
  let (q, fl) := Num.div (f32 x) (f32 y)
  let (w, fl') := toF32 q
  (w, fl ||| fl')
/-- x × y + z, rounded once (R210). -/
def ffma (x y z : F32) : F32 × BitVec 16 :=
  let (p, i) := Num.mul (f32 x) (f32 y)
  let (s, j) := Num.add p (f32 z)
  finish (s, i || j)

/-- Order of two numbers as binary32 compares them: none when either is a NaN. -/
def Num.cmp (x y : Num) : Option Ordering :=
  match x, y with
  | .nan _, _ => none
  | _, .nan _ => none
  | .inf a, .inf b => some (if a = b then .eq else if a then .lt else .gt)
  | .inf a, _ => some (if a then .lt else .gt)
  | _, .inf b => some (if b then .gt else .lt)
  | .fin sx nx dx ex, .fin sy ny dy ey =>
    let e := min ex ey
    let ax : Int := nx * dy * 2 ^ (ex - e).toNat
    let ay : Int := ny * dx * 2 ^ (ey - e).toNat
    some (compare (if sx then -ax else ax) (if sy then -ay else ay))

/-- x ≤ y in binary32; false when either is a NaN. -/
def fle (x y : F32) : Bool := match (f32 x).cmp (f32 y) with
  | some .gt => false
  | some _ => true
  | none => false

/-- x < y in binary32; false when either is a NaN. -/
def flt (x y : F32) : Bool := (f32 x).cmp (f32 y) == some .lt

/-- A NaN pattern. -/
def fIsNaN (x : F32) : Bool := (f32 x).isNan

/-- An element loaded into the vector unit: floating formats and INT8 exactly, a signalling NaN staying signalling,
INT32 rounded once (R68). A loaded signalling NaN keeps its sign and has the fraction 0x200000; a quiet NaN, of FP32 too,
becomes the canonical one (log entry 67). -/
def loadElem (fmt w : Nat) : F32 × BitVec 16 :=
  match decodeElem fmt w with
  | .nan true => (if bit w (match floatFmt fmt with | some f => f.eb + f.fb | none => 0) then 0xFFA00000 else 0x7FA00000, 0)
  | .nan false => (f32NaN, 0)
  | x => toF32 x

end Sys2Proof.Machine
end

