-- ==== Sys2Proof/Machine/Xa.lean ====
section
/-! DEFINITION. The exact accumulator: entry of a summand, adding, and leaving the adder (R70 to R88, R883),
and the stipple generator (R97). -/

namespace Sys2Proof.Machine

/-- The exact integer total of an element: N plus the carry word's wraps (R78). -/
def XaElem.total (x : XaElem) : Int := x.n.toInt + x.carry.toInt * 2 ^ 192

/-- An element holding a total, with the tag and infinity bits of another. -/
def XaElem.withTotal (x : XaElem) (t : Int) : XaElem :=
  let n := BitVec.ofInt 192 t
  { x with n := n, carry := BitVec.ofInt 32 ((t - n.toInt) / 2 ^ 192) }

/-- What enters an adder: a finite integer at the adder's anchor, an infinity or a NaN. -/
inductive Summand where
  | fin (n : Int)
  | inf (neg : Bool)
  | nan
  deriving DecidableEq, Repr

/-- The largest finite magnitude of an adder that accumulates in XA192, XA96 or XA64 (R77). -/
def xaLimit (w : Nat) : Int := if w = 192 then 2 ^ 191 - 1 else 2 ^ (w - 1) - 2

/-- |v| × 2^s truncated toward zero, and whether bits were discarded. -/
def truncShift (v : Nat) (s : Int) : Nat × Bool :=
  match s with
  | .ofNat k => (v * 2 ^ k, false)
  | .negSucc k => (v / 2 ^ (k + 1), decide (v % 2 ^ (k + 1) ≠ 0))

/-- Entry of one product or summand v × 2^e at anchor a into an adder of width w (R76, R77, R108). -/
def enterInt (w : Nat) (a : Int) (v : Int) (e : Int) : Summand × BitVec 16 :=
  let (m, lost) := truncShift v.natAbs (e - a)
  let lim := xaLimit w
  let past := decide (lim < (m : Int))
  let m' : Int := if past then lim else m
  (.fin (if v < 0 then -m' else m'), Flag.when lost Flag.ldt ||| Flag.when past Flag.ldg)

/-- Entry of a number; finite values here have denominator 1. An operation that enters a signalling NaN consumes it
(R67). -/
def enterNum (w : Nat) (a : Int) : Num → Summand × BitVec 16
  | .fin neg n _ e => enterInt w a (if neg then -(n : Int) else n) e
  | .inf neg => (.inf neg, 0)
  | .nan sig => (.nan, Flag.when sig Flag.inv)

/-- Adding a summand: exact total, tags and INV of R80. -/
def XaElem.add (x : XaElem) : Summand → XaElem × BitVec 16
  | .fin n => (x.withTotal (x.total + n), 0)
  | .nan => ({ x with tag := 3 }, 0)
  | .inf neg =>
    let p := x.posInf || !neg
    let q := x.negInf || neg
    let fresh := p && q && !(x.posInf && x.negInf)
    let tag : BitVec 2 := if x.tag = 3 || (p && q) then 3 else if neg then 2 else 1
    ({ x with tag := tag, posInf := p, negInf := q }, Flag.when fresh Flag.inv)

/-- Adding summands one after another, with every flag they raise. -/
def XaElem.addAll (x : XaElem) (l : List (Summand × BitVec 16)) : XaElem × BitVec 16 :=
  l.foldl (fun (y, fl) (sm, f) => let (z, g) := y.add sm; (z, fl ||| f ||| g)) (x, 0)

/-- The exact product of two operands as a summand of an XA192 array (R76, R77, R81). A NaN operand raises no flag, as the
matrix rows of R106 say for every NaN. -/
def enterProduct (w : Nat) (a : Int) (x y : Num) : Summand × BitVec 16 :=
  match x, y with
  | .nan _, _ => (.nan, 0)
  | _, .nan _ => (.nan, 0)
  | _, _ =>
    match Num.mul x y with
    | (.nan _, _) => (.nan, Flag.inv)
    | (p, _) => enterNum w a p

/-- A total at anchor a leaves for the window of a width at anchor b (R82, R83): a total outside the window becomes
the nearest limit, any other is truncated. The limits of XA192 are those of its 192-bit integer (R66). -/
def narrow (w : Nat) (t : Int) (a b : Int) : Int × BitVec 16 :=
  let hi := xaLimit w
  let lo : Int := if w = 192 then -(2 ^ 191) else -hi
  let up := 2 ^ (a - b).toNat
  let down := 2 ^ (b - a).toNat
  if hi * down < t * up then (hi, Flag.ldg)
  else if t * up < lo * down then (lo, Flag.ldg)
  else
    let (m, lost) := truncShift t.natAbs (a - b)
    (if t < 0 then -(m : Int) else m, Flag.when lost Flag.ldt)

/-- The XA64 or XA96 encoding of an element leaving at anchor b (R82 to R84). -/
def XaElem.toXa (x : XaElem) (w : Nat) (a b : Int) : Nat × BitVec 16 :=
  if x.tag = 0 then
    let (v, fl) := narrow w x.total a b
    ((BitVec.ofInt w v).toNat, fl)
  else if x.tag = 1 then (2 ^ (w - 1) - 1, 0)
  else if x.tag = 2 then (2 ^ (w - 1) + 1, 0)
  else (2 ^ (w - 1), 0)

/-- The number an XA64 or XA96 encoding stands for at anchor b (R84). -/
def decodeXa (w v : Nat) (b : Int) : Num :=
  if v = 2 ^ (w - 1) - 1 then .inf false
  else if v = 2 ^ (w - 1) + 1 then .inf true
  else if v = 2 ^ (w - 1) then .nan false
  else Num.ofInt (BitVec.ofNat w v).toInt b

/-- The element's value at anchor a as a number leaving an adder of width w: a finite total is first clamped to the
window (R82, R88). -/
def XaElem.leave (x : XaElem) (w : Nat) (a : Int) : Num × BitVec 16 :=
  if x.tag = 0 then
    let (v, fl) := narrow w x.total a a
    (Num.ofInt v a, fl)
  else if x.tag = 1 then (.inf false, 0)
  else if x.tag = 2 then (.inf true, 0)
  else (.nan false, 0)

/-- The 32 bytes of an XA192 spill (R85). -/
def XaElem.spill (x : XaElem) : Bytes :=
  toLe 24 x.n.toNat ++ toLe 4 x.carry.toNat ++
    [BitVec.ofNat 8 (x.tag.toNat + 4 * b2n x.posInf + 8 * b2n x.negInf)] ++ [0, 0, 0]

/-- An element at anchor a leaving into the XA192 window of a descriptor's anchor b, as 32 bytes in the form of R85: a
finite total is clamped or truncated there, and its carry word is 0 (R82, R83; log entry 43). -/
def XaElem.toSpill (x : XaElem) (a b : Int) : Nat × BitVec 16 :=
  let (v, fl) := if x.tag = 0 then narrow 192 x.total a b else (0, 0)
  (leNat { x with n := BitVec.ofInt 192 v, carry := 0 }.spill, fl)

/-- The element an XA192 spill restores (R86). -/
def XaElem.unspill (b : Bytes) : XaElem :=
  let t := field b 28 1
  { n := BitVec.ofNat 192 (field b 0 24), carry := BitVec.ofNat 32 (field b 24 4)
    tag := BitVec.ofNat 2 t, posInf := bit t 2, negInf := bit t 3 }

/-- The number an XA192 spill stands for at anchor b (R68). -/
def decodeSpill (bs : Bytes) (b : Int) : Num :=
  let x := XaElem.unspill bs
  if x.tag = 0 then Num.ofInt x.total b else if x.tag = 1 then .inf false else if x.tag = 2 then .inf true else .nan false

/-! ## The stipple generator (R97) -/

/-- Rotation to the left in 32 bits. -/
def rotl32 (v : BitVec 32) (n : Nat) : BitVec 32 := v.rotateLeft n

/-- One of the ten rounds. -/
def stippleRound (k0 k1 : BitVec 32) (x : BitVec 32 × BitVec 32 × BitVec 32 × BitVec 32) (i : Nat) :
    BitVec 32 × BitVec 32 × BitVec 32 × BitVec 32 :=
  let (x0, x1, x2, x3) := x
  let x0 := x0 + x1
  let x3 := rotl32 (x3 ^^^ x0) 13
  let x2 := x2 + x3
  let x1 := rotl32 (x1 ^^^ x2) 9
  let x0 := x0 + x1
  let x3 := rotl32 (x3 ^^^ x0) 21
  let x2 := x2 + x3
  let x1 := rotl32 (x1 ^^^ x2) 5
  (x0 ^^^ (k0 + BitVec.ofNat 32 (i * 0x9E3779B9)), x1, x2 + k1 + BitVec.ofNat 32 i, x3)

/-- The words x0 to x3 of the stipple output. -/
def stipple (key : BitVec 64) (counter : BitVec 128) : BitVec 32 × BitVec 32 × BitVec 32 × BitVec 32 :=
  (List.range 10).foldl (stippleRound (key.setWidth 32) ((key >>> 32).setWidth 32))
    (counter.setWidth 32, (counter >>> 32).setWidth 32, (counter >>> 64).setWidth 32, (counter >>> 96).setWidth 32)

/-- Word x0 for a counter given as a number. -/
def stippleWord (key : BitVec 64) (counter : Nat) : BitVec 32 := (stipple key (BitVec.ofNat 128 counter)).1

/-- The counter of R91: tensor id, linear index, stream. -/
def stippleCounter (tensorId index stream : Nat) : Nat := tensorId % 2 ^ 32 + index % 2 ^ 64 * 2 ^ 32 + stream % 2 ^ 32 * 2 ^ 96

end Sys2Proof.Machine
end

