-- ==== Sys2Proof/Machine/Ops.lean ====
section
/-! DEFINITION. The named operations over State that several meanings share: access to its parts, the dictionary's
values, memory by space and share, interrupts, the log, semaphores, terminal status, group aborts and the start of a
teardown. -/

namespace Sys2Proof.Machine

/-- What a meaning answers. -/
abbrev Result := Host.Outcome State Fault Refusal

/-! ## Parts of the state -/

/-- Context c. -/
def State.ctx (s : State) (c : Nat) : Ctx := s.ctxs.get {} c
/-- The state with context c changed. -/
def State.updCtx (s : State) (c : Nat) (f : Ctx → Ctx) : State := { s with ctxs := s.ctxs.put c (f (s.ctx c)) }
/-- Core k. -/
def State.core (s : State) (k : Nat) : Core := s.cores.get {} k
/-- The state with core k changed. -/
def State.updCore (s : State) (k : Nat) (f : Core → Core) : State := { s with cores := s.cores.put k (f (s.core k)) }
/-- Stream `key` of a core (2 c and 2 c + 1 for context c and its urgent stream). -/
def Core.stream (x : Core) (key : Nat) : Stream := x.streams.get {} key
/-- The core with one stream changed. -/
def Core.updStream (x : Core) (key : Nat) (f : Stream → Stream) : Core :=
  { x with streams := x.streams.put key (f (x.stream key)) }
/-- The state with stream `key` of core k changed. -/
def State.updStream (s : State) (k key : Nat) (f : Stream → Stream) : State := s.updCore k fun x => x.updStream key f
/-- Link l. -/
def State.link (s : State) (l : Nat) : Link := s.links.get {} l
/-- The state with link l changed. -/
def State.updLink (s : State) (l : Nat) (f : Link → Link) : State := { s with links := s.links.put l (f (s.link l)) }
/-- Group g. -/
def State.group (s : State) (g : Nat) : Group := s.groups.get {} g
/-- The state with group g changed. -/
def State.updGroup (s : State) (g : Nat) (f : Group → Group) : State :=
  { s with groups := s.groups.put g (f (s.group g)) }
/-- The state with the tick unit changed. -/
def State.updTick (s : State) (f : TickUnit → TickUnit) : State := { s with tick := f s.tick }
/-- The wheel of engine e. -/
def State.wheel (s : State) (e : Nat) : Wheel := s.wheels.get {} e
/-- The state with the wheel of engine e changed. -/
def State.updWheel (s : State) (e : Nat) (f : Wheel → Wheel) : State :=
  { s with wheels := s.wheels.put e (f (s.wheel e)) }
/-- The state with the Quill part of context c changed. -/
def State.updQuill (s : State) (c : Nat) (f : CtxQuill → CtxQuill) : State :=
  s.updCtx c fun x => { x with quill := f x.quill }
/-- The state with the life of context c changed. -/
def State.updLife (s : State) (c : Nat) (f : Life → Life) : State := s.updCtx c fun x => { x with life := f x.life }
/-- The state with the host part of function f changed. -/
def State.updHost (s : State) (c : Nat) (f : HostFn → HostFn) : State := s.updCtx c fun x => { x with host := f x.host }
/-- Ring r of context c. -/
def State.ring (s : State) (c r : Nat) : Ring := (s.ctx c).host.rings.get {} r
/-- The state with command `uid` of context c changed. -/
def State.updCmd (s : State) (c uid : Nat) (f : Cmd → Cmd) : State :=
  s.updCtx c fun x => { x with cmds := mapIf (fun y => y.uid == uid) f x.cmds }
/-- Command `uid` of context c, while it is not terminal. -/
def State.cmd (s : State) (c uid : Nat) : Option Cmd := (s.ctx c).cmds.find? fun y => y.uid == uid
/-- The tick as a number. -/
def State.now (s : State) : Nat := s.tick.now.toNat
/-- Sends something outside. -/
def State.emit (s : State) (o : Output) : State := { s with out := o :: s.out }

/-- The events of a queue whose depth changes in a cycle; `cap` 0 for a queue that has no capacity of its own (R251). -/
def queueEvents (cap before after : Nat) : List QueueEvent :=
  (if before = 0 ∧ after ≠ 0 then [.notEmpty] else []) ++ (if before ≠ 0 ∧ after = 0 then [.empty] else []) ++
    (if cap = 0 then []
    else if before ≠ cap ∧ after = cap then [.full] else if before = cap ∧ after ≠ cap then [.notFull] else [])

/-- A queue raises the events of a change of its depth (R251). -/
def State.raiseQueue (s : State) (q : QueueId) (cap before after : Nat) : State :=
  (queueEvents cap before after).foldl (fun s e => s.emit (.queue q e)) s

/-- Entries of a ring (R790). -/
def Ring.entries (r : Ring) : Nat := 2 ^ r.log2.toNat
/-- Descriptors that a ring holds (R789). -/
def Ring.depth (r : Ring) : Nat := (r.tail - r.head).toNat

/-- The state with ring r of context c changed, and the events of its queue (R251). -/
def State.updRing (s : State) (c r : Nat) (f : Ring → Ring) : State :=
  let y := s.ring c r
  let z := f y
  (s.updHost c fun h => { h with rings := h.rings.put r z }).raiseQueue (.ring (Fin.ofNat 64 c) (Fin.ofNat 4 r)) z.entries
    y.depth z.depth
/-- The context of a stream key. -/
def keyCtx (key : Nat) : Nat := key / 2

/-- A context that accepts commands (R498, R794). -/
def State.accepting (s : State) (c : Nat) : Bool :=
  (s.ctx c).life.state == .live || (s.ctx c).life.state == .suspended

/-! ## Dictionary values -/

/-- The number in force for entry (index, sub): the active set's value, else its default (R631). -/
def State.cfgNum (s : State) (idx sub : Nat) : Nat :=
  match s.cfg.get (.blob []) (ekey idx sub) with
  | .num v => v
  | .blob _ => defaultNum (ekey idx sub)

/-- The bytes in force for a BLOB entry. -/
def State.cfgBlob (s : State) (idx sub : Nat) : Bytes :=
  match s.cfg.get (.num 0) (ekey idx sub) with
  | .blob b => b
  | .num _ => defaultBlob (ekey idx sub)

/-- Base of a context's share: 0 SRAM, 1 HBM, 2 RESERVOIR, 3 staging (R153, R343). -/
def State.shareBase (s : State) (c space : Nat) : Nat :=
  if space = 3 then s.cfgNum (0x5200 + c) 1 else s.cfgNum (0xC100 + c) (2 * space + 1)

/-- Size of the whole share as the set gives it. -/
def State.shareFull (s : State) (c space : Nat) : Nat :=
  if space = 3 then s.cfgNum (0x5200 + c) 2 else s.cfgNum (0xC100 + c) (2 * space + 2)

/-- Size of the share a program reaches: the SRAM share less the save area (R503). -/
def State.shareSize (s : State) (c space : Nat) : Nat :=
  if space = 0 then s.shareFull c 0 - Config.saveArea else s.shareFull c space

/-- DESC_QUOTA (R183). -/
def State.quota (s : State) (c : Nat) : Nat := s.cfgNum (0xC100 + c) 7
/-- CLASS is YIELDING (R516). -/
def State.yielding (s : State) (c : Nat) : Bool := s.cfgNum (0x4100 + c) 3 == 1
/-- URGENT_ALLOWED (R517); 1 for context 0 (R547). -/
def State.urgentAllowed (s : State) (c : Nat) : Bool := s.cfgNum (0x4100 + c) 4 == 1
/-- WAIT_TIMEOUT (R532). -/
def State.waitTimeout (s : State) (c : Nat) : Nat := s.cfgNum (0x4100 + c) 5
/-- A core that is not fused off (R18). -/
def State.coreEnabled (s : State) (k : Nat) : Bool := decide (k < 32) && !(s.ident.grade.fused.contains k)
/-- The enabled cores, lowest first. -/
def State.enabledCores (s : State) : List Nat := (List.range 32).filter s.coreEnabled
/-- CORE_ENABLED (R256). -/
def State.coreMask (s : State) : Nat := (s.enabledCores.map (2 ^ ·)).sum
/-- The cores a mask names. -/
def maskCores (m : Nat) : List Nat := (List.range 32).filter (bit m)
/-- Core clock in units of 100 MHz: 25 on grade A25, 22 on B22 (R27). -/
def State.coreClock (s : State) : Nat := if s.ident.grade.isB22 then 22 else 25

/-! ## Memory -/

/-- The memory a descriptor space or share code names. -/
def spaceMem : Nat → ScrubMem
  | 0 => .sram
  | 1 => .hbm
  | 2 => .reservoir
  | _ => .staging

/-- `n` bytes of a memory. -/
def State.readMem (s : State) (m : ScrubMem) (a n : Nat) : Bytes :=
  match m with
  | .sram => s.sramMem.readBytes a n
  | .hbm => s.hbmMem.readBytes a n
  | .reservoir => s.resMem.readBytes a n
  | .staging => s.stageMem.readBytes a n

/-- A memory with bytes written. -/
def State.writeMem (s : State) (m : ScrubMem) (a : Nat) (b : Bytes) : State :=
  match m with
  | .sram => { s with sramMem := s.sramMem.writeBytes a b }
  | .hbm => { s with hbmMem := s.hbmMem.writeBytes a b }
  | .reservoir => { s with resMem := s.resMem.writeBytes a b }
  | .staging => { s with stageMem := s.stageMem.writeBytes a b }

/-- A memory with a range of zeros. -/
def State.zeroMem (s : State) (m : ScrubMem) (a n : Nat) : State :=
  match m with
  | .sram => { s with sramMem := s.sramMem.zero a n }
  | .hbm => { s with hbmMem := s.hbmMem.zero a n }
  | .reservoir => { s with resMem := s.resMem.zero a n }
  | .staging => { s with stageMem := s.stageMem.zero a n }

/-- Context c owns its shares: it is LIVE or SUSPENDED, or its teardown has not reached the scrub (R159, R539, R541). -/
def State.ownsShares (s : State) (c : Nat) : Bool :=
  match (s.ctx c).life.state with
  | .live | .suspended => true
  | .tearingDown => !(s.ctx c).life.scrubStarted
  | _ => false

/-- The address of offset `off` of context c's share of a space; an SRAM offset lies in core k (R154, R158). -/
def State.absAddr (s : State) (c k space off : Nat) : Nat :=
  s.shareBase c space + off + (if space = 0 then k * Config.sramStride else 0)

/-- The range lies in context c's share of a space (R158). -/
def State.inShare (s : State) (c space off n : Nat) : Bool := decide (off + n ≤ s.shareSize c space)

/-- `n` bytes at an offset of context c's SRAM share in core k; no address outside the share is formed (R158, log
entry 25). -/
def State.sramShare (s : State) (c k off n : Nat) : Bytes :=
  if s.inShare c 0 off n then s.readMem .sram (s.absAddr c k 0 off) n
  else tabulate (fun i => Config.outsideShare (off + i)) n

/-- The bytes from address a on with those of b from address w on laid over them. -/
def overlay (base : Bytes) (a w : Nat) (b : Bytes) : Bytes :=
  let lo := max a w
  let hi := min (a + base.length) (w + b.length)
  if lo < hi then base.take (lo - a) ++ slice b (lo - w) (hi - lo) ++ base.drop (hi - a) else base

/-- `n` bytes of a memory as a transfer of context c that is submitted now finds them: HBM with the writes of the
context's earlier transfers, which all come before (R168). -/
def State.readOwn (s : State) (c : Nat) (m : ScrubMem) (a n : Nat) : Bytes :=
  match m with
  | .hbm => (s.hbm.xfers.filter fun x => x.ctx.val == c).foldl (fun b x => x.effects.foldl (fun b e => match e with
      | .mem .hbm w d => overlay b a w d
      | _ => b) b) (s.readMem .hbm a n)
  | m => s.readMem m a n

/-- `n` bytes at an offset of context c's HBM share (R158, log entry 25). -/
def State.hbmShare (s : State) (c off n : Nat) : Bytes :=
  if s.inShare c 1 off n then s.readOwn c .hbm (s.absAddr c 0 1 off) n
  else tabulate (fun i => Config.outsideShare (off + i)) n

/-- A write into context c's SRAM share in core k, while the share is its own (R158, R159). -/
def State.putSram (s : State) (c k off : Nat) (b : Bytes) : State :=
  if s.inShare c 0 off b.length && s.ownsShares c then s.writeMem .sram (s.absAddr c k 0 off) b else s

/-! ## Transfers of the hub -/

/-- The lines of 64 bytes of a range of addresses. -/
def linesOf (a n : Nat) : List Nat := if n = 0 then [] else (List.range ((a + n - 1) / 64 - a / 64 + 1)).map (a / 64 + ·)

/-- A transfer joins the controller's queue at this tick (R168). -/
def State.addXfer (s : State) (x : Xfer) : State :=
  { s with hbm := { s.hbm with
      xfers := s.hbm.xfers ++ [{ x with id := s.hbm.nextXfer, submitted := s.tick.now }], nextXfer := s.hbm.nextXfer + 1 } }

/-- The transfer that an operation of the hub, for a command of context c, submits at this tick. -/
def State.hubOpen (s : State) (c : Nat) (uid : Option Nat) (write : Bool) (x : Xfer) : Bool :=
  x.hub && x.ctx.val == c && x.uid == uid && x.write == write && x.submitted == s.tick.now

/-- An engine of the hub moves lines of HBM for context c: they join its operation's transfer, with what their writing
does (R166 to R168). -/
def State.hubMove (s : State) (c : Nat) (uid : Option Nat) (write : Bool) (lines : List Nat) (effects : List Effect) : State :=
  if lines.isEmpty then s
  else if s.hbm.xfers.any (s.hubOpen c uid write) then
    { s with hbm := { s.hbm with
        xfers := mapIf (s.hubOpen c uid write) (fun x =>
          { x with lines := x.lines ++ lines.filter (fun l => !x.lines.contains l), effects := x.effects ++ effects }) s.hbm.xfers } }
  else s.addXfer { ctx := Fin.ofNat 64 c, write := write, hub := true, uid := uid, lines := lines, effects := effects }

/-- An engine of the hub writes bytes for context c, while the shares are its own: HBM through the controller (R158, R159,
R541). -/
def State.hubPut (s : State) (c : Nat) (uid : Option Nat) (m : ScrubMem) (a : Nat) (b : Bytes) : State :=
  if !s.ownsShares c then s
  else match m with
    | .hbm => s.hubMove c uid true (linesOf a b.length) [.mem .hbm a b]
    | m => s.writeMem m a b

/-- A write of an engine of the hub into context c's HBM share (R158, R159). -/
def State.putHbm (s : State) (c off : Nat) (b : Bytes) (uid : Option Nat := none) : State :=
  if s.inShare c 1 off b.length then s.hubPut c uid .hbm (s.absAddr c 0 1 off) b else s

/-- The ranges of a memory that are SCRUBBING. -/
def State.scrubs (s : State) : ScrubMem → List (Nat × Nat)
  | .sram => s.scrubSram
  | .hbm => s.scrubHbm
  | .reservoir => s.scrubRes
  | .staging => s.scrubStage

/-- The state with the SCRUBBING ranges of a memory replaced. -/
def State.setScrubs (s : State) (m : ScrubMem) (l : List (Nat × Nat)) : State :=
  match m with
  | .sram => { s with scrubSram := l }
  | .hbm => { s with scrubHbm := l }
  | .reservoir => { s with scrubRes := l }
  | .staging => { s with scrubStage := l }

/-- Partition unit in bytes (R149, R343). -/
def unitBytes : ScrubMem → Nat
  | .hbm => 2097152
  | _ => 65536

/-- Number of units of a memory (R149). -/
def unitCount : ScrubMem → Nat
  | .sram => 624
  | .hbm => 147456
  | .reservoir => 768
  | .staging => 1536

/-- Unit u lies in one of the ranges. -/
def inRanges (l : List (Nat × Nat)) (u : Nat) : Bool := l.any fun r => decide (r.1 ≤ u) && decide (u < r.1 + r.2)

/-- The ranges without unit u. -/
def dropUnit (l : List (Nat × Nat)) (u : Nat) : List (Nat × Nat) :=
  l.flatMap fun r =>
    if r.1 ≤ u ∧ u < r.1 + r.2 then
      (if r.1 < u then [(r.1, u - r.1)] else []) ++ (if u + 1 < r.1 + r.2 then [(u + 1, r.1 + r.2 - (u + 1))] else [])
    else [r]

/-- Number of units of a first, count range that are SCRUBBING. -/
def overlap (l : List (Nat × Nat)) (first n : Nat) : Nat :=
  (l.map fun r => min (r.1 + r.2) (first + n) - max r.1 first).sum

/-- Number of units of the shares (memory code, base, size) still SCRUBBING, in bytes (R197); a unit of SRAM counts
in every enabled core. -/
def State.scrubBytes (s : State) (shares : List (Nat × Nat × Nat)) : Nat :=
  (shares.map fun (m, base, size) =>
    let u := unitBytes (spaceMem m)
    overlap (s.scrubs (spaceMem m)) (base / u) (size / u) * u * (if m = 0 then s.enabledCores.length else 1)).sum

/-- The four shares of a context. -/
def State.shares (s : State) (c : Nat) : List (Nat × Nat × Nat) :=
  [0, 1, 2, 3].map fun m => (m, s.shareBase c m, s.shareFull c m)

/-! ## Ticks and slots -/

/-- Start slot number of the wheel at a tick (R506). -/
def Wheel.slotAt (w : Wheel) (t : Nat) : Nat := t / (w.len / 4) % 64
/-- The table byte of a slot; a table that no set has given is all IDLE (R547). -/
def Wheel.entry (w : Wheel) (slot : Nat) : Nat := (w.table.getD slot 0x40).toNat
/-- The byte of the slot at a tick. -/
def Wheel.at (w : Wheel) (t : Nat) : Nat := w.entry (w.slotAt t)
/-- Slots of the wheel that a context owns. -/
def Wheel.owned (w : Wheel) (c : Nat) : Nat := (w.table.filter fun b => b.toNat == c).length
/-- Tick t lies at the start of a slot. -/
def Wheel.startsAt (w : Wheel) (t : Nat) : Bool := t % (w.len / 4) == 0

/-- The slots of the wheel that a context owns. -/
def Wheel.slotsOf (w : Wheel) (c : Nat) : List Nat := (List.range 64).filter fun slot => w.entry slot == c
/-- Trackers bound to a slot that transactions hold, of whichever context (R252, R515). -/
def Core.slotHeld (x : Core) (slot : Nat) : Nat := (tabulate (fun c => x.trackers.get 0 (64 * slot + c)) 64).sum
/-- Free trackers of a slot. -/
def Core.slotFree (x : Core) (slot : Nat) : Nat := Config.trackersPerSlot - x.slotHeld slot
/-- Trackers of a context on core k that are free: those of its slots that no transaction holds (R252, R515). -/
def State.freeTrackers (s : State) (k c : Nat) : Nat := (((s.wheel k).slotsOf c).map (s.core k).slotFree).sum

/-- `n` trackers of context c's slots are taken, the lowest slots first (R252, log entry 79). -/
def Core.takeTrackers (x : Core) (w : Wheel) (c n : Nat) : Core :=
  ((w.slotsOf c).foldl (fun (acc : Core × Nat) slot =>
    let t := min acc.2 (acc.1.slotFree slot)
    if t = 0 then acc
    else ({ acc.1 with trackers := acc.1.trackers.put (64 * slot + c) (acc.1.trackers.get 0 (64 * slot + c) + t) }, acc.2 - t))
    (x, n)).1

/-- `n` transactions of context c retire: their trackers go to the slots they are bound to (R254, R515). -/
def Core.releaseTrackers (x : Core) (c n : Nat) : Core :=
  { x with trackers := (x.trackers.foldl (fun (acc : SMap Nat × Nat) e =>
      if e.1 % 64 = c then
        let t := min acc.2 e.2
        (if t = e.2 then acc.1 else acc.1 ++ [(e.1, e.2 - t)], acc.2 - t)
      else (acc.1 ++ [e], acc.2)) ([], n)).1 }

/-- Context c's place for an operation in unit u of a core. -/
def unitKey (c u : Nat) : Nat := 16 * c + u

/-! ## Flags and counters of a context -/

/-- Sets sticky flags (R98). -/
def State.raiseFlags (s : State) (c : Nat) (f : BitVec 16) : State :=
  s.updCtx c fun x => { x with flags := x.flags ||| (f &&& Flag.defined) }

/-- Counts elements out of bounds and sets the OOB flag (R189). -/
def State.countOob (s : State) (c n : Nat) : State :=
  if n = 0 then s else (s.updCtx c fun x => { x with oobCount := satAdd x.oobCount n }).raiseFlags c Flag.oob

/-! ## Interrupts and the host -/

/-- Context c is mirrored: the pair formed before it was created (R602, R603). -/
def State.mirrored (s : State) (c : Nat) : Bool := decide (c ≠ 0) && s.pair.role != 0 && decide (s.pair.state = 1)

/-- The device sends nothing to the host for context c: it is a secondary that has not been promoted (R607, R615). -/
def State.silent (s : State) (c : Nat) : Bool :=
  s.pair.role == 2 &&
    (s.pair.state == 1 || (decide (c ≠ 0) && (s.pair.state == 2 || s.pair.state == 3 || s.pair.state == 4)))

/-- A cause of MSI-X vector v of function f (R804). -/
def State.raise (s : State) (f v : Nat) : State :=
  if s.silent f then s
  else
    let old := (s.ctx f).host.intStatus
    let new := old ||| ((1 : BitVec 11) <<< v)
    let s := s.updHost f fun h => { h with intStatus := new }
    if old = new || !s.pcie.linkUp then s else s.emit (.msix (Fin.ofNat 64 f) v)

/-- A write to host memory, discarded while there is no host (R809). -/
def State.hostWrite (s : State) (addr : Nat) (b : Bytes) : State :=
  if s.pcie.linkUp then { s with hostMem := s.hostMem.writeBytes addr b }.emit (.hostWrite addr b) else s

/-- The state change of a context (R545, R803). -/
def State.raiseStateChange (s : State) (c : Nat) : State :=
  let s := s.raise c 2
  if c = 0 then s else s.raise 0 9

/-- A primary forwards an input of a mirrored context to its secondary (R605). -/
def State.forwardIn (s : State) (c : Nat) (i : FwdInput) : State :=
  if s.mirrored c && s.pair.role == 1 then s.emit (.forward s.tick.now i) else s

/-! ## The log -/

/-- A record joins the log ring (R721 to R723). When the ring is full, the oldest record leaves it and the new one enters
in the next cycle, behind those that wait already (R250). -/
def State.logEvent (s : State) (severity source code : Nat) (args : List Nat) : State :=
  if severity < s.cfgNum 0x7020 4 then s
  else
    let f := s.fw
    let rec' : LogRec :=
      { tick := s.tick.now, seq := f.logSeq, severity := severity, source := source, code := code,
        args := [args.getD 0 0, args.getD 1 0, args.getD 2 0, args.getD 3 0] }
    let full := decide (Config.logRecords ≤ f.log.length + f.logWaiting.length)
    let waits := full || !f.logWaiting.isEmpty
    let old := if full then f.log.drop 1 else f.log
    let log := if waits then old else old ++ [rec']
    { s with fw := { f with
        log := log, logWaiting := if waits then f.logWaiting ++ [rec'] else [], logSeq := f.logSeq + 1
        logOverwritten := if full then f.logOverwritten + 1 else f.logOverwritten } }.raiseQueue .log Config.logRecords
      f.log.length log.length

/-- The records that wait enter the log ring (R250, R722). -/
def State.pushLog (s : State) : State :=
  let f := s.fw
  if f.logWaiting.isEmpty then s
  else
    let log := f.log ++ f.logWaiting
    { s with fw := { f with log := log, logWaiting := [] } }.raiseQueue .log Config.logRecords f.log.length log.length

/-- Arguments of a log record that the spec does not state (log entry 33), by the record's number. -/
def freeArgs (k : Nat) : List Nat := tabulate (fun i => Config.logField (16 + 4 * k + i)) 4

/-- What the firmware does in which it passes a trace point: serving a request, ending a configuration check, a flash write
or a step's build, running a section of the conductor. -/
inductive Service where
  | request (op : Nat)
  | check
  | flash
  | build
  | template
  deriving DecidableEq, Repr

/-- The number of a service, which numbers its free trace point. -/
def Service.code : Service → Nat
  | .check => 0
  | .flash => 1
  | .build => 2
  | .template => 3
  | .request op => 4 + op

/-- The firmware passes the trace point of a service: the point emits a record while its bit of TRACE_MASK is set (R724).
Which point a service has, if any, and the record's severity and arguments are free (log entry 86). -/
def State.trace (s : State) (k : Service) : State :=
  match Config.tracePoint k.code with
  | none => s
  | some p =>
    if ((s.cfgBlob 0x7020 5).getD (p.val / 8) 0).getLsbD (p.val % 8) then
      s.logEvent (Config.logField (64 + k.code) % 5) 7 p.val (freeArgs (16 + k.code))
    else s

/-! ## Semaphores -/

/-- The count of semaphore n of context c. -/
def State.sem (s : State) (c n : Nat) : Nat := ((s.ctx c).sems.get 0 n).toNat
/-- Sets the count of a semaphore. -/
def State.setSem (s : State) (c n v : Nat) : State :=
  s.updCtx c fun x => { x with sems := x.sems.put n (BitVec.ofNat 32 v) }

/-- Adds to a semaphore without the fault: the state and whether R231 or R232 faults the context. -/
def State.addSem (s : State) (c n amount : Nat) : State × Bool :=
  if n = 0xFFFF then (s, false)
  else if Config.semaphores ≤ n then (s, true)
  else if 0xFFFFFFFF < s.sem c n + amount then (s, true)
  else (s.setSem c n (s.sem c n + amount), false)

/-! ## Group abort -/

/-- This device's rank in a group (R400). -/
def State.rankIn (s : State) (g : Nat) : Nat := (indexOf (· == s.topo.selfAddr) (s.group g).members).getD 0

/-- One detection is before another (R425). -/
def detectBefore (a b : BitVec 8 × Word × BitVec 32) : Bool :=
  decide (a.2.1.toNat < b.2.1.toNat) || (a.2.1 == b.2.1 && decide (a.2.2.toNat < b.2.2.toNat))

/-- The lower of a detection and the one held. -/
def lowerDetect (old : Option (BitVec 8 × Word × BitVec 32)) (d : BitVec 8 × Word × BitVec 32) :
    Option (BitVec 8 × Word × BitVec 32) :=
  match old with
  | none => some d
  | some o => if detectBefore d o then some d else some o

/-- This member detects a failure of group g now: it records the detection and floods it (R423, R424). -/
def State.detect (s : State) (g : Nat) (code : BitVec 8) : State :=
  let d := (code, s.tick.now, BitVec.ofNat 32 (s.rankIn g))
  let s := s.updGroup g fun x => { x with detection := if x.fixed then x.detection else lowerDetect x.detection d }
  s.emit (.flood (Fin.ofNat 4096 g) d.1 d.2.1 d.2.2)

/-- A step of the group has no outcome. -/
def CollStep.open_ (t : CollStep) : Bool := t.phase == .waiting || t.phase == .running

/-- Detection with a code on every group that has a step without an outcome for which a test holds (R423). -/
def State.detectAll (s : State) (code : BitVec 8) (p : CollStep → Bool) : State :=
  (s.groups.filter fun g => g.2.steps.any fun t => t.open_ && p t).foldl (fun s g => s.detect g.1 code) s

/-! ## Energy -/

/-- R_n of R733, from the values in force. -/
def State.refillOf (s : State) (n : Nat) : Nat :=
  (s.energy.capW - s.ident.staticW) * s.energy.windowGt * s.energy.scale * s.energy.shares.get 0 n * 16 /
    (256 * 65536 * 10000)

/-- The largest balance of a context (R733). -/
def State.balanceCap (s : State) (n : Nat) : Int := (s.energy.carry * s.refillOf n : Nat)

/-- Metered energy in µJ of an amount in pJ (R743). -/
def microjoule (pj : Nat) : Nat := ceilDiv pj 1000000

/-- True-up of a command at its terminal status (R743, R745). -/
def State.trueUp (s : State) (c : Nat) (x : Cmd) : State :=
  let m := microjoule x.picojoule
  let tag := if x.debited then x.tag else 0
  let s := { s with energy := { s.energy with windowDebits := s.energy.windowDebits + m } }
  if c = 0 then s
  else s.updCtx c fun y =>
    { y with energy := { y.energy with balance := min (y.energy.balance + tag - m) (s.balanceCap c) } }

/-! ## Terminal status -/

/-- The completion record of R217. -/
def completionRecord (cmdId : BitVec 32) (status : Nat) (tick : Word) (result : BitVec 32) : Bytes :=
  toLe 4 cmdId.toNat ++ toLe 1 status ++ List.replicate 3 0 ++ toLe 8 tick.toNat ++ toLe 4 result.toNat ++
    List.replicate 12 0

/-- The bus address of the next completion slot (R790). -/
def Ring.cqSlot (r : Ring) : Nat := r.cqBase.toNat + 32 * (r.cqTail.toNat % r.entries)

/-- Writes a record at the completion slot CQ_TAIL of ring r and raises a vector (R797, R798); a secondary keeps it
back (R607). -/
def State.writeRecord (s : State) (c r : Nat) (rec' : Bytes) (vector : Nat) : State :=
  let addr := (s.ring c r).cqSlot
  let s :=
    if s.silent c then
      { s with pair := { s.pair with heldRecords := s.pair.heldRecords ++ [(Fin.ofNat 64 c, vector, addr, rec', s.tick.now)] } }
    else s.hostWrite addr rec'
  (s.updRing c r fun x => { x with cqTail := x.cqTail + 1 }).raise c vector

/-- The status R239 chooses for a command that was not faulted; ABORT_LATE and PAIR_DIVERGENCE stand beside the order
(R241, R612). -/
def Cmd.status (x : Cmd) : Nat :=
  if x.aborted then 0x02 else if x.diverged then 0x0C else if x.collAbort then 0x03 else if x.refused then 0x0B
  else if x.late then 0x04 else if x.oobWrite then 0x05 else if x.abortLate then 0x01 else 0x00

/-- The hash of one output: the first 32 bytes of SHA-384 over its kind, destination, 8-byte target offset, length and
bytes (R609, log entry 16). -/
def outputHash (kind dest off : Nat) (b : Bytes) : BitVec 256 :=
  BitVec.ofNat 256 (leNat ((Sha.sha384 (Config.outputKind kind dest ++ toLe 8 off ++ Config.outputLength b.length ++ b)).take 32))

/-- The digest hash of a completion record, its TERMINAL_TICK taken as the primary's (R609). -/
def State.recordHash (s : State) (c : Nat) (x : Cmd) (status : Nat) : BitVec 256 :=
  let t := if s.pair.role = 2 then s.now - s.cfgNum 0x9020 2 else s.now
  outputHash 0 c 0 (completionRecord x.cmdId status (BitVec.ofNat 64 t) x.result)

/-- The digest goes to the partner, or waits for it on the secondary (R610), and into the step record of a serving
step's command (R611). -/
def State.sendDigest (s : State) (c : Nat) (x : Cmd) (status : Nat) : State :=
  if !s.mirrored c then s
  else
    let d := x.digest + s.recordHash c x status
    let cf : CtxId := Fin.ofNat 64 c
    let s :=
      match x.step with
      | none => s
      | some n =>
        s.putHbm c (n + 96) (toLe 32 d.toNat)
    if s.pair.role = 2 then
      { s with pair := { s.pair with digests := s.pair.digests ++ [(cf, x.cmdId, d, s.tick.now)] } }
    else s.emit (.digest cf x.cmdId d s.tick.now)

/-- A command reaches terminal status: its record, JOBS, its completion semaphore, the true-up, and it leaves the
context's commands (R217, R218, R543, R743, R797); in TRIPPED no command does (R763). The Bool says that the completion semaphore faults the context;
`written` false leaves the record out (R796). A command that is terminal already has had its one status (R238). -/
def State.terminal (s : State) (c : Nat) (x : Cmd) (status : Nat) (written : Bool := true) : State × Bool :=
  if s.safety.tripped || (s.cmd c x.uid).isNone then (s, false) else
  let s := s.updCtx c fun y =>
    { y with
      cmds := y.cmds.filter fun z => z.uid != x.uid
      life := { y.life with jobs := if x.type = 1 then y.life.jobs + 1 else y.life.jobs } }
  let s := s.trueUp c x
  let s := s.sendDigest c x status
  let s := if written then s.writeRecord c x.ring.val (completionRecord x.cmdId status s.tick.now x.result) (4 + x.ring.val)
    else s
  if status = 6 then (s, false) else s.addSem c x.sem.toNat 1

/-! ## Teardown -/

/-- The state of a mailbox after its request is abandoned (R656). -/
def Mailbox.abandon (m : Mailbox) : Mailbox :=
  { m with busy := false, done := false, taken := [], ready := none, copying := false, copied := none }

/-- Teardown of context c starts (R537, R538): every command ends, the mailbox request is abandoned (R656), the
sequence table and the request ring are cleared (R559, R591), the rosters return to IDLE (R396), the energy balance is
discarded (R734), and the groups with a step in flight detect a FAULT (R423). A context that is FREE or already TEARING_DOWN is left alone. -/
def State.teardown (s : State) (c cause : Nat) : State :=
  let st := (s.ctx c).life.state
  if st = .free ∨ st = .tearingDown then s
  else
    let s := s.updCtx c fun x =>
      { x with
        life := { x.life with
          state := .tearingDown, teardownTick := s.tick.now, cause := cause, stopped := false, scrubStarted := false
          abandoned := false, suspendOnCreate := false }
        host := { x.host with mbx := x.host.mbx.abandon }
        serving := { x.serving with seqs := [], reqHead := 0, reqTail := 0 }, rosters := [] }
    let status := if cause = 2 ∨ cause = 3 then 6 else 2
    let s := (s.ctx c).cmds.foldl (fun s x => (s.terminal c x status).1) s
    let s := s.updCtx c fun x => { x with energy := { x.energy with balance := 0, refill := 0 } }
    let s := s.detectAll 4 fun t => t.ctx.val == c
    s.raiseStateChange c

/-- CTX_FAULT: teardown with cause FAULTED (R536). -/
def State.ctxFault (s : State) (c : Nat) : State := s.teardown c 2

/-- Signals semaphore n, faulting the context where R231 or R232 says so. -/
def State.signalSem (s : State) (c n amount : Nat) : State :=
  match s.addSem c n amount with
  | (s', true) => s'.ctxFault c
  | (s', false) => s'

/-- Terminal status with the fault its completion semaphore may cause. -/
def State.finishCmd (s : State) (c : Nat) (x : Cmd) (status : Nat) : State :=
  match s.terminal c x status with
  | (s', true) => s'.ctxFault c
  | (s', false) => s'

/-! ## Effects of operations in flight -/

/-- Marks a vector register as live (R526). -/
def markLive (l : List Nat) (v : Nat) : List Nat := if l.contains v then l else v :: l

/-- The live vector registers after a write of register v: none of them after END (R206, R526). -/
def Stream.liveAfter (st : Stream) (v : Nat) : List Nat := if st.status == .ended then st.liveV else markLive st.liveV v

/-- Writes the 256 lanes of a vector register. -/
def Stream.setV (st : Stream) (v : Nat) (lanes : List F32) : Stream :=
  { st with
    vregs := (List.range 256).foldl (fun m i => if lanes.getD i 0 = 0 then m.del (256 * v + i)
      else m.put (256 * v + i) (lanes.getD i 0)) st.vregs
    liveV := st.liveAfter v }

/-- Writes one lane. -/
def Stream.setLane (st : Stream) (v i : Nat) (x : F32) : Stream :=
  { st with
    vregs := if x = 0 then st.vregs.del (256 * v + i) else st.vregs.put (256 * v + i) x
    liveV := st.liveAfter v }

/-- The 256 lanes of a vector register. -/
def Stream.lanes (st : Stream) (v : Nat) : List F32 := tabulate (fun i => st.vregs.get 0 (256 * v + i)) 256
/-- A scalar register. -/
def Stream.s (st : Stream) (n : Nat) : Word := st.sregs.get 0 n
/-- Writes a scalar register. -/
def Stream.setS (st : Stream) (n : Nat) (v : Word) : Stream := { st with sregs := st.sregs.put n v }
/-- The tile of an array. -/
def Stream.tile (st : Stream) (a : Nat) : Tile := st.tiles.get {} a

/-- Writes the tile of an array, which is live only until END (R206). -/
def Stream.setTile (st : Stream) (a : Nat) (t : Tile) : Stream :=
  { st with tiles := st.tiles.put a { t with live := t.live && st.status != .ended } }

/-- The register result of an operation of command `uid`: only to the stream of that command (R205, R245). -/
def State.putResult (s : State) (k key uid : Nat) (f : Stream → Stream) : State :=
  if s.accepting (keyCtx key) && ((s.core k).stream key).uid == uid then s.updStream k key f else s

/-- What a movement record keeps after a count of it (R329, R333, R338). -/
def MoveState.after (x : MoveState) (e : MoveEvent) : MoveState :=
  match e with
  | .arrival q row tag own =>
    { x with
      tags := x.tags.put (q * 2 ^ 24 + row) tag, arrivals := x.arrivals.put q (x.arrivals.get 0 q + 1)
      scatterOut := if own then x.scatterOut.map (· - 1) else x.scatterOut }
  | .landing t own =>
    { x with
      landings := x.landings.put t (x.landings.get 0 t + 1)
      returnOut := if own then x.returnOut.map (· - 1) else x.returnOut }
  | .combined t => { x with combined := t :: x.combined }

/-- The Quill's state after a count of a movement record, where it still keeps the record. -/
def CtxQuill.after (q : CtxQuill) (key : Nat) (e : MoveEvent) : CtxQuill :=
  if q.moves.any (fun m => m.1 == key) then { q with moves := q.moves.put key ((q.moves.get {} key).after e) } else q

/-- ROUTEs held for the bias row of a layer go on (R287). -/
def CtxQuill.letGo (q : CtxQuill) (layer : Nat) : CtxQuill :=
  { q with routes := mapIf (fun o => o.layer == layer) (fun o => { o with held := false }) q.routes }

/-- The biases of a layer's update stand in their row: when it is the latest, ROUTEs held for them go on (R285, R287). -/
def CtxQuill.rowWritten (q : CtxQuill) (layer update : Nat) : CtxQuill :=
  if q.bal.any (fun b => b.1 == layer && b.2.updates == update) then
    { q.letGo layer with
      bal := q.bal.map fun b => if b.1 = layer then (b.1, { b.2 with rowWritten := true, rowValues := [] }) else b }
  else q

/-- A run of elements of a step has been written (R416). -/
def Group.written (g : Group) (generation number : Nat) : Group :=
  if g.generation.toNat = generation then
    { g with steps := mapIf (fun t => t.number == number) (fun t => { t with writing := t.writing - 1 }) g.steps }
  else g

/-- One effect of an operation of context c on core k whose stream is `key`; a write of memory goes only to a context
that still owns its shares, a result only to a stream that is there (R541). -/
def State.apply (s : State) (k key uid : Nat) (e : Effect) : State :=
  let c := keyCtx key
  match e with
  | .mem m a b => if s.ownsShares c then s.writeMem m a b else s
  | .atomXa m a w anchor x => if !s.ownsShares c then s else
    let (y, f) := enterNum w anchor (decodeXa w (leNat (s.readMem m a (w / 8))) anchor)
    let (z, g) := enterNum w anchor (f32 x)
    let (e, h) := ({} : XaElem).addAll [(y, f), (z, g)]
    let (v, i) := e.toXa w anchor anchor
    (s.writeMem m a (toLe (w / 8) v)).raiseFlags c (h ||| i)
  | .atomF32 m a x => if !s.ownsShares c then s else
    let (v, f) := fadd (BitVec.ofNat 32 (leNat (s.readMem m a 4))) x
    (s.writeMem m a (toLe 4 v.toNat)).raiseFlags c f
  | .vreg v l => s.putResult k key uid fun st => st.setV v.val l
  | .lane v i x => s.putResult k key uid fun st => st.setLane v.val i x
  | .tile a t => s.putResult k key uid fun st => st.setTile a.val t
  | .flags f => s.raiseFlags c f
  | .oob n w => if n = 0 then s else
    let s := s.countOob c n
    if w then s.updCmd c uid fun x => { x with oobWrite := true } else s
  | .sem n amount => s.signalSem c n.toNat amount
  | .bar2 f a n => s.emit (.bar2Read f (s.readMem .hbm a n))
  | .moved key e =>
    let x := (s.ctx c).quill.moves.get {} key
    let s := s.updQuill c fun q => q.after key e
    match e with
    | .arrival q _ _ _ =>
      s.raiseQueue (.expert (Fin.ofNat 64 c) key q) x.capacity (x.arrivals.get 0 q) ((((s.ctx c).quill.moves.get {} key).arrivals.get 0 q))
    | _ => s
  | .balRow layer n => s.updQuill c fun q => q.rowWritten layer n
  | .collWritten g gen n => s.updGroup g fun x => x.written gen n
  | .irq v => s.raise c v
  | .copied => s.updHost c fun h => if h.mbx.copying then
      { h with mbx := { h.mbx with copying := false, copied := some s.tick.now } } else h

/-- All effects of an operation in flight. -/
def State.applyAll (s : State) (k : Nat) (op : InFlight) : State :=
  op.effects.foldl (fun s e => s.apply k op.stream op.uid e) s

/-- What an operation of the hub does once the lines it moved at this tick are in memory; at once when it moved none. -/
def State.hubDone (s : State) (c : Nat) (uid : Option Nat) (l : List Effect) : State :=
  let w := s.hbm.xfers.any (s.hubOpen c uid true)
  if w || s.hbm.xfers.any (s.hubOpen c uid false) then
    { s with hbm := { s.hbm with
        xfers := mapIf (s.hubOpen c uid w) (fun x => { x with effects := x.effects ++ l }) s.hbm.xfers } }
  else l.foldl (fun s e => s.apply 0 (2 * c) (uid.getD 0) e) s

/-- Adds metered energy to a command (R743). -/
def State.meter (s : State) (c uid pj : Nat) : State :=
  s.updCmd c uid fun x => { x with picojoule := x.picojoule + pj }

/-- Adds one output to the digest of a mirrored context's command (R609). -/
def State.digestOutput (s : State) (c uid kind dest off : Nat) (b : Bytes) : State :=
  if s.mirrored c then s.updCmd c uid fun x => { x with digest := x.digest + outputHash kind dest off b } else s

/-! ## Descriptors posted by the device's own engines -/

/-- An engine of the Zalquin posts a descriptor on a ring (R800); a secondary takes its descriptors from its primary
(R605, R607). -/
def State.postOn (s : State) (c r : Nat) (desc : Bytes) : State :=
  if s.silent c then s
  else
    let y := s.ring c r
    (s.hostWrite (y.base.toNat + 64 * (y.tail.toNat % y.entries)) desc).updRing c r fun y => { y with tail := y.tail + 1 }

/-- A ring has room for a descriptor of an engine (R250, R800). -/
def State.ringRoom (s : State) (c r : Nat) : Bool :=
  let y := s.ring c r
  y.enable && decide ((y.tail - y.head).toNat < y.entries)

/-- What the conductor does next of a section (R385, R386). -/
def State.conductStep (s : State) (c : Nat) (o : CondOp) : State :=
  match o with
  | .patch off value => s.enabledCores.foldl (fun s k => s.putSram c k off (toLe 4 value)) s
  | .post d => s.postOn c 3 d
  | .broken => s.ctxFault c

/-- The conductor goes on with its section, until a descriptor meets a full ring 3 (R250, R386, R387). -/
def State.conduct (s : State) (c : Nat) : List CondOp → State
  | [] => s.updQuill c fun q => { q with conductor := [] }
  | o :: rest =>
    match o with
    | .post _ =>
      if s.ringRoom c 3 then State.conduct (s.conductStep c o) c rest
      else s.updQuill c fun q => { q with conductor := o :: rest }
    | .broken => (s.updQuill c fun q => { q with conductor := [] }).conductStep c o
    | .patch _ _ => State.conduct (s.conductStep c o) c rest

/-- The conductor's waiting work goes on. -/
def State.runConductor (s : State) (c : Nat) : State := s.conduct c (s.ctx c).quill.conductor

/-! ## Issuing -/

/-- A command that an ABORT taken before this tick has not found terminal: it never starts, and its cores issue nothing
more (R244). -/
def State.doomed (s : State) (c uid : Nat) : Bool :=
  (s.ctx c).cmds.any fun y => y.type == 6 && y.target == some uid && decide (y.acceptTick.toNat < s.now)

/-- A save or restore holds the stream up: it takes the slots of the stream it is made for (R527, R528). -/
def Core.blocked (x : Core) (key : Nat) : Bool :=
  x.switches.any fun w => if w.save then w.forStream == some key else w.stream == key

/-- The stream that issues on core k now (R207, R509, R510, R516): the slot's stream, when its context is LIVE, no
switch is in progress, no trip has stopped the engines and the core's clock runs (R749). -/
def State.issuer (s : State) (k : Nat) : Option Nat :=
  let x := s.core k
  match x.cur with
  | none => none
  | some key =>
    if keyCtx key < 64 ∧ (s.ctx (keyCtx key)).life.state = .live ∧ x.blocked key = false ∧
        s.safety.stopped = false ∧ x.asleep = false ∧
        (x.stream key).status = .running ∧ (x.stream key).saved = false ∧
        s.doomed (keyCtx key) (x.stream key).uid = false then some key
    else none

/-- The loop level at whose last instruction the pc stands ends an iteration or is popped (R888). -/
def loopEnd (pc : Nat) : List LoopLevel → List LoopLevel × Nat × Option (SReg × Nat)
  | [] => ([], pc + 8, none)
  | l :: t =>
    if pc = l.last then
      if l.iter + 1 < l.count then ({ l with iter := l.iter + 1 } :: t, l.start, some (l.reg, l.iter + 1))
      else loopEnd pc t
    else (l :: t, pc + 8, none)

/-- The stream after its instruction has issued: the next pc, with the loop rule (R888). -/
def Stream.advance (st : Stream) : Stream :=
  let (loops, pc, w) := loopEnd st.pc st.loops
  let st := { st with loops := loops, pc := pc }
  match w with
  | none => st
  | some (n, i) => st.setS n.val (BitVec.ofNat 64 i)

/-- A byte address offset by a signed count of instructions. -/
def branchTo (pc : Nat) (offset : BitVec 16) : Nat := ((pc : Int) + 8 * offset.toInt).toNat

end Sys2Proof.Machine
end

