-- ==== Sys2Proof/Machine/Operands.lean ====
section
/-! DEFINITION. Tensor descriptors and distribution records: parsing, the checks of R181 and R893, element addresses,
reading and writing elements with the out-of-bounds rules, and global indices (chapter 05), and the operand forms of
R888. -/

namespace Sys2Proof.Machine

/-! ## Descriptors -/

/-- A descriptor image (R176). -/
def parseDesc (b : Bytes) : Desc :=
  { tensorId := BitVec.ofNat 32 (field b 0 4), format := field b 4 1, rank := field b 5 1, space := field b 6 1
    saturate := bit (field b 7 1) 0, distributed := bit (field b 7 1) 1
    fill := BitVec.ofNat 32 (field b 8 4), anchor := sfield b 12 2, distIndex := field b 14 2, base := field b 16 6
    extents := tabulate (fun k => field b (22 + 3 * k) 3) 6
    strides := tabulate (fun k => field b (40 + 4 * k) 4) 5
    reserved := field b 7 1 / 4 + field b 60 4 }

/-- EXTENT k. -/
def Desc.ext (d : Desc) (k : Nat) : Nat := d.extents.getD k 1
/-- The stride of dimension k in bytes, for k from 1. -/
def Desc.strideBytes (d : Desc) (k : Nat) : Nat := d.strides.getD (k - 1) 0 * 64
/-- Element size. -/
def Desc.size (d : Desc) : Nat := elemSize d.format
/-- Some extent is 0 (R200). -/
def Desc.empty (d : Desc) : Bool := d.extents.any (· = 0)
/-- Number of elements. -/
def Desc.count (d : Desc) : Nat := d.extents.foldl (· * ·) 1
/-- F k of R181. -/
def Desc.reach (d : Desc) : Nat → Nat
  | 0 => d.ext 0 * d.size
  | k + 1 => (d.ext (k + 1) - 1) * d.strideBytes (k + 1) + d.reach k

/-- The format is XA64, XA96 or XA192_SPILL. -/
def Desc.isXa (d : Desc) : Bool := d.format == 7 || d.format == 8 || d.format == 9

/-- The lowest reason for which R181 refuses a descriptor of context c; 0 when it is accepted. -/
def State.descReason (s : State) (c : Nat) (d : Desc) : Nat :=
  let high := (List.range 6).any fun k => decide (d.rank ≤ k) && (d.ext k != 1 || (decide (1 ≤ k) && d.strideBytes k != 0))
  let used := ((s.ctx c).descs.filter fun e => e.2.isSome).length
  if d.rank < 1 ∨ 6 < d.rank ∨ high then 1
  else if 9 < d.format then 2
  else if 2 < d.space ∨ s.shareSize c d.space = 0 then 3
  else if d.base % 64 ≠ 0 then 4
  else if !d.empty && (List.range 6).any fun k => decide (1 ≤ k) && decide (k < d.rank) &&
      decide (d.strideBytes k < d.reach (k - 1)) then 5
  else if !d.empty && decide (s.shareSize c d.space < d.base + d.reach (d.rank - 1)) then 6
  else if (d.isXa && (decide (d.anchor < Config.anchorMin) || decide (Config.anchorMax < d.anchor))) ||
      (!d.isXa && d.anchor != 0) then 7
  else if (d.isXa && d.fill != 0) || (!d.isXa && decide (2 ^ (8 * d.size) ≤ d.fill.toNat)) then 8
  else if (d.distributed && (decide (255 < d.distIndex) || ((s.ctx c).dists.get none d.distIndex).isNone)) ||
      (!d.distributed && d.distIndex != 0xFFFF) then 9
  else if s.quota c ≤ used then 10
  else if d.reserved ≠ 0 then 11
  else 0

/-- The descriptor of entry i of context c (R184, R185). -/
def State.desc (s : State) (c i : Nat) : Option Desc := (s.ctx c).descs.get none i

/-- Byte offset of an element in its share (R178). -/
def Desc.offset (d : Desc) (co : List Nat) : Nat :=
  d.base + co.getD 0 0 * d.size + ((List.range 5).map fun k => co.getD (k + 1) 0 * d.strideBytes (k + 1)).sum

/-- Every coordinate lies below its extent (R186). -/
def Desc.inBounds (d : Desc) (co : List Nat) : Bool := (List.range 6).all fun k => decide (co.getD k 0 < d.ext k)

/-- Coordinates of the element of a linear index, dimension 0 innermost. -/
def Desc.coords (d : Desc) (i : Nat) : List Nat :=
  (d.extents.foldl (fun (acc, n) e => (acc ++ [if e = 0 then 0 else n % e], if e = 0 then 0 else n / e)) ([], i)).1

/-- Absolute address of an element for core k (R158). -/
def State.elemAddr (s : State) (c k : Nat) (d : Desc) (co : List Nat) : Nat := s.absAddr c k d.space (d.offset co)

/-- The bits of an element, and whether it lay out of bounds: FILL without a memory read (R186); an empty tensor counts
nothing (R200). -/
def State.readElem (s : State) (c k : Nat) (d : Desc) (co : List Nat) : Nat × Bool :=
  if d.inBounds co then (leNat (s.readOwn c (spaceMem d.space) (s.elemAddr c k d co) d.size), false)
  else (d.fill.toNat, !d.empty)

/-- The write of an element's bits, dropped out of bounds (R187). -/
def State.writeElem (s : State) (c k : Nat) (d : Desc) (co : List Nat) (v : Nat) : List Effect × Bool :=
  if d.inBounds co then ([.mem (spaceMem d.space) (s.elemAddr c k d co) (toLe d.size v)], false) else ([], !d.empty)

/-- How many of a list of marks are set. -/
def countTrue (l : List Bool) : Nat := (l.filter id).length

/-- Several elements with the number of them out of bounds. -/
def State.readElems (s : State) (c k : Nat) (d : Desc) (l : List (List Nat)) : List Nat × Nat :=
  let r := l.map (s.readElem c k d)
  (r.map (·.1), countTrue (r.map (·.2)))

/-- Several writes with the number of them dropped. -/
def State.writeElems (s : State) (c k : Nat) (d : Desc) (l : List (List Nat × Nat)) : List Effect × Nat :=
  let r := l.map fun (co, v) => s.writeElem c k d co v
  (r.flatMap (·.1), countTrue (r.map (·.2)))

/-- The lines of 64 bytes of a space that in-bounds elements touch, by absolute address div 64. -/
def State.elemLines (s : State) (c k : Nat) (d : Desc) (l : List (List Nat)) : List Nat :=
  ((l.filter d.inBounds).flatMap fun co =>
    let a := s.elemAddr c k d co
    (List.range ((a + d.size - 1) / 64 - a / 64 + 1)).map (a / 64 + ·)).eraseDups

/-! ## Values -/

/-- The number an element's bits stand for (R68, R84, R85). -/
def Desc.num (d : Desc) (w : Nat) : Num :=
  match d.format with
  | 7 => decodeXa 64 w d.anchor
  | 8 => decodeXa 96 w d.anchor
  | 9 => decodeSpill (toLe 32 w) d.anchor
  | f => decodeElem f w

/-- An element as binary32 (R68). -/
def Desc.toF32 (d : Desc) (w : Nat) : F32 × BitVec 16 :=
  if d.isXa then Machine.toF32 (d.num w) else loadElem d.format w

/-- A number converted to the descriptor's format, once (R76, R77, R82, R83, R88 to R96). Into an XA format, XA192_SPILL
too, it enters an empty element at the descriptor's anchor (log entry 43). -/
def Desc.fromNum (d : Desc) (m : RoundBy) (x : Num) : Nat × BitVec 16 :=
  match d.format with
  | 7 => let (y, f) := enterNum 64 d.anchor x
         let (z, g) := ({} : XaElem).add y
         let (w, h) := z.toXa 64 d.anchor d.anchor
         (w, f ||| g ||| h)
  | 8 => let (y, f) := enterNum 96 d.anchor x
         let (z, g) := ({} : XaElem).add y
         let (w, h) := z.toXa 96 d.anchor d.anchor
         (w, f ||| g ||| h)
  | 9 => let (y, f) := enterNum 192 d.anchor x
         let (z, g) := ({} : XaElem).add y
         (leNat z.spill, f ||| g)
  | f => encodeElem f m d.saturate x

/-- An element at anchor a leaving an adder of width w into the descriptor's format: into the window of an XA format at
the descriptor's anchor, else clamped to the adder's window and rounded once (R82, R83, R88 to R96). -/
def Desc.fromXa (d : Desc) (m : RoundBy) (w : Nat) (a : Int) (e : XaElem) : Nat × BitVec 16 :=
  if d.format = 7 ∨ d.format = 8 then e.toXa (8 * d.size) a d.anchor
  else if d.format = 9 then e.toSpill a d.anchor
  else
    let (x, f) := e.leave w a
    let (v, g) := d.fromNum m x
    (v, f ||| g)

/-! ## Global indices -/

/-- Extent of torus axis a, 0 W to 3 Z (R469, R193). -/
def State.axisExtent (s : State) (a : Nat) : Nat := bits s.topo.extents.toNat (15 - 4 * a) (12 - 4 * a) + 1

/-- This device's coordinate on an axis. -/
def State.axisCoord (s : State) (a : Nat) : Nat := bits s.topo.selfAddr.toNat (15 - 4 * a) (12 - 4 * a)

/-- The global coordinate of a local one under a sharding (R193). -/
def State.globalCoord (s : State) (r : DistRec) (dim loc : Nat) : Nat :=
  let g := r.globalExtents.getD dim 1
  let a := r.axes.getD dim 0
  let p := s.axisExtent a
  let x := s.axisCoord a
  match r.shardings.getD dim 0 with
  | 1 => x * ceilDiv g p + loc
  | 2 => let b := r.blocks.getD dim 1
         loc / b * (b * p) + x * b + loc % b
  | _ => loc

/-- Row-major index of coordinates in a shape, dimension 0 innermost (R196). -/
def linearIn (shape co : List Nat) : Nat :=
  match shape, co with
  | e :: es, x :: xs => x + e * linearIn es xs
  | _, _ => 0

/-- Number of blocks of an OWNER_TABLE record in a dimension. -/
def DistRec.blockCount (r : DistRec) (k : Nat) : Nat := ceilDiv (r.globalExtents.getD k 1) (r.blocks.getD k 1)

/-- Entries of the owner table: one for each block (R195). -/
def DistRec.tableEntries (r : DistRec) : Nat :=
  (List.range 6).foldl (fun n k => n * r.blockCount k) 1

/-- Block coordinates of table entry i: row-major block order, dimension 0 innermost (R195). -/
def DistRec.blockAt (r : DistRec) (i : Nat) : List Nat :=
  ((List.range 6).foldl (fun (acc : List Nat × Nat) k =>
    (acc.1 ++ [acc.2 % r.blockCount k], acc.2 / r.blockCount k)) ([], i)).1

/-- Entry i of the owner table: device address [15:0], local offset in bytes from [63:32]; [31:16] is reserved (R195). -/
def State.ownerEntry (s : State) (c : Nat) (r : DistRec) (i : Nat) : Nat × Nat :=
  let w := leNat (s.hbmShare c (r.tableOffset + 8 * i) 8)
  (w % 65536, w / 2 ^ 32 % 2 ^ 32 * 64)

/-- Local coordinates of the element of a descriptor at a byte offset of the share (R178). -/
def Desc.coordsAt (d : Desc) (off : Nat) : List Nat :=
  let (hi, rem) := [5, 4, 3, 2, 1].foldl (fun (acc : List Nat × Nat) k =>
    let st := d.strideBytes k
    if st = 0 then (0 :: acc.1, acc.2) else (acc.2 / st :: acc.1, acc.2 % st)) ([], off - d.base)
  (if d.size = 0 then 0 else rem / d.size) :: hi

/-- Global coordinates of a local element in block i of an owner table: its corner lies at the entry's local offset of the
share the tensor lies in; none where the block is another device's or does not hold the element (log entry 18). -/
def State.inBlock (s : State) (c : Nat) (d : Desc) (r : DistRec) (co : List Nat) (i : Nat) : Option (List Nat) :=
  let (dev, off) := s.ownerEntry c r i
  let corner := d.coordsAt off
  let b := r.blockAt i
  let at' := fun k => r.blocks.getD k 1 * b.getD k 0 + (co.getD k 0 - corner.getD k 0)
  if dev = s.topo.selfAddr.toNat ∧ d.base ≤ off ∧ (List.range 6).all (fun k =>
      decide (corner.getD k 0 ≤ co.getD k 0) && decide (co.getD k 0 < corner.getD k 0 + r.blocks.getD k 1) &&
        decide (at' k < r.globalExtents.getD k 1)) then some (tabulate at' 6)
  else none

/-- The linear index of an element in its tensor's global shape (R91, R195, R196). -/
def State.globalIndex (s : State) (c : Nat) (d : Desc) (co : List Nat) : Nat :=
  if !d.distributed then linearIn d.extents co
  else match (s.ctx c).dists.get none d.distIndex with
    | none => linearIn d.extents co
    | some r =>
      if r.ownerTable then
        match (List.range r.tableEntries).findSome? (s.inBlock c d r co) with
        | some g => linearIn r.globalExtents g
        | none => Config.ownerIndex c d.distIndex co
      else linearIn r.globalExtents (tabulate (fun k => s.globalCoord r k (co.getD k 0)) 6)

/-- The rounding of an element by a ROUND field (R89, R90, R91); 3 is reserved. -/
def State.roundBy (s : State) (c : Nat) (round : Nat) (seed : BitVec 64) (d : Desc) (co : List Nat) : RoundBy :=
  let m := if round = 0 then s.cfgNum 0xB000 3 else round
  if m = 2 then .stochastic (stippleWord seed (stippleCounter d.tensorId.toNat (s.globalIndex c d co) 0)) else .rne

/-! ## Distribution records (R893) -/

/-- A distribution record's image. -/
def parseDist (b : Bytes) : DistRec :=
  let owner := field b 0 1 == 1
  { ownerTable := owner, rank := field b 1 1
    globalExtents := tabulate (fun k => field b (4 + 4 * k) 4) 6
    shardings := if owner then [] else tabulate (fun k => field b (28 + k) 1) 6
    axes := if owner then [] else tabulate (fun k => field b (34 + k) 1) 6
    blocks := tabulate (fun k => if owner then field b (28 + 4 * k) 4 else field b (40 + 4 * k) 4) 6
    tableOffset := if owner then field b 52 8 else 0 }

/-- The axes that shard a dimension. -/
def DistRec.usedAxes (r : DistRec) : List Nat :=
  (List.range 6).filterMap fun k => if r.shardings.getD k 0 = 0 then none else some (r.axes.getD k 0)

/-- The fields of an image keep their rules (code 1 FORM of R893, with R194). The rows that R893 gives to SHARDED and
OWNER_TABLE do not bind an image with MODE EMPTY; the others do (log entry 28). -/
def distForm (b : Bytes) (r : DistRec) : Bool :=
  let dims := List.range 6
  (decide (field b 0 1 ≤ 1) || field b 0 1 == 0xFF) && decide (1 ≤ r.rank) && decide (r.rank ≤ 6) && zeros b 2 2 &&
  dims.all (fun k => decide (1 ≤ r.globalExtents.getD k 0) && (decide (k < r.rank) || r.globalExtents.getD k 0 == 1)) &&
  (if field b 0 1 == 0xFF then true
  else if r.ownerTable then
    dims.all (fun k => decide (1 ≤ r.blocks.getD k 0)) && r.tableOffset % 8 == 0 && zeros b 60 4
  else
    dims.all (fun k =>
      decide (r.shardings.getD k 0 ≤ 2) &&
      (if r.shardings.getD k 0 = 0 then r.axes.getD k 0 == 0 else decide (r.axes.getD k 0 ≤ 3)) &&
      (if r.shardings.getD k 0 = 2 then decide (1 ≤ r.blocks.getD k 0) else r.blocks.getD k 0 == 0)) &&
    r.usedAxes.length == r.usedAxes.eraseDups.length)

/-! ## Operand forms of instructions (R888) -/

/-- Coordinate (i0, i1) of the origin pair Sm, Sm+1. -/
def Stream.origin (st : Stream) (m : Nat) : Nat × Nat := ((st.s (m + 1)).toNat % 2 ^ 32, (st.s m).toNat % 2 ^ 32)

/-- i2 to i5 from the high-coordinates operand. -/
def Stream.high (st : Stream) (h : Option SReg) : List Nat :=
  match h with
  | none => [0, 0, 0, 0]
  | some n =>
    let a := (st.s n.val).toNat
    let b := (st.s (n.val + 1)).toNat
    [a % 2 ^ 32, a / 2 ^ 32, b % 2 ^ 32, b / 2 ^ 32]

/-- A register pair Sn, Sn+1 exists for n from 0 to 14. -/
def pairOk (n : SReg) : Bool := decide (n.val ≤ 14)

/-- The origin and high operands name register pairs. -/
def formOk (org : SReg) (high : Option SReg) : Bool :=
  pairOk org && match high with
    | none => true
    | some h => pairOk h

/-- The 256 coordinates of a vector load or store from its origin, along dimension 0. -/
def Stream.lanesAt (st : Stream) (org : SReg) (high : Option SReg) : List (List Nat) :=
  let (i0, i1) := st.origin org.val
  tabulate (fun l => (i0 + l) % 2 ^ 32 :: i1 :: st.high high) 256

/-- The 32 × 32 coordinates of a tile from its origin, row by row. -/
def Stream.tileAt (st : Stream) (org : SReg) (high : Option SReg) : List (List Nat) :=
  let (i0, i1) := st.origin org.val
  tabulate (fun i => (i0 + i % 32) % 2 ^ 32 :: (i1 + i / 32) % 2 ^ 32 :: st.high high) 1024

end Sys2Proof.Machine
end

