-- ==== Sys2Proof/Machine/Issue.lean ====
section
/-! DEFINITION. How an instruction issues: on the slot's stream, holding for its unit and its source registers
(R207, R208, R889), taking trackers for the lines it moves (R252, R253). -/

namespace Sys2Proof.Machine

/-- The word at the pc of stream `key` of core k, in the context's SRAM share, decodes to instruction i (R205, R219,
R220). -/
def State.fetches (s : State) (k : CoreId) (key : Nat) (i : Instr) : Bool :=
  decodeWord k i.vopOp (leNat (s.sramShare (keyCtx key) k.val ((s.core k.val).stream key).pc 8)) == i

/-- Instruction i issues on core k: runs `f` on the stream that issues, when i is what stands at its pc (R207, R219). With
no stream issuing, or another instruction at the pc, nothing happens. -/
def onIssue (k : CoreId) (i : Instr) (s : State) (f : Nat → Stream → State) : State :=
  match s.issuer k.val with
  | none => s
  | some key => if s.fetches k key i then f key ((s.core k.val).stream key) else s

/-- What an instruction gives its unit: the cycles it occupies it, its effects, its metered energy, the HBM lines it
reads and writes, and the number of other lines outside the core's own SRAM (R252). -/
structure UnitOp where
  cycles : Nat := 1
  effects : List Effect := []
  picojoule : Nat := 0
  reads : List Nat := []
  writes : List Nat := []
  others : Nat := 0
  deriving DecidableEq, Repr

/-- A vector register that an operation of the stream in flight still writes (R208). -/
def Core.vectorPending (x : Core) (key : Nat) (v : VReg) : Bool :=
  x.units.any fun u => match u.2 with
    | none => false
    | some op => op.stream == key && op.effects.any fun e => match e with
      | .vreg w _ => w == v
      | .lane w _ _ => w == v
      | _ => false

/-- The HBM transfer of a list of lines, `waiting` of them without a tracker, with the writes its lines make; none for no
line (R168). -/
def State.submit (s : State) (c : CtxId) (core : Option CoreId) (write : Bool) (lines : List Nat) (waiting : Nat)
    (effects : List Effect) : State × List Nat :=
  if lines.isEmpty then (s, [])
  else
    (s.addXfer { ctx := c, write := write, core := core, lines := lines, waiting := waiting, effects := effects },
      [s.hbm.nextXfer])

/-- An effect that writes bytes of HBM: it happens line by line as the lines retire (R170). -/
def Effect.inHbm : Effect → Bool
  | .mem .hbm _ _ => true
  | _ => false

/-- The context of a stream key as an identifier. -/
def ctxOf (key : Nat) : CtxId := Fin.ofNat 64 (keyCtx key)

/-- Takes trackers for an operation's lines and submits its HBM transfers: the state and the operation in flight. -/
def State.launchOp (s : State) (k : CoreId) (key : Nat) (st : Stream) (op : UnitOp) : State × InFlight :=
  let c := ctxOf key
  let total := op.reads.length + op.writes.length + op.others
  let free := s.freeTrackers k.val c.val
  let taken := min total free
  let grantR := min taken op.reads.length
  let grantW := min (taken - grantR) op.writes.length
  let heldO := taken - grantR - grantW
  let s := if taken = 0 then s else s.updCore k.val fun x => x.takeTrackers (s.wheel k.val) c.val taken
  let (s, r) := s.submit c (some k) false op.reads (op.reads.length - grantR) []
  let (s, w) := s.submit c (some k) true op.writes (op.writes.length - grantW) (op.effects.filter Effect.inHbm)
  let lines := op.reads.length + op.writes.length
  (s, { stream := key, ctx := c, uid := st.uid, cycles := op.cycles
        effects := op.effects.filter fun e => !e.inHbm
        linesLeft := total - taken, held := heldO, xfers := r ++ w
        picojoule := op.picojoule + lines * s.cfgNum 0x3010 7 })

/-- Ticks of a context spent SUSPENDED so far (R533). -/
def State.suspendedTicks (s : State) (c : Nat) : Nat :=
  let l := (s.ctx c).life
  l.suspendedTicks + (if l.state = .suspended then s.now - l.suspendedAt.toNat else 0)

/-- A stream begins to wait now. -/
def State.startWait (s : State) (key : Nat) (st : Stream) (w : StreamStatus) : Stream :=
  { st with status := w, waitSince := s.tick.now, waitSusp := s.suspendedTicks (keyCtx key) }

/-- The tiles that an issued operation is writing are live from its issue (R206). -/
def Stream.writing (st : Stream) (l : List Effect) : Stream :=
  l.foldl (fun st e => match e with
    | .tile a t => if t.live then { st with tiles := st.tiles.put a.val { st.tile a.val with live := true } } else st
    | _ => st) st

/-- The instruction occupies unit u of core k and the stream goes on, or waits for a tracker (R253). -/
def State.placeUnit (s : State) (k : CoreId) (u key : Nat) (st : Stream) (op : UnitOp) : State :=
  let (s, x) := s.launchOp k key st op
  let st := (st.writing op.effects).advance
  let u := unitKey (keyCtx key) u
  let st := if x.linesLeft = 0 then st else s.startWait key st (.waitTracker u)
  s.updCore k.val fun y => { (y.updStream key fun _ => st) with units := y.units.put u (some x) }

/-- An instruction of unit u with source vector registers: it is held while the unit is busy or a source is pending
(R208); `f` gives the operation, or none when the instruction faults its context. -/
def issueUnit (k : CoreId) (u : Nat) (srcs : List VReg) (i : Instr) (s : State)
    (f : Nat → Stream → Option UnitOp) : State :=
  onIssue k i s fun key st =>
    let x := s.core k.val
    if (x.units.get none (unitKey (keyCtx key) u)).isSome || srcs.any (x.vectorPending key) then
      s.updStream k.val key fun st => { st with status := .held i }
    else match f key st with
      | none => s.ctxFault (keyCtx key)
      | some op => s.placeUnit k u key st op

/-- HBM lines and other tracked lines that the elements of a descriptor touch: (HBM lines, number of others) (R252). -/
def State.trackedLines (s : State) (c k : Nat) (d : Desc) (l : List (List Nat)) : List Nat × Nat :=
  if d.space = 1 then (s.elemLines c k d l, 0)
  else if d.space = 0 then ([], 0)
  else ([], (s.elemLines c k d l).length)

/-- Energy of the bytes an instruction moves through a tensor SRAM port (R744, 0x3010.06). -/
def State.portEnergy (s : State) (bytes : Nat) : Nat := ceilDiv bytes 64 * s.cfgNum 0x3010 6

/-- The effects of the flags and out-of-bounds counts of an operation. -/
def tailEffects (fl : BitVec 16) (oobRead oobWrite : Nat) : List Effect :=
  [.flags fl, .oob oobRead false, .oob oobWrite true]

end Sys2Proof.Machine
end

