-- ==== Sys2Proof/Machine/Tensor.lean ====
section
/-! DEFINITION. The instructions of the tensor load and store engine (R68, R88, R186 to R189, R200, R258, R883). -/

namespace Sys2Proof.Machine

/-- The tensor engine's unit number (R889). -/
def tensorUnit : Nat := 10

/-- TLOADV (R68): 256 elements along dimension 0 from the origin, converted to binary32. An empty tensor loads
nothing (R200). -/
def execTloadv (k : CoreId) (vd : VReg) (desc : BitVec 16) (org : SReg) (high : Option SReg) (s : State) : Result :=
  .next (issueUnit k tensorUnit [] (.tloadv k vd desc org high) s fun key st =>
    let c := keyCtx key
    match s.desc c desc.toNat with
    | none => none
    | some d =>
      if !formOk org high then none
      else if d.empty then some {}
      else
        let co := st.lanesAt org high
        let (vals, oob) := s.readElems c k.val d co
        let f := vals.map d.toF32
        let (lines, others) := s.trackedLines c k.val d co
        some { cycles := ceilDiv (256 * d.size) 4096
               effects := .vreg vd (f.map (·.1)) :: tailEffects (Flag.union (f.map (·.2))) oob 0
               picojoule := s.portEnergy (256 * d.size), reads := lines, others := others })

/-- TSTOREV (R88 to R96, R187, R188): 256 lanes converted once; ROUND 3 is reserved and faults (R221). -/
def execTstorev (k : CoreId) (vs : VReg) (desc : BitVec 16) (org : SReg) (high : Option SReg) (round : BitVec 2)
    (s : State) : Result :=
  .next (issueUnit k tensorUnit [vs] (.tstorev k vs desc org high round) s fun key st =>
    let c := keyCtx key
    match s.desc c desc.toNat with
    | none => none
    | some d =>
      if !formOk org high || round = 3 then none
      else if d.empty then some {}
      else
        let co := st.lanesAt org high
        let conv := (co.zip (st.lanes vs.val)).map fun (g, x) =>
          if d.inBounds g then d.fromNum (s.roundBy c round.toNat (Config.roundSeed c st.pc) d g) (f32 x) else (0, 0)
        let (eff, drop) := s.writeElems c k.val d (co.zip (conv.map (·.1)))
        let (lines, others) := s.trackedLines c k.val d co
        some { cycles := ceilDiv (256 * d.size) 4096
               effects := eff ++ tailEffects (Flag.union (conv.map (·.2))) 0 drop
               picojoule := s.portEnergy (256 * d.size), writes := lines, others := others })

/-- The copy of every element of a source descriptor to the same coordinates of a destination, read now (R212, R258):
its effects, HBM reads, HBM writes and other lines. -/
def State.copyOp (s : State) (c k : Nat) (a b : Desc) : UnitOp :=
  if a.empty || b.empty then {}
  else
    let co := tabulate a.coords a.count
    let vals := co.map fun g => (s.readElem c k a g).1
    let (eff, drop) := s.writeElems c k b (co.zip vals)
    let (r, o) := s.trackedLines c k a co
    let (w, p) := s.trackedLines c k b co
    { cycles := ceilDiv (a.count * a.size) 4096
      effects := eff ++ tailEffects 0 0 drop
      picojoule := s.portEnergy (a.count * a.size), reads := r, writes := w, others := o + p }

/-- DMA (R258, R888): the copy occupies the engine until UNIT_FREE and retires under DMA_RETIRE, which signals the
semaphore; a copy of no bytes retires in its issue. -/
def execDma (k : CoreId) (src dst : BitVec 16) (sem : BitVec 16) (s : State) : Result :=
  .next (onIssue k (.dma k src dst sem) s fun key st =>
    let c := keyCtx key
    let u := unitKey c tensorUnit
    if ((s.core k.val).units.get none u).isSome then
      s.updStream k.val key fun st => { st with status := .held (.dma k src dst sem) }
    else match s.desc c src.toNat, s.desc c dst.toNat with
      | some a, some b =>
        if a.format ≠ b.format then s.ctxFault c
        else if a.empty || b.empty then (s.updStream k.val key Stream.advance).signalSem c sem.toNat 1
        else
          let op := s.copyOp c k.val a b
          let (s, x) := s.launchOp k key st { op with effects := op.effects ++ [.sem sem 1] }
          let st := st.advance
          let st := if x.linesLeft = 0 then st else s.startWait key st (.waitTracker u)
          let engine : InFlight := { stream := key, ctx := x.ctx, uid := x.uid, cycles := op.cycles }
          s.updCore k.val fun y =>
            { (y.updStream key fun _ => st) with dmas := y.dmas ++ [x], units := y.units.put u (some engine) }
      | _, _ => s.ctxFault c)

/-- The transfers an operation waits for have all retired. -/
def State.retired (s : State) (x : InFlight) : Bool :=
  x.linesLeft == 0 && x.xfers.all fun i => s.hbm.xfers.all fun y => y.id != i

/-- Returns trackers to a context. -/
def State.freeTracker (s : State) (k c n : Nat) : State :=
  if n = 0 then s else s.updCore k fun x => x.releaseTrackers c n

/-- DMA_RETIRE (R258): the oldest DMA instruction of the core whose transfers have retired has its effects. -/
def execDmaRetire (k : CoreId) (s : State) : Result :=
  .next (
    match (s.core k.val).dmas with
    | [] => s
    | x :: t =>
      if s.retired x then
        let s := s.updCore k.val fun y => { y with dmas := t }
        ((s.freeTracker k.val x.ctx.val x.held).meter x.ctx.val x.uid x.picojoule).applyAll k.val x
      else s)

/-- The atomic addition of 256 lanes into a descriptor whose format a test accepts. -/
def atomOp (s : State) (k : CoreId) (key : Nat) (st : Stream) (vs : VReg) (desc : BitVec 16) (org : SReg)
    (high : Option SReg) (ok : Nat → Bool) (eff : Desc → Nat → F32 → Effect) : Option UnitOp :=
  let c := keyCtx key
  match s.desc c desc.toNat with
  | none => none
  | some d =>
    if !formOk org high || !ok d.format then none
    else if d.empty then some {}
    else
      let co := st.lanesAt org high
      let l := (co.zip (st.lanes vs.val)).filter fun (g, _) => d.inBounds g
      let (lines, others) := s.trackedLines c k.val d co
      some { cycles := ceilDiv (256 * d.size) 1024
             effects := l.map (fun (g, x) => eff d (s.elemAddr c k.val d g) x) ++ tailEffects 0 0 (256 - l.length)
             reads := lines, writes := lines, others := others }

/-- ATOMADD.XA (R78, R883): exact addition into an XA64 or XA96 tensor at its descriptor's anchor. -/
def execAtomaddXa (k : CoreId) (vs : VReg) (desc : BitVec 16) (org : SReg) (high : Option SReg) (s : State) : Result :=
  .next (issueUnit k tensorUnit [vs] (.atomaddXa k vs desc org high) s fun key st =>
    atomOp s k key st vs desc org high (fun f => f == 7 || f == 8) fun d a x =>
      .atomXa (spaceMem d.space) a (8 * d.size) d.anchor x)

/-- ATOMADD.F32 (R220): binary32 addition into an FP32 tensor, in the order in which the additions retire. -/
def execAtomaddF32 (k : CoreId) (vs : VReg) (desc : BitVec 16) (org : SReg) (high : Option SReg) (s : State) : Result :=
  .next (issueUnit k tensorUnit [vs] (.atomaddF32 k vs desc org high) s fun key st =>
    atomOp s k key st vs desc org high (fun f => f == 4) fun d a x => .atomF32 (spaceMem d.space) a x)

end Sys2Proof.Machine
end

