-- ==== Sys2Proof/Machine/Commands.lean ====
section
/-! DEFINITION. Commands of the rings: acceptance, start order and energy, the effect of each command type, launch at
a tick, abort and terminal status (R211 to R218, R240 to R245, R46 to R59, R737 to R742, R893). -/

namespace Sys2Proof.Machine

/-! ## Acceptance -/

/-- Fields of a descriptor that R213 and R799 refuse with a fault of the context. -/
def State.badDescriptor (s : State) (b : Bytes) : Bool :=
  decide (field b 0 1 < 1) || decide (8 < field b 0 1) || decide (4 ≤ field b 1 1) || !zeros b 60 4 ||
    (maskCores (field b 16 4)).any (fun k => !s.coreEnabled k) || field b 4 4 == 0xFFFFFFFF

/-- The command a descriptor describes (R211). -/
def parseCmd (b : Bytes) (uid : Nat) (r : RingId) (now : Word) : Cmd :=
  { uid := uid, ring := r, type := field b 0 1, agreed := bit (field b 1 1) 0, urgent := bit (field b 1 1) 1
    sem := BitVec.ofNat 16 (field b 2 2), cmdId := BitVec.ofNat 32 (field b 4 4)
    launchTick := BitVec.ofNat 64 (field b 8 8), mask := BitVec.ofNat 32 (field b 16 4), entry := field b 20 4
    tag := field b 24 4, args := tabulate (fun i => BitVec.ofNat 32 (field b (28 + 4 * i) 4)) 8, acceptTick := now }

/-- Order of R739: acceptance tick, then ring, then the order within the ring. -/
def Cmd.before (a b : Cmd) : Bool :=
  decide (a.acceptTick.toNat < b.acceptTick.toNat) ||
    (a.acceptTick == b.acceptTick && (decide (a.ring.val < b.ring.val) || (a.ring == b.ring && decide (a.uid < b.uid))))

/-- The cores a command names. -/
def Cmd.cores (x : Cmd) : List Nat := maskCores x.mask.toNat
/-- ARG i. -/
def Cmd.arg (x : Cmd) (i : Nat) : Nat := (x.args.getD i 0).toNat
/-- The core whose SRAM and tensor engine a command uses: the lowest of its mask, else the lowest enabled (R212, log
entry 26). -/
def State.cmdCore (s : State) (x : Cmd) : CoreId := Fin.ofNat 32 ((x.cores ++ s.enabledCores).headD 0)

/-- R517 for a command with URGENT set. -/
def State.urgentOk (s : State) (c : Nat) (x : Cmd) : Bool :=
  !x.urgent || (s.urgentAllowed c && x.cores.all fun k => decide (0 < (s.wheel k).owned c))

/-- A DMA command between existing descriptors of which one is empty moves nothing (R200, R257). -/
def State.emptyDma (s : State) (c : Nat) (x : Cmd) : Bool :=
  x.type == 4 && match s.desc c (x.arg 0), s.desc c (x.arg 1) with
    | some a, some b => a.format == b.format && (a.empty || b.empty)
    | _, _ => false

/-- A DMA command between existing descriptors of different FORMAT (R213). -/
def State.mixedDma (s : State) (c : Nat) (x : Cmd) : Bool :=
  x.type == 4 && match s.desc c (x.arg 0), s.desc c (x.arg 1) with
    | some a, some b => a.format != b.format
    | _, _ => false

/-- An ABORT's target while the commands of its tick are taken: of the one held and a command with the CMD_ID the one
accepted earlier, in one tick that of the lowest ring (R242, R243). -/
def Cmd.aim (a x : Cmd) (l : List Cmd) : Cmd :=
  if a.type = 6 ∧ x.uid ≠ a.uid ∧ x.cmdId.toNat = (a.args.getD 0 0).toNat ∧ x.acceptTick.toNat ≤ a.acceptTick.toNat then
    match a.target.bind fun t => l.find? fun y => y.uid == t with
    | none => { a with target := some x.uid }
    | some y => if x.before y then { a with target := some x.uid } else a
  else a

/-- The commands after the one of `uid` was taken: an ABORT aims at the commands that are not terminal, and an ABORT taken
at this tick also at the new one (R240, R242, R243). -/
def aimAborts (l : List Cmd) (uid : Nat) (now : Word) : List Cmd :=
  l.map fun a =>
    if a.uid = uid then l.foldl (fun a x => a.aim x l) a
    else if a.acceptTick = now then (l.filter fun x => x.uid == uid).foldl (fun a x => a.aim x l) a
    else a

/-- The Zalquin takes a descriptor of ring r at HEAD (R213, R214, R243, R257, R517, R794, R799, R605). -/
def State.acceptDescriptor (s : State) (c : CtxId) (r : RingId) (b : Bytes) : State :=
  let uid := (s.ctx c.val).nextUid
  let posted := (s.ctx c.val).serving.posted
  let p := if r.val = 2 then posted.head? else none
  let x := { parseCmd b uid r s.tick.now with
    step := p.map (·.1), picojoule := p.elim 0 fun e => e.2 * s.cfgNum 0x3010 9 }
  let s := s.updCtx c.val fun y =>
    { y with
      cmds := aimAborts (y.cmds ++ [x]) uid s.tick.now, nextUid := uid + 1
      serving := if r.val = 2 then { y.serving with posted := posted.drop 1 } else y.serving }
  let s := s.updRing c.val r.val fun y =>
    { y with head := y.head + 1, takeTick := s.tick.now, takes := if y.takeTick = s.tick.now then y.takes + 1 else 1 }
  let s := s.forwardIn c.val (.descriptor c r b)
  if s.badDescriptor b || !s.urgentOk c.val x || s.mixedDma c.val x then s.ctxFault c.val
  else if ((x.type == 1 || x.type == 4) && x.mask == 0) || s.emptyDma c.val x then s.finishCmd c.val x 0
  else s

/-- Commands taken from ring r and not terminal. -/
def State.openCount (s : State) (c r : Nat) : Nat := ((s.ctx c).cmds.filter fun x => x.ring.val == r).length

/-- A completion slot is certain to be free (R794, R798). -/
def State.slotFree (s : State) (c r : Nat) : Bool :=
  let y := s.ring c r
  decide (s.openCount c r + (y.cqTail - y.cqHead).toNat < y.entries)

/-- The ring may give up one more descriptor at this tick: one in each of its two hub cycles (R795). -/
def Ring.mayTake (y : Ring) (now : Word) : Bool := y.takeTick != now || decide (y.takes < 2)

/-- DESCRIPTOR_TAKE (R794 to R796): the descriptor at HEAD arrives and is taken; a fetch that fails faults the context. A
mirroring secondary takes none from its own host (R606). -/
def execDescriptorTake (c : CtxId) (r : RingId) (fetched : Option Bytes) (s : State) : Result :=
  .next (
    let y := s.ring c.val r.val
    if y.enable && y.head != y.tail && y.mayTake s.tick.now && s.accepting c.val && s.slotFree c.val r.val && s.pcie.linkUp &&
        !(s.pair.role == 2 && decide (s.pair.state = 1)) && !s.safety.stopped then
      match fetched with
      | none => s.ctxFault c.val
      | some b => s.acceptDescriptor c r b
    else s)

/-! ## Start -/

/-- A command other than an ABORT has not started. -/
def Cmd.waiting (x : Cmd) : Bool := x.type != 6 && (x.phase == .accepted || x.phase == .deferred)

/-- R215: the ring's earlier commands have started, and those that name a core of this one are terminal; a FENCE names no
cores. A LAUNCH that is armed has not started (R216); a later LAUNCH may be armed behind it, and a command of another
type waits (log entry 80). No command that an ABORT stops starts (R244). -/
def State.ringReady (s : State) (c : Nat) (x : Cmd) : Bool :=
  !s.doomed c x.uid &&
  ((s.ctx c).cmds.filter fun y => y.ring == x.ring && decide (y.uid < x.uid)).all fun y =>
    !y.waiting && (x.type == 1 || y.phase != .armed) && (x.type == 7 || x.mask &&& y.mask == 0)

/-- The launches of its ring before an armed one have started, and no ABORT stops it (R215, R244). -/
def State.launchTurn (s : State) (c : Nat) (x : Cmd) : Bool :=
  !s.doomed c x.uid &&
  !(s.ctx c).cmds.any fun y => y.ring == x.ring && decide (y.uid < x.uid) && y.phase == .armed

/-- A command starts now: a LAUNCH is armed, unless it reaches the tick unit too late (R49, R50), and is then terminal
with TIMEOUT, or with HOLDOVER_REFUSED where R58 holds too (R239). A deferred start is not tested (R738). -/
def State.startNow (s : State) (c : Nat) (x : Cmd) (deferred : Bool) : State :=
  if x.type ≠ 1 then s.updCmd c x.uid fun y => { y with phase := .started }
  else
    let t := x.launchTick.toNat
    if t ≠ 0 ∧ ¬ deferred ∧ t ≤ s.now + 7 then
      let refused := x.agreed && decide (t ≤ s.now) && !s.tick.agrees
      s.finishCmd c x ({ x with late := true, refused := refused }).status
    else (s.updCmd c x.uid fun y => { y with phase := .armed, armOrder := (s.ctx c).armed }).updCtx c fun y =>
      { y with armed := y.armed + 1 }

/-- The command's energy tag is debited (R737, R745). -/
def State.debit (s : State) (c : Nat) (x : Cmd) : State :=
  let s := { s with energy := { s.energy with windowDebits := s.energy.windowDebits + x.tag } }
  (s.updCtx c fun y => { y with energy := { y.energy with balance := y.energy.balance - x.tag } }).updCmd c x.uid
    fun y => { y with debited := true }

/-- The command carries a tag that is debited (R737). -/
def Cmd.tagged (x : Cmd) (c : Nat) : Bool := decide (c ≠ 0) && (x.type == 1 || x.type == 4)

/-- COMMAND_START (R215, R530, R737 to R741, R49, R50): a taken command starts, is deferred, or faults its context. -/
def execCommandStart (c : CtxId) (uid : Nat) (s : State) : Result :=
  .next (
    match s.cmd c.val uid with
    | none => s
    | some x =>
      let blocked := (s.ctx c.val).cmds.any fun y => y.phase == .deferred && y.before x
      if x.phase ≠ .accepted ∨ x.type = 6 ∨ (s.ctx c.val).life.state ≠ .live ∨ s.ringReady c.val x = false ∨ blocked then s
      else if s.urgentOk c.val x = false then s.ctxFault c.val
      else if x.tagged c.val then
        if s.balanceCap c.val < x.tag then s.ctxFault c.val
        else if x.tag ≠ 0 ∧ (s.ctx c.val).energy.balance < x.tag then
          let s := { s with energy := { s.energy with windowDeferred := true } }
          (s.updCtx c.val fun y => { y with energy := { y.energy with deferrals := y.energy.deferrals + 1 } }).updCmd
            c.val uid fun y => { y with phase := .deferred }
        else (s.debit c.val x).startNow c.val { x with debited := true } false
      else s.startNow c.val x false)

/-- The stream a launch runs on a core. -/
def Cmd.key (x : Cmd) (c : Nat) : Nat := 2 * c + b2n x.urgent

/-- A stream that a launch may take: none runs in it. -/
def Stream.free (st : Stream) : Bool := st.status == .idle || st.status == .ended

/-- The stream of a launch in its first state (R205). -/
def Cmd.stream (x : Cmd) : Stream :=
  { sregs := (List.range 8).foldl (fun m i => if x.arg i = 0 then m else m.put (8 + i) (BitVec.ofNat 64 (x.arg i))) []
    pc := x.entry, status := .running, uid := x.uid, launchTick := x.launchTick, agreed := x.agreed }

/-- The launch runs on every core of its mask (R46, R47, R205, R212), or is refused (R58). -/
def State.launchRun (s : State) (c : Nat) (x : Cmd) : State :=
  if x.agreed && !s.tick.agrees then s.finishCmd c x ({ x with refused := true }).status
  else if x.cores.all fun k => ((s.core k).stream (x.key c)).free then
    let s := x.cores.foldl (fun s k => s.updStream k (x.key c) fun _ => x.stream) s
    s.updCmd c x.uid fun y => { y with phase := .running }
  else s

/-- LAUNCH (R211, R216): a launch whose LAUNCH_TICK is 0 runs from its context's first owned slots. -/
def execLaunch (c : CtxId) (uid : Nat) (s : State) : Result :=
  .next (
    match s.cmd c.val uid with
    | none => s
    | some x =>
      if x.type = 1 ∧ x.phase = .armed ∧ x.launchTick = 0 ∧ s.launchTurn c.val x = true ∧
          (s.ctx c.val).life.state = .live then s.launchRun c.val x
      else s)

/-- An armed launch of the context for the same tick that names an engine of this one was armed before it (R51). -/
def State.armedBefore (s : State) (c : Nat) (x : Cmd) : Bool :=
  (s.ctx c).cmds.any fun y => y.type == 1 && y.phase == .armed && y.launchTick == x.launchTick &&
    decide (y.armOrder < x.armOrder) && y.mask &&& x.mask != 0

/-- LAUNCH_START (R46, R51, R57 to R59, R64): the edge of the launch tick has come. Launches for one tick on one engine
start in the order in which they were armed, and the tick unit's changes that are due at this tick come first. -/
def execLaunchStart (c : CtxId) (uid : Nat) (s : State) : Result :=
  .next (
    match s.cmd c.val uid with
    | none => s
    | some x =>
      if x.type = 1 ∧ x.phase = .armed ∧ x.launchTick ≠ 0 ∧ x.launchTick.toNat ≤ s.now ∧ s.armedBefore c.val x = false ∧
          s.launchTurn c.val x = true ∧ (s.ctx c.val).life.state = .live then (s.updTick TickUnit.settle).launchRun c.val x
      else s)

/-! ## The other command types -/

/-- Runs `f` on a started command of a type, in a LIVE context, that no ABORT stops (R244). -/
def onCommand (c : CtxId) (uid type : Nat) (s : State) (f : Cmd → State) : State :=
  match s.cmd c.val uid with
  | none => s
  | some x => if x.type = type ∧ x.phase = .started ∧ s.doomed c.val uid = false ∧ (s.ctx c.val).life.state = .live then f x else s

/-- The command has done its work, with a result word. -/
def State.doneCmd (s : State) (c uid : Nat) (result : Nat) : State :=
  s.updCmd c uid fun y => { y with phase := .finished, result := BitVec.ofNat 32 result }

/-- The lowest free descriptor entry of a context. -/
def State.freeEntry (s : State) (c : Nat) : Nat := ((List.range (s.quota c)).find? fun i => (s.desc c i).isNone).getD 0

/-- DESC_CREATE (R181, R182, R184). -/
def execDescCreate (c : CtxId) (uid : Nat) (s : State) : Result :=
  .next (onCommand c uid 2 s fun x =>
    if !s.inShare c.val 0 (x.arg 0) 64 then s.ctxFault c.val
    else
      let d := parseDesc (s.sramShare c.val (s.cmdCore x).val (x.arg 0) 64)
      let reason := s.descReason c.val d
      if reason = 0 then
        let i := s.freeEntry c.val
        (s.updCtx c.val fun y => { y with descs := y.descs.put i (some d) }).doneCmd c.val uid i
      else s.doneCmd c.val uid (0xFFFF + 65536 * reason))

/-- DESC_DESTROY (R182, R212); an entry that does not exist faults (R185, log entry 27). -/
def execDescDestroy (c : CtxId) (uid : Nat) (s : State) : Result :=
  .next (onCommand c uid 3 s fun x =>
    if (s.desc c.val (x.arg 0)).isNone then s.ctxFault c.val
    else (s.updCtx c.val fun y => { y with descs := y.descs.del (x.arg 0) }).doneCmd c.val uid 0)

/-- DMA (R212, R213, R185, R257): the copy takes the tensor engine of its core, in a slot of the context, and retires
under DMA_RETIRE. -/
def execDmaCommand (c : CtxId) (uid : Nat) (s : State) : Result :=
  .next (onCommand c uid 4 s fun x =>
    let k := s.cmdCore x
    match s.desc c.val (x.arg 0), s.desc c.val (x.arg 1) with
    | some a, some b =>
      let y := s.core k.val
      let u := unitKey c.val tensorUnit
      let mine := match y.cur with
        | some key => keyCtx key == c.val
        | none => false
      if a.format ≠ b.format then s.ctxFault c.val
      else if a.empty || b.empty then s.doneCmd c.val uid 0
      else if (y.units.get none u).isSome ∨ s.doomed c.val uid = true ∨ mine = false ∨ y.blocked (2 * c.val) = true ∨ s.safety.stopped = true then s
      else
        let op := s.copyOp c.val k.val a b
        let (s, i) := s.launchOp k (2 * c.val) { uid := uid } op
        let engine : InFlight := { stream := 2 * c.val, ctx := c, uid := uid, cycles := op.cycles }
        (s.updCore k.val fun y =>
          { y with dmas := y.dmas ++ [i], units := y.units.put u (some engine) }).updCmd c.val uid fun z =>
          { z with phase := .running }
    | _, _ => s.ctxFault c.val)

/-- SIGNAL (R212, R231, R232). -/
def execSignal (c : CtxId) (uid : Nat) (s : State) : Result :=
  .next (onCommand c uid 5 s fun x =>
    if Config.semaphores ≤ x.arg 0 then s.ctxFault c.val
    else (s.doneCmd c.val uid 0).signalSem c.val (x.arg 0) (x.arg 1))

/-- FENCE (R212): done once every earlier command of its ring is terminal. -/
def execFence (c : CtxId) (uid : Nat) (s : State) : Result :=
  .next (onCommand c uid 7 s fun x =>
    if (s.ctx c.val).cmds.any fun y => y.ring == x.ring && decide (y.uid < uid) then s else s.doneCmd c.val uid 0)

/-- The result word of DIST_SET, 0 when the record is written; the lowest code that applies (R893, log entry 28). -/
def State.distReason (s : State) (c : Nat) (b : Bytes) (i : Nat) : Nat :=
  let r := parseDist b
  let clear := field b 0 1 == 0xFF
  let form := distForm b r
  let used := (s.ctx c).descs.any fun e => match e.2 with
    | some d => d.distributed && d.distIndex == i
    | none => false
  let fits := clear || !r.ownerTable || !form || decide (r.tableOffset + 8 * r.tableEntries ≤ s.shareSize c 1)
  if !form then 1 else if used then 2 else if 255 < i ∨ fits = false then 3 else 0

/-- DIST_SET (R893). -/
def execDistSet (c : CtxId) (uid : Nat) (s : State) : Result :=
  .next (onCommand c uid 8 s fun x =>
    if !s.inShare c.val 0 (x.arg 0) 64 then s.ctxFault c.val
    else
      let b := s.sramShare c.val (s.cmdCore x).val (x.arg 0) 64
      let code := s.distReason c.val b (x.arg 1)
      let s := if code ≠ 0 then s else s.updCtx c.val fun y =>
        { y with dists := if field b 0 1 = 0xFF then y.dists.del (x.arg 1) else y.dists.put (x.arg 1) (some (parseDist b)) }
      s.doneCmd c.val uid code)

/-! ## Abort and terminal status -/

/-- The part of a paused operation that still lands: its memory effects and signals, not its register results (R245). -/
def InFlight.landing (x : InFlight) : InFlight :=
  { x with effects := x.effects.filter fun e => match e with
      | .vreg _ _ | .lane _ _ _ | .tile _ _ => false
      | _ => true }

/-- The stream of an aborted launch ends; the operations that paused with it go on as transfers (R244, R245). -/
def Core.stopStream (x : Core) (key : Nat) : Core :=
  { (x.updStream key fun st => { st with status := .ended, liveV := [], loops := [], paused := [] }) with
    dmas := x.dmas ++ (x.stream key).paused.map fun u => u.2.landing }

/-- What a movement record keeps when command `uid` is aborted: a COUNT of it that has not completed has failed, and its
SCATTER, RETURN and COMBINE go no further (R352). -/
def MoveState.stop (x : MoveState) (uid : Nat) : MoveState :=
  let x := if x.uid = uid ∧ (x.phase = .exchanging ∨ x.phase = .placing) then { x with phase := .failed, stage := 0 } else x
  { x with
    scatterOut := if x.scatterUid = uid then none else x.scatterOut
    returnOut := if x.returnUid = uid then none else x.returnOut
    combining := x.combining && x.combineUid != uid }

/-- The Quill's work without that of an aborted command (R244, R352). -/
def CtxQuill.stop (q : CtxQuill) (uid : Nat) : CtxQuill :=
  { q with
    routes := q.routes.filter fun o => o.uid != uid, todo := q.todo.filter fun o => o.uid != uid
    moves := q.moves.map fun m => (m.1, m.2.stop uid) }

/-- A launch stops issuing: its streams end, its ROUTEs and movement operations are dropped, and the rosters it walks or
claims from return to IDLE (R244, R352, R396). -/
def State.stopCommand (s : State) (c uid : Nat) : State :=
  let s := (List.range 32).foldl (fun s k => [2 * c, 2 * c + 1].foldl (fun s key =>
    let st := (s.core k).stream key
    if st.uid = uid ∧ !st.free then s.updCore k fun x => x.stopStream key else s) s) s
  s.updCtx c fun y =>
    { y with
      rosters := y.rosters.filter fun r => match r.2 with
        | some z => !z.users.contains uid
        | none => false
      quill := y.quill.stop uid }

/-- ABORT (R240 to R244, R259): decided after the tick in which it was taken; the target and the ABORT become terminal
at one tick, their records in order of acceptance (R797). -/
def execAbort (c : CtxId) (uid : Nat) (s : State) : Result :=
  .next (
    match s.cmd c.val uid with
    | none => s
    | some a =>
      if a.type ≠ 6 ∨ s.now ≤ a.acceptTick.toNat ∨ s.accepting c.val = false then s
      else match a.target.bind (s.cmd c.val) with
        | none => s.finishCmd c.val a 1
        | some x =>
          let s := s.stopCommand c.val x.uid
          if x.uid < uid then (s.finishCmd c.val x 2).finishCmd c.val a 0
          else (s.finishCmd c.val a 0).finishCmd c.val x 2)

/-- A movement operation of command `uid` on a record is in progress. -/
def MoveState.works (x : MoveState) (uid : Nat) : Bool :=
  (x.uid == uid && (x.phase == .exchanging || x.phase == .placing)) || (x.scatterUid == uid && x.scatterOut.isSome) ||
    (x.returnUid == uid && x.returnOut.isSome) || (x.combineUid == uid && x.combining)

/-- Work that a launch issued and that has not retired (R216). -/
def State.workOpen (s : State) (c uid : Nat) : Bool :=
  s.cores.any (fun k =>
    [2 * c, 2 * c + 1].any (fun key =>
      let st := k.2.stream key
      st.uid == uid && !st.free) ||
    k.2.units.any (fun u => match u.2 with
      | some op => op.ctx.val == c && op.uid == uid
      | none => false) ||
    k.2.dmas.any fun op => op.ctx.val == c && op.uid == uid) ||
  (s.ctx c).quill.routes.any (fun o => o.uid == uid) ||
  (s.ctx c).quill.todo.any (fun o => o.uid == uid) || (s.ctx c).quill.moves.any (fun m => m.2.works uid) ||
  s.hbm.xfers.any (fun x => x.ctx.val == c && x.hub && x.uid == some uid) ||
  s.groups.any fun g => g.2.steps.any fun t => t.ctx.val == c && t.uid == uid && t.open_ && !t.exchange

/-- The command may reach terminal status now (R212, R216). -/
def State.cmdReady (s : State) (c : Nat) (x : Cmd) : Bool :=
  x.phase == .finished || (x.phase == .running && !s.workOpen c x.uid)

/-- COMMAND_TERMINAL (R217, R218, R239, R543, R743, R797): among the ready commands of a ring the earliest accepted
goes first. A record whose address translation fails faults the context (R796). -/
def execCommandTerminal (c : CtxId) (uid : Nat) (ats : Bool) (s : State) : Result :=
  .next (
    match s.cmd c.val uid with
    | none => s
    | some x =>
      let earlier := (s.ctx c.val).cmds.any fun y => y.ring == x.ring && decide (y.uid < uid) && s.cmdReady c.val y
      if s.cmdReady c.val x = false ∨ earlier ∨ s.doomed c.val uid = true ∨ s.accepting c.val = false then s
      else if ats then (s.terminal c.val x x.status false).1.ctxFault c.val
      else s.finishCmd c.val x x.status)

end Sys2Proof.Machine
end

