-- ==== Sys2Proof/Machine/Matrix.lean ====
section
/-! DEFINITION. The instructions of the matrix arrays (R69 to R88, R190, R223 to R229, R883). -/

namespace Sys2Proof.Machine

/-- The formats whose products accumulate at the native anchor (R71). -/
def nativeFormat (f : Nat) : Bool := f == 0 || f == 1 || f == 3 || f == 5

/-- Two operand formats that one MMA may have (R69, R223). -/
def pairFormats (a b : Nat) : Bool :=
  decide (a ≤ 5) && (a == b || (a == 0 && b == 1) || (a == 1 && b == 0))

/-- K per beat (R223). -/
def kPerBeat (f : Nat) : Nat := if f = 4 then 4 else if f = 2 ∨ f = 3 then 16 else 32

/-- Subindex of 0x3010 that meters a beat (R744). -/
def beatEntry (f : Nat) : Nat := if f = 4 then 3 else if f = 2 ∨ f = 3 then 2 else 1

/-- The elements of a tile as a list of 1,024. -/
def Tile.list (t : Tile) : List XaElem := tabulate (t.elems.get {}) 1024

/-- The table of a list of elements: only those that differ from the zero element are listed. -/
def tileTable (l : List XaElem) : SMap XaElem :=
  ((List.range 1024).zip l).filter fun p => p.2 != {}

/-- The anchor of an MMA: native, or the instruction's when it lies in range (R71, R72, R75). -/
def mmaAnchor (f : Nat) (a : Int) : Option Int :=
  if nativeFormat f then some Config.anchorNative
  else if Config.anchorMin ≤ a ∧ a ≤ Config.anchorMax then some a else none

/-- Coordinates of the elements of one operand line: K elements at a fixed row or column. -/
def lineCoords (transposed : Bool) (k0 kk fixed : Nat) : List (List Nat) :=
  tabulate (fun i => let x := (k0 + i) % 2 ^ 32
    if transposed then [fixed % 2 ^ 32, x] else [x, fixed % 2 ^ 32]) kk

/-- MMA (R69 to R72, R75 to R81, R190, R223, R224, R226 to R228, R883). Operands of formats that R69 and R223 do not
pair, INT32 and the XA formats among them, fault the context (log entry 77). A tile that no instruction has given an
anchor stands at the native anchor (log entry 22). -/
def execMma (k : CoreId) (array : ArrayId) (a b : BitVec 16) (org sk : SReg) (clear ta tb : Bool) (s : State) : Result :=
  .next (issueUnit k array.val [] (.mma k array a b org sk clear ta tb) s fun key st =>
    let c := keyCtx key
    match s.desc c a.toNat, s.desc c b.toNat with
    | some da, some db =>
      let r := (st.s (sk.val + 1)).toNat
      let kk := r % 2 ^ 32
      let k0 := (st.s sk.val).toNat % 2 ^ 32
      let t := st.tile array.val
      if !pairOk org || !pairOk sk || !pairFormats da.format db.format then none
      else match mmaAnchor da.format (BitVec.ofNat 16 (r / 2 ^ 32)).toInt with
        | none => none
        | some anchor =>
          if !clear && t.anchor != anchor then none
          else if kk = 0 then
            some { effects := if clear then [.tile array { live := true, anchor := anchor }] else [] }
          else
            let (col, row) := st.origin org.val
            let start := if clear then List.replicate 1024 ({} : XaElem) else t.list
            let skip := da.empty || db.empty
            let readA := fun i => s.readElems c k.val da (lineCoords ta k0 kk (row + i))
            let readB := fun j => s.readElems c k.val db (lineCoords (!tb) k0 kk (col + j))
            let rowsA := tabulate readA 32
            let colsB := tabulate readB 32
            let numA := rowsA.map fun x => x.1.map (decodeElem da.format)
            let numB := colsB.map fun x => x.1.map (decodeElem db.format)
            let res := ((List.range 1024).zip start).map fun (i, e) =>
              let x := numA.getD (i / 32) []
              let y := numB.getD (i % 32) []
              e.addAll (List.zipWith (enterProduct 192 anchor) x y)
            let elems := if skip then start else res.map (·.1)
            let fl := if skip then 0 else Flag.union (res.map (·.2))
            let oob := if skip then 0 else ((rowsA ++ colsB).map (·.2)).sum
            let linesA := s.trackedLines c k.val da ((List.range 32).flatMap fun i => lineCoords ta k0 kk (row + i))
            let linesB := s.trackedLines c k.val db ((List.range 32).flatMap fun j => lineCoords (!tb) k0 kk (col + j))
            let (reads, others) := if skip then ([], 0) else ((linesA.1 ++ linesB.1).eraseDups, linesA.2 + linesB.2)
            let beats := ceilDiv kk (kPerBeat da.format)
            let perBeat := if da.format = 4 && (ta || tb) then 10 else 5
            some { cycles := perBeat * beats
                   effects := .tile array { live := true, anchor := anchor, elems := tileTable elems } ::
                     tailEffects fl oob 0
                   picojoule := beats * s.cfgNum 0x3010 (beatEntry da.format), reads := reads, others := others }
    | _, _ => none)

/-- Cycles of XSPILL, XFILL and XOUT (R229). -/
def tileCycles (d : Desc) : Nat := 32 + ceilDiv (1024 * d.size) 512

/-- The write of 1,024 elements of a tile, each converted by `conv` where it lies in bounds (R187). -/
def State.tileWrite (s : State) (k : CoreId) (key : Nat) (st : Stream) (d : Desc) (array : ArrayId) (org : SReg)
    (high : Option SReg) (more : List Effect) (conv : XaElem → List Nat → Nat × BitVec 16) : UnitOp :=
  let c := keyCtx key
  if d.empty then { cycles := tileCycles d, effects := more }
  else
    let co := st.tileAt org high
    let r := (co.zip (st.tile array.val).list).map fun (g, e) => if d.inBounds g then conv e g else (0, 0)
    let (eff, drop) := s.writeElems c k.val d (co.zip (r.map (·.1)))
    let (lines, others) := s.trackedLines c k.val d co
    { cycles := tileCycles d, effects := eff ++ tailEffects (Flag.union (r.map (·.2))) 0 drop ++ more
      picojoule := s.portEnergy (1024 * d.size), writes := lines, others := others }

/-- XSPILL (R82, R83, R85, R229, R883): the tile in the descriptor's XA format; the tile stays, released or not
(R206). -/
def execXspill (k : CoreId) (array : ArrayId) (desc : BitVec 16) (org : SReg) (high : Option SReg) (release : Bool)
    (s : State) : Result :=
  .next (issueUnit k array.val [] (.xspill k array desc org high release) s fun key st =>
    match s.desc (keyCtx key) desc.toNat with
    | none => none
    | some d =>
      let t := st.tile array.val
      let a := t.anchor
      if !formOk org high || !d.isXa || (d.format == 9 && d.anchor != a) then none
      else
        let more := if release then [.tile array { t with live := false }] else []
        some (s.tileWrite k key st d array org high more fun e _ =>
          if d.format = 9 then (leNat e.spill, 0) else e.toXa (8 * d.size) a d.anchor))

/-- XFILL (R86, R883): a spill restores the tile; XA64 and XA96 elements enter as summands, into a live tile at its
anchor and into a tile that is not live at the descriptor's. -/
def execXfill (k : CoreId) (array : ArrayId) (desc : BitVec 16) (org : SReg) (high : Option SReg) (s : State) : Result :=
  .next (issueUnit k array.val [] (.xfill k array desc org high) s fun key st =>
    let c := keyCtx key
    match s.desc c desc.toNat with
    | none => none
    | some d =>
      if !formOk org high || !d.isXa then none
      else if d.empty then some { cycles := tileCycles d }
      else
        let t := st.tile array.val
        let co := st.tileAt org high
        let (vals, oob) := s.readElems c k.val d co
        let (lines, others) := s.trackedLines c k.val d co
        let w := 8 * d.size
        let a := if t.live && d.format != 9 then t.anchor else d.anchor
        let base := if t.live then t.list else List.replicate 1024 ({} : XaElem)
        let r := if d.format = 9 then vals.map fun v => (XaElem.unspill (toLe 32 v), (0 : BitVec 16))
          else List.zipWith (fun e v => e.addAll [enterNum 192 a (decodeXa w v d.anchor)]) base vals
        some { cycles := tileCycles d
               effects := .tile array { live := true, anchor := a, elems := tileTable (r.map (·.1)) } ::
                 tailEffects (Flag.union (r.map (·.2))) oob 0
               picojoule := s.portEnergy (1024 * d.size), reads := lines, others := others })

/-- XOUT (R82, R83, R88 to R96, R229): the tile converted once into the descriptor's format. -/
def execXout (k : CoreId) (array : ArrayId) (desc : BitVec 16) (org : SReg) (high : Option SReg) (round : BitVec 2)
    (s : State) : Result :=
  .next (issueUnit k array.val [] (.xout k array desc org high round) s fun key st =>
    let c := keyCtx key
    match s.desc c desc.toNat with
    | none => none
    | some d =>
      if !formOk org high || round = 3 then none
      else
        let a := (st.tile array.val).anchor
        some (s.tileWrite k key st d array org high [] fun e g =>
          d.fromXa (s.roundBy c round.toNat (Config.roundSeed c st.pc) d g) 192 a e))

end Sys2Proof.Machine
end

