-- ==== Sys2Proof/Machine/Ruling.lean ====
section
/-! DEFINITION. Who owns a ruling slot, urgent and spare slots, withheld slots, and the saves and restores of
pre-emption (R505 to R531, R741). -/

namespace Sys2Proof.Machine

/-- T of R526 for a stream: its live tiles and live vector registers. -/
def Stream.switchCycles (st : Stream) : Nat :=
  64 + 96 * (st.tiles.filter fun t => t.2.live).length + ceilDiv (1024 * st.liveV.length) 256

/-- A stream has a program that has not ended. -/
def Stream.active (st : Stream) : Bool := st.status != .idle && st.status != .ended

/-- The urgent stream that is ready on core k: that of the lowest context (R519, R520). -/
def State.urgentReady (s : State) (k : Nat) : Option Nat :=
  (List.range 64).find? fun c => (s.ctx c).life.state == .live && ((s.core k).stream (2 * c + 1)).active

/-- The YIELDING contexts that own a slot of the wheel, in ascending order (R518). -/
def State.yielders (s : State) (w : Wheel) : List Nat :=
  (List.range 64).filter fun c => s.yielding c && decide (0 < w.owned c)

/-- The wheel turn a tick lies in (R506). -/
def Wheel.turn (w : Wheel) (t : Nat) : Nat := t / (16 * w.len)

/-- The YIELDING context of rank (w + s) mod Y that a SPARE slot goes to (R518). -/
def State.spareTo (s : State) (w : Wheel) : Option Nat :=
  let l := s.yielders w
  if l.isEmpty then none else l[(w.turn s.now + w.slotAt s.now) % l.length]?

/-- The context whose work an engine that is no core does now: the slot's owner, or the YIELDING context of a SPARE slot
(R509, R518, R521). -/
def State.engineOwner (s : State) (e : Nat) : Option Nat :=
  let b := (s.wheel e).at s.now
  if b < 64 then some b else if b = 0x41 then s.spareTo (s.wheel e) else none

/-- The Quill runs for context c in this cycle: the context is LIVE and owns the Quill's slot (R267, R303). -/
def State.quillRuns (s : State) (c : Nat) : Bool :=
  (s.ctx c).life.state == .live && s.engineOwner 32 == some c && !s.safety.stopped

/-- The conductor runs for context c in this cycle: the context is LIVE and owns the control core's slot (R387). -/
def State.controlRuns (s : State) (c : Nat) : Bool :=
  (s.ctx c).life.state == .live && s.engineOwner 46 == some c && !s.safety.stopped

/-- The slot of context c on core k is withheld: a deferred command of c names the core (R741). -/
def State.withheld (s : State) (c k : Nat) : Bool :=
  (s.ctx c).cmds.any fun x => x.phase == .deferred && bit x.mask.toNat k

/-- The context whose bank the slot's issuing stream stands in: the owner of an owned slot, or the YIELDING context of
a SPARE slot. -/
def State.slotContext (s : State) (w : Wheel) : Option Nat :=
  if w.owner.toNat < 64 then some w.owner.toNat
  else if w.owner.toNat = 0x41 then s.spareTo w
  else none

/-- The stream a slot of core k is given to (R509, R510, R516, R518 to R520). -/
def State.pickStream (s : State) (k : Nat) : Option Nat :=
  let w := s.wheel k
  let b := w.owner.toNat
  if b < 64 then
    match if s.yielding b then s.urgentReady k else none with
    | some u => some (2 * u + 1)
    | none => if s.withheld b k then none else some (2 * b)
  else if b = 0x41 then
    match s.urgentReady k with
    | some u => some (2 * u + 1)
    | none =>
      match s.spareTo w with
      | some c => if (s.ctx c).life.state = .live ∧ ((s.core k).stream (2 * c)).active then some (2 * c) else none
      | none => none
  else none

/-- Marks the step that the context's slots were withheld from, and its flag GOVERNED (R570, R741). -/
def State.govern (s : State) (c : Nat) : State :=
  s.updCtx c fun x =>
    { x with energy := { x.energy with governed := true }, serving := { x.serving with lastWithheld := some s.tick.now } }

/-- An urgent stream takes the bank of the slot's context, whose stream is then saved in the first cycles of the urgent
stream's slots (R516, R527, R553); a stream whose state is saved is restored in the first cycles of its own (R528). A
switch of the same bank in progress is waited for (R554). -/
def Core.beginSwitch (x : Core) (key : Nat) (victim : Option Nat) : Core :=
  if key % 2 = 1 then
    match victim with
    | none => x
    | some v =>
      let st := x.stream (2 * v)
      if st.saved || x.switches.any (fun w => w.stream == 2 * v) then x
      else { x with switches := x.switches ++
        [{ save := true, stream := 2 * v, forStream := some key, cycles := st.switchCycles }] }
  else
    let st := x.stream key
    if st.saved && !x.switches.any (fun w => w.stream == key) then
      { x with switches := x.switches ++ [{ save := false, stream := key, forStream := none, cycles := st.switchCycles }] }
    else x

/-- The running slot of core k is given to its stream. -/
def State.assignSlot (s : State) (k : Nat) : State :=
  match s.pickStream k with
  | none => s.updCore k fun x => { x with cur := none }
  | some key =>
    let v := s.slotContext (s.wheel k)
    s.updCore k fun x => { x.beginSwitch key v with cur := some key }

/-- The stream's state leaves its bank (R524, R525): operations of the vector unit and vector results of the SFU are
written; operations of an array, SOFTMAX and NORM pause with the stream. The tensor engine goes on (R529). -/
def State.saveStream (s : State) (k key : Nat) : State :=
  let mine := (s.core k).units.filterMap fun u => match u.2 with
    | some op => if op.stream = key ∧ u.1 % 16 ≤ 9 then some (u.1, op) else none
    | none => none
  let done := mine.filter fun u => u.1 % 16 == 8 || (u.1 % 16 == 9 && u.2.effects.any fun e => match e with
    | .vreg _ _ => true
    | _ => false)
  let paused := mine.filter fun u => !done.contains u
  let s := done.foldl (fun s u => (s.meter u.2.ctx.val u.2.uid u.2.picojoule).applyAll k u.2) s
  s.updCore k fun x =>
    { (x.updStream key fun st => { st with saved := true, paused := paused }) with
      units := x.units.filter fun u => !mine.any fun m => m.1 == u.1 }

/-- The stream's state is back in its bank, with its paused operations; only when their units are free. -/
def State.restoreStream (s : State) (k key : Nat) : State :=
  s.updCore k fun x =>
    let p := (x.stream key).paused
    { (x.updStream key fun st => { st with saved := false, paused := [] }) with
      units := p.foldl (fun m u => m.put u.1 (some u.2)) x.units }

end Sys2Proof.Machine
end

