-- ==== Sys2Proof/Machine/Stream.lean ====
section
/-! DEFINITION. The instructions that the sequencer runs itself: loops, branches, semaphores, ticks, scalar
immediates, END, and an undefined opcode (R220, R221, R888). -/

namespace Sys2Proof.Machine

/-- Instruction i changes its stream, which goes on. -/
def stepStream (k : CoreId) (i : Instr) (s : State) (f : Stream → Stream) : State :=
  onIssue k i s fun key _ => s.updStream k.val key fun st => (f st).advance

/-- LOOP (R888). A count of 0, or an offset that names no instruction after the LOOP, leaves the body out; a ninth
level faults (log entry 20). -/
def execLoop (k : CoreId) (n : SReg) (count : BitVec 16) (offset : BitVec 16) (s : State) : Result :=
  .next (onIssue k (.loop k n count offset) s fun key st =>
    if count = 0 ∨ offset.toInt ≤ 0 then
      let p := if 0 < offset.toInt then branchTo st.pc offset else st.pc
      s.updStream k.val key fun st => { st with pc := p }.advance
    else if 8 ≤ st.loops.length then s.ctxFault (keyCtx key)
    else
      let l : LoopLevel :=
        { reg := n, count := count.toNat, iter := 0, start := st.pc + 8, last := branchTo st.pc offset }
      s.updStream k.val key fun st => { (st.setS n.val 0) with loops := l :: st.loops, pc := st.pc + 8 })

/-- The condition of a BRANCH holds of a register value. -/
def condHolds (c : BranchCond) (v : Word) : Bool :=
  match c with
  | .zero => v == 0
  | .nonzero => v != 0
  | .negative => v.msb
  | .reserved => false

/-- BRANCH (R888): the offset counts from the BRANCH; levels whose body does not hold the target are left (log
entry 20). The reserved condition faults (R221). -/
def execBranch (k : CoreId) (cond : BranchCond) (n : SReg) (offset : BitVec 16) (s : State) : Result :=
  .next (onIssue k (.branch k cond n offset) s fun key st =>
    if cond = .reserved then s.ctxFault (keyCtx key)
    else if condHolds cond (st.s n.val) then
      let t := branchTo st.pc offset
      s.updStream k.val key fun st =>
        { st with pc := t, loops := st.loops.dropWhile fun l => !(decide (l.start ≤ t) && decide (t ≤ l.last)) }
    else s.updStream k.val key Stream.advance)

/-- WAITSEM (R231, R233, R236): a semaphore that does not exist faults; a satisfied wait subtracts at once; otherwise
the stream waits. -/
def execWaitsem (k : CoreId) (sem : BitVec 16) (n : BitVec 16) (s : State) : Result :=
  .next (onIssue k (.waitsem k sem n) s fun key st =>
    let c := keyCtx key
    if Config.semaphores ≤ sem.toNat then s.ctxFault c
    else if n.toNat ≤ s.sem c sem.toNat then
      (s.setSem c sem.toNat (s.sem c sem.toNat - n.toNat)).updStream k.val key Stream.advance
    else s.updStream k.val key fun _ => s.startWait key st (.waitSem sem n))

/-- The amount core k's stream `key` waits for on a semaphore. -/
def State.waitsOn (s : State) (key : Nat) (sem : BitVec 16) (k : Nat) : Option Nat :=
  let x := s.core k
  match (x.stream key).status with
  | .waitSem m n => if m = sem ∧ (x.stream key).saved = false ∧ x.cur = some key ∧ x.blocked key = false then some n.toNat else none
  | _ => none

/-- WAITSEM_RELEASE (R233, R235): the satisfiable waits of context c on a semaphore are served in core order, each
from the count the earlier ones left; a stream outside its slots does not test. -/
def execWaitsemRelease (c : CtxId) (sem : BitVec 16) (s : State) : Result :=
  .next (
    if (s.ctx c.val).life.state = .live then
      (List.range 32).foldl (fun s k =>
        [2 * c.val, 2 * c.val + 1].foldl (fun s key =>
          match s.waitsOn key sem k with
          | none => s
          | some n =>
            if n ≤ s.sem c.val sem.toNat then
              (s.setSem c.val sem.toNat (s.sem c.val sem.toNat - n)).updStream k key fun st =>
                { st with status := .running }.advance
            else s) s) s
    else s)

/-- SIGSEM (R231, R232): n = 0 adds nothing (log entry 21); 0xFFFF and every number above 16,383 fault. -/
def execSigsem (k : CoreId) (sem : BitVec 16) (n : BitVec 16) (s : State) : Result :=
  .next (onIssue k (.sigsem k sem n) s fun key _ =>
    let c := keyCtx key
    if Config.semaphores ≤ sem.toNat then s.ctxFault c
    else (s.updStream k.val key Stream.advance).signalSem c sem.toNat n.toNat)

/-- WAITTICK (R52): the stream waits for the tick edge in Sn; an edge already past lets it go on. -/
def execWaittick (k : CoreId) (n : SReg) (s : State) : Result :=
  .next (onIssue k (.waittick k n) s fun key st =>
    if s.now < (st.s n.val).toNat then s.updStream k.val key fun st => { st with status := .waitTick (st.s n.val) }
    else s.updStream k.val key Stream.advance)

/-- WAITTICK_RELEASE (R52): the tick edge a stream of core k waits for has come. -/
def execWaittickRelease (k : CoreId) (s : State) : Result :=
  .next (
    let x := s.core k.val
    match x.cur with
    | none => s
    | some key =>
      match (x.stream key).status with
      | .waitTick t =>
        if t.toNat ≤ s.now ∧ (s.ctx (keyCtx key)).life.state = .live ∧ x.blocked key = false then
          s.updStream k.val key fun st => { st with status := .running }.advance
        else s
      | _ => s)

/-- SETS (R888). -/
def execSets (k : CoreId) (n : SReg) (imm : BitVec 32) (s : State) : Result :=
  .next (stepStream k (.sets k n imm) s fun st => st.setS n.val (imm.signExtend 64))

/-- ADDS (R888). -/
def execAdds (k : CoreId) (n : SReg) (imm : BitVec 32) (s : State) : Result :=
  .next (stepStream k (.adds k n imm) s fun st => st.setS n.val (st.s n.val + imm.signExtend 64))

/-- END (R206, R216, R519, R520, R528): the program has ended on this core; its tiles and vector registers are no longer
live. After an urgent stream the slot goes to the next urgent stream, or back to its owner. -/
def execEndProgram (k : CoreId) (s : State) : Result :=
  .next (onIssue k (.endProgram k) s fun key _ =>
    let s := s.updStream k.val key fun st =>
      { st with
        status := .ended, liveV := [], loops := [], tiles := st.tiles.map fun t => (t.1, { t.2 with live := false }) }
    if key % 2 = 1 then s.assignSlot k.val else s)

/-- An undefined opcode, or a reserved operation code of QSUBMIT (R221, R260, R297). -/
def execUndefinedOpcode (k : CoreId) (s : State) : Result :=
  .next (onIssue k (.undefinedOpcode k) s fun key _ => s.ctxFault (keyCtx key))

end Sys2Proof.Machine
end

