-- ==== Sys2Proof/Machine/Special.lean ====
section
/-! DEFINITION. Evaluation of glyphs, the special-value table, soft maximum and normalisation (chapter 04). -/

namespace Sys2Proof.Machine

/-! ## Glyphs -/

/-- A glyph image (R119). -/
def parseGlyph (b : Bytes) : Glyph :=
  let rational := field b 7 1 == 1
  let n := field b 8 2
  let size := if rational then 48 else 32
  let coef := if rational then 12 else 6
  { functionId := BitVec.ofNat 16 (field b 4 2), reduction := BitVec.ofNat 8 (field b 6 1), rational := rational
    lo := BitVec.ofNat 32 (field b 12 4), hi := BitVec.ofNat 32 (field b 16 4), flush := BitVec.ofNat 32 (field b 20 4)
    logScale := BitVec.ofNat 32 (field b 24 4)
    segments := tabulate (fun j => tabulate (fun i => BitVec.ofNat 32 (field b (64 + size * j + 4 * i) 4)) coef) n }

/-- Length of a glyph image for its header (R119). -/
def glyphLength (b : Bytes) : Nat := 64 + field b 8 2 * (if field b 7 1 = 1 then 48 else 32)

/-- Byte i of a glyph image is reserved (R119): header bytes 11 and 28 to 63, and the last 8 bytes of a POLY segment. -/
def glyphReserved (rational : Bool) (i : Nat) : Bool :=
  i == 11 || decide (28 ≤ i ∧ i < 64) || (!rational && decide (64 ≤ i) && decide (24 ≤ (i - 64) % 32))

/-- A glyph image with its reserved bytes reading 0 (R119). -/
def glyphClean (b : Bytes) : Bytes :=
  ((List.range b.length).zip b).map fun (i, x) => if glyphReserved (field b 7 1 == 1) i then 0 else x

/-- The ROM image of a slot from 0 to 13: the file's bytes under the header fields the spec states, which are VERSION,
FUNCTION_ID (R884), FORM (R116), FLUSH (R114) and the reserved bytes (R119). -/
def romImage (slot : Nat) : Bytes :=
  let b := Config.romFile slot
  glyphClean (toLe 4 1 ++ toLe 2 slot ++ slice b 6 1 ++ toLe 1 (b2n (decide (7 ≤ slot ∧ slot ≤ 11))) ++ slice b 8 12 ++
    toLe 4 0x00800000 ++ slice b 24 4 ++ List.replicate 36 0 ++ b.drop 64)

/-- A compatibility image: the file's bytes with VERSION 1 and FORM RATIONAL (R126), FLUSH 2^−126 (R114). -/
def compatImage (slot : Nat) : Bytes :=
  let b := Config.compatFile slot
  glyphClean (toLe 4 1 ++ slice b 4 3 ++ [1] ++ slice b 8 12 ++ toLe 4 0x00800000 ++ slice b 24 4 ++
    List.replicate 36 0 ++ b.drop 64)

/-- A binary32 pattern is finite. -/
def f32Finite (x : F32) : Bool := match f32 x with
  | .fin .. => true
  | _ => false

/-- A glyph image keeps the rules of R119 and holds finite coefficients (R121). -/
def glyphOk (b : Bytes) : Bool :=
  let g := parseGlyph b
  let n := field b 8 2
  let deg := field b 10 1
  decide (64 ≤ b.length) && field b 0 4 == 1 && decide (0x100 ≤ g.functionId.toNat) && decide (g.reduction.toNat ≤ 6) &&
    decide (field b 7 1 ≤ 1) && decide (1 ≤ n ∧ n ≤ 256) && 2 ^ Nat.log2 n == n && decide (deg ≤ 5) &&
    f32Finite g.lo && f32Finite g.hi && flt g.lo g.hi && fle 0x00800000 g.flush &&
    (g.reduction == 3 || g.logScale == 0) && b.length == glyphLength b &&
    g.segments.all fun seg => ((List.range 12).zip seg).all fun (i, c) =>
      f32Finite c && (decide (i % 6 ≤ deg) || c &&& 0x7FFFFFFF == 0)

/-- Horner's scheme from c5 down to c0 (R112). -/
def horner (coef : List F32) (t : F32) : F32 :=
  match coef.reverse with
  | [] => 0
  | c :: cs => cs.foldl (fun acc d => (fadd (fmul acc t).1 d).1) c

/-- A finite number times 2^n. -/
def Num.scale (x : Num) (n : Int) : Num :=
  match x with
  | .fin s a d e => .fin s a d (e + n)
  | y => y

/-- The signed numerator over d, exponent apart, of a finite number. -/
def Num.signed : Num → Int × Nat × Int
  | .fin s a d e => (if s then -(a : Int) else a, d, e)
  | _ => (0, 1, 0)

/-- Neither an infinity nor a NaN. -/
def Num.isFinite : Num → Bool
  | .fin .. => true
  | _ => false

/-- floor of a finite number. -/
def Num.floor (x : Num) : Int :=
  let (a, d, e) := x.signed
  match e with
  | .ofNat k => a * 2 ^ k / d
  | .negSucc k => a / (d * 2 ^ (k + 1) : Nat)

/-- The significand in 1 to 2 and the exponent of a finite nonzero number's magnitude. -/
def Num.norm (x : Num) : Num × Int :=
  match x with
  | .fin _ a d e =>
    let g := floorLog2 a d
    (.fin false a d (-g), g + e)
  | y => (y, 0)

/-- The segment's value at r (R111 to R113): t is formed exactly and rounded once. -/
def glyphAt (g : Glyph) (r : Num) : F32 :=
  let lo := f32 g.lo
  let span := (Num.add (f32 g.hi) lo.neg).1
  let n := g.segments.length
  let off := (Num.add r lo.neg).1
  let q := (Num.div (Num.mul off (Num.ofInt n 0)).1 span).1
  let j := min (q.floor.toNat) (n - 1)
  let t := (toF32 (Num.add off (Num.div (Num.mul span (Num.ofInt j 0)).1 (Num.ofInt n 0)).1.neg).1).1
  let seg := g.segments.getD j []
  if g.rational then (fdiv (horner (seg.take 6) t) (horner (seg.drop 6) t)).1 else horner seg t

/-- r clamped to [lo, hi): a value at or above hi takes the largest binary32 value below hi (R110). -/
def glyphClamp (g : Glyph) (x : F32) : F32 :=
  if flt x g.lo then g.lo
  else if fle g.hi x then (if g.hi.msb then g.hi + 1 else if g.hi = 0 then 0x80000001 else g.hi - 1)
  else x

/-- log2(e) in 48-bit fixed point: 1.4426950408889634 × 2^47, to the nearest integer (R110). That the 48 bits are one
integer and 47 fraction bits is the model's choice (log entry 78). -/
def log2eFixed : Nat := 203041276517400

/-- The result of R110 to R113 for a finite argument its reduction takes; none for one it does not. The spec names no
rounding of EXPE's y and no order of LOG2's two operations: y is floored to 48 fraction bits, and e × s and the sum each
round once in binary32 (log entry 78). -/
def glyphRaw (g : Glyph) (x : F32) : Option F32 :=
  let v := f32 x
  let zero := x &&& 0x7FFFFFFF == 0
  match g.reduction.toNat with
  | 0 => some (glyphAt g (f32 (glyphClamp g x)))
  | 6 => let r := glyphAt g (f32 (glyphClamp g (x &&& 0x7FFFFFFF)))
         some (if x.msb then r ^^^ 0x80000000 else r)
  | 1 | 2 =>
    if !f32Finite x then none
    else
      let y := if g.reduction = 2 then
          let z := (Num.mul v (Num.ofInt log2eFixed (-47))).1
          Num.ofInt (z.scale 48).floor (-48)
        else v
      let n := y.floor
      let p := glyphAt g (Num.add y (Num.ofInt (-n) 0)).1
      some (toF32 ((f32 p).scale n)).1
  | 3 =>
    if zero || x.msb || !f32Finite x then none
    else
      let (m, e) := v.norm
      let p := glyphAt g (Num.add m (Num.ofInt (-1) 0)).1
      some (fadd (fmul (toF32 (Num.ofInt e 0)).1 g.logScale).1 p).1
  | 4 =>
    if zero || !f32Finite x then none
    else
      let (m, e) := v.norm
      let p := glyphAt g (Num.add m (Num.ofInt (-1) 0)).1
      let r := (toF32 ((f32 p).scale (-e))).1
      some (if x.msb then r ^^^ 0x80000000 else r)
  | 5 =>
    if zero || x.msb || !f32Finite x then none
    else
      let (m, e) := v.norm
      let q := e / 2
      let p := glyphAt g (Num.add (m.scale (e - 2 * q)) (Num.ofInt (-1) 0)).1
      some (toF32 ((f32 p).scale (-q))).1
  | _ => none

/-- Flush and flags of a result: below the threshold, ±0 included, it is a zero of its sign with FTZ (R114, R115). -/
def sfuFinish (flush : F32) (x r : F32) : F32 × BitVec 16 :=
  let mag := r &&& 0x7FFFFFFF
  if fIsNaN r then (f32NaN, Flag.inv)
  else if flt mag flush then (r &&& 0x80000000, Flag.ftz)
  else if mag = 0x7F800000 ∧ f32Finite x then (r, Flag.ovf)
  else (r, 0)

/-- A glyph at an argument (R110 to R115); an argument the reduction does not take has a free result (log entry 10). -/
def glyphEval (g : Glyph) (x : F32) : F32 × BitVec 16 :=
  match f32 x with
  | .nan sig => (f32NaN, Flag.when sig Flag.inv)
  | _ =>
    match glyphRaw g x with
    | some r => sfuFinish g.flush x r
    | none => sfuFinish g.flush x (Config.glyphSpecial g x)

/-- +∞ in binary32. -/
def f32Inf : F32 := 0x7F800000
/-- 1 in binary32. -/
def f32One : F32 := 0x3F800000

/-- The special-value table of R117 for ROM functions but pow: argument classes +∞, −∞, ±0 and negative finite. -/
def sfuSpecial (slot : Nat) (x : F32) : Option (F32 × BitVec 16) :=
  let sg := x &&& 0x80000000
  let mag := x &&& 0x7FFFFFFF
  let pinf := x == f32Inf
  let ninf := x == 0xFF800000
  let zero := mag == 0
  let neg := x.msb && !zero && !ninf
  let pick (a b z n : Option (F32 × BitVec 16)) :=
    if pinf then a else if ninf then b else if zero then z else if neg then n else none
  match slot with
  | 0 | 1 => pick (some (f32Inf, 0)) (some (0, 0)) (some (f32One, 0)) none
  | 2 => pick (some (0, 0)) (some (0x80000000, 0)) (some (f32Inf ||| sg, Flag.ovf)) none
  | 3 => pick (some (0, 0)) (some (f32NaN, Flag.inv)) (some (f32Inf ||| sg, Flag.ovf)) (some (f32NaN, Flag.inv))
  | 4 => pick (some (f32One, 0)) (some (0, 0)) (some (0x3F000000, 0)) none
  | 5 | 8 => pick (some (f32One, 0)) (some (f32One ||| 0x80000000, 0)) (some (x, 0)) none
  | 6 | 9 => pick (some (f32Inf, 0)) (some (0x80000000, 0)) (some (x, 0)) none
  | 7 => pick (some (f32Inf, 0)) (some (f32NaN, Flag.inv)) (some (0xFF800000, Flag.ovf)) (some (f32NaN, Flag.inv))
  | 11 => pick (some (f32Inf, 0)) (some (0, 0)) (some (0x3F317218, 0)) none
  | _ => none

/-- pow with the cases of R117; elsewhere its value is free (log entry 10). -/
def sfuPow (x y : F32) : F32 × BitVec 16 :=
  let nan := fIsNaN x || fIsNaN y
  let sig := (f32 x).isSig || (f32 y).isSig
  let yz := y &&& 0x7FFFFFFF == 0
  let xz := x &&& 0x7FFFFFFF == 0
  let yinf := y &&& 0x7FFFFFFF == 0x7F800000
  if nan then (f32NaN, Flag.when sig Flag.inv)
  else if yz || x == f32One then (f32One, 0)
  else if x.msb && !xz then (f32NaN, Flag.inv)
  else if xz then (if y.msb then (f32Inf, Flag.ovf) else (0, 0))
  else if x == f32Inf then (if y.msb then (0, 0) else (f32Inf, 0))
  else if yinf then (if flt f32One x == !y.msb then (f32Inf, 0) else (0, 0))
  else sfuFinish 0x00800000 x (Config.powCore x y)

/-- The functions compatibility mode changes (R126). -/
def compatSlot (slot : Nat) : Bool :=
  slot == 0 || slot == 1 || slot == 2 || slot == 3 || slot == 4 || slot == 5 || slot == 7 || slot == 9

/-- The finite arguments at which R116's table gives ±∞ with OVF: exp2 from 128, exp above 88.722839, the reciprocal
below 2^−128 in magnitude. -/
def sfuOverflow (slot : Nat) (x : F32) : Bool :=
  match slot with
  | 0 => f32Finite x && fle 0x43000000 x
  | 1 => f32Finite x && fle 0x42B17218 x
  | 2 => decide ((x &&& 0x7FFFFFFF).toNat < 0x00200000)
  | _ => false

/-- The glyph of a ROM function. Slot 7 has no flush region (R116), so its threshold is 0 here. -/
def romGlyph (slot : Nat) (compat : Bool) : Glyph :=
  let g := parseGlyph (if compat && compatSlot slot then compatImage slot else romImage slot)
  if slot = 7 then { g with flush := 0 } else g

/-- A ROM function at an argument, in normal or compatibility mode (R110 to R117, R126 to R128). -/
def romEval (slot : Nat) (compat : Bool) (x : F32) : F32 × BitVec 16 :=
  match f32 x with
  | .nan sig => (f32NaN, Flag.when sig Flag.inv)
  | _ =>
    match sfuSpecial slot x with
    | some r => r
    | none =>
      if !compat && sfuOverflow slot x then (f32Inf ||| (x &&& 0x80000000), Flag.ovf)
      else glyphEval (romGlyph slot compat) x

/-- COMPAT_MODE is in force (R125). -/
def State.compat (s : State) : Bool := s.cfgNum 0xB010 1 == 1

/-- The loaded glyph of a slot from 16 to 63, its reserved bytes zero (R119). -/
def State.loadedGlyph (s : State) (slot : Nat) : Bytes := glyphClean (s.cfgBlob (0xB200 + slot) 5)

/-- The SFU instruction reaches the slot (R118). -/
def State.slotUsable (s : State) (slot : Nat) : Bool :=
  if slot < 12 then true else if slot < 16 then false else !(s.loadedGlyph slot).isEmpty

/-- The slot runs at quarter rate (R116, R119, R126). -/
def State.slotQuarter (s : State) (slot : Nat) : Bool :=
  if slot < 16 then decide (7 ≤ slot ∧ slot ≤ 11) || (s.compat && compatSlot slot)
  else (parseGlyph (s.loadedGlyph slot)).rational

/-- One lane of the SFU instruction. -/
def State.sfuLane (s : State) (slot : Nat) (x y : F32) : F32 × BitVec 16 :=
  if slot = 10 then sfuPow x y
  else if slot < 16 then romEval slot s.compat x
  else glyphEval (parseGlyph (s.loadedGlyph slot)) x

/-! ## Soft maximum -/

/-- +700 in binary32 (R132). -/
def f32_700 : F32 := 0x442F0000

/-- ln 2 × 2^128, to the nearest integer. -/
def ln2Fixed : Nat := 235865763225513294137944142764154484399

/-- e^r × 2^128 for r = a × 2^−128 in 0 to ln 2, by 40 terms of the series; its error is far below 2^−100. -/
def expFixed (a : Int) : Int :=
  ((List.range 40).foldl (fun ((sum, term) : Int × Int) (i : Nat) => (sum + term, term * a / 2 ^ 128 / (i + 1))) (0, 2 ^ 128)).1

/-- e^x of a finite binary32 x, to about 100 bits. -/
def expNum (x : F32) : Num :=
  let a := ((f32 x).scale 128).floor
  let n := a / ln2Fixed
  Num.ofInt (expFixed (a - n * ln2Fixed)) (n - 128)

/-- The encoding w of a format lies within one unit in the last place of the positive number y. -/
def Fmt.within (f : Fmt) (w : Nat) (y : Num) : Bool :=
  let d := (Num.add (f.decode w) y.neg).1
  let (_, e) := y.norm
  d.isFinite && decide (w < f.signBit) &&
    [d, d.neg].all fun v => v.cmp (Num.ofInt 1 (e - f.fb)) == some .lt || v.cmp (Num.ofInt 1 (e - f.fb)) == some .eq

/-- An encoding that the bound of one unit in the last place holds: `w` where it keeps the bound, and the nearest one
where it does not. -/
def Fmt.held (f : Fmt) (w : Nat) (y : Num) : Nat := if f.within w y then w else (f.encode .rne false y).1

/-- Slot 12: e^x in E11 within 1 E11 ulp (R116, R132). -/
def slotTwelve (x : F32) : BitVec 28 := BitVec.ofNat 28 (fmtE11.held (Config.expE11 x).toNat (expNum x))

/-- Slot 13: 1 ÷ S in sum form within 1 sum-form ulp (R116, R135). -/
def slotThirteen (sum : Nat) : Nat :=
  fmtSum.held (Config.recipSum (BitVec.ofNat 54 sum)).toNat (Num.div (Num.ofInt 1 0) (fmtSum.decode sum)).1

/-- The E11 word of an entered logit, with its flag; none for a NaN (R130, R132). -/
def enterLogit (x : F32) : Option (BitVec 28 × BitVec 16) :=
  if fIsNaN x then none
  else if flt f32_700 x then some (slotTwelve f32_700, Flag.ovf)
  else if x = 0xFF800000 then some (0, 0)
  else if flt x (f32_700 ||| 0x80000000) then some (0, Flag.ftz)
  else some (slotTwelve x, 0)

/-- Addition in sum form, rounding to nearest even (R133). -/
def sumAdd (x y : Nat) : Nat := (fmtSum.encode .rne false (Num.add (fmtSum.decode x) (fmtSum.decode y)).1).1

/-- One level of a tree that pairs 2m with 2m + 1; an unpaired last item passes up. -/
def pairUp {α : Type} (f : α → α → α) : List α → List α
  | a :: b :: t => f a b :: pairUp f t
  | l => l

/-- n levels of the tree. -/
def treeLevels {α : Type} (f : α → α → α) : Nat → List α → List α
  | 0, l => l
  | n + 1, l => treeLevels f n (pairUp f l)

/-- The elements whose position is l modulo 256, in increasing position (R134, R142). -/
def laneItems {α : Type} (l : List α) (lane : Nat) : List α :=
  ((List.range l.length).zip l).filterMap fun (i, x) => if i % 256 = lane then some x else none

/-- The row sum of R134 of E11 words. -/
def rowSum (e : List (BitVec 28)) : Nat :=
  let toSum := fun (w : BitVec 28) => (fmtSum.encode .rne false (fmtE11.decode w.toNat)).1
  let lanes := tabulate (fun l => (laneItems e l).foldl (fun acc w => sumAdd acc (toSum w)) 0) 256
  (treeLevels sumAdd 8 lanes).headD 0

/-- What a soft-maximum row gives: the output values (all NaN on a NaN row or a zero sum), the scratch words, the
flags of the entry and of R136 (R129 to R136). -/
structure SoftRow where
  outs : List Num := []
  scratch : List (BitVec 28) := []
  flags : BitVec 16 := 0
  deriving DecidableEq, Repr

/-- A soft-maximum row before its outputs are rounded. -/
def softRow (x : List F32) : SoftRow :=
  let ent := x.map enterLogit
  let words := ent.map fun e => match e with
    | some (w, _) => w
    | none => 0
  let fl := Flag.union (ent.map fun e => match e with
    | some (_, f) => f
    | none => Flag.inv)
  let nan := ent.any (·.isNone)
  let sum := rowSum words
  if nan || sum = 0 then
    { outs := x.map fun _ => .nan false, scratch := words, flags := fl ||| Flag.when (!nan) Flag.inv }
  else
    let r := fmtSum.decode (slotThirteen sum)
    { outs := words.map fun w => (Num.mul (fmtE11.decode w.toNat) r).1, scratch := words, flags := fl }

/-! ## Normalisation -/

/-- A binary32 value with flags gathered so far. -/
abbrev FV := F32 × BitVec 16

/-- An operation on two values, with all flags. -/
def FV.op (f : F32 → F32 → F32 × BitVec 16) (x y : FV) : FV :=
  let (r, fl) := f x.1 y.1
  (r, x.2 ||| y.2 ||| fl)

/-- A negative variance and −0 become +0 (R141). -/
def clampVar (v : F32) : F32 := if v.msb && !fIsNaN v then 0 else v

/-- ρ = rsqrt(var + ε) through ROM slot 3 in normal mode (R138, R885). -/
def rho (var : FV) (eps : F32) : FV :=
  let (a, fl) := fadd (clampVar var.1) eps
  let (r, gl) := romEval 3 false a
  (r, var.2 ||| fl ||| gl)

/-- Sum mode (R139 to R141): μ and ρ. -/
def normSum (x : List F32) (eps : F32) (a1 a2 : Int) : FV × FV :=
  let (t1, f1) := ({} : XaElem).addAll (x.map fun v => enterNum 96 a1 (f32 v))
  let (t2, f2) := ({} : XaElem).addAll (x.map fun v => enterProduct 96 a2 (f32 v) (f32 v))
  let (l1, g1) := t1.leave 96 a1
  let (l2, g2) := t2.leave 96 a2
  let (s1, h1) := toF32 l1
  let (s2, h2) := toF32 l2
  let s1 : FV := (s1, f1 ||| g1 ||| h1)
  let s2 : FV := (s2, f2 ||| g2 ||| h2)
  let n : FV := ((toF32 (Num.ofInt x.length 0)).1, 0)
  let mu := FV.op fdiv s1 n
  let a := FV.op fmul n s2
  let b := FV.op fmul s1 s1
  let var := FV.op fdiv (FV.op fsub a b) (FV.op fmul n n)
  (mu, rho var eps)

/-- A lane or block state of stable mode: k, m, M (R142). -/
structure NormState where
  k : FV := (0, 0)
  m : FV := (0, 0)
  mm : FV := (0, 0)
  deriving DecidableEq, Repr

/-- The update of R142. -/
def NormState.update (st : NormState) (x : F32) : NormState :=
  let xv : FV := (x, 0)
  let k := FV.op fadd st.k (f32One, 0)
  let d := FV.op fsub xv st.m
  let m := FV.op fadd st.m (FV.op fdiv d k)
  { k := k, m := m, mm := FV.op fadd st.mm (FV.op fmul d (FV.op fsub xv m)) }

/-- The merge of R143. -/
def NormState.merge (a b : NormState) : NormState :=
  if b.k.1 &&& 0x7FFFFFFF = 0 then a
  else if a.k.1 &&& 0x7FFFFFFF = 0 then b
  else
    let n := FV.op fadd a.k b.k
    let d := FV.op fsub b.m a.m
    { k := n
      m := FV.op fadd a.m (FV.op fmul d (FV.op fdiv b.k n))
      mm := FV.op fadd (FV.op fadd a.mm b.mm)
        (FV.op fmul (FV.op fmul d d) (FV.op fdiv (FV.op fmul a.k b.k) n)) }

/-- The state of one block of a row: 256 lanes by position within the block, merged in the tree of R134 (R142, R144). -/
def NormState.ofBlock (x : List F32) : NormState :=
  let lanes := tabulate (fun l => (laneItems x l).foldl NormState.update {}) 256
  (treeLevels NormState.merge 8 lanes).headD {}

/-- Stable mode on a row that lies in blocks on one or more cores, in the order of their positions: the block states
merge in a tree by block index (R142 to R145). -/
def normStable (blocks : List (List F32)) (eps : F32) : FV × FV :=
  let t := (treeLevels NormState.merge blocks.length (blocks.map NormState.ofBlock)).headD {}
  (t.m, rho (FV.op fdiv t.mm t.k) eps)

/-- A row with a NaN gives NaN, and INV only for a signalling NaN; the other flags of the steps stand (R146, R885). -/
def FV.nanRow (sig : Bool) (v : FV) : FV := (f32NaN, (v.2 &&& ~~~Flag.inv) ||| Flag.when sig Flag.inv)

/-- A row's μ and ρ from its blocks (R138 to R146). -/
def normRow (stable : Bool) (blocks : List (List F32)) (eps : F32) (a1 a2 : Int) : FV × FV :=
  let x := blocks.flatten
  let r := if stable then normStable blocks eps else normSum x eps a1 a2
  if x.any fIsNaN then
    let sig := x.any fun v => (f32 v).isSig
    (r.1.nanRow sig, r.2.nanRow sig)
  else r

end Sys2Proof.Machine
end

