-- ==== Sys2Proof/Machine/Vector.lean ====
section
/-! DEFINITION. The instructions of the vector unit and the SFU (R68, R97, R106, R109 to R146, R210, R888). -/

namespace Sys2Proof.Machine

/-- The vector unit's number (R889). -/
def vectorUnit : Nat := 8
/-- The SFU's number (R889). -/
def sfuUnit : Nat := 9

/-- A delivered NaN is the canonical quiet NaN (R67). -/
def canonical (x : F32) : F32 := if fIsNaN x then f32NaN else x

/-- A lane mask of a compare. -/
def compareLane (r : Bool) : F32 := if r then Config.vopTrue else Config.vopFalse

/-- One lane of a VOP from the lanes of Vd, Vs and Vt. The operation codes stand in a file that is not part of the
spec: FMA adds Vd, a compare by order raises INV on any NaN and one by equality on a signalling NaN, minimum and
maximum of ordered distinct values are the smaller and the larger. A conversion leaves its result in the lane as the
binary32 value of the converted element, for the integer formats too (log entry 11). -/
def vopLane (op : VopOp) (d x y : F32) : F32 × BitVec 16 :=
  let sig := (f32 x).isSig || (f32 y).isSig
  let un := fIsNaN x || fIsNaN y
  match op with
  | .add => fadd x y
  | .sub => fsub x y
  | .mul => fmul x y
  | .div => fdiv x y
  | .fma => ffma x y d
  | .min => (canonical (if flt x y then x else if flt y x then y else Config.vopMinMax x y), Flag.when sig Flag.inv)
  | .max => (canonical (if flt x y then y else if flt y x then x else Config.vopMinMax x y), Flag.when sig Flag.inv)
  | .cmpEq => (compareLane (fle x y && fle y x), Flag.when sig Flag.inv)
  | .cmpLt => (compareLane (flt x y), Flag.when un Flag.inv)
  | .cmpLe => (compareLane (fle x y), Flag.when un Flag.inv)
  | .select => (Config.vopSelect d x y, 0)
  | .mov => (x, 0)
  | .abs => (canonical (x &&& 0x7FFFFFFF), Flag.when (f32 x).isSig Flag.inv)
  | .neg => (canonical (x ^^^ 0x80000000), Flag.when (f32 x).isSig Flag.inv)
  | .cvt f =>
    let (w, fl) := encodeElem f.toNat .rne false (f32 x)
    ((loadElem f.toNat w).1, fl)

/-- The operation has a meaning: a conversion names a floating or integer format (R177). -/
def vopValid : VopOp → Bool
  | .cvt f => decide (f.toNat ≤ 6)
  | _ => true

/-- The registers an operation reads (R208). -/
def vopSources (op : VopOp) (vd vs vt : VReg) : List VReg :=
  match op with
  | .fma | .select => [vd, vs, vt]
  | .mov | .abs | .neg | .cvt _ => [vs]
  | _ => [vs, vt]

/-- Three lists of lanes at once. -/
def zip3 (f : F32 → F32 → F32 → F32 × BitVec 16) (a b c : List F32) : List (F32 × BitVec 16) :=
  List.zipWith (fun (x, y) z => f x y z) (a.zip b) c

/-- VOP (R68, R106, R210): one binary32 operation on all 256 lanes; a code with no operation faults (R221). -/
def execVop (k : CoreId) (op : VopOp) (vd vs vt : VReg) (s : State) : Result :=
  .next (issueUnit k vectorUnit (vopSources op vd vs vt) (.vop k op vd vs vt) s fun _ st =>
    if !vopValid op then none
    else
      let r := zip3 (vopLane op) (st.lanes vd.val) (st.lanes vs.val) (st.lanes vt.val)
      some { cycles := 4, effects := [.vreg vd (r.map (·.1)), .flags (Flag.union (r.map (·.2)))]
             picojoule := s.cfgNum 0x3010 4 })

/-- SFU (R109 to R118): a glyph slot's function on 256 lanes; an empty slot and slots 12 and 13 fault (R118). -/
def execSfu (k : CoreId) (slot : GlyphSlot) (vd vs vt : VReg) (s : State) : Result :=
  .next (issueUnit k sfuUnit (if slot = 10 then [vs, vt] else [vs]) (.sfu k slot vd vs vt) s fun _ st =>
    if !s.slotUsable slot.val then none
    else
      let r := List.zipWith (fun x y => s.sfuLane slot.val x y) (st.lanes vs.val) (st.lanes vt.val)
      let q := s.slotQuarter slot.val
      some { cycles := if q then 3 + 22 else 14
             effects := [.vreg vd (r.map (·.1)), .flags (Flag.union (r.map (·.2)))]
             picojoule := s.cfgNum 0x3010 5 })

/-- The coordinates of the row a SOFTMAX or NORM works on: dimension 0 from the origin to the row's end (log entry
23). -/
def Stream.rowAt (st : Stream) (org : SReg) (d : Desc) : List (List Nat) :=
  let (i0, i1) := st.origin org.val
  if d.empty then [] else tabulate (fun i => [i0 + i, i1]) (d.ext 0 - i0)

/-- SOFTMAX (R129 to R137): the scratch must lie in SRAM and hold 4 bytes for each logit; rows beyond R131's limit
fault; an empty row writes nothing. -/
def execSoftmax (k : CoreId) (src dst scratch : BitVec 16) (org : SReg) (round : BitVec 2) (s : State) : Result :=
  .next (issueUnit k sfuUnit [] (.softmax k src dst scratch org round) s fun key st =>
    let c := keyCtx key
    match s.desc c src.toNat, s.desc c dst.toNat, s.desc c scratch.toNat with
    | some a, some b, some t =>
      let co := st.rowAt org a
      let n := co.length
      if !pairOk org || round = 3 || t.space != 0 || decide (Config.softmaxMaxRow < n) || decide (t.count * t.size < 4 * n)
      then none
      else if n = 0 || b.empty then some {}
      else
        let (vals, oob) := s.readElems c k.val a co
        let ld := vals.map a.toF32
        let row := softRow (ld.map (·.1))
        let out := (co.zip row.outs).map fun (g, y) =>
          if b.inBounds g then b.fromNum (s.roundBy c round.toNat (Config.roundSeed c st.pc) b g) y else (0, 0)
        let (eff, drop) := s.writeElems c k.val b (co.zip (out.map (·.1)))
        let words := row.scratch.flatMap fun w => toLe 4 w.toNat
        let (r, o) := s.trackedLines c k.val a co
        let (w, p) := s.trackedLines c k.val b co
        some { cycles := 2 * ceilDiv n 256 + 40
               effects := .mem .sram (s.absAddr c k.val 0 t.base) words :: eff ++
                 tailEffects (Flag.union (ld.map (·.2)) ||| row.flags ||| Flag.union (out.map (·.2))) oob drop
               picojoule := ceilDiv n 256 * s.cfgNum 0x3010 5, reads := r, writes := w, others := o + p }
    | _, _, _ => none)

/-- NORM (R138 to R146, R885, R888): μ to lane 0 and ρ to lane 1 of Vd; sum mode faults on an anchor out of range
(R75); an empty row writes nothing. The instruction's row lies on its own core, so it is one block (R142). -/
def execNorm (k : CoreId) (stable : Bool) (src : BitVec 16) (vd : VReg) (org sr : SReg) (s : State) : Result :=
  .next (issueUnit k sfuUnit [] (.norm k stable src vd org sr) s fun key st =>
    let c := keyCtx key
    match s.desc c src.toNat with
    | none => none
    | some d =>
      let r := (st.s sr.val).toNat
      let a1 := (BitVec.ofNat 16 (r / 2 ^ 32)).toInt
      let a2 := (BitVec.ofNat 16 (r / 2 ^ 48)).toInt
      let ok := fun (a : Int) => decide (Config.anchorMin ≤ a) && decide (a ≤ Config.anchorMax)
      let co := st.rowAt org d
      if !pairOk org || (!stable && !(ok a1 && ok a2)) then none
      else if co.isEmpty then some {}
      else
        let (vals, oob) := s.readElems c k.val d co
        let ld := vals.map d.toF32
        let (mu, rh) := normRow stable [ld.map (·.1)] (BitVec.ofNat 32 r) a1 a2
        let (rd, o) := s.trackedLines c k.val d co
        some { cycles := 2 * ceilDiv co.length 256 + 40
               effects := .lane vd 0 mu.1 :: .lane vd 1 rh.1 ::
                 tailEffects (Flag.union (ld.map (·.2)) ||| mu.2 ||| rh.2) oob 0
               picojoule := ceilDiv co.length 256 * s.cfgNum 0x3010 5, reads := rd, others := o })

/-- STIPPLE (R91, R97, R888): lane ℓ receives word x0 for linear index S(n+1) + ℓ; stream 0 faults. -/
def execStipple (k : CoreId) (vd : VReg) (sn stReg : SReg) (s : State) : Result :=
  .next (issueUnit k vectorUnit [] (.stipple k vd sn stReg) s fun _ st =>
    let t := (st.s stReg.val).toNat
    if !pairOk sn || t % 2 ^ 32 = 0 then none
    else
      let lanes := tabulate (fun l =>
        stippleWord (st.s sn.val) (stippleCounter (t / 2 ^ 32) ((st.s (sn.val + 1)).toNat + l) (t % 2 ^ 32))) 256
      some { cycles := 4, effects := [.vreg vd lanes], picojoule := s.cfgNum 0x3010 4 })

end Sys2Proof.Machine
end

