-- ==== Sys2Proof/Machine/Units.lean ====
section
/-! DEFINITION. The end of an operation on a unit, the issue of an instruction held for it (R208), and waits for a
tracker (R253). -/

namespace Sys2Proof.Machine

/-- The state a result carries, or the given one. -/
def resultState (s : State) : Result → State
  | .next t => t
  | .fault _ => s
  | .refused _ => s

/-- Issues an instruction of a core unit again; other commands are never held. -/
def issueAgain (i : Instr) (s : State) : State :=
  match i with
  | .tloadv k vd d o h => resultState s (execTloadv k vd d o h s)
  | .tstorev k vs d o h r => resultState s (execTstorev k vs d o h r s)
  | .dma k a b m => resultState s (execDma k a b m s)
  | .atomaddXa k vs d o h => resultState s (execAtomaddXa k vs d o h s)
  | .atomaddF32 k vs d o h => resultState s (execAtomaddF32 k vs d o h s)
  | .mma k a x y o sk c t u => resultState s (execMma k a x y o sk c t u s)
  | .xspill k a d o h r => resultState s (execXspill k a d o h r s)
  | .xfill k a d o h => resultState s (execXfill k a d o h s)
  | .xout k a d o h r => resultState s (execXout k a d o h r s)
  | .vop k op vd vs vt => resultState s (execVop k op vd vs vt s)
  | .sfu k g vd vs vt => resultState s (execSfu k g vd vs vt s)
  | .softmax k a b c o r => resultState s (execSoftmax k a b c o r s)
  | .norm k m a vd o sr => resultState s (execNorm k m a vd o sr s)
  | .stipple k vd sn st => resultState s (execStipple k vd sn st s)
  | _ => s

/-- The stream of the slot on core k issues its held instruction, when it can (R208). -/
def State.tryHeld (s : State) (k : Nat) : State :=
  match (s.core k).cur with
  | none => s
  | some key =>
    match ((s.core k).stream key).status with
    | .held i =>
      let t := s.updStream k key fun st => { st with status := .running }
      if (t.issuer k).isSome then issueAgain i t else s
    | _ => s

/-- UNIT_FREE (R208, R224, R511, R512, R889): in a slot of its context, an operation whose lines have all retired writes
its result and frees its unit; an instruction held for it issues. -/
def execUnitFree (k : CoreId) (unit : Fin 11) (s : State) : Result :=
  .next (
    match (s.core k.val).cur with
    | none => s
    | some key =>
      let u := unitKey (keyCtx key) unit.val
      match (s.core k.val).units.get none u with
      | none => s
      | some x =>
        let issuing := unit.val == tensorUnit &&
          (s.core k.val).dmas.any fun y => y.ctx == x.ctx && decide (0 < y.linesLeft)
        if s.retired x && !issuing then
          let s := s.updCore k.val fun y => { y with units := y.units.put u none }
          let s := ((s.freeTracker k.val x.ctx.val x.held).meter x.ctx.val x.uid x.picojoule).applyAll k.val x
          s.tryHeld k.val
        else s)

/-- One more line of an operation has its tracker: it may issue, or it is held when it is no HBM line. With `reuse` the
tracker is that of an earlier line of the operation that is no HBM line and retires now (log entry 79). -/
def grantLine (x : InFlight) (xfers : List Xfer) (reuse : Bool) : InFlight × List Xfer :=
  let x' := { x with linesLeft := x.linesLeft - 1, held := if reuse then x.held - 1 else x.held }
  match xfers.find? fun y => x.xfers.contains y.id && decide (0 < y.waiting) with
  | none => ({ x' with held := x'.held + 1 }, xfers)
  | some y => (x', mapIf (fun z => z.id == y.id) (fun z => { z with waiting := z.waiting - 1 }) xfers)

/-- A unit of the core whose operation still has lines to issue for a context, and the stream it belongs to. -/
def Core.lineWaiter (x : Core) (c : Nat) : Option Nat :=
  (x.units.find? fun u => match u.2 with
    | some op => op.ctx.val == c && decide (0 < op.linesLeft)
    | none => false).map (·.1)

/-- The stream that waited for a tracker for unit u goes on when no line is left. -/
def Core.endTrackerWait (x : Core) (key u left : Nat) : Core :=
  if left = 0 ∧ (x.stream key).status = .waitTracker u then x.updStream key fun st => { st with status := .running } else x

/-- TRACKER_WAIT_END (R252, R253, R254): in a slot of a context, an operation of it with lines left (its DMA copies first)
takes a tracker for its next line: a free one, or that of an earlier line of its own that has retired. With the last
line its stream goes on. -/
def execTrackerWaitEnd (k : CoreId) (s : State) : Result :=
  .next (
    let x := s.core k.val
    match x.cur with
    | none => s
    | some key =>
      let c := keyCtx key
      let reuse := s.freeTrackers k.val c == 0
      let take := fun (y : Core) => if reuse then y else y.takeTrackers (s.wheel k.val) c 1
      if (s.ctx c).life.state ≠ .live ∨ x.blocked key = true ∨ s.safety.stopped = true then s
      else
        match x.dmas.find? fun y => y.ctx.val == c && decide (0 < y.linesLeft) with
        | some op =>
          if reuse && op.held == 0 then s
          else
            let (op', xf) := grantLine op s.hbm.xfers reuse
            { s with hbm := { s.hbm with xfers := xf } }.updCore k.val fun y =>
              (take { y with dmas := mapIf (fun z => z == op) (fun _ => op') y.dmas }).endTrackerWait
                op.stream (unitKey c tensorUnit) op'.linesLeft
        | none =>
          match x.lineWaiter c with
          | none => s
          | some u =>
            match x.units.get none u with
            | none => s
            | some op =>
              if reuse && op.held == 0 then s
              else
                let (op', xf) := grantLine op s.hbm.xfers reuse
                { s with hbm := { s.hbm with xfers := xf } }.updCore k.val fun y =>
                  (take { y with units := y.units.put u (some op') }).endTrackerWait op.stream u op'.linesLeft)

end Sys2Proof.Machine
end

