-- ==== Sys2Proof/Machine/HbmUnit.lean ====
section
/-! DEFINITION. The deterministic HBM controller: data slots, refresh, return and retirement of lines (R150 to R175,
R512, R541). -/

namespace Sys2Proof.Machine

/-- Position of a tick in its frame of 8 GT; position 7 is the reserved slot (R164). -/
def framePos (t : Nat) : Nat := t % 8

/-- Data slot number of a tick at positions 0 to 6 (R165). -/
def dataSlot (t : Nat) : Nat := 7 * (t / 8) + framePos t

/-- The bank target that every pseudo-channel serves at a tick (R165). -/
def bankAt (t : Nat) : Nat := dataSlot t % 64

/-- Stack and pseudo-channel of a line, the address divided by 64 (R152). -/
def lineChannel (l : Nat) : Nat := l % 512

/-- Bank target of a line (R152). -/
def lineBank (l : Nat) : Nat := l / 512 % 64

/-- The bank target refreshed in the reserved slot of frame f (R171). -/
def refreshBank (f : Nat) : Nat := (7 * f + 6) % 64

/-- The transfer of context c that the controller serves: its earliest with lines to issue (R168). -/
def Hbm.serving (h : Hbm) (c : Nat) : Option Xfer := h.xfers.find? fun x => x.ctx.val == c && !x.lines.isEmpty

/-- The transfer may issue at tick t: in a slot after its submission and after its context's previous one (R168, R169). -/
def Hbm.mayStart (h : Hbm) (x : Xfer) (t : Nat) : Bool :=
  x.started || decide (x.submitted.toNat < t) && match h.lastDir.get none x.ctx.val with
    | none => true
    | some (w, last) => decide (last.toNat < t) && (w == x.write || decide (last.toNat / 8 < t / 8))

/-- Pseudo-channels that have moved a line in the data slot of tick t (R166). -/
def Hbm.usedAt (h : Hbm) (t : Word) : List Nat := if h.slotTick = t then h.slotUsed else []

/-- The line of a transfer that issues at tick t: of the slot's bank target, on a free pseudo-channel, the lowest of
its channel and bank (R166, R168). -/
def Hbm.pickLine (h : Hbm) (x : Xfer) (t : Word) : Option Nat :=
  let eligible := x.lines.filter fun l => lineBank l == bankAt t.toNat && !(h.usedAt t).contains (lineChannel l)
  eligible.foldl (fun b l => match b with
    | none => some l
    | some m => some (min l m)) none

/-- The context's work may use the controller: a LIVE context's, and of a SUSPENDED one its BAR2 accesses and the packets
that land for it (R510, R530, R785). -/
def State.hbmIssues (s : State) (c : Nat) (x : Xfer) : Bool :=
  (s.ctx c).life.state == .live || ((s.ctx c).life.state == .suspended && x.core.isNone && x.uid.isNone)

/-- Context c's former HBM share is still being scrubbed in the ruling slots that stay with the scrub (R162). -/
def State.hbmScrubbing (s : State) (c : Nat) : Bool :=
  s.scrubBytes ((s.ctx c).life.former.filter fun e => e.1 == 1) != 0

/-- The context whose scrub keeps the HBM controller's slot of this tick (R162). -/
def State.scrubOwner (s : State) : Option Nat :=
  (List.range 64).find? fun c => (s.ctx c).life.scrubSlots.contains ((s.wheel 33).slotAt s.now) && s.hbmScrubbing c

/-- The context whose transfers the HBM controller may issue now: not in a slot that a scrub keeps (R162, R167). -/
def State.hbmOwner (s : State) : Option Nat := if s.scrubOwner.isSome then none else s.engineOwner 33

/-- HBM_LINE_ISSUE (R164 to R169): a line of the context's transfer issues in a data slot of a ruling slot it owns. -/
def execHbmLineIssue (c : CtxId) (s : State) : Result :=
  .next (
    let t := s.now
    match s.hbm.serving c.val with
    | none => s
    | some x =>
      if framePos t = 7 ∨ s.hbmOwner ≠ some c.val ∨ s.hbmIssues c.val x = false ∨ s.hbm.mayStart x t = false ∨
          x.lines.length ≤ x.waiting ∨ s.safety.stopped = true ∨ s.hbm.selfRefresh = true then s
      else match s.hbm.pickLine x s.tick.now with
        | none => s
        | some l =>
          let rest := x.lines.filter (· != l)
          let y := { x with lines := rest, started := true, flying := x.flying ++ [(l, s.tick.now)] }
          { s with hbm := { s.hbm with
              xfers := mapIf (fun z => z.id == x.id) (fun _ => y) s.hbm.xfers
              slotUsed := lineChannel l :: s.hbm.usedAt s.tick.now, slotTick := s.tick.now
              lastDir := if rest.isEmpty then s.hbm.lastDir.put c.val (some (x.write, s.tick.now)) else s.hbm.lastDir } })

/-- HBM_REFRESH (R171, R172): in the reserved slot every pseudo-channel refreshes the bank target of the frame. -/
def execHbmRefresh (s : State) : Result :=
  .next (
    if framePos s.now = 7 ∧ s.hbm.selfRefresh = false then
      { s with hbm := { s.hbm with lastRefresh := some (refreshBank (s.now / 8), s.tick.now) } }
    else s)

/-- The bytes that an effect writes into line l of HBM, and where they start. -/
def Effect.lineBytes (e : Effect) (l : Nat) : Option (Nat × Bytes) :=
  match e with
  | .mem .hbm a b =>
    let lo := max a (64 * l)
    let hi := min (a + b.length) (64 * l + 64)
    if lo < hi then some (lo, slice b (lo - a) (hi - lo)) else none
  | _ => none

/-- A written line retires: its bytes are in HBM, while the context owns its shares (R170, R541). -/
def State.writeLine (s : State) (x : Xfer) (l : Nat) : State :=
  if s.ownsShares x.ctx.val then
    x.effects.foldl (fun s e => match e.lineBytes l with
      | some (a, b) => s.writeMem .hbm a b
      | none => s) s
  else s

/-- A transfer with no line left has its other effects and goes. -/
def State.finishXfer (s : State) (x : Xfer) : State :=
  if x.lines.isEmpty && x.flying.isEmpty && x.landed.isEmpty then
    let s := { s with hbm := { s.hbm with xfers := s.hbm.xfers.filter fun y => y.id != x.id } }
    let k := match x.core with
      | some k => k.val
      | none => 0
    (x.effects.filter fun e => !e.inHbm).foldl (fun s e => match e with
      | .bar2 f a n => if x.poisoned then s.emit (.bar2Poisoned f) else s.apply k (2 * x.ctx.val) 0 (.bar2 f a n)
      | e => s.apply k (2 * x.ctx.val) (x.uid.getD 0) e) s
  else { s with hbm := { s.hbm with xfers := mapIf (fun y => y.id == x.id) (fun _ => x) s.hbm.xfers } }

/-- Lines of a transfer retire: their trackers are free (R252, R254). -/
def State.retireLines (s : State) (x : Xfer) (n : Nat) : State :=
  let s := match x.core with
    | none => s
    | some k => s.freeTracker k.val x.ctx.val n
  s.finishXfer x

/-- Core k's slot belongs to context c now (R512). -/
def State.inSlot (s : State) (k c : Nat) : Bool := match (s.core k).cur with
  | some key => keyCtx key == c
  | none => false

/-- What the check bytes of a line find (R174): an error confined to one symbol is corrected, one in two symbols is
detected, and of more symbols the spec says nothing. -/
def eccResult (errors : List SymbolError) : EccResult :=
  let l := ((errors.filter fun e => e.flips != 0).map fun e => e.symbol.val).eraseDups
  match l.length with
  | 0 => .clean
  | 1 => .corrected
  | 2 => .uncorrectable
  | _ => match Config.eccBeyond l with
    | 0 => .clean
    | 1 => .corrected
    | _ => .uncorrectable

/-- The 8 check bytes stored with line l of HBM, outside the 288 GiB (R174). -/
def State.checkBytes (s : State) (l : Nat) : Bytes := slice (Config.eccBytes (s.readMem .hbm (64 * l) 64)) 0 8

/-- HBM_READ_RETURN (R170, R174, R175, R512, R541): the data of a line arrives 96 GT after its data slot. Outside the
context's slots it waits in the landing buffer; an uncorrectable error faults the context. -/
def execHbmReadReturn (xfer : Nat) (line : Nat) (errors : List SymbolError) (s : State) : Result :=
  .next (
    let ecc := eccResult errors
    match s.hbm.xfers.find? fun x => x.id == xfer && !x.write with
    | none => s
    | some x =>
      match x.flying.find? fun f => f.1 == line with
      | none => s
      | some f =>
        if s.now < f.2.toNat + Config.hbmReadLat then s
        else
          let x := { x with
            flying := x.flying.filter (fun g => g.1 != line)
            poisoned := x.poisoned || ecc == EccResult.uncorrectable }
          let s := { s with hbm := { s.hbm with
            eccCorrected := if ecc = EccResult.corrected then satAdd s.hbm.eccCorrected 1 else s.hbm.eccCorrected
            eccUncorrectable := if ecc = EccResult.uncorrectable then satAdd s.hbm.eccUncorrectable 1 else s.hbm.eccUncorrectable } }
          let s := if s.accepting x.ctx.val then s else { s with discardedInactive := satAdd s.discardedInactive 1 }
          let held := match x.core with
            | none => false
            | some k => s.accepting x.ctx.val && !s.inSlot k.val x.ctx.val
          let s := if held then
              { s with hbm := { s.hbm with
                xfers := mapIf (fun y => y.id == x.id) (fun _ => { x with landed := x.landed ++ [line] }) s.hbm.xfers } }
            else s.retireLines x 1
          if ecc = EccResult.uncorrectable then s.ctxFault x.ctx.val else s)

/-- HBM_WRITE_RETIRE (R170, R245): a write retires 64 GT after its data slot. -/
def execHbmWriteRetire (xfer : Nat) (line : Nat) (s : State) : Result :=
  .next (
    match s.hbm.xfers.find? fun x => x.id == xfer && x.write with
    | none => s
    | some x =>
      match x.flying.find? fun f => f.1 == line with
      | none => s
      | some f =>
        if s.now < f.2.toNat + Config.hbmWriteLat then s
        else (s.writeLine x line).retireLines { x with flying := x.flying.filter fun g => g.1 != line } 1)

/-- The landing buffer of core k is written for context c, whose slot begins (R512). -/
def State.writeLanded (s : State) (k c : Nat) : State :=
  (s.hbm.xfers.filter fun x => x.ctx.val == c && x.core == some (Fin.ofNat 32 k) && !x.landed.isEmpty).foldl
    (fun s x => s.retireLines { x with landed := [] } x.landed.length) s

end Sys2Proof.Machine
end

