-- ==== Sys2Proof/Machine/Tenancy.lean ====
section
/-! DEFINITION. The life of contexts and the slots of the ruling: creation, teardown, scrubs, waits, slot starts,
switches and ruling changes (R498 to R554). -/

namespace Sys2Proof.Machine

/-! ## Waits -/

/-- Elapsed time of a stream's wait, without the ticks its context was SUSPENDED (R533). -/
def State.waitElapsed (s : State) (c : Nat) (st : Stream) : Nat :=
  (s.now - st.waitSince.toNat) - (s.suspendedTicks c - st.waitSusp)

/-- The waits that R532 bounds. -/
def StreamStatus.bounded : StreamStatus → Bool
  | .waitSem _ _ => true
  | .waitClaim _ _ => true
  | .waitTracker _ => true
  | _ => false

/-- WAIT_TIMEOUT (R532 to R534): a bounded wait of context c on core k has lasted its timeout. -/
def execWaitTimeout (k : CoreId) (c : CtxId) (s : State) : Result :=
  .next (
    let expired := [2 * c.val, 2 * c.val + 1].any fun key =>
      let st := (s.core k.val).stream key
      st.status.bounded && decide (s.waitTimeout c.val ≤ s.waitElapsed c.val st)
    if expired ∧ s.accepting c.val = true then s.teardown c.val 3 else s)

/-! ## Creation -/

/-- Creation of a context starts (R501, R542, R543, R734): what it holds takes its default; the host's registers, the
last teardown's tick and cause, and the order of its commands stay. -/
def State.startCreate (s : State) (c : Nat) : State :=
  let old := s.ctx c
  let fresh : Ctx :=
    { life := { state := .creating, createStart := s.tick.now, teardownTick := old.life.teardownTick
                cause := old.life.cause, former := old.life.former, scrubSlots := old.life.scrubSlots }
      nextUid := old.nextUid, host := old.host
      energy := { balance := s.refillOf c, refill := s.refillOf c } }
  (s.updCtx c fun _ => fresh).raiseStateChange c

/-- CREATE_COMPLETE (R502, R163, R892): 1,024 ticks have passed and no unit of the shares is SCRUBBING. -/
def execCreateComplete (c : CtxId) (s : State) : Result :=
  .next (
    let l := (s.ctx c.val).life
    if l.state = .creating ∧ l.createStart.toNat + 1024 ≤ s.now ∧ s.scrubBytes (s.shares c.val) = 0 then
      (s.updLife c.val fun l =>
        { l with
          state := if l.suspendOnCreate then .suspended else .live, suspendOnCreate := false
          suspendedAt := s.tick.now, createTick := s.tick.now }).raiseStateChange c.val
    else s)

/-! ## Teardown -/

/-- Lines of a transfer that hold a tracker and have not issued. -/
def Xfer.granted (x : Xfer) : Nat := x.lines.length - x.waiting

/-- Trackers of context c on core k that its teardown frees at once: those of transfers whose lines never issue, and those
of operations that paused with its streams (R254, R539). -/
def Core.cutTrackers (x : Core) (k c : Nat) (xfers : List Xfer) : Nat :=
  ((xfers.filter fun y => y.ctx.val == c && y.core == some (Fin.ofNat 32 k)).map Xfer.granted).sum +
    ((x.streams.filter fun t => keyCtx t.1 == c).map fun t => (t.2.paused.map fun u => u.2.held).sum).sum

/-- Core k without anything of context c but its transactions (R539). -/
def Core.evict (x : Core) (k c : Nat) (xfers : List Xfer) : Core :=
  { (x.releaseTrackers c (x.cutTrackers k c xfers)) with
    cur := match x.cur with
      | some key => if keyCtx key = c then none else some key
      | none => none
    streams := x.streams.filter fun t => keyCtx t.1 != c
    switches := x.switches.filter fun w => keyCtx w.stream != c &&
      match w.forStream with
      | some key => keyCtx key != c
      | none => true
    units := x.units.map fun u => (u.1, match u.2 with
      | some op => if op.ctx.val = c then some { op with linesLeft := 0 } else some op
      | none => none)
    dmas := mapIf (fun op => op.ctx.val == c) (fun op => { op with linesLeft := 0 }) x.dmas }

/-- TEARDOWN_STOP (R539): by t0 + 1,024 every engine has stopped issuing for the context, and lines that have not
issued never do; their trackers are free. The balancing states of the context are gone (R281). -/
def execTeardownStop (c : CtxId) (s : State) : Result :=
  .next (
    let l := (s.ctx c.val).life
    if l.state = .tearingDown ∧ l.stopped = false ∧ l.teardownTick.toNat + 1024 ≤ s.now then
      let cut := fun (x : Xfer) =>
        { x with lines := [], waiting := 0, effects := if x.lines.isEmpty then x.effects else x.effects.filter Effect.inHbm }
      let xfers := (mapIf (fun x : Xfer => x.ctx.val == c.val) cut s.hbm.xfers).filter fun x =>
        x.ctx.val != c.val || !x.flying.isEmpty || !x.landed.isEmpty
      let s : State := { s with
        cores := s.cores.map fun (k, x) => (k, x.evict k c.val s.hbm.xfers), hbm := { s.hbm with xfers := xfers } }
      s.updCtx c.val fun x =>
        { x with
          life := { x.life with stopped := true }
          quill := { x.quill with routes := [], todo := [], moves := [], bal := [], conductor := [] }, serving := { x.serving with build := none } }
    else s)

/-- A transaction of the context is outstanding (R539). -/
def State.outstanding (s : State) (c : Nat) : Bool :=
  s.hbm.xfers.any (fun x => x.ctx.val == c) ||
    s.cores.any fun k => k.2.dmas.any (fun op => op.ctx.val == c) || k.2.units.any fun u => match u.2 with
      | some op => op.ctx.val == c
      | none => false

/-- The shares of a context enter SCRUBBING. -/
def State.scrubShares (s : State) (l : List (Nat × Nat × Nat)) : State :=
  l.foldl (fun s (m, base, size) =>
    let u := unitBytes (spaceMem m)
    if size / u = 0 then s else s.setScrubs (spaceMem m) (s.scrubs (spaceMem m) ++ [(base / u, size / u)])) s

/-- SCRUB_START (R539, R159, R541): the first tick with no transaction outstanding, or t0 + 1,048,576. -/
def execScrubStart (c : CtxId) (s : State) : Result :=
  .next (
    let l := (s.ctx c.val).life
    if l.state = .tearingDown ∧ l.stopped = true ∧ l.scrubStarted = false ∧
        (s.outstanding c.val = false ∨ l.teardownTick.toNat + 1048576 ≤ s.now) then
      (s.scrubShares (s.shares c.val)).updLife c.val fun l =>
        { l with
          scrubStarted := true, scrubSlots := (s.wheel 33).slotsOf c.val
          former := (s.shares c.val ++ l.former.filter fun e => s.scrubBytes [e] != 0).eraseDups }
    else s)

/-- Core k without the transactions of context c; its trackers are free. -/
def Core.abandon (x : Core) (c : Nat) : Core :=
  { x with
    trackers := x.trackers.filter fun e => e.1 % 64 != c
    dmas := x.dmas.filter fun op => op.ctx.val != c
    units := x.units.filter fun u => match u.2 with
      | some op => op.ctx.val != c
      | none => true }

/-- TRANSACTION_ABANDON (R539): at t0 + 1,048,576. -/
def execTransactionAbandon (c : CtxId) (s : State) : Result :=
  .next (
    let l := (s.ctx c.val).life
    if l.state = .tearingDown ∧ l.abandoned = false ∧ l.teardownTick.toNat + 1048576 ≤ s.now then
      let s : State := { s with
        cores := s.cores.map fun (k, x) => (k, x.abandon c.val)
        hbm := { s.hbm with xfers := s.hbm.xfers.filter fun x => x.ctx.val != c.val } }
      s.updLife c.val fun l =>
        { l with abandoned := true }
    else s)

/-- At an automatic re-creation the entries of the context that no set stages take their defaults (R542). -/
def State.keepStaged (s : State) (c : Nat) : State :=
  { s with cfg := s.cfg.filter fun (key, _) => match entryOf key with
      | none => true
      | some e => !(e.perCtx && key / 256 - e.base == c && !e.staged) }

/-- TEARDOWN_FREE (R539, R542, R501): the context is FREE within t0 + 1,250,000 ticks, once its scrub has started; a
staged CREATE that waited, or AUTO_RECREATE, creates it again (log entry 31). -/
def execTeardownFree (c : CtxId) (s : State) : Result :=
  .next (
    let l := (s.ctx c.val).life
    if l.state = .tearingDown ∧ l.scrubStarted = true ∧ s.outstanding c.val = false then
      let s := s.updCtx c.val fun x =>
        { life := { x.life with state := .free, createWaits := false }, nextUid := x.nextUid, host := x.host
          flags := x.flags, oobCount := x.oobCount }
      let s := s.raiseStateChange c.val
      let auto := s.cfgNum (0x4100 + c.val) 6 == 1 && l.cause != 1
      let s := if auto && !l.createWaits then s.keepStaged c.val else s
      if l.createWaits || auto then s.startCreate c.val else s
    else s)

/-- The context whose former HBM share holds a block (R162). -/
def State.scrubberOf (s : State) (unit : Nat) : Option Nat :=
  (List.range 64).find? fun c => (s.ctx c).life.former.any fun e =>
    e.1 == 1 && inRanges [(e.2.1 / unitBytes .hbm, e.2.2 / unitBytes .hbm)] unit

/-- The scrub may write a block of HBM at this tick: in a data slot of a ruling slot that stays with the scrub of its
context, or that the table gives to that context while it is not LIVE (R162). -/
def State.mayScrub (s : State) (unit : Nat) : Bool :=
  match s.scrubberOf unit with
  | none => false
  | some c => framePos s.now != 7 && !s.hbm.selfRefresh &&
      ((s.ctx c).life.scrubSlots.contains ((s.wheel 33).slotAt s.now) ||
        (s.engineOwner 33 == some c && (s.ctx c).life.state != .live))

/-- SCRUB_UNIT_DONE (R159 to R162): a SCRUBBING unit reads zero; a unit of SRAM does in every enabled core (R18, R154). A
block of HBM is written in the data slots of the context being scrubbed. -/
def execScrubUnitDone (m : ScrubMem) (unit : Nat) (s : State) : Result :=
  .next (
    if inRanges (s.scrubs m) unit && (m != .hbm || s.mayScrub unit) then
      let u := unitBytes m
      let s := match m with
        | .sram => s.enabledCores.foldl (fun (s : State) k => s.zeroMem .sram (k * Config.sramStride + unit * u) u) s
        | m => s.zeroMem m (unit * u) u
      s.setScrubs m (dropUnit (s.scrubs m) unit)
    else s)

/-! ## Suspension (R523, R528, R530; activated by configuration sets) -/

/-- SUSPEND of a LIVE context: every stream of it is stopped and saved. -/
def State.suspend (s : State) (c : Nat) : State :=
  match (s.ctx c).life.state with
  | .creating => s.updLife c fun l => { l with suspendOnCreate := true }
  | .live =>
    let s := (List.range 32).foldl (fun s k => [2 * c, 2 * c + 1].foldl (fun s key =>
      if ((s.core k).stream key).active then s.saveStream k key else s) s) s
    (s.updLife c fun l => { l with state := .suspended, suspendedAt := s.tick.now }).raiseStateChange c
  | _ => s

/-- RESUME: the context is LIVE; its streams are restored in its own slots (R528). A context that a divergence holds
SUSPENDED stays so until the pair is dissolved (R612). -/
def State.resume (s : State) (c : Nat) : State :=
  if s.pair.suspended.contains c then s else
  match (s.ctx c).life.state with
  | .creating => s.updLife c fun l => { l with suspendOnCreate := false }
  | .suspended =>
    let s := (s.updLife c fun l =>
      { l with
        state := .live
        suspendedTicks := l.suspendedTicks + (s.now - l.suspendedAt.toNat) }).raiseStateChange c
    (List.range 32).foldl (fun s k => if s.inSlot k c then s.assignSlot k else s) s
  | _ => s

/-! ## Slots -/

/-- Core k issues again from the first turn boundary at or after the wake-up time, once RETENTION is left (R749). -/
def State.wakeCore (s : State) (k : Nat) : State :=
  let due := match s.energy.wakeAt with
    | none => true
    | some t => decide (t.toNat ≤ s.now)
  if (s.core k).asleep && !s.energy.retention && due && (s.wheel k).slotAt s.now == 0 then
    s.updCore k fun x => { x with asleep := false }
  else s

/-- SLOT_START (R506 to R510, R516 to R519, R512, R741): the slot that begins at this tick is given to its owner, an
urgent stream or a YIELDING context; an engine that is no core works for its owner's context. -/
def execSlotStart (e : EngineId) (s : State) : Result :=
  .next (
    let w := s.wheel e.val
    if w.startsAt s.now then
      let b : Byte := BitVec.ofNat 8 (w.at s.now)
      if e.val < 32 then
        let s := s.updWheel e.val fun w => { w with owner := b }
        let s := s.wakeCore e.val
        let s := if b.toNat < 64 && s.withheld b.toNat e.val then s.govern b.toNat else s
        let s := s.assignSlot e.val
        let s := match (s.core e.val).cur with
          | some key => s.writeLanded e.val (keyCtx key)
          | none => s
        s.tryHeld e.val
      else
        let o : Byte := if b.toNat = 0x41 then (match s.spareTo w with
          | some c => BitVec.ofNat 8 c
          | none => 0x40) else b
        s.updWheel e.val fun w => { w with owner := o }
    else s)

/-- The switch of core k that its slot's stream waits for, of a kind. -/
def Core.pendingSwitch (x : Core) (save : Bool) : Option Switch :=
  match x.cur with
  | none => none
  | some key => x.switches.find? fun w => w.save == save && (if save then w.forStream == some key else w.stream == key)

/-- PREEMPT_SAVE_DONE (R524 to R527): the stopped stream's state is saved and the urgent stream issues. -/
def execPreemptSaveDone (k : CoreId) (s : State) : Result :=
  .next (
    match (s.core k.val).pendingSwitch true with
    | none => s
    | some w =>
      let s := s.updCore k.val fun x => { x with switches := x.switches.filter (· != w) }
      (s.saveStream k.val w.stream).tryHeld k.val)

/-- RESTORE_DONE (R528, R531): the stream is back in its bank, once the units of its paused operations are free. -/
def execRestoreDone (k : CoreId) (s : State) : Result :=
  .next (
    match (s.core k.val).pendingSwitch false with
    | none => s
    | some w =>
      let x := s.core k.val
      if (x.stream w.stream).paused.any fun u => (x.units.get none u.1).isSome then s
      else
        let s := s.updCore k.val fun x => { x with switches := x.switches.filter (· != w) }
        (s.restoreStream k.val w.stream).tryHeld k.val)

/-- RULING_SWITCH (R514): at the first multiple of 16 × max(L, L′) at or after its activation, the earliest waiting
change of the engine takes effect. -/
def execRulingSwitch (e : EngineId) (s : State) : Result :=
  .next (
    let w := s.wheel e.val
    match w.changes with
    | [] => s
    | ch :: rest =>
      if ch.from_.toNat ≤ s.now ∧ s.now % (16 * max w.len ch.len) = 0 then
        s.updWheel e.val fun w => { w with len := ch.len, table := ch.table, changes := rest }
      else s)

end Sys2Proof.Machine
end

