-- ==== Sys2Proof/Machine/Host.lean ====
section
/-! DEFINITION. The host interface: doorbells, ring registers, BAR2 windows, register writes, function-level resets,
loss of the host and the PCIe link (R783 to R821, R651 to R653, R862, R863). -/

namespace Sys2Proof.Machine

/-- The host reaches the registers: the link is up and the ready point has passed (R863). -/
def State.hostReaches (s : State) : Bool := s.pcie.linkUp && decide (s.fw.stage = 2)

/-- A mirroring secondary ignores doorbells and register writes of its own host (R606). -/
def State.ignoresHost (s : State) : Bool := s.pair.role == 2 && decide (s.pair.state = 1)

/-- Ring r is posted on by the serving engine or the conductor (R574, R388, R792). -/
def State.enginePosts (s : State) (c r : Nat) : Bool :=
  (decide (r = 2) && s.cfgNum (0xD100 + c) 3 == 1) || (decide (r = 3) && s.cfgNum (0x4300 + c) 1 == 1)

/-- A BAR2 write of the function has not yet been written to HBM (R786). -/
def State.postedWrites (s : State) (c : Nat) : Bool :=
  s.hbm.xfers.any fun x => x.ctx.val == c && x.write && x.core.isNone && !x.hub

/-- A ring notice (R798). -/
def State.ringNotice (s : State) (c r : Nat) (v : BitVec 32) : State :=
  let s := s.updRing c r fun y => { y with fulls := satAdd y.fulls 1 }
  if s.slotFree c r then s.writeRecord c r (completionRecord 0xFFFFFFFF 8 s.tick.now v) 3 else s

/-- A write of v to CTX_RING_TAIL (R792, R793, R821). -/
def State.doorbell (s : State) (c : CtxId) (r : RingId) (v : BitVec 32) : State :=
  let y := s.ring c.val r.val
  if !y.enable || !s.accepting c.val || s.enginePosts c.val r.val || s.safety.tripped then s
  else if y.entries < (v - y.tail).toNat ∨ y.entries < (v - y.head).toNat then s.ringNotice c.val r.val v
  else s.updRing c.val r.val fun y => { y with tail := v }

/-- A doorbell takes effect, or waits while a BAR2 write or a doorbell of the function is before it (R786). -/
def State.ringBell (s : State) (c : CtxId) (r : RingId) (v : BitVec 32) : State :=
  if s.postedWrites c.val || !(s.ctx c.val).host.doorbells.isEmpty then
    s.updHost c.val fun h => { h with doorbells := h.doorbells ++ [(r, v)] }
  else s.doorbell c r v

/-- The doorbells of a function that waited take effect, once its BAR2 writes are in HBM (R786). -/
def State.settleBells (s : State) (c : Nat) : State :=
  let l := (s.ctx c).host.doorbells
  if l.isEmpty || s.postedWrites c then s
  else l.foldl (fun s e => s.doorbell (Fin.ofNat 64 c) e.1 e.2) (s.updHost c fun h => { h with doorbells := [] })

/-- RING_DOORBELL (R786, R792, R793, R813). -/
def execRingDoorbell (c : CtxId) (r : RingId) (v : BitVec 32) (s : State) : Result :=
  .next (
    if !s.hostReaches || s.ignoresHost then s
    else (s.forwardIn c.val (.regWrite c (256 * r.val + 12) v)).ringBell c r v)

/-- A write of ENABLE and LOG2_ENTRIES (R791); a LOG2_ENTRIES outside 4 to 12 keeps the old value (R12). -/
def State.ringControl (s : State) (c : CtxId) (r : RingId) (enable : Bool) (log2 : BitVec 4) : State :=
  let y := s.ring c.val r.val
  if y.enable then
    if enable ∨ s.openCount c.val r.val ≠ 0 then s else s.updRing c.val r.val fun y => { y with enable := false }
  else
    s.updRing c.val r.val fun y =>
      let y := if 4 ≤ log2.toNat ∧ log2.toNat ≤ 12 then { y with log2 := log2 } else y
      if enable then { y with enable := true, tail := 0, head := 0, cqHead := 0, cqTail := 0 } else y

/-- RING_ENABLE (R791). -/
def execRingEnable (c : CtxId) (r : RingId) (enable : Bool) (log2 : BitVec 4) (s : State) : Result :=
  .next (
    if !s.hostReaches || s.ignoresHost then s
    else
      let v : BitVec 32 := BitVec.ofNat 32 (b2n enable + 2 * log2.toNat)
      (s.forwardIn c.val (.regWrite c (256 * r.val + 8) v)).ringControl c r enable log2)

/-- A write of v to CTX_CQ_HEAD (R801). -/
def State.cqHead (s : State) (c : CtxId) (r : RingId) (v : BitVec 32) : State :=
  let y := s.ring c.val r.val
  if (y.cqTail - y.cqHead).toNat < (v - y.cqHead).toNat then s else s.updRing c.val r.val fun y => { y with cqHead := v }

/-- CQ_HEAD_WRITE (R801). -/
def execCqHeadWrite (c : CtxId) (r : RingId) (v : BitVec 32) (s : State) : Result :=
  .next (
    if !s.hostReaches || s.ignoresHost then s
    else (s.forwardIn c.val (.regWrite c (256 * r.val + 0x20) v)).cqHead c r v)

/-- What a function reports to the host by AER (R814). -/
inductive AerKind where
  | unsupportedRequest
  | poisonedTlp
  | internalFatal
  deriving DecidableEq, Repr

/-- The number of an AER report in the outputs. -/
def AerKind.code : AerKind → Nat
  | .unsupportedRequest => 1
  | .poisonedTlp => 2
  | .internalFatal => 3

/-- A write into the share through BAR2: an HBM transfer of the context (R785). -/
def State.bar2Write (s : State) (f : CtxId) (off : Nat) (b : Bytes) : State :=
  let a := s.absAddr f.val 0 1 off
  s.addXfer { ctx := f, write := true, lines := linesOf a b.length, effects := [.mem .hbm a b] }

/-- BAR2_ACCESS (R785, R158, R813, R814): a read or write reaches the share of the function's own context. -/
def execBar2Access (f : CtxId) (offset : Nat) (write : Option Bytes) (length : Nat) (poisoned : Bool) (s : State) : Result :=
  .next (
    if !s.pcie.linkUp then s
    else if s.safety.tripped then s.emit (.completerAbort f)
    else
      let off := (if f = 0 then s.pcie.bar2Window.toNat else 0) + offset
      let n := match write with
        | some b => b.length
        | none => length
      if !s.accepting f.val || !s.inShare f.val 1 off n then
        let s := s.emit (.aer f AerKind.unsupportedRequest.code)
        if write.isNone then s.emit (.unsupported f) else s
      else match write with
        | some b =>
          if poisoned then s.emit (.aer f AerKind.poisonedTlp.code)
          else if b.isEmpty then s
          else (s.forwardIn f.val (.bar2Write f off b)).bar2Write f off b
        | none =>
          if length = 0 then s.emit (.bar2Read f [])
          else
            let a := s.absAddr f.val 0 1 off
            s.addXfer { ctx := f, lines := linesOf a length, effects := [.bar2 f a length] })

/-! ## Mailbox doorbell -/

/-- A write of 1 to MBX_RING (R652, R653, R813). -/
def State.mbxRing (s : State) (f : Nat) : State :=
  let m := (s.ctx f).host.mbx
  let st := (s.ctx f).life.state
  if m.busy || s.safety.tripped || (decide (f ≠ 0) && (st == .free || st == .creating)) then s
  else s.updHost f fun h =>
    { h with mbx := { m with busy := true, taken := m.request.readBytes 0 4096, ringTick := s.tick.now, ready := none } }

/-- MBX_RING (R652, R653, R863). -/
def execMbxRing (f : CtxId) (s : State) : Result :=
  .next (if !s.hostReaches || s.ignoresHost then s else s.mbxRing f.val)

/-- A write of CTX_SEQ_REQ_TAIL (R561). -/
def State.seqReqTail (s : State) (c : Nat) (v : BitVec 32) : State :=
  if s.cfgNum (0xD100 + c) 6 < (v - (s.ctx c).serving.reqHead).toNat then s
  else s.updCtx c fun x => { x with serving := { x.serving with reqTail := v } }

/-- CTX_SEQ_REQ_TAIL (R561, R585, R590). -/
def execCtxSeqReqTail (c : CtxId) (v : BitVec 32) (s : State) : Result :=
  .next (
    if !s.hostReaches || s.ignoresHost then s
    else (s.forwardIn c.val (.regWrite c 0x1000 v)).seqReqTail c.val v)

/-! ## Register writes -/

/-- The low or high half of a 64-bit register replaced. -/
def setHalf (old : BitVec 64) (high : Bool) (v : Nat) : BitVec 64 :=
  if high then BitVec.ofNat 64 (old.toNat % 2 ^ 32 + v * 2 ^ 32)
  else BitVec.ofNat 64 (old.toNat / 2 ^ 32 * 2 ^ 32 + v)

/-- A write to a register of the ring block (R789, R791); [11:0] of the base registers are reserved. -/
def State.ringRegister (s : State) (c : CtxId) (r : RingId) (off : Nat) (v : BitVec 32) : State :=
  let base := v.toNat / 4096 * 4096
  let free := !(s.ring c.val r.val).enable
  let upd := fun f => if free then s.updRing c.val r.val f else s
  match off with
  | 0x00 => upd fun y => { y with base := setHalf y.base false base }
  | 0x04 => upd fun y => { y with base := setHalf y.base true v.toNat }
  | 0x08 => s.ringControl c r (bit v.toNat 0) (BitVec.ofNat 4 (v.toNat / 2))
  | 0x0C => s.ringBell c r v
  | 0x18 => upd fun y => { y with cqBase := setHalf y.cqBase false base }
  | 0x1C => upd fun y => { y with cqBase := setHalf y.cqBase true v.toNat }
  | 0x20 => s.cqHead c r v
  | _ => s

/-- A 32-bit write to BAR0 of function f (R787 to R789, R585, R651, R817, R818): registers act by their access codes,
read-only and undefined offsets ignore it (R8, R788). -/
def State.registerWrite (s : State) (f : CtxId) (off : Nat) (v : BitVec 32) : State :=
  if off < 0x400 then s.ringRegister f (Fin.ofNat 4 (off / 256)) (off % 256) v
  else if off = 0x1000 then s.seqReqTail f.val v
  else if off = 0x3000 then
    let clear := BitVec.ofNat 11 (v.toNat % 2 ^ (if f = 0 then 11 else 8))
    s.updHost f.val fun h => { h with intStatus := h.intStatus &&& ~~~clear }
  else if off = 0x10000 then if v.toNat % 2 = 1 then s.mbxRing f.val else s
  else if off = 0x10004 then
    if bit v.toNat 1 then s.updHost f.val fun h => { h with mbx := { h.mbx with done := false } } else s
  else if 0x11000 ≤ off ∧ off < 0x12000 then
    s.updHost f.val fun h =>
      { h with mbx := { h.mbx with request := h.mbx.request.writeBytes (off - 0x11000) (toLe 4 v.toNat) } }
  else if f = 0 ∧ off = 0x100008 then
    { s with pcie := { s.pcie with bar2Window := setHalf s.pcie.bar2Window false (v.toNat / 2097152 * 2097152) } }
  else if f = 0 ∧ off = 0x10000C then
    { s with pcie := { s.pcie with bar2Window := setHalf s.pcie.bar2Window true v.toNat } }
  else s

/-- REGISTER_WRITE (R8, R9, R788, R814, R863): an unaligned access, or one beyond the BAR, has no effect and is
reported. -/
def execRegisterWrite (f : CtxId) (offset : Nat) (value : BitVec 32) (s : State) : Result :=
  .next (
    if !s.hostReaches then s
    else if offset % 4 ≠ 0 ∨ (if f = 0 then 0x4000000 else 0x100000) ≤ offset then
      s.emit (.aer f AerKind.unsupportedRequest.code)
    else if s.ignoresHost then s
    else
      let s := if offset < 0x2000 then s.forwardIn f.val (.regWrite f offset value) else s
      s.registerWrite f offset value)

/-! ## Register reads -/

/-- Half of a 64-bit register: the low half, or the high half. -/
def half (x : BitVec 64) (high : Bool) : Nat := if high then x.toNat / 2 ^ 32 else x.toNat % 2 ^ 32

/-- A register of the ring block as it reads (R789). -/
def Ring.read (y : Ring) (off : Nat) : Nat :=
  match off with
  | 0x00 => half y.base false
  | 0x04 => half y.base true
  | 0x08 => b2n y.enable + 2 * y.log2.toNat
  | 0x0C => y.tail.toNat
  | 0x10 => y.head.toNat
  | 0x14 => y.fulls.toNat
  | 0x18 => half y.cqBase false
  | 0x1C => half y.cqBase true
  | 0x20 => y.cqHead.toNat
  | 0x24 => y.cqTail.toNat
  | _ => 0

/-- A _HI register: the latched half within 256 HC, which are 128 ticks, of the read of the low half, else the live one
(R802). -/
def hiHalf (latch : Option (BitVec 32 × Word)) (now : Nat) (live : BitVec 64) : Nat :=
  match latch with
  | some (v, t) => if now ≤ t.toNat + 128 then v.toNat else half live true
  | none => half live true

/-- A register of BAR0 of function f as it reads (R8, R63, R585, R651, R787 to R789, R817, R818): write-only and reserved
fields and offsets that no block defines read 0. -/
def State.registerRead (s : State) (f : CtxId) (off : Nat) : Nat :=
  let x := s.ctx f.val
  if off < 0x400 then (s.ring f.val (off / 256)).read (off % 256)
  else if off = 0x1000 then x.serving.reqTail.toNat
  else if off = 0x1004 then x.serving.reqHead.toNat
  else if off = 0x2000 then half s.tick.now false
  else if off = 0x2004 then hiHalf x.host.tickLatch s.now s.tick.now
  else if off = 0x2008 then s.tick.state.toNat + 8 * b2n s.tick.holdover
  else if off = 0x3000 then x.host.intStatus.toNat % 2 ^ (if f = 0 then 11 else 8)
  else if off = 0x10004 then b2n x.host.mbx.busy + 2 * b2n x.host.mbx.done
  else if 0x11000 ≤ off ∧ off < 0x12000 then leNat (x.host.mbx.request.readBytes (off - 0x11000) 4)
  else if 0x12000 ≤ off ∧ off < 0x13000 then leNat (x.host.mbx.reply.readBytes (off - 0x12000) 4)
  else if f ≠ 0 then 0
  else if off = 0x100000 then s.pcie.rate.toNat + 16 * s.pcie.width.toNat + 512 * b2n s.pcie.flit
  else if off = 0x100008 then half s.pcie.bar2Window false
  else if off = 0x10000C then half s.pcie.bar2Window true
  else if off = 0x100010 then s.pcie.hostLossCount.toNat
  else if off = 0x100014 then half s.pcie.hostLossTick false
  else if off = 0x100018 then hiHalf x.host.lossLatch s.now s.pcie.hostLossTick
  else 0

/-- The read of the low half of a counter latches its high half for the function (R802). -/
def State.latchHalf (s : State) (f : CtxId) (off : Nat) : State :=
  if off = 0x2000 then
    s.updHost f.val fun h => { h with tickLatch := some (s.tick.now.extractLsb' 32 32, s.tick.now) }
  else if f = 0 ∧ off = 0x100014 then
    s.updHost 0 fun h => { h with lossLatch := some (s.pcie.hostLossTick.extractLsb' 32 32, s.tick.now) }
  else s

/-- A register before the ready point: its reset value, 0 but for LOG2_ENTRIES 4 (R863, R789). -/
def resetRead (off : Nat) : Nat := if off < 0x400 ∧ off % 256 = 8 then 8 else 0

/-- COUNTER_LO_READ (R8, R788, R802, R814, R863): function f reads the register at a BAR0 offset (log entry 83). An
unaligned access, or one beyond the BAR, is an Unsupported Request. -/
def execCounterLoRead (f : CtxId) (offset : Nat) (s : State) : Result :=
  .next (
    if !s.pcie.linkUp then s
    else if offset % 4 ≠ 0 ∨ (if f = 0 then 0x4000000 else 0x100000) ≤ offset then
      (s.emit (.aer f AerKind.unsupportedRequest.code)).emit (.unsupported f)
    else if s.fw.stage ≠ 2 then s.emit (.regRead f (BitVec.ofNat 32 (resetRead offset)))
    else (s.latchHalf f offset).emit (.regRead f (BitVec.ofNat 32 (s.registerRead f offset))))

/-! ## Resets and loss of the host -/

/-- The registers of a function's BAR0 at their reset values (R806, R808). -/
def State.resetBar0 (s : State) (f : Nat) : State :=
  let s := s.updCtx f fun x => { x with host := {}, serving := { x.serving with reqTail := 0, reqHead := 0 } }
  if f = 0 then { s with pcie := { s.pcie with bar2Window := 0 } } else s

/-- An FLR of VF n at this tick (R806, R812). -/
def State.vfFlr (s : State) (c : Nat) : State := (s.teardown c 4).resetBar0 c

/-- VF_FLR (R806, R820). -/
def execVfFlr (c : CtxId) (s : State) : Result :=
  .next (if c = 0 ∨ s.pcie.linkUp = false then s else (s.forwardIn c.val (.flr c)).vfFlr c.val)

/-- Context 0 under a PF FLR or a host loss: its commands end ABORTED and PF BAR0 is reset (R808). -/
def State.pfReset (s : State) : State :=
  let s := (s.ctx 0).cmds.foldl (fun s x => (s.stopCommand 0 x.uid).finishCmd 0 x 2) s
  s.resetBar0 0

/-- PF_FLR (R808, R656). -/
def execPfFlr (s : State) : Result := .next (if s.pcie.linkUp then s.pfReset else s)

/-- Host loss: tenant contexts are torn down with cause FLR (R809); a mirroring secondary's own loss touches only
context 0 (R812). -/
def State.loseTenants (s : State) : State :=
  (List.range 64).foldl (fun s c =>
    let st := (s.ctx c).life.state
    if c ≠ 0 ∧ (st = .creating ∨ st = .live ∨ st = .suspended) then s.vfFlr c else s) s

/-- HOST_LOSS (R809, R810, R812, R854). -/
def execHostLoss (kind : HostLossKind) (s : State) : Result :=
  .next (
    let already := match kind with
      | .perst => s.pcie.perst || !s.pins.por
      | .dll => !s.pcie.linkUp
    if already then s
    else
      let s := if s.pair.role == 1 && decide (s.pair.state = 1) then s.emit (.forward s.tick.now .hostLoss) else s
      let s := { s with pcie := { s.pcie with
        perst := s.pcie.perst || kind == HostLossKind.perst, linkUp := false, rate := 0, width := 0, flit := false
        hostLossCount := satAdd s.pcie.hostLossCount 1, hostLossTick := s.tick.now } }
      let s := if s.ignoresHost then s else s.loseTenants
      s.pfReset.logEvent 3 1 (Config.logField 0) (freeArgs 0))

/-- PERST_DEASSERT (R811, R771): the interface trains; while TENANCY_LOCK is 1 VF Enable and NumVFs keep 1 and 63. -/
def execPerstDeassert (s : State) : Result :=
  .next (
    let lock := s.cfgNum 0x8000 3 == 1
    { s with pcie := { s.pcie with
      perst := false
      numVfs := if lock then 63 else if s.pcie.perst then 0 else s.pcie.numVfs
      vfEnable := lock || (!s.pcie.perst && s.pcie.vfEnable) } })

/-- PCIE_LINK_UP (R783, R818, R862, R878): the link has trained at a rate and width of R783; above 32 GT/s only in
FLIT mode. -/
def execPcieLinkUp (rate : BitVec 4) (width : BitVec 5) (flit : Bool) (s : State) : Result :=
  .next (
    let ok := decide (1 ≤ rate.toNat) && decide (rate.toNat ≤ 6) && [1, 2, 4, 8, 16].contains width.toNat &&
      (rate.toNat != 6 || flit)
    if ok && s.pins.por && !s.pcie.perst then
      { s with pcie := { s.pcie with linkUp := true, rate := rate, width := width, flit := flit } }.logEvent 1 1 0x0308
        [rate.toNat, width.toNat, b2n flit]
    else s)

/-- SRIOV_CONTROL_WRITE (R771): ignored and logged while TENANCY_LOCK is 1 (log entry 33). -/
def execSriovControlWrite (numVfs : BitVec 16) (vfEnable : Bool) (s : State) : Result :=
  .next (
    if !s.pcie.linkUp then s
    else if s.cfgNum 0x8000 3 = 1 then s.logEvent 2 6 0x0102 (freeArgs 1)
    else { s with pcie := { s.pcie with numVfs := numVfs, vfEnable := vfEnable } })

/-- IDE_CHECK_FAIL (R816): the TLP is dropped and its stream is Insecure. -/
def execIdeCheckFail (stream : Fin 4) (s : State) : Result :=
  .next { s with pcie := { s.pcie with
    ideInsecure := if s.pcie.ideInsecure.contains stream.val then s.pcie.ideInsecure
      else stream.val :: s.pcie.ideInsecure } }

end Sys2Proof.Machine
end

