-- ==== Sys2Proof/Machine/Serving.lean ====
section
/-! DEFINITION. The serving engine: consuming requests, building a step, choosing and posting its command (R555 to
R592, R800). -/

namespace Sys2Proof.Machine

/-- The entries 0x04 to 0x11 of the context's serving record in force (R583). -/
def State.serveConf (s : State) (c : Nat) : List Nat := tabulate (fun i => s.cfgNum (0xD100 + c) (i + 4)) 14

/-- Entry `sub` of a latched serving record. -/
def confSub (conf : List Nat) (sub : Nat) : Nat := conf.getD (sub - 4) 0

/-- The state of a build while it consumes requests (R564). -/
structure BuildAcc where
  s : State
  joined : List Nat := []
  joins : Nat := 0
  leaves : Nat := 0
  refused : Nat := 0
  fault : Bool := false

/-- A field rule of a request record is broken (R563). -/
def badRequest (b : Bytes) : Bool :=
  !(zeros b 1 3 && zeros b 14 2 && zeros b 28 4 && zeros b 33 1 && zeros b 36 4 && zeros b 48 16) ||
    (field b 0 1 != 1 && field b 0 1 != 2) || (field b 0 1 == 1 && field b 16 8 % 8 != 0)

/-- An entry of the sequence table. -/
def Serving.entry (v : Serving) (i : Nat) : SeqEntry := v.seqs.get {} i

/-- The lowest FREE index of the quota (R564). -/
def State.freeSeq (s : State) (c : Nat) : Option Nat :=
  (List.range (s.cfgNum (0xD100 + c) 2)).find? fun i => !((s.ctx c).serving.entry i).active

/-- The outcome the Zalquin writes into a consumed record (R562). -/
def requestOutcome (status entry step : Nat) : Bytes :=
  toLe 1 status ++ [0] ++ toLe 2 entry ++ List.replicate 4 0 ++ toLe 8 step

/-- The device takes its inputs from its primary: it is the secondary of a pair that is MIRRORING (R605, R606). -/
def State.takesInputs (s : State) : Bool := s.pair.role == 2 && decide (s.pair.state = 1)

/-- One request record is consumed (R562, R564). -/
def BuildAcc.consume (a : BuildAcc) (c step : Nat) (conf : List Nat) : BuildAcc :=
  if a.fault then a
  else
    let s := a.s
    let v := (s.ctx c).serving
    let slot := confSub conf 5 + 64 * (v.reqHead.toNat % confSub conf 6)
    let b := if s.takesInputs then v.handed.headD [] else s.hbmShare c slot 64
    let s := s.forwardIn c (.request (Fin.ofNat 64 c) b)
    let finish := fun (s : State) (status entry : Nat) =>
      (s.putHbm c (slot + 32) (requestOutcome status entry step)).updCtx c fun x =>
        { x with serving := { x.serving with reqHead := x.serving.reqHead + 1, handed := x.serving.handed.drop 1 } }
    if badRequest b then { a with s := s, fault := true }
    else if field b 0 1 = 2 then
      let i := field b 24 4
      if s.cfgNum (0xD100 + c) 2 ≤ i ∨ (v.entry i).active = false then { a with s := s, fault := true }
      else
        let s := s.updCtx c fun x => { x with serving := { x.serving with seqs := x.serving.seqs.del i } }
        { a with s := finish s 0 0xFFFF, leaves := a.leaves + 1 }
    else match s.freeSeq c with
      | none =>
        let s := s.updCtx c fun x => { x with serving := { x.serving with refused := satAdd x.serving.refused 1 } }
        { a with s := finish s 7 0xFFFF, refused := a.refused + 1 }
      | some i =>
        let e : SeqEntry :=
          { active := true, seqId := BitVec.ofNat 32 (field b 4 4), position := BitVec.ofNat 32 (field b 8 4)
            kvDesc := BitVec.ofNat 16 (field b 12 2), bitmapPtr := field b 16 8, joinStep := step, joinTick := s.tick.now }
        let s := s.updCtx c fun x => { x with serving := { x.serving with seqs := x.serving.seqs.put i e } }
        { a with s := finish s 0 i, joined := i :: a.joined, joins := a.joins + 1 }

/-- `n` records are consumed in ring order. -/
def BuildAcc.consumeAll (a : BuildAcc) (c step : Nat) (conf : List Nat) : Nat → BuildAcc
  | 0 => a
  | n + 1 => BuildAcc.consumeAll (a.consume c step conf) c step conf n

/-- An engine of the hub writes an element of a descriptor; in SRAM it writes the share of every enabled core (log
entry 32). An element out of bounds is dropped and counted (R187, R189). -/
def State.hubWrite (s : State) (c : Nat) (d : Desc) (co : List Nat) (v : Nat) : State :=
  let cores := if d.space = 0 then s.enabledCores else [0]
  if d.inBounds co then
    cores.foldl (fun s k => s.hubPut c none (spaceMem d.space) (s.elemAddr c k d co) (toLe d.size v)) s
  else if d.empty then s else s.countOob c 1

/-- A write of a hub engine to the descriptor of entry i; to none where the entry does not exist. -/
def State.hubWriteTo (s : State) (c i : Nat) (co : List Nat) (v : Nat) : State :=
  match s.desc c i with
  | none => s
  | some d => s.hubWrite c d co v

/-- The outputs of token t for entry i (R565). -/
def State.workToken (s : State) (c : Nat) (conf : List Nat) (t i : Nat) : State :=
  let e := (s.ctx c).serving.entry i
  let s := s.hubWriteTo c (confSub conf 9) [0, t] e.position.toNat
  let s := s.hubWriteTo c (confSub conf 9) [1, t] e.seqId.toNat
  let s := s.hubWriteTo c (confSub conf 10) [t] i
  let s := if confSub conf 11 = 0xFFFF then s else s.hubWriteTo c (confSub conf 11) [t] 0
  s.putHbm c e.bitmapPtr (List.replicate 8 0)

/-- Work-list outputs of tokens from t on. -/
def State.workList (s : State) (c : Nat) (conf : List Nat) : Nat → List Nat → State
  | _, [] => s
  | t, i :: l => State.workList (s.workToken c conf t i) c conf (t + 1) l

/-- ACTIVE entries of a context, in ascending order. -/
def State.activeSeqs (s : State) (c : Nat) : List Nat :=
  (List.range (s.cfgNum (0xD100 + c) 2)).filter fun i => ((s.ctx c).serving.entry i).active

/-- CLOSE_TICK and GOVERNED of the previous step's record (R570). -/
def State.closeStep (s : State) (c : Nat) : State :=
  let v := (s.ctx c).serving
  match v.lastRecord with
  | none => s
  | some at_ =>
    let withheld := match v.lastWithheld with
      | some t => decide (v.lastLaunch.toNat ≤ t.toNat)
      | none => false
    let s := s.putHbm c (at_ + 56) (toLe 8 s.now)
    if withheld then s.putHbm c (at_ + 50) [(s.hbmShare c (at_ + 50) 1).headD 0 ||| 4] else s

/-- The work-list descriptors the record names exist. -/
def State.workDescs (s : State) (c : Nat) (conf : List Nat) : Bool :=
  (s.desc c (confSub conf 9)).isSome && (s.desc c (confSub conf 10)).isSome &&
    (confSub conf 11 == 0xFFFF || (s.desc c (confSub conf 11)).isSome)

/-- STEP_BUILD (R564 to R567, R583, R587): a count of STEP_SEM is consumed and the step is built. The secondary of a
mirroring pair consumes the records its primary has forwarded (R605). -/
def execStepBuild (c : CtxId) (s : State) : Result :=
  .next (
    let conf := s.serveConf c.val
    let v := (s.ctx c.val).serving
    if s.cfgNum (0xD100 + c.val) 3 ≠ 1 ∨ (s.ctx c.val).life.state ≠ .live ∨ v.build.isSome then s
    else if Config.semaphores ≤ confSub conf 4 then s.ctxFault c.val
    else if s.sem c.val (confSub conf 4) = 0 then s
    else
      let s := s.setSem c.val (confSub conf 4) (s.sem c.val (confSub conf 4) - 1)
      let s := s.closeStep c.val
      let before := s.activeSeqs c.val
      let n := if s.takesInputs then v.handed.length else (v.reqTail - v.reqHead).toNat
      let a := BuildAcc.consumeAll { s := s } c.val v.step conf n
      if a.fault then a.s.ctxFault c.val
      else if !a.s.workDescs c.val conf && !(a.s.activeSeqs c.val).isEmpty then a.s.ctxFault c.val
      else
        let s := a.s.updCtx c.val fun x =>
          { x with serving := { x.serving with
              seqs := x.serving.seqs.map fun (i, e) =>
                if before.contains i && !a.joined.contains i then (i, { e with position := e.position + 1 }) else (i, e) } }
        let tokens := s.activeSeqs c.val
        let s := s.workList c.val conf 0 tokens
        let b : StepBuild :=
          { step := v.step, openTick := s.tick.now, tokens := tokens.length, joins := a.joins, leaves := a.leaves
            refused := a.refused, cycles := 32 + 2 * n + ceilDiv tokens.length 16, conf := conf }
        s.updCtx c.val fun x => { x with serving := { x.serving with step := v.step + 1, build := some b } })

/-- The wheel as it is in force at a tick, with the changes that take effect by then (R514, R577). -/
def Wheel.inForce (w : Wheel) (t : Nat) : Wheel :=
  w.changes.foldl (fun w ch =>
    let m := 16 * max w.len ch.len
    if (ch.from_.toNat + m - 1) / m * m ≤ t then { w with len := ch.len, table := ch.table } else w) w

/-- Projection of a descriptor (R577); a CORE_MASK of 0 owns no slot (log entry 34). -/
def State.projection (s : State) (c : Nat) (desc : Bytes) (launch w : Nat) : Nat :=
  match maskCores (field desc 16 4) with
  | [] => 2 ^ 64 - 1
  | k :: _ =>
    let wh := (s.wheel k).inForce launch
    let n := wh.owned c
    if n = 0 then 2 ^ 64 - 1 else (launch + (ceilDiv w (n * wh.len) + 1) * 16 * wh.len) % 2 ^ 64

/-- The 128-byte step record (R569). -/
def stepRecord (b : StepBuild) (launch deadline projected flags : Nat) : Bytes :=
  toLe 8 b.step ++ toLe 8 b.openTick.toNat ++ toLe 8 launch ++ toLe 8 deadline ++ toLe 8 projected ++ toLe 4 b.tokens ++
    toLe 2 b.joins ++ toLe 2 b.leaves ++ toLe 2 b.refused ++ toLe 1 flags ++ List.replicate 77 0

/-- Where the record of a build's step lies in the HBM share (R569). -/
def StepBuild.record (b : StepBuild) : Nat := confSub b.conf 7 + 128 * (b.step % 16)

/-- The build completes: the command is chosen, the step record written and the descriptor made (R569 to R579). -/
def State.finishBuild (s : State) (c : Nat) (b : StepBuild) : State :=
  let f := confSub b.conf
  let primary := s.hbmShare c (f 8) 64
  let fallback := s.hbmShare c (f 8 + 64) 64
  let origin := (f 13 + b.step * f 14) % 2 ^ 64
  let launch := max origin (s.now + f 12)
  let monitor := decide (f 14 ≠ 0)
  let deadline := if monitor then (origin + f 15) % 2 ^ 64 else 0
  let pp := s.projection c primary launch (f 16)
  let useFallback := monitor && decide (deadline < pp) && field fallback 0 1 != 0
  let projected := if !monitor then 0 else if useFallback then s.projection c fallback launch (f 17) else pp
  let miss := monitor && decide (deadline < projected)
  let chosen := if useFallback then fallback else primary
  let desc := chosen.take 8 ++ toLe 8 launch ++ slice chosen 16 40 ++ toLe 4 b.step ++ slice chosen 60 4
  let s := s.putHbm c b.record (stepRecord b launch deadline projected (b2n useFallback + 2 * b2n miss))
  s.updCtx c fun x =>
    { x with serving := { x.serving with
        build := some { b with descriptor := some desc }, lastRecord := some b.record
        lastLaunch := BitVec.ofNat 64 launch, lastWithheld := none
        fallbacks := satAdd x.serving.fallbacks (b2n useFallback), misses := satAdd x.serving.misses (b2n miss) } }

/-- The build can be over: the tick is the context's in the Quill's wheel and at least the one in which the last of its hub
cycles, two to a tick, falls when every slot since the open tick is the context's (R566, log entry 46). -/
def State.buildOver (s : State) (c : Nat) (b : StepBuild) : Bool :=
  s.quillRuns c && decide (b.openTick.toNat + (b.cycles - 1) / 2 ≤ s.now)

/-- STEP_POST (R569 to R579, R573, R800): the build completes, and its command is posted on ring 2 when the ring has
room. -/
def execStepPost (c : CtxId) (s : State) : Result :=
  .next (
    match (s.ctx c.val).serving.build with
    | none => s
    | some b =>
      if (s.ctx c.val).life.state ≠ .live then s
      else
        let s := if b.descriptor.isNone && s.buildOver c.val b then (s.finishBuild c.val b).trace .build else s
        match (s.ctx c.val).serving.build with
        | none => s
        | some b =>
          match b.descriptor with
          | none => s
          | some d =>
            if s.ringRoom c.val 2 then
              (s.postOn c.val 2 d).updCtx c.val fun x =>
                { x with serving := { x.serving with build := none, posted := x.serving.posted ++ [(b.record, b.cycles)] } }
            else s)

end Sys2Proof.Machine
end

