-- ==== Sys2Proof/Machine/Fabric.lean ====
section
/-! DEFINITION. Packets and routes: axis order, virtual channels, routes round failures, and the flits of a packet
(R448, R463, R469 to R476). -/

namespace Sys2Proof.Machine

/-- Coordinate of an address on axis a, 0 W to 3 Z (R13, R469). -/
def coordOf (addr a : Nat) : Nat := bits addr (15 - 4 * a) (12 - 4 * a)

/-- An address this device answers to: its own and, once promoted, its primary's (R448, R618). -/
def State.isMine (s : State) (a : BitVec 16) : Bool :=
  a == s.topo.selfAddr || (s.pair.role == 2 && decide (s.pair.state = 5) && a == (s.link 8).peerAddr)

/-- The address with the coordinate of axis a replaced. -/
def withCoord (addr a x : Nat) : Nat := addr - coordOf addr a * 2 ^ (12 - 4 * a) + x * 2 ^ (12 - 4 * a)

/-- The link of an axis in a direction (R445). -/
def axisLink (a : Nat) (plus : Bool) : Nat := 2 * a + b2n plus

/-- The address one step along an axis of extent e. -/
def stepAddr (addr a e : Nat) (plus : Bool) : Nat :=
  withCoord addr a ((coordOf addr a + (if plus then 1 else e - 1)) % e)

/-- A route table may use the hop from a device along an axis (R473). -/
def State.hopOk (s : State) (addr a e : Nat) (plus : Bool) : Bool :=
  let here := match s.topo.routeMap.get none addr with
    | none => true
    | some r => r.linkMask.getLsbD (axisLink a plus)
  let there := match s.topo.routeMap.get none (stepAddr addr a e plus) with
    | none => true
    | some r => !r.departed
  here && there

/-- Hops of a leg of n hops that can be used before the first that cannot. -/
def State.goodHops (s : State) (addr a e : Nat) (plus : Bool) : Nat → Nat
  | 0 => 0
  | n + 1 => if s.hopOk addr a e plus then s.goodHops (stepAddr addr a e plus) a e plus n + 1 else 0

/-- `n` steps along an axis. -/
def walk (addr a e : Nat) (plus : Bool) : Nat → Nat
  | 0 => addr
  | n + 1 => walk (stepAddr addr a e plus) a e plus n

/-- The device has an express link that skips the failure of the leg (R473). -/
def State.expressOk (s : State) (addr a : Nat) (plus : Bool) (left : Nat) : Bool :=
  match s.topo.routeMap.get none addr with
  | none => false
  | some r => r.express.toNat == a && r.linkMask.getLsbD (if plus then 11 else 10) && decide (2 ≤ left)

/-- The link of the next hop to an address (R470, R473, R475). -/
def State.nextHop (s : State) (dst : Nat) : Option Nat :=
  let self := s.topo.selfAddr.toNat
  match (List.range 4).find? fun a => decide (coordOf dst a ≠ coordOf self a) with
  | none => none
  | some a =>
    let e := s.axisExtent a
    if e ≤ coordOf dst a then none
    else
      let d := (coordOf dst a + e - coordOf self a) % e
      let plus := decide (d ≤ e - d)
      let n := if plus then d else e - d
      let g := s.goodHops self a e plus n
      if g = n then some (axisLink a plus)
      else if s.expressOk (walk self a e plus g) a plus (n - g) then
        some (if g = 0 then (if plus then 11 else 10) else axisLink a plus)
      else if s.goodHops self a e (!plus) (e - n) = e - n then some (axisLink a (!plus))
      else none

/-- A hop from this device over a link passes the edge between coordinates E − 1 and 0 (R471, R474). -/
def State.crosses (s : State) (l : Nat) : Bool :=
  if l < 8 then
    let a := l / 2
    let x := s.axisCoord a
    if l % 2 = 1 then x + 1 == s.axisExtent a else x == 0
  else
    let a := s.cfgNum 0x9000 8
    let x := s.axisCoord a
    if l = 11 then decide (s.axisExtent a ≤ x + 2) else decide (x < 2)

/-- The axis a torus or express link runs along (R445). -/
def State.linkAxis (s : State) (l : Nat) : Nat := if l < 8 then l / 2 else s.cfgNum 0x9000 8

/-- The data VC of a hop, given the VC and the link a packet arrived by (R471, R474). -/
def State.hopVc (s : State) (l : Nat) (arrived : Option (Nat × Nat)) : BitVec 2 :=
  let onAxis := match arrived with
    | none => false
    | some (vc, from_) => vc == 1 && s.linkAxis from_ == s.linkAxis l
  if onAxis || s.crosses l then 1 else 0

/-- A number for the use of a packet, which its header carries (R448). -/
def packetKind : PacketUse → Nat
  | .queueRow .. => 0
  | .returnRow .. => 1
  | .collUp .. => 2
  | .collDown .. => 3
  | .write .. => 4

/-- What a packet names at its target, as numbers for a digest (R609). -/
def packetTarget : PacketUse → Nat
  | .queueRow _ _ queue row off _ => off + 2 ^ 32 * row + 2 ^ 64 * queue
  | .returnRow _ _ slot token off => off + 2 ^ 32 * token + 2 ^ 64 * slot
  | .collUp _ _ _ _ first _ => first
  | .collDown _ _ _ first _ => first
  | .write space off _ => off + 2 ^ 64 * space.toNat

/-- The arrival counter or the semaphore that a packet credits at its target (R448): a queue, a token, or a semaphore. -/
def packetCredit : PacketUse → Nat
  | .queueRow _ _ queue _ _ _ => queue
  | .returnRow _ _ _ token _ => token
  | .collUp .. => 0xFFFF
  | .collDown .. => 0xFFFF
  | .write _ _ sem => sem.toNat

/-- The flits of a packet: HEAD with the header and the first 234 bytes, then BODY flits of 250 (R447, R448). -/
def packetFlits (vc : BitVec 2) (p : Packet) : List Flit :=
  let header := slice
    (Config.packetHeader p.dst p.src p.data.length (packetKind p.use) (packetTarget p.use) (packetCredit p.use)) 0 16
  let head : Flit :=
    { vc := vc, ctx := p.ctx, kind := .head, seq := 0, credit := 0, payload := header ++ p.data.take 234 }
  let rest := p.data.drop 234
  head :: (List.range (ceilDiv rest.length 250)).map fun i =>
    { head with kind := .body, payload := (rest.drop (250 * i)).take 250 }

/-- The flits of a packet wait at the port of its next hop, and their energy is metered; without a path, or over a link
that is not UP, the packet is discarded and counted (R470 to R476, R744). -/
def State.queuePacket (s : State) (uid : Nat) (p : Packet) : State :=
  let c := p.ctx.val
  let lost := s.updCtx c fun x => { x with unroutable := satAdd x.unroutable 1 }
  match s.nextHop p.dst.toNat with
  | none => lost
  | some l =>
    if (s.link l).state = .up then
      let flits := packetFlits (s.hopVc l none) p
      (((s.updLink l fun k => { k with queue := k.queue ++ flits }).emit (.packet p)).meter c uid
        (flits.length * s.cfgNum 0x3010 8))
    else lost

/-- The Zalquin sends a packet for a command of a context: one to the device itself takes the hub only (R327); a
mirroring secondary sends none (R607). Every packet is an output of its command (R609). -/
def State.sendPacket (s : State) (uid : Nat) (p : Packet) : State :=
  let c := p.ctx.val
  let s := s.digestOutput c uid 1 p.dst.toNat (packetTarget p.use) p.data
  if p.dst = s.topo.selfAddr then s.emit (.packet p)
  else if s.mirrored c && s.silent c then s
  else s.queuePacket uid p

/-- A packet to an address would be discarded as unroutable (R475); a mirroring secondary sends none (R607). -/
def State.packetLost (s : State) (c : Nat) (dst : BitVec 16) : Bool :=
  dst != s.topo.selfAddr && !(s.mirrored c && s.silent c) && match s.nextHop dst.toNat with
    | none => true
    | some l => (s.link l).state != .up

/-- A flit carries part of a packet of context c. -/
def carries (c : Nat) (f : Flit) : Bool := f.ctx.val == c && (f.kind == .head || f.kind == .body)

/-- Flits of context c wait at a link port or are not acknowledged: what it sent is not yet written (log entry 82). -/
def State.flitsWait (s : State) (c : Nat) : Bool :=
  s.links.any fun l => l.2.queue.any (carries c) || l.2.resend.any (carries c) || l.2.replayBuf.any fun f => carries c f.1

/-- The link by which a packet from an address arrives: along the last axis on which the two differ (R470, R473). -/
def State.arrivalLink (s : State) (src : Nat) : Option Nat :=
  let self := s.topo.selfAddr.toNat
  match [3, 2, 1, 0].find? fun a => decide (coordOf src a ≠ coordOf self a) with
  | none => none
  | some a =>
    let e := s.axisExtent a
    if e ≤ coordOf src a then none
    else
      let start := withCoord self a (coordOf src a)
      let d := (coordOf self a + e - coordOf src a) % e
      let plus := decide (d ≤ e - d)
      let n := if plus then d else e - d
      if s.goodHops start a e plus n = n then some (axisLink a (!plus)) else some (axisLink a plus)

/-- A list of bytes cut into pieces of at most 4,096 bytes with their offsets (R448); no bytes are one piece. -/
def pieces (b : Bytes) : List (Nat × Bytes) :=
  (List.range (max 1 (ceilDiv b.length 4096))).map fun i => (4096 * i, (b.drop (4096 * i)).take 4096)

/-- Energy of a number of hub cycles of Quill, roster or serving work, for a command (R744). -/
def State.meterHub (s : State) (c uid cycles : Nat) : State := s.meter c uid (cycles * s.cfgNum 0x3010 9)

end Sys2Proof.Machine
end

