-- ==== Sys2Proof/Machine/Quill.lean ====
section
/-! DEFINITION. Routing: the route record and its checks, selection by score and by hash, gate weights, and the
balancing state of a layer (R260 to R296, R344, R345). -/

namespace Sys2Proof.Machine

/-! ## Records and descriptors of QSUBMIT operations -/

/-- The descriptor of entry i exists with a format and with given extents (dimension, extent). -/
def State.descIs (s : State) (c i fmt : Nat) (exts : List (Nat × Nat)) : Bool :=
  match s.desc c i with
  | none => false
  | some d => d.format == fmt && exts.all fun e => d.ext e.1 == e.2

/-- A descriptor that a record may leave out with 0xFFFF. -/
def State.descOpt (s : State) (c i fmt : Nat) (exts : List (Nat × Nat)) : Bool := i == 0xFFFF || s.descIs c i fmt exts

/-- Instruction i issues with a record: runs `f` on the 64-byte record that Sn of the issuing stream names; an offset that
is no multiple of 64 or lies outside the share faults the context (R261, R262, R298, R409, log entry 25). -/
def onRecord (k : CoreId) (n : SReg) (i : Instr) (s : State) (f : Nat → Stream → Nat → Bytes → State) : State :=
  onIssue k i s fun key st =>
    let off := (st.s n.val).toNat
    if off % 64 ≠ 0 ∨ s.inShare (keyCtx key) 0 off 64 = false then s.ctxFault (keyCtx key)
    else f key st off (s.sramShare (keyCtx key) k.val off 64)

/-- The bits of an element that the hub reads for core k; FILL out of bounds (R186). -/
def State.hubRead (s : State) (c k : Nat) (d : Desc) (co : List Nat) : Nat := (s.readElem c k d co).1

/-- An operation of the hub for a command reads elements: those in HBM through the controller (R166 to R170), and those
out of bounds counted (R186, R189, R200). -/
def State.hubTouch (s : State) (c k uid : Nat) (d : Desc) (l : List (List Nat)) : State :=
  let s := if d.space = 1 then s.hubMove c (some uid) false (s.elemLines c k d l) [] else s
  if d.empty then s else s.countOob c (countTrue (l.map fun co => !d.inBounds co))

/-- A write of an element by the Quill for core k and a command; out of bounds it is dropped and counted, and the command
ends with OOB_WRITE (R187 to R189). -/
def State.quillWrite (s : State) (c k uid : Nat) (d : Desc) (co : List Nat) (v : Nat) : State :=
  if d.inBounds co then s.hubPut c (some uid) (spaceMem d.space) (s.elemAddr c k d co) (toLe d.size v)
  else if d.empty then s else s.apply k (2 * c) uid (.oob 1 true)

/-- The same for the descriptor of entry i, where one is named. -/
def State.quillWriteTo (s : State) (c k uid i : Nat) (co : List Nat) (v : Nat) : State :=
  match s.desc c i with
  | none => s
  | some d => s.quillWrite c k uid d co v

/-! ## The route record -/

/-- A route record (R263). -/
structure RouteRec where
  layer : Nat
  mode : Nat
  k : Nat
  gate : Nat
  key : Nat
  balance : Bool
  base : Nat
  experts : Nat
  tokens : Nat
  score : Nat
  bias : Nat
  keyDesc : Nat
  expertOut : Nat
  gateOut : Nat
  salt : Nat
  u : Nat
  eta : F32
  bMax : F32
  lead : Nat
  group : Nat
  deriving DecidableEq, Repr

/-- The fields of a route record (R263). -/
def parseRoute (b : Bytes) : RouteRec :=
  { layer := field b 0 2, mode := field b 2 1, k := field b 3 1, gate := field b 4 1, key := field b 5 1
    balance := bit (field b 6 1) 0, base := field b 8 2, experts := field b 12 4, tokens := field b 16 4
    score := field b 20 2, bias := field b 22 2, keyDesc := field b 24 2, expertOut := field b 26 2
    gateOut := field b 28 2, salt := field b 32 8, u := field b 40 2, eta := BitVec.ofNat 32 (field b 44 4)
    bMax := BitVec.ofNat 32 (field b 48 4), lead := field b 52 4, group := field b 56 2 }

/-- A binary32 value is finite and positive. -/
def f32Positive (x : F32) : Bool := f32Finite x && flt 0 x

/-- The route record keeps R263, R264, R274 and R279 for context c. -/
def State.routeOk (s : State) (c : Nat) (r : RouteRec) : Bool :=
  let score := r.mode == 0
  decide (r.layer ≤ 4095) && decide (r.mode ≤ 1) && decide (r.k ≤ 16) && decide (r.gate ≤ 2) &&
  (if score then r.key == 0 else decide (r.key ≤ 2) && r.gate == 2 && !r.balance) &&
  decide (1 ≤ r.experts) && decide (r.experts ≤ 65536) && decide (r.tokens ≤ 131072) &&
  decide (r.k ≤ r.experts) && decide (r.base + r.experts ≤ 65536) &&
  (if score then s.descIs c r.score 4 [(0, r.experts)] else r.score == 0xFFFF) &&
  s.descOpt c r.bias 4 [(0, r.experts), (1, 2)] &&
  (if score then r.keyDesc == 0xFFFF else s.descIs c r.keyDesc 6 [(0, 2)]) &&
  s.descOpt c r.expertOut 6 [(0, r.k)] && s.descOpt c r.gateOut 4 [(0, r.k)] &&
  (!r.balance ||
    (decide (1 ≤ r.u) && decide (r.u ≤ 4096) && f32Positive r.eta && f32Positive r.bMax && decide (1024 ≤ r.lead) &&
      decide (r.lead ≤ 16777216)))

/-! ## The staging share -/

/-- Bytes of the staging share that context c holds in balancing states and movement state (R281, R344). -/
def CtxQuill.stateUse (q : CtxQuill) : Nat :=
  (q.bal.map fun b => 8 * b.2.eCount + 64).sum + (q.moves.map fun m => m.2.stage).sum

/-- State of `n` more bytes fits beside it and the assignments of the latest ROUTE (R344, R345). -/
def State.stageFits (s : State) (c n : Nat) : Bool :=
  let q := (s.ctx c).quill
  decide (q.stateUse + q.assignStage + n ≤ s.shareSize c 3)

/-! ## Selection -/

/-- x ranks strictly above y: NaN is below −∞, +0 equals −0 (R269). -/
def ranksAbove (x y : F32) : Bool := if fIsNaN x then false else if fIsNaN y then true else flt y x

/-- The highest-ranked of a list in ascending expert order (R269). -/
def bestExpert (l : List (Nat × F32)) : Option Nat :=
  (l.foldl (fun (b : Option (Nat × F32)) x => match b with
    | none => some x
    | some y => if ranksAbove x.2 y.2 then some x else b) none).map (·.1)

/-- The first n ranks of a list in ascending expert order (R269). -/
def topExperts : Nat → List (Nat × F32) → List Nat
  | 0, _ => []
  | n + 1, l => match bestExpert l with
    | none => []
    | some e => e :: topExperts n (l.filter fun x => x.1 != e)

/-- The scores of token t, experts 0 to E − 1. -/
def State.scores (s : State) (c k : Nat) (r : RouteRec) (t : Nat) : List F32 :=
  match s.desc c r.score with
  | none => []
  | some d => tabulate (fun e => BitVec.ofNat 32 (s.hubRead c k d [e, t])) r.experts

/-- Row `row` of BIAS_DESC; zeros where it is 0xFFFF (R268). -/
def State.biasRow (s : State) (c k bias row n : Nat) : List F32 :=
  match s.desc c bias with
  | none => List.replicate n 0
  | some d => tabulate (fun e => BitVec.ofNat 32 (s.hubRead c k d [e, row])) n

/-- The adjusted scores of a token with the flags of their additions (R268). -/
def adjusted (scores bias : List F32) : List (F32 × BitVec 16) :=
  (List.range scores.length).map fun e => fadd (scores.getD e 0) (bias.getD e 0)

/-- Adjusted scores by expert, in ascending order. -/
def byExpert (l : List F32) : List (Nat × F32) := (List.range l.length).zip l

/-- The expert a hash candidate settles on after its collision moves (R276, R278). -/
def probeExpert (experts : Nat) (chosen : List Nat) : Nat → Nat → Nat
  | 0, c => c
  | n + 1, c => if chosen.contains c then probeExpert experts chosen n ((c + 1) % experts) else c

/-- Slot j of the routing hash (R276). -/
def hashSlot (r : RouteRec) (lo hi : Nat) (chosen : List Nat) (j : Nat) : Nat :=
  let counter := lo % 2 ^ 32 + hi % 2 ^ 32 * 2 ^ 32 + r.layer * 2 ^ 64 + j * 2 ^ 96
  let x0 := (stippleWord (BitVec.ofNat 64 r.salt) counter).toNat
  probeExpert r.experts chosen r.experts (x0 * r.experts / 2 ^ 32)

/-- Slots `from_` to `from_ + n − 1` of the routing hash appended to the experts chosen so far (R276). -/
def hashRoute (r : RouteRec) (lo hi : Nat) (from_ n : Nat) (chosen : List Nat) : List Nat :=
  (List.range n).foldl (fun l i => l ++ [hashSlot r lo hi l (from_ + i)]) chosen

/-- Collision moves of a token's routing hash (R278): how far each slot's expert lies from its candidate. -/
def hashMoves (r : RouteRec) (lo hi : Nat) (sel : List Nat) : Nat :=
  ((List.range sel.length).map fun j =>
    (sel.getD j 0 + r.experts - hashSlot r lo hi [] j) % r.experts).sum

/-- The hash key of token t (R275). -/
def State.hashKey (s : State) (c k : Nat) (r : RouteRec) (t : Nat) : Nat × Nat :=
  match s.desc c r.keyDesc with
  | none => (0, 0)
  | some d => (s.hubRead c k d [0, t], if r.key = 2 then s.hubRead c k d [1, t] else 0)

/-- 1 ÷ K rounded to binary32 (R270). -/
def uniformGate (k : Nat) : F32 := (fdiv f32One (toF32 (Num.ofInt k 0)).1).1

/-- Gate weights of a soft-maximum row with its flags (R270, R271). -/
def softGates (l : List F32) : List (F32 × BitVec 16) :=
  let r := softRow l
  r.outs.map fun x => let (v, f) := toF32 x; (v, f ||| r.flags)

/-- The gate weights of the selected experts of a token and the flags they raise (R270 to R273). -/
def gatesOf (r : RouteRec) (scores : List F32) (sel : List Nat) : List F32 × BitVec 16 :=
  let nan := Flag.when (scores.any fIsNaN) Flag.inv
  if r.gate = 2 then (sel.map fun _ => uniformGate r.k, nan)
  else if r.gate = 0 then
    let g := softGates (sel.map fun e => scores.getD e 0)
    (g.map (·.1), nan ||| Flag.union (g.map (·.2)))
  else
    let g := softGates scores
    (sel.map fun e => (g.getD e (0, 0)).1, nan ||| Flag.union (g.map (·.2)))

/-- What the selector forms for one token: layer-local experts in slot order, gates, flags, and the adjusted scores or the
hash key the choice rests on. -/
structure Selection where
  experts : List Nat
  gates : List F32
  flags : BitVec 16 := 0
  adjusted : List F32 := []
  key : Nat × Nat := (0, 0)
  deriving DecidableEq, Repr

/-- The selection of one token (R268 to R278). -/
def State.selectToken (s : State) (c k : Nat) (r : RouteRec) (bias : List F32) (t : Nat) : Selection :=
  if r.mode = 1 then
    let key := s.hashKey c k r t
    let sel := hashRoute r key.1 key.2 0 r.k []
    { experts := sel, gates := sel.map fun _ => uniformGate r.k, key := key }
  else
    let sc := s.scores c k r t
    let adj := adjusted sc bias
    let sel := topExperts r.k (byExpert (adj.map (·.1)))
    let (g, f) := gatesOf r sc sel
    { experts := sel, gates := g, flags := f ||| Flag.union (adj.map (·.2)), adjusted := adj.map (·.1) }

/-- The assignments of one token in slot order, with global expert indices (R265). -/
def tokenAssigns (base t : Nat) (sel : List Nat) (g : List F32) : List Assign :=
  (List.range sel.length).map fun j =>
    { token := t, slot := j, expert := base + sel.getD j 0, gate := g.getD j 0, placed := base + sel.getD j 0 }

/-- The elements that the selector reads for token t, as far as their descriptor exists (R189, R268, R275). -/
def State.routeTouch (s : State) (c k uid : Nat) (r : RouteRec) (t : Nat) : State :=
  match s.desc c (if r.mode = 1 then r.keyDesc else r.score) with
  | none => s
  | some d => s.hubTouch c k uid d
      (if r.mode = 1 then (if r.key = 2 then [[0, t], [1, t]] else [[0, t]]) else tabulate (fun e => [e, t]) r.experts)

/-- One token is routed: its assignments and its outputs (R265, R266). -/
def State.routeToken (s : State) (c k uid : Nat) (r : RouteRec) (bias : List F32) (t : Nat) : State :=
  let x := s.selectToken c k r bias t
  let s := ((s.routeTouch c k uid r t).raiseFlags c x.flags).updQuill c fun q =>
    { q with
      assigns := q.assigns ++ tokenAssigns r.base t x.experts x.gates
      adjusted := q.adjusted ++ [x.adjusted], hashKeys := q.hashKeys ++ [x.key] }
  (List.range x.experts.length).foldl (fun s j =>
    let s := if r.expertOut = 0xFFFF then s else s.quillWriteTo c k uid r.expertOut [j, t] (r.base + x.experts.getD j 0)
    if r.gateOut = 0xFFFF then s else s.quillWriteTo c k uid r.gateOut [j, t] (x.gates.getD j 0).toNat) s

/-- Hub cycles of a ROUTE with C collision moves (R267, R280, R293). -/
def RouteRec.cycles (r : RouteRec) (moves : Nat) : Nat :=
  if r.k = 0 ∨ r.tokens = 0 then 48
  else if r.mode = 1 then 48 + r.tokens * r.k + moves
  else 48 + (if r.gate = 1 then 2 else 1) * r.tokens * ceilDiv r.experts 256

/-! ## Balancing states -/

/-- The balancing state of a layer exists. -/
def CtxQuill.balanced (q : CtxQuill) (layer : Nat) : Bool := q.bal.any fun b => b.1 == layer

/-- The balancing state of a layer. -/
def CtxQuill.balOf (q : CtxQuill) (layer : Nat) : BalState := q.bal.get {} layer

/-- The rules of R282 and R289 for a ROUTE with BALANCE; ROUTEs of one command need no rising tick. -/
def State.balRouteOk (s : State) (c : Nat) (st : Stream) (r : RouteRec) : Bool :=
  let q := (s.ctx c).quill
  st.agreed && st.launchTick != 0 && (q.balanced r.layer || decide (q.bal.length < 256)) &&
    match q.balLaunch.get none r.layer with
    | none => true
    | some (t, uid) => uid == st.uid || decide (t.toNat < st.launchTick.toNat)

/-- The epoch of a balancing state for a command's ROUTE: it advances when the launch is at or after the pending
activation (R286). -/
def BalState.enter (b : BalState) (launch : Word) : BalState :=
  match b.pendingAct with
  | none => b
  | some t => if t.toNat ≤ launch.toNat then { b with epoch := b.epoch + 1, pendingAct := none } else b

/-- A ROUTE meets its layer's balancing state: with BALANCE it makes the state when there is none (R281), and the epoch
may advance (R286). -/
def CtxQuill.onRoute (q : CtxQuill) (k : CoreId) (st : Stream) (r : RouteRec) : CtxQuill :=
  if !r.balance && !q.balanced r.layer then q
  else
    let old := q.balOf r.layer
    let b := old.enter st.launchTick
    let act := match old.pendingAct with
      | some t => if b.epoch ≠ old.epoch then t else q.balLastAct
      | none => q.balLastAct
    if r.balance then
      { q with
        balLastAct := act, balLaunch := q.balLaunch.put r.layer (some (st.launchTick, st.uid))
        bal := q.bal.put r.layer { b with biasDesc := BitVec.ofNat 16 r.bias, eCount := r.experts, core := k } }
    else { q with balLastAct := act, bal := q.bal.put r.layer b }

/-- Staging bytes of the assignments of a ROUTE (R344). -/
def RouteRec.stage (r : RouteRec) : Nat := 16 * r.tokens * r.k

/-- ROUTE (R260 to R264, R274, R279, R282, R286, R287, R289, R345): the record is checked and the operation joins the
Quill's; it takes the row of its layer's epoch, and is held while that row is not written. -/
def execRoute (k : CoreId) (n : SReg) (sem : BitVec 16) (s : State) : Result :=
  .next (onRecord k n (.route k n sem) s fun key st _ b =>
    let c := keyCtx key
    let r := parseRoute b
    let q := (s.ctx c).quill
    let fresh := r.balance && !q.balanced r.layer
    if s.routeOk c r = false ∨ (r.balance && !s.balRouteOk c st r) ∨
        s.shareSize c 3 < q.stateUse + r.stage + (if fresh then 8 * r.experts + 64 else 0) then s.ctxFault c
    else
      (s.updStream k.val key Stream.advance).updQuill c fun q =>
        let q := q.onRoute k st r
        let b' := q.balOf r.layer
        let row := if q.balanced r.layer then b'.epoch % 2 else 0
        let op : RouteOp :=
          { image := b, row := row, core := k, uid := st.uid, sem := sem
            held := q.balanced r.layer && !b'.rowWritten && b'.row == row, layer := r.layer, launchTick := st.launchTick }
        { q with routes := q.routes ++ [op], assignStage := r.stage })

/-- Collision moves of a whole ROUTE in hash mode (R278). -/
def State.routeMoves (s : State) (c k : Nat) (r : RouteRec) : Nat :=
  if r.mode = 1 then
    ((List.range r.tokens).map fun t =>
      let (lo, hi) := s.hashKey c k r t
      hashMoves r lo hi (hashRoute r lo hi 0 r.k [])).sum
  else 0

/-- The elements of the bias row that the selector reads for a ROUTE with tokens (R189, R268, R293). -/
def State.biasTouch (s : State) (c k uid : Nat) (r : RouteRec) (row : Nat) : State :=
  match s.desc c r.bias with
  | none => s
  | some d => if r.k = 0 ∨ r.tokens = 0 then s else s.hubTouch c k uid d (tabulate (fun e => [e, row]) r.experts)

/-- ROUTE_DONE (R265 to R278, R267, R293, R295): the earliest ROUTE that is not held has taken its hub cycles: every
token is routed, and the semaphore is signalled when its outputs are written. -/
def execRouteDone (c : CtxId) (s : State) : Result :=
  .next (
    match (s.ctx c.val).quill.routes with
    | [] => s
    | op :: rest =>
      if op.held || !s.quillRuns c.val then s
      else
        let r := parseRoute op.image
        let moves := s.routeMoves c.val op.core.val r
        let s := s.updQuill c.val fun q =>
          { q with routes := rest, assigns := [], assignLayer := r.layer, adjusted := [], hashKeys := [] }
        let bias := s.biasRow c.val op.core.val r.bias op.row r.experts
        let s := s.biasTouch c.val op.core.val op.uid r op.row
        let s := if r.k = 0 then s
          else (List.range r.tokens).foldl (fun s t => s.routeToken c.val op.core.val op.uid r bias t) s
        (s.meterHub c.val op.uid (r.cycles moves)).hubDone c.val (some op.uid) [.sem op.sem 1])

/-- BAL_RESET (R296): the layer's balancing state is cleared and released; a ROUTE held for its pending row goes on (log
entry 81). -/
def execBalReset (k : CoreId) (n : SReg) (sem : BitVec 16) (s : State) : Result :=
  .next (onRecord k n (.balReset k n sem) s fun key _ _ b =>
    let c := keyCtx key
    let r := parseRoute b
    if s.routeOk c r = false then s.ctxFault c
    else
      let s := (s.updStream k.val key Stream.advance).updQuill c fun q =>
        { (q.letGo r.layer) with bal := q.bal.del r.layer }
      s.signalSem c sem.toNat 1)

/-- The pending biases of a balancing state go to their row of BIAS_DESC (R285, R187, R189). -/
def State.putBalRow (s : State) (c : Nat) (b : BalState) : State :=
  match s.desc c b.biasDesc.toNat with
  | none => s
  | some d => (List.range b.rowValues.length).foldl (fun s e =>
      if d.inBounds [e, b.row] then
        s.hubPut c none (spaceMem d.space) (s.elemAddr c b.core.val d [e, b.row]) (toLe d.size (b.rowValues.getD e 0).toNat)
      else if d.empty then s else s.countOob c 1) s

/-- BAL_ROW_WRITTEN (R285, R287): the loop writes the pending biases; once they are in memory a ROUTE held for them goes
on. -/
def execBalRowWritten (c : CtxId) (layer : Nat) (s : State) : Result :=
  .next (
    let q := (s.ctx c.val).quill
    let b := q.balOf layer
    if q.balanced layer = false ∨ b.rowWritten then s
    else (s.putBalRow c.val b).hubDone c.val none [.balRow layer b.updates])

/-! ## The update of the biases -/

/-- One bias after an update (R284). -/
def newBias (r : RouteRec) (b : F32) (d : Int) : F32 :=
  let step : F32 := if 0 < d then r.eta else if d < 0 then r.eta ^^^ 0x80000000 else 0
  let x := (fadd b step).1
  if flt r.bMax x then r.bMax else if flt x (r.bMax ^^^ 0x80000000) then r.bMax ^^^ 0x80000000 else x

/-- The exact counts of an exchange enter the layer's loads, and at a multiple of U the new biases are computed (R283
to R285, R288, R294). A row that a ROUTE already uses and that is not written yet is written first. -/
def State.balUpdate (s : State) (c : Nat) (r : RouteRec) (totals : List Nat) (launch : Word) : State :=
  let q := (s.ctx c).quill
  if !r.balance || !q.balanced r.layer then s
  else
    let b := q.balOf r.layer
    let load := fun e => b.loads.get 0 e + totals.getD e 0
    let steps := b.steps + 1
    let put := fun (s : State) (b : BalState) => s.updQuill c fun q => { q with bal := q.bal.put r.layer b }
    if steps % r.u ≠ 0 then
      put s { b with steps := steps, loads := (List.range r.experts).map fun e => (e, load e) }
    else
      let row := (b.epoch + 1) % 2
      let latest := if b.pendingAct.isSome then row else b.epoch % 2
      let old := if b.rowWritten then s.biasRow c b.core.val r.bias latest r.experts else b.rowValues
      let s := if !b.rowWritten && b.row != row then (s.putBalRow c b).updQuill c fun q => q.letGo r.layer else s
      let total := ((List.range r.experts).map load).sum
      let values := (List.range r.experts).map fun e =>
        newBias r (old.getD e 0) ((total : Int) - r.experts * load e)
      put s { b with
        steps := steps, loads := [], row := row, rowValues := values, rowWritten := false, updates := b.updates + 1
        pendingAct := some (launch + BitVec.ofNat 64 r.lead) }

end Sys2Proof.Machine
end

