-- ==== Sys2Proof/Machine/Collective.lean ====
section
/-! DEFINITION. Groups and collective steps: the two trees, the collective record, sums going up and results coming
down, outcomes, aborts and re-forming (R397 to R441). -/

namespace Sys2Proof.Machine

/-! ## Groups -/

/-- CONTEXT of a group (R397). -/
def Group.owner (g : Group) : Nat := field g.entry 2 1
/-- POLICY is REFORM (R397). -/
def Group.reforms (g : Group) : Bool := field g.entry 1 1 == 1
/-- TIMEOUT of a group in GT (R397). -/
def Group.timeout (g : Group) : Nat := field g.entry 12 4
/-- Size P of a group (R400). -/
def Group.size (g : Group) : Nat := g.members.length

/-- Context c may name group g (R404). -/
def State.groupUsable (s : State) (c g : Nat) : Bool :=
  decide (g < 4096) && (s.group g).state != .free && (s.group g).owner == c

/-- The bytes the definition digest covers: the entry with CONTEXT as 0 and the member list (R405). -/
def Group.digestBytes (g : Group) : Bytes :=
  slice g.entry 0 2 ++ [0] ++ slice g.entry 3 29 ++ g.memberList.flatMap fun m => toLe 2 m.toNat

/-- The definition digest of a group (R405). -/
def Group.digest (g : Group) : Bytes := (Sha.sha384 g.digestBytes).take 8

/-! ## The two trees (R406) -/

/-- Lowest set bit of an index from 1 to 65,536. -/
def lowBit (i : Nat) : Nat := match (List.range 17).find? (bit i) with
  | some k => 2 ^ k
  | none => 0

/-- Index of rank r in tree A or B. -/
def treeIndex (p : Nat) (treeB : Bool) (r : Nat) : Nat := if treeB then (r + 1) % p + 1 else r + 1

/-- Rank of an index in tree A or B. -/
def treeRank (p : Nat) (treeB : Bool) (i : Nat) : Nat := if treeB then (i + p - 2) % p else i - 1

/-- Left child of an index. -/
def leftChild (i : Nat) : Option Nat := if lowBit i ≤ 1 then none else some (i - lowBit i / 2)

/-- Right child of an index. -/
def rightChild (p i : Nat) : Option Nat :=
  (((List.range 17).map fun k => lowBit i / 2 ^ (k + 1)).find? fun d => decide (1 ≤ d) && decide (i + d ≤ p)).map (i + ·)

/-- Children of an index, the left one first. -/
def treeChildren (p i : Nat) : List Nat := (leftChild i).toList ++ (rightChild p i).toList

/-- Parent of an index; none for the root. -/
def treeParent (p i : Nat) : Option Nat :=
  (List.range (p + 1)).find? fun q => decide (1 ≤ q) && (treeChildren p q).contains i

/-- Index j lies in the subtree of index i. -/
def inSubtree (i j : Nat) : Bool := decide (i < j + lowBit i) && decide (j < i + lowBit i)

/-- The member is interior in a tree. -/
def interior (p : Nat) (treeB : Bool) (r : Nat) : Bool := !(treeChildren p (treeIndex p treeB r)).isEmpty

/-! ## The collective record -/

/-- A step as its member sees it: the record's fields and the member's place in the group (R410). -/
structure CollView where
  op : Nat
  wire : Nat
  round : Nat
  group : Nat
  anchor : Int
  expectGen : Nat
  n : Nat
  off : Nat
  len : Nat
  src : Nat
  dst : Nat
  f32 : Bool
  p : Nat
  rank : Nat
  deriving DecidableEq, Repr

/-- The fields of a collective record (R410). -/
def State.collView (s : State) (b : Bytes) (f32 : Bool) : CollView :=
  let g := field b 4 2
  { op := field b 0 1, wire := field b 1 1, round := field b 2 1, group := g, anchor := sfield b 6 2
    expectGen := field b 8 4, n := field b 12 4, off := field b 16 4, len := field b 20 4, src := field b 24 2
    dst := field b 26 2, f32 := f32, p := (s.group g).size, rank := s.rankIn g }

/-- b = n ÷ P (R411). -/
def CollView.block (v : CollView) : Nat := if v.p = 0 then 0 else v.n / v.p

/-- Element count of a descriptor that exists. -/
def State.countIs (s : State) (c i n : Nat) : Bool := match s.desc c i with
  | none => false
  | some d => d.count == n

/-- The descriptor of entry i is no XA tensor. -/
def State.notXa (s : State) (c i : Nat) : Bool := match s.desc c i with
  | none => true
  | some d => !d.isXa

/-- The collective record keeps R410 to R412 for context c. -/
def State.collOk (s : State) (c : Nat) (v : CollView) : Bool :=
  decide (v.op ≤ 2) && decide (v.round ≤ 2) && s.groupUsable c v.group &&
  (v.f32 || (decide (v.wire ≤ 1) && decide (Config.anchorMin ≤ v.anchor) && decide (v.anchor ≤ Config.anchorMax))) &&
  decide (v.off + v.len ≤ v.n) && (v.op == 0 || (decide (0 < v.p) && v.n % v.p == 0)) &&
  s.countIs c v.src (if v.op = 2 then v.block else v.n) && s.countIs c v.dst (if v.op = 1 then v.block else v.n) &&
  (!v.f32 || (s.notXa c v.src && s.notXa c v.dst))

/-- Reservoir bytes of a step (R420). -/
def CollView.alloc (v : CollView) : Nat :=
  if v.op = 2 ∨ v.p ≤ 1 ∨ (interior v.p false v.rank || interior v.p true v.rank) = false then 0
  else ceilDiv v.len 2 * (if v.f32 then 4 else if v.wire = 0 then 12 else 16)

/-- Width of a WIRE element in bits (R417). -/
def CollView.width (v : CollView) : Nat := if v.wire = 0 then 64 else 96

/-- The check word over a list of bytes: the first 8 bytes of their SHA-384, as the number that they are in little-endian
order (R308, R415). -/
def checkWord (b : Bytes) : BitVec 64 := BitVec.ofNat 64 (leNat ((Sha.sha384 b).take 8))

/-- The check word of a step (R415): the fields of the record at their widths, the step number, the generation, the
definition digest, and 0 for COLL or 1 for COLL.F32 (log entry 16). -/
def State.collCheck (s : State) (v : CollView) (number : Nat) : BitVec 64 :=
  let g := s.group v.group
  checkWord (toLe 1 v.op ++ toLe 1 v.wire ++ toLe 2 (BitVec.ofInt 16 v.anchor).toNat ++ toLe 4 v.n ++ toLe 4 v.off ++
    toLe 4 v.len ++ toLe 4 number ++ toLe 4 g.generation.toNat ++ g.digest ++ toLe 1 (b2n v.f32))

/-- The keys of the tokens that a step sends through tree A and tree B (R439). -/
def collTokens : List Nat := [2 ^ 32, 2 ^ 32 + 1]

/-- The key of a token, not of an element. -/
def isToken (e : Nat) : Bool := decide (2 ^ 32 ≤ e)

/-- An ALL_GATHER of elements: no element of it passes every member on its way up, so that its tokens go first and carry
the check words of all members to both roots (R415, log entry 82). -/
def CollView.gathers (v : CollView) : Bool := v.op == 2 && v.len != 0

/-- The elements of a step by key: a step of no elements sends one token through each tree (R407, R439), and so does an
ALL_GATHER beside its elements. -/
def CollView.keys (v : CollView) : List Nat :=
  if v.len = 0 then collTokens else (if v.gathers then collTokens else []) ++ tabulate (v.off + ·) v.len

/-- The key travels on tree B (R407). -/
def CollView.onB (v : CollView) (e : Nat) : Bool :=
  if isToken e then e == 2 ^ 32 + 1 else decide (ceilDiv v.len 2 ≤ e - v.off)

/-- The rank that owns element e of a REDUCE_SCATTER or ALL_GATHER (R411). -/
def CollView.ownerRank (v : CollView) (e : Nat) : Nat := if v.block = 0 then 0 else e / v.block

/-- This member's index in the tree of a key. -/
def CollView.index (v : CollView) (e : Nat) : Nat := treeIndex v.p (v.onB e) v.rank

/-- The owner of element e stands below index i of its tree. -/
def CollView.ownerBelow (v : CollView) (e i : Nat) : Bool := inSubtree i (treeIndex v.p (v.onB e) (v.ownerRank e))

/-! ## Messages -/

/-- A value for one element to another rank: up toward the parent or down toward a child. -/
structure CollMsg where
  dst : Nat
  up : Bool
  treeB : Bool
  fromRight : Bool
  e : Nat
  value : Nat
  deriving DecidableEq, Repr

/-- What handling elements gives: the step, messages, elements to write, flags. -/
structure CollOut where
  step : CollStep
  msgs : List CollMsg := []
  writes : List (Nat × Nat) := []
  flags : BitVec 16 := 0
  deriving DecidableEq, Repr

/-- The member writes element e when it comes down (R411, R416). -/
def CollView.owed (v : CollView) (e : Nat) : Bool := !isToken e && (v.op != 1 || v.ownerRank e == v.rank)

/-- An element comes down at this member, or is finished at the root: it is written where it is owed, and goes on to
the children that need it. -/
def CollOut.down (o : CollOut) (v : CollView) (e value : Nat) : CollOut :=
  if o.step.down.contains e then o
  else
    let kids := (treeChildren v.p (v.index e)).filter fun i => isToken e || v.op != 1 || v.ownerBelow e i
    { o with
      step := { o.step with down := e :: o.step.down }
      msgs := o.msgs ++ kids.map fun i =>
        { dst := treeRank v.p (v.onB e) i, up := false, treeB := v.onB e, fromRight := false, e := e, value := value }
      writes := if v.owed e then o.writes ++ [(e, value)] else o.writes }

/-- An element leaves this member upward, or is finished at the root (R416). -/
def CollOut.rise (o : CollOut) (v : CollView) (e value : Nat) : CollOut :=
  let o := { o with step := { o.step with up := e :: o.step.up } }
  match treeParent v.p (v.index e) with
  | none => o.down v e value
  | some q =>
    { o with msgs := o.msgs ++ [{ dst := treeRank v.p (v.onB e) q, up := true, treeB := v.onB e
                                  fromRight := rightChild v.p q == some (v.index e), e := e, value := value }] }

/-- The partial sum of element e at this member (R417, R418). -/
def CollStep.sum (t : CollStep) (v : CollView) (e : Nat) : Nat × BitVec 16 :=
  if isToken e then (0, 0)
  else if v.f32 then
    let plus := fun (x : F32 × BitVec 16) (y : Option F32) => match y with
      | none => x
      | some y => let (z, f) := fadd x.1 y; (z, x.2 ||| f)
    let (z, f) := plus (plus (t.f32Own.get 0 e, 0) (t.f32Left.get none e)) (t.f32Right.get none e)
    (z.toNat, f)
  else (t.accs.get {} e).toXa v.width v.anchor v.anchor

/-- Element e of a reduction goes up once every child's contribution is in. -/
def CollOut.tryRise (o : CollOut) (v : CollView) (e : Nat) : CollOut :=
  if o.step.up.contains e || decide (o.step.received.get 0 e < (treeChildren v.p (v.index e)).length) then o
  else
    let (x, f) := o.step.sum v e
    { o with flags := o.flags ||| f }.rise v e x

/-- A child's contribution to element e enters (R417, R418). -/
def CollStep.enter (t : CollStep) (v : CollView) (e : Nat) (fromRight : Bool) (value : Nat) : CollStep × BitVec 16 :=
  let t := { t with received := t.received.put e (t.received.get 0 e + 1) }
  if isToken e then (t, 0)
  else if v.f32 then
    let x : F32 := BitVec.ofNat 32 value
    (if fromRight then { t with f32Right := t.f32Right.put e (some x) } else { t with f32Left := t.f32Left.put e (some x) }, 0)
  else
    let (y, f) := enterNum v.width v.anchor (decodeXa v.width value v.anchor)
    let (z, g) := (t.accs.get {} e).add y
    ({ t with accs := t.accs.put e z }, f ||| g)

/-- A value for element e arrives from a child. -/
def CollOut.fromChild (o : CollOut) (v : CollView) (fromRight : Bool) (e value : Nat) : CollOut :=
  if v.op = 2 ∧ isToken e = false then (if o.step.up.contains e then o else o.rise v e value)
  else
    let (t, f) := o.step.enter v e fromRight value
    { o with step := t, flags := o.flags ||| f }.tryRise v e

/-- This member's own element e enters at the start of its step. -/
def CollOut.own (o : CollOut) (v : CollView) (d : Desc) (word : Nat → Nat) (e : Nat) : CollOut :=
  if isToken e then o.tryRise v e
  else if v.op = 2 then (if v.ownerRank e = v.rank then o.rise v e (word (e - v.rank * v.block)) else o)
  else if v.f32 then
    let (x, f) := d.toF32 (word e)
    { o with step := { o.step with f32Own := o.step.f32Own.put e x }, flags := o.flags ||| f }.tryRise v e
  else
    let (y, f) := enterNum v.width v.anchor (d.num (word e))
    let (z, g) := ({} : XaElem).add y
    { o with step := { o.step with accs := o.step.accs.put e z }, flags := o.flags ||| f ||| g }.tryRise v e

/-! ## Carrying the outcome of element work into the machine -/

/-- Bytes of element e on a tree edge (R419); a token is one byte. -/
def State.collBytes (s : State) (c : Nat) (v : CollView) (e : Nat) : Nat :=
  if isToken e then 1
  else if v.op = 2 then (match s.desc c v.src with
    | none => 1
    | some d => d.size)
  else if v.f32 then 4 else v.width / 8

/-- Messages to one place joined into runs of consecutive elements of at most 4,096 bytes (R448). -/
def joinRuns (size : Nat) : List CollMsg → List (CollMsg × List Nat)
  | [] => []
  | m :: t => match joinRuns size t with
    | [] => [(m, [m.value])]
    | (h, l) :: rest =>
      if h.dst = m.dst ∧ h.up = m.up ∧ h.treeB = m.treeB ∧ h.e = m.e + 1 ∧ (l.length + 1) * size ≤ 4096 then
        (m, m.value :: l) :: rest
      else (m, [m.value]) :: (h, l) :: rest

/-- The runs of a list of messages, gathered by destination and direction; tokens stand alone. -/
def collRuns (size : Nat) (l : List CollMsg) : List (CollMsg × List Nat) :=
  ((l.map fun m => (m.dst, m.up)).eraseDups).flatMap fun k => joinRuns size (l.filter fun m => m.dst == k.1 && m.up == k.2)

/-- The packet of a run of messages. -/
def State.collPacket (s : State) (t : CollStep) (v : CollView) (r : CollMsg × List Nat) : Packet :=
  let g : GroupId := Fin.ofNat 4096 v.group
  let use : PacketUse := if r.1.up then .collUp g t.number r.1.treeB r.1.fromRight r.1.e t.check
    else .collDown g t.number r.1.treeB r.1.e t.check
  { ctx := t.ctx, src := s.topo.selfAddr, dst := (s.group v.group).members.getD r.1.dst 0, use := use
    data := r.2.flatMap (toLe (s.collBytes t.ctx.val v r.1.e)) }

/-- A finished element is written to DST_DESC (R417, R418); ALL_GATHER moves its bytes unchanged (R419). -/
def State.collWrite (s : State) (t : CollStep) (v : CollView) (e value : Nat) : State :=
  let c := t.ctx.val
  match s.desc c v.dst with
  | none => s
  | some d =>
    let co := d.coords (if v.op = 1 then e - v.rank * v.block else e)
    let m := s.roundBy c v.round t.seed d co
    if v.op = 2 then s.quillWrite c t.core.val t.uid d co value
    else if v.f32 then
      let (w, f) := d.fromNum m (f32 (BitVec.ofNat 32 value))
      (s.quillWrite c t.core.val t.uid d co w).raiseFlags c f
    else
      let (y, f) := enterNum v.width v.anchor (decodeXa v.width value v.anchor)
      let (z, h) := ({} : XaElem).add y
      let (w, k) := d.fromXa m v.width v.anchor z
      (s.quillWrite c t.core.val t.uid d co w).raiseFlags c (f ||| h ||| k)

/-- The state with step `number` of group g changed. -/
def State.updStep (s : State) (g number : Nat) (f : CollStep → CollStep) : State :=
  s.updGroup g fun x => { x with steps := mapIf (fun t => t.number == number) f x.steps }

/-- Step `number` of group g. -/
def State.collStep (s : State) (g number : Nat) : Option CollStep := (s.group g).steps.find? fun t => t.number == number

/-- The work on elements has its effects: the step, the writes, the flags and the packets, whose links the step notes
(R423); a packet that is discarded leaves the step without its outcome (R416, R475). -/
def State.collApply (s : State) (v : CollView) (o : CollOut) : State :=
  let c := o.step.ctx.val
  let packets := (collRuns (s.collBytes c v v.off) o.msgs).map (s.collPacket o.step v)
  let used := packets.filterMap fun p => s.nextHop p.dst.toNat
  let wrote := !o.writes.isEmpty
  let s := s.updStep v.group o.step.number fun _ =>
    { o.step with
      links := (o.step.links ++ used).eraseDups, writing := o.step.writing + b2n wrote
      lost := o.step.lost || packets.any fun p => s.packetLost c p.dst }
  let s := (o.writes.foldl (fun s w => s.collWrite o.step v w.1 w.2) s).raiseFlags c o.flags
  let s := if wrote then
      s.hubDone c (some o.step.uid) [.collWritten v.group (s.group v.group).generation.toNat o.step.number] else s
  packets.foldl (fun s p => s.sendPacket o.step.uid p) s

/-! ## Issue and start -/

/-- Writes bytes at an offset of a record in the issuing core's SRAM share. -/
def State.putRecord (s : State) (c k off : Nat) (b : Bytes) : State := s.putSram c k off b

/-- The keys that a member's start enters: the tokens of an ALL_GATHER first, its elements later. -/
def CollView.firstKeys (v : CollView) : List Nat := if v.gathers then collTokens else v.keys

/-- The elements of the source that a member reads: all of a reduction's chunk, its own block's part of an ALL_GATHER's
(R411). -/
def CollView.ownIndices (v : CollView) : List Nat :=
  (v.keys.filter fun e => !isToken e && (v.op != 2 || v.ownerRank e == v.rank)).map fun e =>
    if v.op = 2 then e - v.rank * v.block else e

/-- Keys of the participant's own enter a running step, its elements read from SRC (R420). -/
def State.collOwn (s : State) (v : CollView) (t : CollStep) (keys : List Nat) : State :=
  match s.desc t.ctx.val v.src with
  | none => s
  | some d =>
    let s := if keys.all isToken then s else s.hubTouch t.ctx.val t.core.val t.uid d (v.ownIndices.map d.coords)
    s.collApply v (keys.foldl (fun o e => o.own v d (fun i => s.hubRead t.ctx.val t.core.val d (d.coords i)) e) { step := t })

/-- Every member's check word has been compared: the tokens of an ALL_GATHER have come down both trees (R415); the result
of a reduction comes down only from a root that every member's contribution has reached. -/
def CollStep.cleared (t : CollStep) (v : CollView) : Bool := !v.gathers || collTokens.all t.down.contains

/-- An ALL_GATHER whose words have been compared enters its elements. -/
def State.collGo (s : State) (g number : Nat) : State :=
  match s.collStep g number with
  | none => s
  | some t =>
    let v := s.collView t.image t.f32
    if t.phase = .running ∧ t.exchange = false ∧ t.ownIn = false ∧ t.cleared v = true then
      s.collOwn v { t with ownIn := true } (v.keys.filter fun e => !isToken e)
    else s

/-! ## Landing -/

/-- The values a packet of a collective step carries, with their keys. -/
def collValues (size first : Nat) (data : Bytes) : List (Nat × Nat) :=
  (List.range (data.length / size)).map fun i => (first + i, field data (size * i) size)

/-- A packet waits in the receive buffer of its group. -/
def State.keepEarly (s : State) (g : Nat) (p : EarlyPacket) : State := s.updGroup g fun x => { x with early := x.early ++ [p] }

/-- A packet of a collective step meets the step (R415, R417, R418, R430): its check word is compared and its values go
on. One of a step that this member has not started, and elements of an ALL_GATHER whose words have not been compared,
wait. -/
def State.collDeliver (s : State) (g : Nat) (p : EarlyPacket) : State :=
  match s.collStep g p.step with
  | none => if (s.group g).nextStep ≤ p.step then s.keepEarly g p else s
  | some t =>
    let v := s.collView t.image t.f32
    if t.exchange then s
    else if t.phase = .waiting then s.keepEarly g p
    else if t.check ≠ p.check then (if t.open_ then s.detect g 3 else s)
    else if isToken p.first = false ∧ t.cleared v = false then s.keepEarly g p
    else
      let o : CollOut := { step := { t with links := (t.links ++ p.link.toList).eraseDups } }
      s.collApply v ((collValues (s.collBytes t.ctx.val v p.first) p.first p.data).foldl (fun o x =>
        if p.up then o.fromChild v p.fromRight x.1 x.2 else o.down v x.1 x.2) o)

/-- The packets in a group's receive buffer meet their steps again. -/
def State.collDrain (s : State) (g : Nat) : State :=
  (s.group g).early.foldl (fun s p => s.collDeliver g p) (s.updGroup g fun x => { x with early := [] })

/-- A packet of a collective step lands (R415 to R418, R430). -/
def State.collLand (s : State) (g : Nat) (p : EarlyPacket) : State := ((s.collDeliver g p).collGo g p.step).collDrain g

/-- A step starts: it takes its allocation and its own elements enter (R417, R418, R420); the packets that came before it
meet it. -/
def State.startStep (s : State) (t : CollStep) : State :=
  let v := s.collView t.image t.f32
  let t := { t with phase := .running, alloc := v.alloc, check := s.collCheck v t.number, ownIn := !v.gathers }
  let s := s.updCtx t.ctx.val fun x => { x with resAlloc := x.resAlloc + v.alloc }
  ((((s.collOwn v t v.firstKeys).collGo v.group t.number).collDrain v.group).collGo v.group t.number).collDrain v.group

/-- The step's allocation fits beside those of the context's earlier steps (R421). -/
def State.allocFits (s : State) (c : Nat) (v : CollView) : Bool :=
  decide ((s.ctx c).resAlloc + v.alloc ≤ s.shareSize c 2)

/-- The command whose step ended in a group abort meets COLL_ABORT, and TIMEOUT for that code (R429). -/
def State.markAbort (s : State) (c uid : Nat) (code : Nat) : State :=
  s.updCmd c uid fun x => { x with collAbort := true, late := x.late || code == 1 }

/-- The movement state of an exchange's COUNT (R413). -/
def CtxQuill.countOf (q : CtxQuill) (key g number : Nat) : Bool :=
  let m := q.moves.get {} key
  m.group == g && m.step == number && (m.phase == .exchanging || m.phase == .placing)

/-- A step reaches an abort: STATUS, DETECT_TICK and DETECT_RANK are written, its allocation is released and its
semaphore is signalled (R427, R432). The COUNT of an exchange has failed (R311). -/
def State.abortStep (s : State) (g : Nat) (t : CollStep) (code : Nat) (tick : Word) (rank : BitVec 32) : State :=
  let c := t.ctx.val
  let s := s.updStep g t.number fun t => { t with phase := .aborted, alloc := 0 }
  let s := s.updCtx c fun x =>
    { x with
      resAlloc := x.resAlloc - t.alloc
      quill := if t.exchange && x.quill.countOf t.record g t.number then
          { x.quill with moves := x.quill.moves.put t.record { (x.quill.moves.get {} t.record) with phase := .failed, stage := 0 } }
        else x.quill }
  let s := if t.exchange then s
    else (s.putRecord c t.core.val (t.record + 28) (toLe 4 code)).putRecord c t.core.val (t.record + 40)
      (toLe 8 tick.toNat ++ toLe 4 rank.toNat)
  (s.markAbort c t.uid code).signalSem c t.sem.toNat 1

/-- The links to and from the members next to this one in the trees of a group. -/
def State.treeLinks (s : State) (g : Nat) : List Nat :=
  let x := s.group g
  let near := [false, true].flatMap fun b =>
    let i := treeIndex x.size b (s.rankIn g)
    (treeChildren x.size i ++ (treeParent x.size i).toList).map (treeRank x.size b)
  (near.flatMap fun r =>
    let a := (x.members.getD r 0).toNat
    (s.nextHop a).toList ++ (s.arrivalLink a).toList).eraseDups

/-- An exchange runs: its contribution goes out on the trees of its group (R308, R406, log entry 82). -/
def State.startExchange (s : State) (g : Nat) (t : CollStep) : State :=
  let s := s.updStep g t.number fun t => { t with phase := .running, links := s.treeLinks g }
  match t.part with
  | none => s
  | some p => s.emit (.exchange (Fin.ofNat 4096 g) t.number p)

/-- A new step joins a group and takes the next number (R413), and its record RANK and SIZE (R410): in an ABORTED group, or
with a generation that is not expected, it ends at once (R426, R432); in a REFORMING group, or without room in the
reservoir, it waits (R421). One that breaks its rules in the group as it stands, or can never fit, faults its context (R412,
R421). -/
def State.joinStep (s : State) (g : Nat) (t : CollStep) : State :=
  let x := s.group g
  let c := t.ctx.val
  let t := { t with number := x.nextStep }
  let s := s.updGroup g fun x => { x with steps := x.steps ++ [t], nextStep := x.nextStep + 1 }
  let v := s.collView t.image t.f32
  let stale := !t.exchange && v.expectGen != 0 && v.expectGen != x.generation.toNat
  let s := if t.exchange then s else s.putRecord c t.core.val (t.record + 32) (toLe 4 v.rank ++ toLe 4 v.p)
  match x.state with
  | .active =>
    if stale then s.abortStep g t 6 x.abortTick x.abortRank
    else if t.exchange then s.startExchange g t
    else if s.collOk c v = false ∨ s.shareSize c 2 < v.alloc then s.ctxFault c
    else if s.allocFits c v then s.startStep t
    else s
  | .aborted => s.abortStep g t 5 x.abortTick x.abortRank
  | _ => s

/-- The common part of COLL and COLL.F32 (R404, R409 to R412, R421). -/
def collIssue (k : CoreId) (n : SReg) (i : Instr) (sem : BitVec 16) (f32 : Bool) (s : State) : State :=
  onRecord k n i s fun key st off b =>
    let c := keyCtx key
    let v := s.collView b f32
    if s.collOk c v = false ∨ s.shareSize c 2 < v.alloc then s.ctxFault c
    else
      (s.updStream k.val key Stream.advance).joinStep v.group
        { ctx := ctxOf key, core := k, uid := st.uid, record := off, image := b, sem := sem, f32 := f32, issueTick := s.tick.now
          seed := Config.roundSeed c st.pc }

/-- COLL (R404, R409 to R421, R432, R439, R440). -/
def execColl (k : CoreId) (n : SReg) (sem : BitVec 16) (s : State) : Result := .next (collIssue k n (.coll k n sem) sem false s)

/-- COLL.F32 (R404, R409 to R421, R432, R439, R440). -/
def execCollF32 (k : CoreId) (n : SReg) (sem : BitVec 16) (s : State) : Result := .next (collIssue k n (.collF32 k n sem) sem true s)

/-- COLL_ALLOC (R421): a step that waited for room in the reservoir gets it. -/
def execCollAlloc (g : GroupId) (step : Nat) (s : State) : Result :=
  .next (
    match s.collStep g.val step with
    | none => s
    | some t =>
      if t.phase = .waiting ∧ t.exchange = false ∧ (s.group g.val).state = .active ∧
          s.allocFits t.ctx.val (s.collView t.image t.f32) = true then s.startStep t
      else s)

/-! ## Outcomes -/

/-- Every element this member sends up, passes down or is owed has gone or come, and what it is owed is in memory (R416,
R439). -/
def CollStep.localDone (t : CollStep) (v : CollView) : Bool :=
  t.ownIn && t.writing == 0 && !t.lost && v.keys.all fun e =>
    (t.up.contains e || (v.op == 2 && !isToken e && !v.ownerBelow e (v.index e))) &&
      (t.down.contains e || (v.op == 1 && !isToken e && !v.ownerBelow e (v.index e)))

/-- The lowest detection that the group holds is older than this tick (R428). -/
def State.detectedBefore (s : State) (g : Nat) : Bool := match (s.group g).detection with
  | none => false
  | some d => decide (d.2.1.toNat < s.now)

/-- COLL_STEP_OK (R416, R428, R441): the member's part is done, what it sent has left (log entry 82), and no detection is
older than this tick. -/
def execCollStepOk (g : GroupId) (step : Nat) (s : State) : Result :=
  .next (
    match s.collStep g.val step with
    | none => s
    | some t =>
      if t.phase ≠ .running ∨ t.exchange ∨ s.detectedBefore g.val ∨ s.flitsWait t.ctx.val = true ∨
          t.localDone (s.collView t.image t.f32) = false then s
      else
        let c := t.ctx.val
        let s := s.updStep g.val step fun t => { t with phase := .ok, alloc := 0 }
        let s := s.updCtx c fun x => { x with resAlloc := x.resAlloc - t.alloc }
        (s.putRecord c t.core.val (t.record + 28) (toLe 4 0)).signalSem c t.sem.toNat 1)

/-- COLL_TIMEOUT (R311, R423, R424): the step is without an outcome TIMEOUT ticks after its issue. -/
def execCollTimeout (g : GroupId) (step : Nat) (s : State) : Result :=
  .next (
    match s.collStep g.val step with
    | none => s
    | some t =>
      let x := s.group g.val
      if t.open_ ∧ x.state = .active ∧ t.issueTick.toNat + x.timeout ≤ s.now then s.detect g.val 1 else s)

/-- ABORT_FLOOD_RECEIVE (R424, R425, R472): another member's detection arrives; one that is lower is kept and relayed. -/
def execAbortFloodReceive (g : GroupId) (code : BitVec 8) (tick : Word) (rank : BitVec 32) (s : State) : Result :=
  .next (
    let x := s.group g.val
    let low := lowerDetect x.detection (code, tick, rank)
    if x.state ≠ .active ∨ x.fixed ∨ low = x.detection then s
    else (s.updGroup g.val fun x => { x with detection := low }).emit (.flood g code tick rank))

/-- ABORT_FIX (R425): 16,384 GT have passed since the lowest detection tick; ABORT_CODE, ABORT_TICK and ABORT_RANK
take the first detection. -/
def execAbortFix (g : GroupId) (s : State) : Result :=
  .next (
    match (s.group g.val).detection with
    | none => s
    | some d =>
      if (s.group g.val).fixed ∨ s.now < d.2.1.toNat + 16384 then s
      else s.updGroup g.val fun x => { x with fixed := true, abortCode := d.1, abortTick := d.2.1, abortRank := d.2.2 })

/-- COLL_ABORT_SETTLE (R427 to R431, R311): at D + 32,768 every step without an outcome ends as an abort, and the group
enters ABORTED or REFORMING. -/
def execCollAbortSettle (g : GroupId) (s : State) : Result :=
  .next (
    let x := s.group g.val
    if x.fixed = false ∨ s.now < x.abortTick.toNat + Config.abortSettle then s
    else
      let s := (x.steps.filter CollStep.open_).foldl
        (fun s t => s.abortStep g.val t x.abortCode.toNat x.abortTick x.abortRank) s
      s.updGroup g.val fun x =>
        { x with
          state := if x.reforms then .reforming else .aborted
          detection := none, fixed := false, aborts := x.aborts + 1, early := [] })

/-- The steps that waited for ACTIVE start in the re-formed group, numbered from 0, and a COUNT follows the new number of
its exchange; their TIMEOUT runs from their issue (R423, R432, R433). -/
def State.rejoinSteps (s : State) (g : Nat) (waiting : List CollStep) : State :=
  waiting.foldl (fun s t =>
    let number := (s.group g).nextStep
    let s := if t.exchange then s.updQuill t.ctx.val fun q =>
        if q.countOf t.record g t.number then
          { q with moves := q.moves.put t.record { (q.moves.get {} t.record) with step := number } }
        else q
      else s
    s.joinStep g t) s

/-- GROUP_REFORM (R433 to R435): at D + 65,536 a member that the received set holds becomes ACTIVE with the remaining
members; one without a set, or not in it, becomes ABORTED. -/
def execGroupReform (g : GroupId) (members : Option (List (BitVec 16))) (s : State) : Result :=
  .next (
    let x := s.group g.val
    if x.state ≠ .reforming ∨ s.now < x.abortTick.toNat + 65536 then s
    else
      let left := match members with
        | none => []
        | some l => x.members.filter l.contains
      let waiting := x.steps.filter CollStep.open_
      if left.contains s.topo.selfAddr then
        (s.updGroup g.val fun x =>
          { x with
            state := .active, members := left, generation := x.generation + 1, nextStep := 0, steps := []
            memberList := if x.memberList.isEmpty then [] else left }).rejoinSteps g.val waiting
      else
        (waiting.foldl (fun s t => s.abortStep g.val t 5 x.abortTick x.abortRank) s).updGroup g.val fun x =>
          { x with state := .aborted })

end Sys2Proof.Machine
end

