-- ==== Sys2Proof/Machine/Movement.lean ====
section
/-! DEFINITION. Movement of tokens: the movement record and its checks, counts and their exchange, placement, drops and
SPILL, scatter, arrival, return, the exact combine, early exit, step summaries and the conductor (R297 to R352, R381 to
R392, R589). -/

namespace Sys2Proof.Machine

/-! ## The movement record -/

/-- A movement record (R299). -/
structure MoveRec where
  layer : Nat
  policy : Nat
  round : Nat
  cf : Nat
  exitBit : Nat
  tokenBase : Nat
  routeOff : Nat
  table : Nat
  queues : Nat
  anchor : Int
  src : Nat
  map : Nat
  ret : Nat
  out : Nat
  base : Nat
  exitDesc : Nat
  seqDesc : Nat
  prob : Nat
  group : Nat
  final : Nat
  deriving DecidableEq, Repr

/-- The fields of a movement record (R299). -/
def parseMove (b : Bytes) : MoveRec :=
  { layer := field b 0 2, policy := field b 2 1, round := field b 3 1, cf := field b 4 2, exitBit := field b 6 1
    tokenBase := field b 8 4, routeOff := field b 12 4, table := field b 16 4, queues := field b 20 2
    anchor := sfield b 22 2, src := field b 24 2, map := field b 26 2, ret := field b 28 2, out := field b 30 2
    base := field b 32 2, exitDesc := field b 34 2, seqDesc := field b 36 2, prob := field b 38 2
    group := field b 40 2, final := field b 42 2 }

/-- An entry of the queue table (R301). -/
structure QueueEntry where
  queue : Nat
  out : Nat
  sem : Nat
  expert : Nat
  deriving DecidableEq, Repr

/-- Entry q of the queue table in core k's share (R301). -/
def State.queueEntry (s : State) (c k : Nat) (m : MoveRec) (q : Nat) : QueueEntry :=
  let b := s.sramShare c k (m.table + 8 * q) 8
  { queue := field b 0 2, out := field b 2 2, sem := field b 4 2, expert := field b 6 2 }

/-- The descriptor of entry i has exactly these extents, the others being 1. -/
def State.descShape (s : State) (c i : Nat) (exts : List Nat) : Bool := match s.desc c i with
  | none => false
  | some d => d.extents == exts ++ List.replicate (6 - exts.length) 1

/-- The descriptor of entry i has RANK n. -/
def State.descRank (s : State) (c i n : Nat) : Bool := match s.desc c i with
  | none => false
  | some d => d.rank == n

/-- FORMAT of a descriptor that exists. -/
def State.formatOf (s : State) (c i : Nat) : Option Nat := (s.desc c i).map (·.format)

/-- Element e of EXPERT_MAP (R300). -/
def State.mapElem (s : State) (c k : Nat) (m : MoveRec) (e : Nat) : Nat := match s.desc c m.map with
  | none => 0
  | some d => s.hubRead c k d [e]

/-- Device address of an EXPERT_MAP element (R300). -/
def mapDevice (x : Nat) : Nat := x % 65536
/-- Local queue index of an EXPERT_MAP element (R300). -/
def mapQueue (x : Nat) : Nat := x / 65536 % 512

/-- D: EXTENT0 of SRC_DESC (R299). -/
def State.rowLen (s : State) (c : Nat) (m : MoveRec) : Nat := match s.desc c m.src with
  | none => 0
  | some d => d.ext 0

/-- Entry q of the queue table keeps R301 and R302. -/
def State.queueOk (s : State) (c k : Nat) (m : MoveRec) (r : RouteRec) (q : Nat) : Bool :=
  let x := s.queueEntry c k m q
  match s.desc c x.queue, s.desc c x.out with
  | some a, some b =>
    some a.format == s.formatOf c m.src && a.ext 0 == s.rowLen c m && (a.extents.drop 2).all (· == 1) &&
      a.extents == b.extents &&
      decide (r.base ≤ x.expert) && decide (x.expert < r.base + r.experts) &&
      (let e := s.mapElem c k m (x.expert - r.base)
       mapDevice e == s.topo.selfAddr.toNat && mapQueue e == q)
  | _, _ => false

/-- The movement record keeps R298 to R302 and R404 for context c. -/
def State.moveOk (s : State) (c k : Nat) (m : MoveRec) (r : RouteRec) : Bool :=
  let d := s.rowLen c m
  m.routeOff % 64 == 0 && s.inShare c 0 m.routeOff 64 && s.routeOk c r && m.layer == r.layer &&
  decide (m.policy ≤ 1) && decide (m.round ≤ 2) && decide (m.exitBit ≤ 63) && m.table % 64 == 0 &&
  decide (m.queues ≤ 512) && s.inShare c 0 m.table (8 * m.queues) &&
  decide (Config.anchorMin ≤ m.anchor) && decide (m.anchor ≤ Config.anchorMax) &&
  s.descShape c m.src [d, r.tokens] && s.descIs c m.map 6 [(0, r.experts)] &&
  s.descShape c m.ret [d, r.k, r.tokens] && s.descRank c m.ret 3 && s.descShape c m.out [d, r.tokens] &&
  (m.base == 0xFFFF || s.descShape c m.base [d, r.tokens]) && s.descOpt c m.exitDesc 5 [(0, r.tokens)] &&
  (List.range r.experts).all (fun e => decide (s.mapElem c k m e < 2 ^ 25)) &&
  (List.range m.queues).all (s.queueOk c k m r) && (!r.balance || r.group == m.group) && s.groupUsable c m.group

/-- The descriptors that EXIT alone reads or writes (R299, R302). -/
def State.exitOk (s : State) (c : Nat) (m : MoveRec) (r : RouteRec) : Bool :=
  s.descIs c m.seqDesc 6 [(0, r.tokens)] && s.descIs c m.prob 4 [(0, r.tokens)] &&
  s.descShape c m.final [s.rowLen c m, r.tokens] && s.formatOf c m.final == s.formatOf c m.out

/-- The route record that a movement record names, in core k's share. -/
def State.routeAt (s : State) (c k : Nat) (m : MoveRec) : Bytes := s.sramShare c k m.routeOff 64

/-- Token t is marked exited (R341). -/
def State.exitedTok (s : State) (c k : Nat) (m : MoveRec) (t : Nat) : Bool :=
  if m.exitDesc = 0xFFFF then false
  else match s.desc c m.exitDesc with
    | none => false
    | some d => s.hubRead c k d [t] != 0

/-- The key of the movement record at an offset of core k's share (R298). -/
def moveKey (k : CoreId) (off : Nat) : Nat := 32 * off + k.val

/-- The state with what the Quill keeps for a record changed. -/
def State.updMove (s : State) (c key : Nat) (f : MoveState → MoveState) : State :=
  s.updQuill c fun q => { q with moves := q.moves.put key (f (q.moves.get {} key)) }

/-- What the Quill keeps for a record. -/
def State.move (s : State) (c key : Nat) : MoveState := (s.ctx c).quill.moves.get {} key

/-- The record an event is about: of those for which a test holds, the one whose COUNT issued first. -/
def State.moveWhere (s : State) (c : Nat) (p : MoveState → Bool) : Option MoveState :=
  (((s.ctx c).quill.moves.map (·.2)).filter p).foldl (fun b x => match b with
    | none => some x
    | some y => if x.order < y.order then some x else b) none

/-- Instruction i issues with a movement record that keeps its rules: runs `f` on the key of the stream, the stream, the key
of the record, its bytes and those of its route record. -/
def onMove (k : CoreId) (n : SReg) (i : Instr) (s : State) (f : Nat → Stream → Nat → Bytes → Bytes → State) : State :=
  onRecord k n i s fun key st off b =>
    let c := keyCtx key
    let m := parseMove b
    let rb := s.routeAt c k.val m
    if s.moveOk c k.val m (parseRoute rb) then f key st (moveKey k off) b rb else s.ctxFault c

/-! ## Counts and their exchange -/

/-- The assignments of the latest ROUTE of the layer (log entry 35), exited tokens left out (R307). -/
def State.liveAssigns (s : State) (c k : Nat) (m : MoveRec) : List Assign :=
  let q := (s.ctx c).quill
  if q.assignLayer = m.layer then q.assigns.filter fun a => !s.exitedTok c k m a.token else []

/-- The layer-local index of an assignment's expert, and of the expert whose queue holds it (R265, R321). -/
def RouteRec.expertOf (r : RouteRec) (a : Assign) : Nat := a.expert - r.base
/-- The layer-local index of the expert in whose queue an assignment is placed. -/
def RouteRec.placeOf (r : RouteRec) (a : Assign) : Nat := a.placed - r.base

/-- How many of a list of experts are expert e, for every e (R307). -/
def countExperts (experts : Nat) (l : List Nat) : List Nat :=
  tabulate (fun e => (l.filter (· == e)).length) experts

/-- The check word of an exchange (R308): each value at the width its record gives it, POLICY and FORMAT in one byte, D in
four (log entry 16). -/
def State.exchangeCheck (s : State) (c k : Nat) (m : MoveRec) (r : RouteRec) : BitVec 64 :=
  checkWord (toLe 2 m.layer ++ toLe 1 r.k ++ toLe 4 r.experts ++ toLe 2 r.base ++ toLe 2 m.cf ++ toLe 1 m.policy ++
    toLe 4 (s.rowLen c m) ++ toLe 1 ((s.formatOf c m.src).getD 0) ++
    (List.range r.experts).flatMap fun e => toLe 4 (s.mapElem c k m e))

/-- What this member contributes with given counts (R308). -/
def State.contribution (s : State) (c k : Nat) (m : MoveRec) (r : RouteRec) (counts : List Nat) : Contribution :=
  { tokenBase := m.tokenBase, tokens := r.tokens, counts := counts, check := s.exchangeCheck c k m r }

/-- An exchange of the group begins for a COUNT: it takes a step number and its contribution goes out (R308, R311,
R413). -/
def State.beginExchange (s : State) (c key : Nat) (part : Contribution) : State :=
  let x := s.move c key
  let number := (s.group x.group).nextStep
  let s := s.updMove c key fun m => { m with step := number }
  s.joinStep x.group
    { ctx := Fin.ofNat 64 c, core := x.core, uid := x.uid, record := key, sem := x.sem, exchange := true, part := some part
      issueTick := s.tick.now }

/-- The elements that a COUNT reads: EXPERT_MAP and EXIT_DESC (R307, R308). -/
def State.countTouch (s : State) (c k uid : Nat) (m : MoveRec) (r : RouteRec) : State :=
  let s := match s.desc c m.map with
    | none => s
    | some d => s.hubTouch c k uid d (tabulate (fun e => [e]) r.experts)
  match if m.exitDesc = 0xFFFF then none else s.desc c m.exitDesc with
  | none => s
  | some d => s.hubTouch c k uid d (tabulate (fun t => [t]) r.tokens)

/-- COUNT (R297 to R302, R307, R308, R329, R333, R345, R404, R413): counters are set to 0, the local counts are taken and
the exchange begins. -/
def execCount (k : CoreId) (n : SReg) (sem : BitVec 16) (s : State) : Result :=
  .next (onMove k n (.count k n sem) s fun key st rec' b rb =>
    let c := keyCtx key
    let m := parseMove b
    let r := parseRoute rb
    let stage := (24 + (if m.policy = 1 then 16 else 0)) * r.experts + 4 * r.tokens
    let s' := s.updMove c rec' fun x => { x with stage := 0 }
    if s'.stageFits c stage = false then s.ctxFault c
    else
      let l := s.liveAssigns c k.val m
      let counts := countExperts r.experts (l.map r.expertOf)
      let q := (s.ctx c).quill
      let s := (s.updStream k.val key Stream.advance).countTouch c k.val st.uid m r
      let s := (s.updMove c rec' fun _ =>
        { record := rec', core := k, uid := st.uid, sem := sem, phase := .exchanging, order := q.counted, image := b, route := rb
          launch := st.launchTick, group := m.group, stage := stage, counts := counts, assigns := l
          adjusted := q.adjusted, hashKeys := q.hashKeys }).updQuill c fun q => { q with counted := q.counted + 1 }
      s.beginExchange c rec' (s.contribution c k.val m r counts))

/-- Two contributions claim overlapping token ranges (R310). -/
def overlapping (a b : Contribution) : Bool :=
  decide (0 < a.tokens) && decide (0 < b.tokens) && decide (a.tokenBase < b.tokenBase + b.tokens) &&
    decide (b.tokenBase < a.tokenBase + a.tokens)

/-- Some pair of contributions differs in its check word or overlaps (R310). -/
def badExchange : List Contribution → Bool
  | [] => false
  | a :: t => t.any (fun b => a.check != b.check || overlapping a b) || badExchange t

/-- Totals N_e (R309). -/
def exchangeTotals (experts : Nat) (parts : List Contribution) : List Nat :=
  tabulate (fun e => (parts.map fun p => p.counts.getD e 0).sum) experts

/-- Bases B_e of a member: the counts of the members whose TOKEN_BASE is lower (R309). -/
def exchangeBases (experts base : Nat) (parts : List Contribution) : List Nat :=
  exchangeTotals experts (parts.filter fun p => decide (p.tokenBase < base))

/-- C of R313. -/
def capacityOf (cf tg k experts : Nat) : Nat := if cf = 0 then tg else ceilDiv (cf * tg * k) (256 * experts)

/-- Rows for assignments in order, from a base row per expert (R314). -/
def placeRows (base : List Nat) (l : List Nat) : List Nat :=
  (l.foldl (fun (acc : List Nat × SMap Nat) e =>
    let n := acc.2.get 0 e
    (acc.1 ++ [base.getD e 0 + n], acc.2.put e (n + 1))) ([], [])).1

/-- The first pass of placement (R314, R315). -/
def firstPass (r : RouteRec) (bases : List Nat) (cap : Nat) (l : List Assign) : List Assign :=
  (l.zip (placeRows bases (l.map r.expertOf))).map fun (a, row) =>
    if row < cap then { a with row := some row } else { a with overflow := true }

/-- room_e of R317. -/
def roomOf (totals : List Nat) (cap e : Nat) : Nat := cap - min (totals.getD e 0) cap

/-- The candidate of an overflow assignment of token t that selected the experts `sel`, from what the step's ROUTE formed
(R318). The routing hash goes on to slot 31, or until every expert is chosen. -/
def MoveState.candidate (x : MoveState) (r : RouteRec) (totals : List Nat) (cap : Nat) (sel : List Nat) (t : Nat) :
    Option Nat :=
  if r.mode = 1 then
    let (lo, hi) := x.hashKeys.getD t (0, 0)
    ((hashRoute r lo hi r.k (min 32 r.experts - r.k) (hashRoute r lo hi 0 r.k [])).drop r.k).find? fun e =>
      decide (0 < roomOf totals cap e)
  else
    bestExpert ((byExpert (x.adjusted.getD t [])).filter fun y => !sel.contains y.1 && decide (0 < roomOf totals cap y.1))

/-- The SPILL requests of a step: token, slot and candidate, in order (R318). -/
def MoveState.spillRequests (x : MoveState) (r : RouteRec) (totals : List Nat) (cap : Nat) (l : List Assign) :
    List (Nat × Nat × Nat) :=
  (l.filter (·.overflow)).filterMap fun a =>
    let sel := (l.filter fun b => b.token == a.token).map r.expertOf
    (x.candidate r totals cap sel a.token).map fun e => (a.token, a.slot, e)

/-- The exchange has its result for a move whose contributions agree (R309, R312 to R314, R317 to R319, R345): its counts
enter the layer's loads at once (R283, R284). -/
def State.takeResult (s : State) (c : Nat) (x : MoveState) (parts : List Contribution) : State :=
  let m := parseMove x.image
  let r := parseRoute x.route
  let totals := exchangeTotals r.experts parts
  let bases := exchangeBases r.experts m.tokenBase parts
  let tg := (parts.map (·.tokens)).sum
  let cap := capacityOf m.cf tg r.k r.experts
  let assigns := firstPass r bases cap x.assigns
  let stage := x.stage + 8 * m.queues * cap
  let short := (List.range m.queues).any fun q => match s.desc c (s.queueEntry c x.core.val m q).queue with
    | none => true
    | some d => decide (d.ext 1 < cap)
  let s := (s.updStep x.group x.step fun t => { t with phase := .ok }).balUpdate c r totals x.launch
  if short ∨ s.stageFits c (8 * m.queues * cap) = false then s.ctxFault c
  else
    let req := if m.policy = 1 then x.spillRequests r totals cap assigns else []
    let s := s.updMove c x.record fun _ =>
      { x with
        phase := .placing, totals := totals, bases := bases, globalTokens := tg, capacity := cap, assigns := assigns
        requests := req, stage := stage }
    if m.policy = 1 then
      s.beginExchange c x.record (s.contribution c x.core.val m r (countExperts r.experts (req.map (·.2.2))))
    else s

/-- The contributions are those of every member of the group, this one's among them, and the exchange may still have its
result: no detection is older than this tick (R311, R428). -/
def State.wholeExchange (s : State) (x : MoveState) (parts : List Contribution) : Bool :=
  !s.detectedBefore x.group && match s.collStep x.group x.step with
  | none => false
  | some t => t.phase == .running && parts.length == (s.group x.group).size &&
      match t.part with
      | none => false
      | some p => parts.contains p

/-- COUNT_EXCHANGE_RESULT (R309, R310, R313): of the context's COUNTs in their first exchange, the earliest that the
contributions belong to takes the result. -/
def execCountExchangeResult (c : CtxId) (parts : List Contribution) (s : State) : Result :=
  .next (
    match s.moveWhere c.val fun x => x.phase == .exchanging && s.wholeExchange x parts with
    | none => s
    | some x => if badExchange parts then s.ctxFault c.val else s.takeResult c.val x parts)

/-! ## Placement and completion -/

/-- A spilled assignment at its row, or dropped (R319 to R321). -/
def spillInto (base cap : Nat) (l : List Assign) (q : (Nat × Nat × Nat) × Nat) : List Assign :=
  mapIf (fun a => a.token == q.1.1 && a.slot == q.1.2.1)
    (fun a => if q.2 < cap then { a with row := some q.2, placed := base + q.1.2.2 } else a) l

/-- Every assignment after the SPILL pass, and the final row counts KEPT_e (R316, R319, R320). -/
def spillPass (x : MoveState) (base tokenBase experts : Nat) (spill : List Contribution) : List Assign × List Nat :=
  let bases2 := exchangeBases experts tokenBase spill
  let totals2 := exchangeTotals experts spill
  let start := tabulate (fun e => min (x.totals.getD e 0) x.capacity + bases2.getD e 0) experts
  let rows := placeRows start (x.requests.map (·.2.2))
  ((x.requests.zip rows).foldl (spillInto base x.capacity) x.assigns,
   tabulate (fun e => min x.capacity (min (x.totals.getD e 0) x.capacity + totals2.getD e 0)) experts)

/-- R_t for each token with a kept slot (R316). -/
def contribCounts (l : List Assign) : SMap Nat :=
  (l.filter fun a => a.row.isSome).foldl (fun m a => m.put a.token (m.get 0 a.token + 1)) []

/-- The step summary of a COUNT (R382). -/
def stepSummary (seq tick : Nat) (r : RouteRec) (x : MoveState) : Bytes :=
  toLe 8 seq ++ toLe 8 tick ++ toLe 2 r.layer ++ [BitVec.ofNat 8 (b2n (decide (0 < x.spilled)) + 2 * b2n (decide (0 < x.dropped)))] ++
    [0] ++ toLe 4 r.experts ++ toLe 8 x.globalTokens ++ toLe 4 x.capacity ++ toLe 4 x.dropped ++ List.replicate 24 0 ++
    (List.range r.experts).flatMap fun e => toLe 4 (x.totals.getD e 0) ++ toLe 4 (x.kept.getD e 0)

/-- A step summary is written and its arrival signalled (R382 to R384); one that does not fit is not written. -/
def State.postSummary (s : State) (c : Nat) (r : RouteRec) (x : MoveState) : State :=
  let area := s.cfgNum (0x4300 + c) 2
  let stride := s.cfgNum (0x4300 + c) 3
  let seq := (s.ctx c).quill.summarySeq.toNat
  if area = 0 then s
  else
    let b := stepSummary seq s.now r x
    let at_ := area + seq % 16 * stride
    let s := s.updQuill c fun q => { q with summarySeq := q.summarySeq + 1 }
    if stride % 64 ≠ 0 ∨ stride < b.length ∨ s.inShare c 1 at_ b.length = false then s
    else (s.putHbm c at_ b (some x.uid)).hubDone c (some x.uid) [.irq 1]

/-- The template records of the section of a layer (R386); none where no SECTION record names it. -/
def sectionOf (layer : Nat) (l : List Bytes) : Option (List Bytes) :=
  let isSection := fun (b : Bytes) => field b 0 1 == 0xF0 && field b 1 1 == 0xFF
  match l.dropWhile fun b => !(isSection b && field b 2 2 == layer) with
  | [] => none
  | _ :: t => some (t.takeWhile fun b => !isSection b)

/-- The value a patch record names: KEPT of a queue, N_e or T_G (R385). -/
def State.patchValue (s : State) (c : Nat) (m : MoveRec) (r : RouteRec) (x : MoveState) (b : Bytes) : Option Nat :=
  let i := field b 8 4
  match field b 1 1 with
  | 0 => if i < m.queues then some (x.kept.getD ((s.queueEntry c x.core.val m i).expert - r.base) 0) else none
  | 1 => if i < r.experts then some (x.totals.getD i 0) else none
  | 2 => some x.globalTokens
  | _ => none

/-- What the records of a section ask for, in order; `launch` is a LAUNCH_TICK for the next descriptor (R385). -/
def State.sectionOps (s : State) (c : Nat) (m : MoveRec) (r : RouteRec) (x : MoveState) :
    Option Nat → List Bytes → List CondOp
  | _, [] => []
  | launch, b :: t =>
    let add := sfield b 12 4
    if field b 0 1 = 0xF0 then
      if field b 1 1 = 3 then State.sectionOps s c m r x (some ((BitVec.ofInt 64 (s.now + add)).toNat)) t
      else match s.patchValue c m r x b with
        | none => [.broken]
        | some v =>
          if field b 4 4 % 4 ≠ 0 ∨ s.inShare c 0 (field b 4 4) 4 = false then [.broken]
          else .patch (field b 4 4) (BitVec.ofInt 32 (v + add)).toNat :: State.sectionOps s c m r x launch t
    else if 1 ≤ field b 0 1 ∧ field b 0 1 ≤ 8 then
      let d := match launch with
        | none => b
        | some w => b.take 8 ++ toLe 8 w ++ b.drop 16
      .post d :: State.sectionOps s c m r x none t
    else [.broken]

/-- The conductor goes on with its section in the control-core slots of a LIVE context (R387). -/
def State.conductNow (s : State) (c : Nat) : State := if s.controlRuns c then s.runConductor c else s

/-- The conductor takes the section of the COUNT's layer, reading the template (R386, R389). -/
def State.takeSection (s : State) (c : Nat) (m : MoveRec) (r : RouteRec) (x : MoveState) : State :=
  let base := s.cfgNum (0x4300 + c) 4
  let n := s.cfgNum (0x4300 + c) 5
  let l := (List.range n).map fun i => s.hbmShare c (base + 64 * i) 64
  let ops := match sectionOf m.layer l with
    | none => [.broken]
    | some t => s.sectionOps c m r x none t
  let s := if s.inShare c 1 base (64 * n) then s.hubMove c (some x.uid) false (linesOf (s.absAddr c 0 1 base) (64 * n)) [] else s
  ((s.updQuill c fun q => { q with conductor := q.conductor ++ ops }).trace .template).conductNow c

/-- Queue q of a move is released: its semaphore is signalled once (R301, R330, R331). -/
def State.releaseQueue (s : State) (c : Nat) (x : MoveState) (q : Nat) : State :=
  let sem := (s.queueEntry c x.core.val (parseMove x.image) q).sem
  (s.updMove c x.record fun y => { y with released := q :: y.released }).signalSem c sem 1

/-- A COUNT completes (R314 to R321, R331, R382, R386): the final assignments and row counts, the summary or the
conductor's section, the semaphore, and the queues that expect no row. -/
def State.completeCount (s : State) (c : Nat) (x : MoveState) (spill : List Contribution) : State :=
  let m := parseMove x.image
  let r := parseRoute x.route
  let (assigns, kept) := if m.policy = 1 then spillPass x r.base m.tokenBase r.experts spill
    else (x.assigns, tabulate (fun e => min (x.totals.getD e 0) x.capacity) r.experts)
  let dropped := (assigns.filter fun a => a.row.isNone).length
  let spilled := (assigns.filter fun a => a.overflow && a.row.isSome).length
  let expect : SMap Nat := (List.range m.queues).map fun q => (q, kept.getD ((s.queueEntry c x.core.val m q).expert - r.base) 0)
  let x : MoveState := { x with
    phase := .complete, assigns := assigns, kept := kept, dropped := dropped, spilled := spilled, expectRows := expect
    expectContrib := contribCounts assigns }
  let s := if m.policy = 1 then s.updStep x.group x.step fun t => { t with phase := .ok } else s
  let s := (s.updMove c x.record fun _ => x).updQuill c fun q =>
    { q with dropped := satAdd q.dropped dropped, spilled := satAdd q.spilled spilled }
  let s := if s.cfgNum (0x4300 + c) 1 = 1 then s.takeSection c m r x else s.postSummary c r x
  let s := s.signalSem c x.sem.toNat 1
  ((List.range m.queues).filter fun q => x.expectRows.get 0 q == 0).foldl (fun s q => s.releaseQueue c (s.move c x.record) q) s

/-- COUNT_COMPLETE (R303, R310, R314 to R321, R331, R382 to R389): the earliest COUNT of the context that has its result
completes; under SPILL the second exchange's contributions come with it. -/
def execCountComplete (c : CtxId) (spill : List Contribution) (s : State) : Result :=
  .next (
    match s.moveWhere c.val fun x =>
        x.phase == .placing && ((parseMove x.image).policy != 1 || s.wholeExchange x spill) with
    | none => s
    | some x =>
      if s.quillRuns c.val = false then s
      else if (parseMove x.image).policy = 1 ∧ badExchange spill then s.ctxFault c.val
      else s.completeCount c.val x spill)

/-! ## Scatter, arrival and return -/

/-- The coordinates of row [·, co…] of a descriptor. -/
def Desc.rowAt (d : Desc) (co : List Nat) : List (List Nat) := tabulate (fun i => i :: co) (d.ext 0)

/-- The bytes of row [·, co…] of a descriptor: its elements along dimension 0, FILL out of bounds (R186). -/
def State.rowBytes (s : State) (c k : Nat) (d : Desc) (co : List Nat) : Bytes :=
  (d.rowAt co).flatMap fun e => toLe d.size (s.hubRead c k d e)

/-- The origin tag of R326. -/
def originTag (home slot token : Nat) : BitVec 64 := BitVec.ofNat 64 (home + slot % 16 * 2 ^ 16 + token % 2 ^ 17 * 2 ^ 24)

/-- The device to which an assignment's row goes (R300). -/
def State.rowDevice (s : State) (c : Nat) (x : MoveState) (m : MoveRec) (r : RouteRec) (a : Assign) : BitVec 16 :=
  BitVec.ofNat 16 (mapDevice (s.mapElem c x.core.val m (r.placeOf a)))

/-- The row of one kept assignment is sent (R325 to R327). -/
def State.scatterRow (s : State) (c : Nat) (x : MoveState) (m : MoveRec) (r : RouteRec) (d : Desc) (a : Assign) (row : Nat) : State :=
  let queue := mapQueue (s.mapElem c x.core.val m (r.placeOf a))
  let tag := originTag s.topo.selfAddr.toNat a.slot a.token
  (pieces (s.rowBytes c x.core.val d [a.token])).foldl (fun s p =>
    s.sendPacket x.scatterUid
      { ctx := Fin.ofNat 64 c, src := s.topo.selfAddr, dst := s.rowDevice c x m r a
        use := .queueRow (Fin.ofNat 4096 x.group) x.step queue row p.1 tag, data := p.2 }) s

/-- Rows, given by their devices, that must still be written as far as this device knows: those to itself, and those that are
discarded, which never are (R328, R332, R475). -/
def State.rowsOut (s : State) (c : Nat) (l : List (BitVec 16)) : Nat :=
  (l.filter fun a => a == s.topo.selfAddr || s.packetLost c a).length

/-- SCATTER does its work: every kept assignment's row is sent in sorted order (R323 to R327). -/
def State.doScatter (s : State) (c : Nat) (t : MoveTodo) : State :=
  let m := parseMove t.image
  let r := parseRoute t.route
  let x := { s.move c t.key with scatterUid := t.uid, scatterSem := t.sem }
  match s.desc c m.src with
  | none => s.ctxFault c
  | some d =>
    let kept := x.assigns.filter fun a => a.row.isSome
    let s := (s.meterHub c t.uid (ceilDiv x.assigns.length 64)).hubTouch c x.core.val t.uid d
      (kept.flatMap fun a => d.rowAt [a.token])
    let s := s.updMove c t.key fun _ => { x with scatterOut := some (s.rowsOut c (kept.map (s.rowDevice c x m r))) }
    (sortBy (fun a => (s.rowDevice c x m r a).toNat * 65536 + a.placed) x.assigns).foldl
      (fun s a => match a.row with
        | none => s
        | some row => s.scatterRow c x m r d a row) s

/-- One row of a queue goes home (R332). -/
def State.returnRow (s : State) (c : Nat) (x : MoveState) (out : Desc) (q row : Nat) : State :=
  let tag := (x.tags.get 0 (q * 2 ^ 24 + row)).toNat
  (pieces (s.rowBytes c x.core.val out [row])).foldl (fun s p =>
    s.sendPacket x.returnUid
      { ctx := Fin.ofNat 64 c, src := s.topo.selfAddr, dst := BitVec.ofNat 16 tag
        use := .returnRow (Fin.ofNat 4096 x.group) x.step (bits tag 19 16) (bits tag 40 24) p.1, data := p.2 }) s

/-- RETURN does its work: rows 0 to A_q − 1 of every resident queue's output, in queue-table order (R332). -/
def State.doReturn (s : State) (c : Nat) (t : MoveTodo) : State :=
  let m := parseMove t.image
  let x := { s.move c t.key with returnUid := t.uid, returnSem := t.sem }
  let rows := (List.range m.queues).flatMap fun q => (List.range (x.expectRows.get 0 q)).map fun row => (q, row)
  let homes := rows.map fun p => BitVec.ofNat 16 (x.tags.get 0 (p.1 * 2 ^ 24 + p.2)).toNat
  let s := s.updMove c t.key fun _ => { x with returnOut := some (s.rowsOut c homes) }
  rows.foldl (fun s p => match s.desc c (s.queueEntry c x.core.val m p.1).out with
    | none => s
    | some d => (s.hubTouch c x.core.val t.uid d (d.rowAt [p.2])).returnRow c x d p.1 p.2) s

/-- Bytes of a row written from an offset, nothing beyond the row; out of bounds they are dropped and counted (R187, R189,
R327). -/
def State.putRow (s : State) (c k : Nat) (uid : Option Nat) (d : Desc) (co : List Nat) (off : Nat) (b : Bytes) : State :=
  if d.inBounds (0 :: co) then
    s.hubPut c uid (spaceMem d.space) (s.elemAddr c k d (0 :: co) + off) (b.take (d.ext 0 * d.size - off))
  else if d.empty then s else s.countOob c (ceilDiv b.length (max 1 d.size))

/-! ## Early exit -/

/-- The early-exit bit of the sequence entry that SEQ_DESC names for token t (R340, R589). -/
def State.setExitBit (s : State) (c k uid : Nat) (m : MoveRec) (t : Nat) : State :=
  match s.desc c m.seqDesc with
  | none => s
  | some d =>
    let i := s.hubRead c k d [t]
    let e := (s.ctx c).serving.seqs.get {} i
    if s.cfgNum (0xD100 + c) 2 ≤ i ∨ e.active = false then s
    else
      let at_ := e.bitmapPtr + m.exitBit / 8
      s.putHbm c at_ [(s.hbmShare c at_ 1).headD 0 ||| BitVec.ofNat 8 (2 ^ (m.exitBit % 8))] (some uid)

/-- Token t exits (R340). -/
def State.exitToken (s : State) (c k uid : Nat) (m : MoveRec) (t : Nat) : State :=
  let s := if m.exitDesc = 0xFFFF then s else s.quillWriteTo c k uid m.exitDesc [t] 1
  let s := s.setExitBit c k uid m t
  let s := match s.desc c m.out, s.desc c m.final with
    | some a, some b => (s.hubTouch c k uid a (a.rowAt [t])).putRow c k (some uid) b [t] 0 (s.rowBytes c k a [t])
    | _, _ => s
  s.updQuill c fun q => { q with exited := satAdd q.exited 1 }

/-- Token t passes the early-exit test: p ≥ EXIT_THRESHOLD (R339). -/
def State.exitTestHolds (s : State) (c k : Nat) (m : MoveRec) (t : Nat) : Bool :=
  match s.desc c m.prob with
  | none => false
  | some d => fle (BitVec.ofNat 32 (s.cfgNum (0x5200 + c) 3)) (BitVec.ofNat 32 (s.hubRead c k d [t]))

/-- EXIT does its work (R339, R340, R342, R589). -/
def State.doExit (s : State) (c : Nat) (x : MoveTodo) : State :=
  let m := parseMove x.image
  let r := parseRoute x.route
  let k := (s.move c x.key).core.val
  let touch := fun (s : State) (i : Nat) => match s.desc c i with
    | none => s
    | some d => s.hubTouch c k x.uid d (tabulate (fun t => [t]) r.tokens)
  let s := touch (touch s m.prob) m.seqDesc
  let s := (List.range r.tokens).foldl (fun s t =>
    if !s.exitedTok c k m t && s.exitTestHolds c k m t then s.exitToken c k x.uid m t else s) s
  s.hubDone c (some x.uid) [.sem x.sem 1]

/-! ## Work in the context's Quill slots -/

/-- A waiting SCATTER, RETURN or EXIT does its work. -/
def State.doMove (s : State) (c : Nat) (t : MoveTodo) : State :=
  match t.kind with
  | .scatter => s.doScatter c t
  | .ret => s.doReturn c t
  | .exit => s.doExit c t

/-- In a Quill slot of the context the operations that wait for one do their work, in the order of their issue (R303, R304,
log entry 82). -/
def State.moveNow (s : State) (c : Nat) : State :=
  if s.quillRuns c then
    (s.ctx c).quill.todo.foldl (fun s t => s.doMove c t) (s.updQuill c fun q => { q with todo := [] })
  else s

/-- A movement operation that follows a COUNT issues: without a COUNT that completed with OK it faults (R306); else it
joins the Quill's work. -/
def moveIssue (k : CoreId) (n : SReg) (i : Instr) (sem : BitVec 16) (kind : MoveKind) (s : State)
    (ok : State → Nat → Bytes → Bytes → Bool) : State :=
  onMove k n i s fun key st rec' b rb =>
    let c := keyCtx key
    if (s.move c rec').phase ≠ .complete ∨ ok s c b rb = false then s.ctxFault c
    else
      ((s.updStream k.val key Stream.advance).updQuill c fun q =>
        { q with todo := q.todo ++ [{ kind := kind, key := rec', uid := st.uid, sem := sem, image := b, route := rb }] }).moveNow c

/-- SCATTER (R303, R306, R323 to R328). -/
def execScatter (k : CoreId) (n : SReg) (sem : BitVec 16) (s : State) : Result :=
  .next (moveIssue k n (.scatter k n sem) sem .scatter s fun _ _ _ _ => true)

/-- RETURN (R303, R306, R332). -/
def execRet (k : CoreId) (n : SReg) (sem : BitVec 16) (s : State) : Result :=
  .next (moveIssue k n (.ret k n sem) sem .ret s fun _ _ _ _ => true)

/-- EXIT (R303, R306, R339, R340, R342, R589). -/
def execExitTest (k : CoreId) (n : SReg) (sem : BitVec 16) (s : State) : Result :=
  .next (moveIssue k n (.exitTest k n sem) sem .exit s fun s c b rb => s.exitOk c (parseMove b) (parseRoute rb))

/-- SCATTER_DONE (R328): every row sent has been written; those to this device are in memory, and what went out by the links
has left (log entry 82). -/
def execScatterDone (c : CtxId) (s : State) : Result :=
  .next (
    match s.moveWhere c.val fun x => x.scatterOut == some 0 && !s.flitsWait c.val with
    | none => s
    | some x => (s.updMove c.val x.record fun y => { y with scatterOut := none }).signalSem c.val x.scatterSem.toNat 1)

/-- RETURN_DONE (R332). -/
def execReturnDone (c : CtxId) (s : State) : Result :=
  .next (
    match s.moveWhere c.val fun x => x.returnOut == some 0 && !s.flitsWait c.val with
    | none => s
    | some x => (s.updMove c.val x.record fun y => { y with returnOut := none }).signalSem c.val x.returnSem.toNat 1)

/-! ## Landing -/

/-- The move that a group step number names on this device. -/
def State.moveOfStep (s : State) (c g step : Nat) : Option MoveState :=
  s.moveWhere c fun x => x.group == g && x.step == step && x.phase != .none

/-- A piece of a row lands in an expert queue: with its last piece in memory the arrival counter rises (R326, R327, R329). -/
def State.landQueueRow (s : State) (c g step queue row off : Nat) (tag : BitVec 64) (fromSelf : Bool) (data : Bytes) : State :=
  match s.moveOfStep c g step with
  | none => s
  | some x =>
    match s.desc c (s.queueEntry c x.core.val (parseMove x.image) queue).queue with
    | none => s
    | some d =>
      let s := s.putRow c x.core.val none d [row] off data
      if off + data.length < d.ext 0 * d.size then s
      else s.hubDone c none [.moved x.record (.arrival queue row tag fromSelf)]

/-- A piece of a row lands in RET_DESC: with its last piece in memory the token's landing counter rises (R332, R333). -/
def State.landReturnRow (s : State) (c g step slot token off : Nat) (fromSelf : Bool) (data : Bytes) : State :=
  match s.moveOfStep c g step with
  | none => s
  | some x =>
    match s.desc c (parseMove x.image).ret with
    | none => s
    | some d =>
      let s := s.putRow c x.core.val none d [slot, token] off data
      if off + data.length < d.ext 0 * d.size then s
      else s.hubDone c none [.moved x.record (.landing token fromSelf)]

/-- QUEUE_RELEASE (R330): after COUNT has completed, the queue's arrivals equal A_q. -/
def execQueueRelease (c : CtxId) (queue : Nat) (s : State) : Result :=
  .next (
    match s.moveWhere c.val fun x =>
        x.phase == .complete && decide (queue < (parseMove x.image).queues) && !x.released.contains queue &&
          x.arrivals.get 0 queue == x.expectRows.get 0 queue with
    | none => s
    | some x => if s.accepting c.val then s.releaseQueue c.val x queue else s)

/-! ## Combine -/

/-- COMBINE (R304, R306, R334): the Quill combines tokens as their rows land. -/
def execCombine (k : CoreId) (n : SReg) (sem : BitVec 16) (s : State) : Result :=
  .next (onMove k n (.combine k n sem) s fun key st rec' b rb =>
    let c := keyCtx key
    if (s.move c rec').phase ≠ .complete then s.ctxFault c
    else
      (s.updStream k.val key Stream.advance).updMove c rec' fun x =>
        { x with
          combineUid := st.uid, image := b, route := rb, combining := true, combineSem := sem, summed := [], combined := []
          combineSeed := Config.roundSeed c st.pc })

/-- Element i of the combined row of token t, its flags with it (R334 to R337). -/
def State.combineElem (s : State) (c k : Nat) (m : MoveRec) (ret out : Desc) (kept : List Assign) (seed : BitVec 64)
    (t i : Nat) : Nat × BitVec 16 :=
  let base := if m.base = 0xFFFF then [] else match s.desc c m.base with
    | none => []
    | some d =>
      let (x, f) := d.toF32 (s.hubRead c k d [i, t])
      let (y, g) := enterNum 96 m.anchor (f32 x)
      [(y, f ||| g)]
  let terms := kept.map fun a =>
    let (y, f) := ret.toF32 (s.hubRead c k ret [i, a.slot, t])
    let (p, g) := enterProduct 96 m.anchor (f32 a.gate) (f32 y)
    (p, f ||| g)
  let (e, f) := ({} : XaElem).addAll (base ++ terms)
  let (w, g) := out.fromXa (s.roundBy c m.round seed out [i, t]) 96 m.anchor e
  (w, f ||| g)

/-- The rows that the combined row of token t rests on are read (R334). -/
def State.combineTouch (s : State) (c k uid : Nat) (m : MoveRec) (ret : Desc) (kept : List Assign) (t : Nat) : State :=
  let s := s.hubTouch c k uid ret (kept.flatMap fun a => ret.rowAt [a.slot, t])
  match if m.base = 0xFFFF then none else s.desc c m.base with
  | none => s
  | some d => s.hubTouch c k uid d (d.rowAt [t])

/-- The combined row of token t is written (R336, R337); it counts once it is in memory (R338). -/
def State.combineRow (s : State) (c : Nat) (x : MoveState) (t : Nat) : State :=
  let m := parseMove x.image
  let s := s.updMove c x.record fun y => { y with summed := t :: y.summed }
  let s : State := match s.desc c m.ret, s.desc c m.out with
    | some ret, some out =>
      let kept := x.assigns.filter fun a => a.token == t && a.row.isSome
      (List.range (out.ext 0)).foldl (fun s i =>
        let (w, f) := s.combineElem c x.core.val m ret out kept x.combineSeed t i
        (s.quillWrite c x.core.val x.combineUid out [i, t] w).raiseFlags c f) (s.combineTouch c x.core.val x.combineUid m ret kept t)
    | _, _ => s
  s.hubDone c (some x.combineUid) [.moved x.record (.combined t)]

/-- The row of a token is ready for a record's COMBINE: the token is local, not exited and not yet summed, and its landing
counter equals R_t (R334, R341). -/
def State.tokenReady (s : State) (c token : Nat) (x : MoveState) : Bool :=
  let m := parseMove x.image
  x.combining && decide (token < (parseRoute x.route).tokens) && !x.summed.contains token &&
    !s.exitedTok c x.core.val m token && x.landings.get 0 token == x.expectContrib.get 0 token

/-- COMBINE_TOKEN_START (R334 to R338, R351): the row of a token that is ready is summed and rounded once. -/
def execCombineTokenStart (c : CtxId) (token : Nat) (s : State) : Result :=
  .next (
    match s.moveWhere c.val (s.tokenReady c.val token) with
    | none => s
    | some x =>
      if s.quillRuns c.val = false then s
      else
        let products := x.expectContrib.get 0 token * s.rowLen c.val (parseMove x.image)
        (s.combineRow c.val x token).meterHub c.val x.combineUid (ceilDiv products 1024))

/-- The row of every local token that is not exited has been written (R338). -/
def State.combineOver (s : State) (c : Nat) (x : MoveState) : Bool :=
  x.combining && (List.range (parseRoute x.route).tokens).all fun t =>
    x.combined.contains t || s.exitedTok c x.core.val (parseMove x.image) t

/-- COMBINE_DONE (R338). -/
def execCombineDone (c : CtxId) (s : State) : Result :=
  .next (
    match s.moveWhere c.val (s.combineOver c.val) with
    | none => s
    | some x =>
      (s.updMove c.val x.record fun y => { y with combining := false, stage := 0 }).signalSem c.val x.combineSem.toNat 1)

end Sys2Proof.Machine
end

