-- ==== Sys2Proof/Machine/Landing.lean ====
section
/-! DEFINITION. A packet lands at its target (R245, R326 to R333, R415 to R418, R448, R541, R605). -/

namespace Sys2Proof.Machine

/-- A packet that names a space, an offset and a semaphore, which it credits once its bytes are in memory (R448); in SRAM
it lands in the share of every enabled core (log entry 32). -/
def State.landWrite (s : State) (c space off : Nat) (sem : BitVec 16) (data : Bytes) : State :=
  let s :=
    if 2 < space ∨ s.inShare c space off data.length = false then s
    else if space = 0 then s.enabledCores.foldl (fun s k => s.putSram c k off data) s
    else s.hubPut c none (spaceMem space) (s.absAddr c 0 space off) data
  s.hubDone c none [.sem sem 1]

/-- What a packet for this device does. -/
def State.landPacket (s : State) (p : Packet) : State :=
  let c := p.ctx.val
  let self := p.src == s.topo.selfAddr
  match p.use with
  | .queueRow g step queue row off tag => s.landQueueRow c g.val step queue row off tag self p.data
  | .returnRow g step slot token off => s.landReturnRow c g.val step slot token off self p.data
  | .collUp g step _ right first check =>
    s.collLand g.val { step := step, first := first, up := true, fromRight := right, check := check, data := p.data
                       link := s.arrivalLink p.src.toNat }
  | .collDown g step _ first check =>
    s.collLand g.val { step := step, first := first, check := check, data := p.data, link := s.arrivalLink p.src.toNat }
  | .write space off sem => s.landWrite c space.toNat off sem p.data

/-- PACKET_LAND (R326 to R333, R415 to R418, R541, R605, R618): a packet for a context that is neither LIVE nor SUSPENDED is
discarded and counted. -/
def execPacketLand (p : Packet) (s : State) : Result :=
  .next (
    if !s.isMine p.dst then s
    else if s.accepting p.ctx.val then (s.forwardIn p.ctx.val (.packet p)).landPacket p
    else { s with discardedInactive := satAdd s.discardedInactive 1 })

end Sys2Proof.Machine
end

