-- ==== Sys2Proof/Machine/Grouped.lean ====
section
/-! DEFINITION. Grouped work: the table, the roster header and its walk, release and claiming of tiles (R353 to R378,
R394 to R396). -/

namespace Sys2Proof.Machine

/-- An entry of a grouped-operation table (R353). -/
structure GEntry where
  m : Nat
  n : Nat
  k : Nat
  a : Nat
  b : Nat
  c : Nat
  accumulate : Bool
  transposeB : Bool
  round : Nat
  anchor : Int
  sem : BitVec 16
  home : Nat
  rowBase : Nat
  colBase : Nat
  deriving DecidableEq, Repr

/-- The fields of a table entry (R353). -/
def parseGEntry (b : Bytes) : GEntry :=
  { m := field b 0 4, n := field b 4 4, k := field b 8 4, a := field b 12 2, b := field b 14 2, c := field b 16 2
    accumulate := bit (field b 18 1) 0, transposeB := bit (field b 18 1) 1, round := field b 19 1
    anchor := sfield b 20 2, sem := BitVec.ofNat 16 (field b 22 2), home := field b 24 4, rowBase := field b 28 4
    colBase := field b 32 4 }

/-- A roster header (R358). -/
structure RosterHead where
  table : Nat
  entries : Nat
  affLimit : Nat
  mask : Nat
  area : Nat
  capacity : Nat
  doneSem : BitVec 16
  deriving DecidableEq, Repr

/-- The fields of a roster header (R358). -/
def parseHead (b : Bytes) : RosterHead :=
  { table := field b 0 4, entries := field b 4 2, affLimit := field b 6 2, mask := field b 8 4, area := field b 12 4
    capacity := field b 16 4, doneSem := BitVec.ofNat 16 (field b 20 2) }

/-- The header keeps R353, R354, R358 and R359. -/
def State.headOk (s : State) (c : Nat) (h : RosterHead) : Bool :=
  h.table % 64 == 0 && decide (h.entries ≤ 4096) && s.inShare c 0 h.table (64 * h.entries) && h.area % 64 == 0 &&
  decide (1 ≤ h.capacity) && decide (h.capacity ≤ 65536) && s.inShare c 0 h.area (8 * h.capacity) &&
  (maskCores h.mask).all s.coreEnabled

/-- Extents at least those given. -/
def Desc.atLeast (d : Desc) (e0 e1 : Nat) : Bool := decide (e0 ≤ d.ext 0) && decide (e1 ≤ d.ext 1)

/-- The entry keeps R353, R355, R69 and the anchor rules R71 to R73. -/
def State.entryOk (s : State) (c : Nat) (e : GEntry) : Bool :=
  match s.desc c e.a, s.desc c e.b, s.desc c e.c with
  | some a, some b, some d =>
    a.atLeast e.k (e.rowBase + e.m) &&
      (if e.transposeB then b.atLeast e.k (e.colBase + e.n) else b.atLeast (e.colBase + e.n) e.k) &&
      d.atLeast (e.colBase + e.n) (e.rowBase + e.m) && (!e.accumulate || d.format == 7 || d.format == 8) &&
      decide (e.round ≤ 2) && pairFormats a.format b.format && (mmaAnchor a.format e.anchor).isSome &&
      (e.sem == 0xFFFF || decide (e.sem.toNat < Config.semaphores))
  | _, _, _ => false

/-- The tiles of entry i in row-major order (R363, R364): row origin, rows, column origin, columns. -/
def GEntry.tiles (e : GEntry) (i : Nat) : List RTile :=
  if e.k = 0 then []
  else (List.range (ceilDiv e.m 128)).flatMap fun r => (List.range (ceilDiv e.n 128)).map fun c =>
    { entry := i, row := e.rowBase + 128 * r, rows := min 128 (e.m - 128 * r), col := e.colBase + 128 * c
      cols := min 128 (e.n - 128 * c) }

/-- The first core of a rotation of H whose list holds fewer than the limit, and how far it lies. -/
def nextHome (counts : SMap Nat) (limit : Nat) : Nat → List Nat → Option (Nat × Nat)
  | _, [] => none
  | i, k :: t => if counts.get 0 k < limit then some (k, i) else nextHome counts limit (i + 1) t

/-- The walk's placing so far: tiles, the number on each core's list, the place in the round. -/
structure Placing where
  tiles : List RTile := []
  counts : SMap Nat := []
  turn : Nat := 0
  deriving DecidableEq, Repr

/-- One tile is placed (R365). -/
def Placing.put (p : Placing) (limit : Nat) (h : List Nat) (t : RTile) : Placing :=
  let i := if h.isEmpty then 0 else p.turn % h.length
  match nextHome p.counts limit 0 (h.drop i ++ h.take i) with
  | none => { p with tiles := p.tiles ++ [{ t with pos := p.tiles.length, home := none }] }
  | some (k, d) =>
    { tiles := p.tiles ++ [{ t with pos := p.tiles.length, home := some (Fin.ofNat 32 k) }]
      counts := p.counts.put k (p.counts.get 0 k + 1), turn := i + d + 1 }

/-- The tiles of an entry are placed (R365). -/
def Placing.entry (p : Placing) (head : RosterHead) (i : Nat) (e : GEntry) : Placing :=
  let h := (maskCores e.home).filter (bit head.mask)
  (e.tiles i).foldl (fun p t => p.put head.affLimit h t) { p with turn := 0 }

/-- The entries of a table with their numbers. -/
def State.tableEntries (s : State) (c k : Nat) (h : RosterHead) : List (Nat × GEntry) :=
  (List.range h.entries).map fun i => (i, parseGEntry (s.sramShare c k (h.table + 64 * i) 64))

/-- The zeros of an entry with K = 0 and ACCUMULATE clear (R364). -/
def State.zeroEntry (s : State) (c k uid : Nat) (e : GEntry) : State :=
  if e.k ≠ 0 ∨ e.accumulate then s
  else match s.desc c e.c with
    | none => s
    | some d => (List.range e.m).foldl (fun s r => (List.range e.n).foldl (fun s j =>
        s.quillWrite c k uid d [e.colBase + j, e.rowBase + r] 0) s) s

/-- The roster of a header; none while IDLE. -/
def State.roster (s : State) (c header : Nat) : Option Roster := (s.ctx c).rosters.get none header

/-- Unclaimed tiles on a list of a roster. -/
def Roster.depth (r : Roster) (home : Option CoreId) : Nat := (r.tiles.filter fun t => t.home == home).length

/-- The state with a roster changed, and the events of its lists (R246, R251). -/
def State.putRoster (s : State) (c header : Nat) (r : Roster) : State :=
  let old := (s.roster c header).getD {}
  (((old.tiles ++ r.tiles).map (·.home)).eraseDups).foldl
    (fun s h => s.raiseQueue (.roster (Fin.ofNat 64 c) header h) 0 (old.depth h) (r.depth h))
    (s.updCtx c fun x => { x with rosters := x.rosters.put header (some r) })

/-- A walk starts (R361 to R366): none when the header, an entry or the capacity is broken. -/
def State.walk (s : State) (c k uid header : Nat) (h : RosterHead) : Option State :=
  let es := s.tableEntries c k h
  let p := es.foldl (fun p e => p.entry h e.1 e.2) ({} : Placing)
  if !s.headOk c h || !(es.all fun e => s.entryOk c e.2) || decide (h.capacity < p.tiles.length) then none
  else
    let r : Roster :=
      { mask := BitVec.ofNat 32 h.mask, doneSem := h.doneSem, releaseSems := es.map fun e => e.2.sem
        releasedEntries := (es.filter fun e => e.2.sem == 0xFFFF).map (·.1), tiles := p.tiles, users := [uid] }
    let s := es.foldl (fun s e => s.zeroEntry c k uid e.2) s
    some ((s.putRoster c header r).meterHub c uid
      (32 + h.entries + ceilDiv p.tiles.length 16))

/-- Every tile has been claimed and every release count consumed: DONE_SEM is signalled; once every core has also
received DONE the roster is IDLE (R377). -/
def State.settleRoster (s : State) (c header : Nat) (r : Roster) : State :=
  let ended := r.ready && r.tiles.isEmpty && decide (r.releaseSems.length ≤ r.releasedEntries.length)
  let first := ended && !r.doneSignalled
  let r := { r with doneSignalled := r.doneSignalled || ended }
  let s := if r.doneSignalled && (maskCores r.mask.toNat).all r.doneCores.contains then
      (s.putRoster c header r).updCtx c fun x => { x with rosters := x.rosters.del header }
    else s.putRoster c header r
  if first then s.signalSem c r.doneSem.toNat 1 else s

/-- The first claimable tile of core k: of its own list, then of the common list (R371). -/
def Roster.claimable (r : Roster) (k : CoreId) : Option RTile :=
  let open_ := fun (t : RTile) => r.releasedEntries.contains t.entry
  match r.tiles.find? fun t => t.home == some k && open_ t with
  | some t => some t
  | none => r.tiles.find? fun t => t.home.isNone && open_ t

/-- Core k's own list and the common list hold no unclaimed tile (R374). -/
def Roster.doneFor (r : Roster) (k : CoreId) : Bool := r.tiles.all fun t => t.home.isSome && t.home != some k

/-- The four registers of a claimed tile (R370). -/
def Stream.setClaim (st : Stream) (sd : Nat) (t : RTile) : Stream :=
  (((st.setS sd (BitVec.ofNat 64 t.entry)).setS (sd + 1) (BitVec.ofNat 64 (t.row % 2 ^ 32 + t.rows * 2 ^ 32))).setS (sd + 2)
    (BitVec.ofNat 64 (t.col % 2 ^ 32 + t.cols * 2 ^ 32))).setS (sd + 3) (BitVec.ofNat 64 t.pos)

/-- A GCLAIM of core k's stream `key` is answered where it can be: a tile, or DONE; else the stream waits (R370 to
R376). -/
def State.claim (s : State) (k : CoreId) (key header : Nat) (sd : SReg) : State :=
  let c := keyCtx key
  let wait := fun (s : State) =>
    let st := (s.core k.val).stream key
    match st.status with
    | .waitClaim _ _ => s
    | _ => s.updStream k.val key fun st => s.startWait key st (.waitClaim header sd)
  match s.roster c header with
  | none => wait s
  | some r =>
    if !r.ready then wait s
    else match r.claimable k with
      | some t =>
        (s.updStream k.val key fun st => { (st.setClaim sd.val t) with status := .running }.advance).settleRoster c header
          { r with tiles := r.tiles.filter (· != t) }
      | none =>
        if r.doneFor k then
          (s.updStream k.val key fun st => { (st.setS sd.val 0xFFFFFFFF) with status := .running }.advance).settleRoster c
            header { r with doneCores := if r.doneCores.contains k.val then r.doneCores else k.val :: r.doneCores }
        else wait s

/-- The GCLAIM that waits on core k in its slot for a roster of context c: the stream and the base register (R373). -/
def State.claimer (s : State) (c header k : Nat) : Option (Nat × SReg) :=
  let x := s.core k
  match x.cur with
  | none => none
  | some key => match (x.stream key).status with
    | .waitClaim h sd =>
      if h = header ∧ keyCtx key = c ∧ (s.ctx c).life.state = .live ∧ x.blocked key = false ∧ s.safety.stopped = false then
        some (key, sd)
      else none
    | _ => none

/-- The GCLAIMs that wait on the cores below `n` in their slots are tested, lowest core first (R372, R373). -/
def State.claimBelow (s : State) (c header n : Nat) : State :=
  (List.range n).foldl (fun s j => match s.claimer c header j with
    | none => s
    | some (key, sd) => s.claim (Fin.ofNat 32 j) key header sd) s

/-- A command that uses a roster is one of its users (R396). -/
def Roster.usedBy (r : Roster) (uid : Nat) : Roster := { r with users := if r.users.contains uid then r.users else uid :: r.users }

/-- GCLAIM (R361, R362, R366, R370 to R378): an IDLE header starts its walk; then the claim is answered or waits, after
those that wait on lower cores. -/
def execGclaim (k : CoreId) (n sd : SReg) (s : State) : Result :=
  .next (onRecord k n (.gclaim k n sd) s fun key st off b =>
    let c := keyCtx key
    let h := parseHead b
    if 12 < sd.val then s.ctxFault c
    else match s.roster c off with
      | some r =>
        if bit r.mask.toNat k.val then
          ((s.putRoster c off (r.usedBy st.uid)).claimBelow c off k.val).claim k key off sd
        else s.ctxFault c
      | none =>
        if bit h.mask k.val = false ∨ 8 ≤ (s.ctx c).rosters.length then s.ctxFault c
        else match s.walk c k.val st.uid off h with
          | none => s.ctxFault c
          | some t => t.claim k key off sd)

/-- ROSTER_READY (R367, R394): the walk has taken its hub cycles. -/
def execRosterReady (c : CtxId) (header : Nat) (s : State) : Result :=
  .next (
    match s.roster c.val header with
    | none => s
    | some r =>
      if r.ready || !s.quillRuns c.val then s else s.settleRoster c.val header { r with ready := true })

/-- ROSTER_RELEASE (R368, R395): the release count of an entry is consumed once. -/
def execRosterRelease (c : CtxId) (header : Nat) (entry : Nat) (s : State) : Result :=
  .next (
    match s.roster c.val header with
    | none => s
    | some r =>
      match r.releaseSems[entry]? with
      | none => s
      | some sem =>
        if r.releasedEntries.contains entry ∨ (s.ctx c.val).life.state ≠ .live ∨ s.sem c.val sem.toNat = 0 then s
        else (s.setSem c.val sem.toNat (s.sem c.val sem.toNat - 1)).settleRoster c.val header
          { r with releasedEntries := entry :: r.releasedEntries })

/-- GCLAIM_RESULT (R372, R373, R376): the waiting GCLAIM of core k's slot is tested again, after those of lower cores. -/
def execGclaimResult (k : CoreId) (s : State) : Result :=
  .next (
    let x := s.core k.val
    match x.cur with
    | none => s
    | some key =>
      match (x.stream key).status with
      | .waitClaim header _ => s.claimBelow (keyCtx key) header (k.val + 1)
      | _ => s)

end Sys2Proof.Machine
end

