-- ==== Sys2Proof/Machine/Tick.lean ====
section
/-! DEFINITION. The tick unit's own events: markers, holdover, slewing and frequency lock (R35, R41 to R43, R54 to R61,
R462, R886, R887). -/

namespace Sys2Proof.Machine

/-- The first control flit time's start tick at or after a tick: flit times 512 apart are 800 GT apart (R459, R462). -/
def controlTick (t : Nat) : Nat := ceilDiv t 800 * 800

/-- The bytes of a message in a CONTROL flit: a priority code first (R461), which the rules leave to the part (log
entry 13). -/
def ctlBytes (priority : Nat) (body : Bytes) : Bytes := BitVec.ofNat 8 priority :: body

/-- The marker this device sends in a control flit time that starts at tick t (R42, R43, R462). -/
def State.markerBytes (s : State) (t : Nat) : Bytes :=
  ctlBytes 1 (toLe 8 t ++ toLe 1 s.tick.state.toNat ++ toLe 1 s.tick.depth.toNat ++ toLe 8 s.tick.elapsedNow.toNat)

/-- A control message joins a port's queue in order of priority (R461). -/
def State.queueControl (s : State) (l : Nat) (msg : Bytes) : State :=
  s.updLink l fun k => { k with control := insertBy (fun m => (m.headD 0).toNat) msg k.control }

/-- TICK_MARKER_SEND (R42, R43, R462): once for each multiple of 1,024 ticks, in the next control flit time of every
downstream tree link; a device in UNLOCKED sends none. -/
def execTickMarkerSend (s : State) : Result :=
  .next (
    let m := s.now / 1024 * 1024
    if s.tick.state = 0 ∨ s.tick.markerSent.toNat = m then s
    else
      let s' := s.tick.downstream.foldl (fun s l => s.queueControl l.val (s.markerBytes (controlTick m))) s
      s'.updTick fun t => { t with markerSent := BitVec.ofNat 64 m })

/-- A marker's effect on a follower (R41, R55, R887). A holdover that began with the loss of the own link (R54) ends by a
new hop-delay measurement alone (R60). A secondary takes its depth from its primary's markers (R32). -/
def State.takeMarker (s : State) (l : Nat) (m : Marker) (arrival : Nat) : State :=
  let held := m.state = 3 || m.state = 4
  let free := m.state = 1 || m.state = 2 || m.state = 5
  s.updTick fun t =>
    let r := t.markerResidual l m arrival
    let t := if s.pair.role = 2 ∧ s.pair.state = 1 ∧ l = 8 then { t with depth := m.depth + 1 } else t
    if held && (t.state == 2 || t.state == 5) then
      { t with state := 3, holdover := true, elapsed := m.elapsed, downAt := none, byMarker := true }
    else if free && (t.state == 3 || t.state == 4) && t.byMarker && (s.link l).state == .up then t.toSlewing r
    else if free && (t.state == 2 || t.state == 5) && t.measured then { t with residual := r }
    else t

/-- TICK_MARKER_RECEIVE (R41, R55, R887): only a marker from the upstream link counts. `arrival` is the time of its
arrival in root cycles of this device's own count. -/
def execTickMarkerReceive (l : LinkId) (m : Marker) (arrival : Nat) (s : State) : Result :=
  .next (if s.tick.upstream = some l ∧ s.tick.state ≠ 0 ∧ s.tick.state ≠ 1 then s.takeMarker l.val m arrival else s)

/-- HOLDOVER_ENTRY (R54): at d + 16, where the upstream link was declared down at d. -/
def execHoldoverEntry (s : State) : Result :=
  .next (if s.tick.holdoverDue then s.updTick TickUnit.enterHoldover else s)

/-- HOLDOVER_LONG_ENTRY (R56). -/
def execHoldoverLongEntry (s : State) : Result :=
  .next (if s.tick.longDue then s.updTick fun t => { t with state := 4 } else s)

/-- SLEW_STEP (R41, R61, R886): one root cycle at the end of each 1,024 GT; at 1/16 GT the follower is LOCKED. -/
def execSlewStep (s : State) : Result :=
  .next (if s.tick.slewDue then s.updTick TickUnit.slew else s)

/-- FREQUENCY_LOCK (R35): the root PLL is locked to the clock of the upstream link. -/
def execFrequencyLock (s : State) : Result :=
  .next (
    match s.tick.upstream with
    | none => s
    | some l => if (s.link l.val).state = .up then s.updTick fun t => { t with freqLocked := true } else s)

end Sys2Proof.Machine
end

