-- ==== Sys2Proof/Machine/Topology.lean ====
section
/-! DEFINITION. Topology: identity blocks, the map, the spanning tree, route tables, election and positions, and the
change of lead (R31 to R34, R100, R473 to R490, R593 to R599, R868 to R874, R890, R891). -/

namespace Sys2Proof.Machine

/-! ## Identity -/

/-- The numerics signature (R100). -/
def State.signature (s : State) : Bytes :=
  let slots := (List.range 48).flatMap fun i =>
    let b := s.loadedGlyph (16 + i)
    if b.isEmpty then List.replicate 48 0 else Sha.sha384 b
  (Sha.sha384 (toLe 4 2 ++ toLe 1 (b2n s.compat) ++ toLe 1 (s.cfgNum 0xB000 3) ++ [0, 0] ++ Sha.sha384 ((List.range 14).flatMap romImage) ++
    slots)).take 16

/-- SERIAL as bytes. -/
def State.serialBytes (s : State) : Bytes := toLe 16 s.ident.serial.toNat

/-- The identity block this device sends on link l (R478, R868). -/
def State.identityBlock (s : State) (l : Nat) : Bytes :=
  let body := toLe 4 1 ++ s.serialBytes ++ s.signature ++ slice s.fw.fwDigest 0 48 ++
    toLe 2 (if s.topo.positioned then s.topo.selfAddr.toNat else 0) ++ toLe 1 s.topo.role.toNat ++ toLe 1 s.pair.role ++
    toLe 1 l ++ toLe 1 (b2n s.ident.grade.isB22) ++ toLe 1 (b2n s.ident.steppingB0) ++ toLe 1 (s.cfgNum 0x9000 8) ++
    toLe 2 s.topo.extents.toNat ++ toLe 4 s.topo.mapVersion.toNat ++ List.replicate 318 0
  body ++ slice (Config.ecdsaSign body) 0 96

/-- Sends the identity block on a link. -/
def State.sendIdentity (s : State) (l : Nat) : State := s.emit (.idBlock (Fin.ofNat 12 l) (s.identityBlock l))

/-- Links of a device that are UP. -/
def State.upLinks (s : State) : List Nat := (List.range 12).filter fun l => (s.link l).state == .up

/-- The peer link of a local link (R445). -/
def peerLink (l : Nat) : Nat :=
  if l < 8 then (if l % 2 = 0 then l + 1 else l - 1) else if l = 10 then 11 else if l = 11 then 10 else l

/-! ## The map and the spanning tree -/

/-- Entry of an address in the topology map. -/
def State.mapEntry (s : State) (addr : Nat) : MapEntry := s.topo.map.get {} addr

/-- MAP_LOCK in force (R483). -/
def State.mapLocked (s : State) : Bool := s.cfgNum 0x9000 4 == 1

/-- The device a link of another device leads to (R445). -/
def State.neighbour (s : State) (addr : Nat) (express : Nat) (l : Nat) : Option Nat :=
  if l < 8 then
    let e := s.axisExtent (l / 2)
    let n := stepAddr addr (l / 2) e (l % 2 == 1)
    if n = addr then none else some n
  else if 10 ≤ l ∧ express ≤ 3 then
    let e := s.axisExtent express
    let n := stepAddr (stepAddr addr express e (l == 11)) express e (l == 11)
    if n = addr then none else some n
  else none

/-- A device that another may take as its upstream (R32). -/
def State.treeMember (s : State) (e : MapEntry) : Bool := e.dev == .admitted || (e.dev == .present && !s.mapLocked)

/-- The lowest link of a device to a neighbour at a depth of the tree; no device takes a secondary as its upstream (R32,
R604). -/
def State.upstreamOf (s : State) (tree : SMap (Nat × Nat)) (depth : Nat) (addr : Nat) (e : MapEntry) : Option Nat :=
  (List.range 12).find? fun l => e.linkMask.getLsbD l && match s.neighbour addr e.express.toNat l with
    | none => false
    | some n => (tree.get (255, 255) n).1 == depth && (s.mapEntry n).linkMask.getLsbD (peerLink l) &&
        (s.mapEntry n).pairRole != 2 && s.treeMember (s.mapEntry n)

/-- One more level of the tree: depth and upstream link by address. -/
def State.treeLevel (s : State) (tree : SMap (Nat × Nat)) (depth : Nat) : SMap (Nat × Nat) :=
  s.topo.map.foldl (fun t (addr, e) =>
    if e.dev == .absent || e.dev == .departed || (tree.get (255, 255) addr).1 != 255 || e.pairRole == 2 then t
    else match s.upstreamOf tree depth addr e with
      | none => t
      | some l => t.put addr (depth + 1, l)) tree

/-- The spanning tree the lead chooses: depth and upstream link of each device within depth 32 (R32, R33). -/
def State.tree (s : State) : SMap (Nat × Nat) :=
  (List.range 32).foldl (fun t d => s.treeLevel t d) [(s.topo.selfAddr.toNat, (0, 255))]

/-- Downstream links of a device in a tree (R42, R43). -/
def State.treeDown (s : State) (tree : SMap (Nat × Nat)) (addr : Nat) (e : MapEntry) : Nat :=
  ((List.range 12).map fun l => match s.neighbour addr e.express.toNat l with
    | none => 0
    | some n => if (tree.get (255, 255) n).2 = peerLink l ∧ (tree.get (255, 255) n).1 = (tree.get (255, 255) addr).1 + 1
        then 2 ^ l else 0).sum

/-- Queues a control message on every link that is UP. -/
def State.flood (s : State) (msg : Bytes) : State := s.upLinks.foldl (fun s l => s.queueControl l msg) s

/-- The lead chooses the tree anew and sends each follower its part (R32). -/
def State.chooseTree (s : State) : State :=
  let tree := s.tree
  let mine := s.treeDown tree s.topo.selfAddr.toNat (s.mapEntry s.topo.selfAddr.toNat)
  let s := s.updTick fun t => { t with downstream := ((List.range 12).filter (bit mine)).map (Fin.ofNat 12) }
  (tree.filter fun d => d.1 != s.topo.selfAddr.toNat).foldl (fun s d =>
    s.flood (ctlBytes 5 (toLe 2 d.1 ++ toLe 1 d.2.2 ++ toLe 1 d.2.1 ++ toLe 2 (s.treeDown tree d.1 (s.mapEntry d.1))))) s

/-- The entries a route table takes from the map (R473). -/
def State.routeEntries (s : State) : SMap (Option RouteEntry) :=
  s.topo.map.map fun (a, e) =>
    (a, some { departed := e.dev == .departed || e.dev == .quarantined, linkMask := e.linkMask, express := e.express })

/-- The lead makes a new route table at a change detected now, and distributes it (R473, R476, R598). -/
def State.newRoutes (s : State) : State :=
  let s := { s with topo := { s.topo with routeChange := some s.tick.now, nextRoutes := s.routeEntries } }
  s.flood (ctlBytes 5 (toLe 8 s.now))

/-- The state of a device as R482 codes it. -/
def DevState.code : DevState → Nat
  | .absent => 0
  | .present => 1
  | .admitted => 2
  | .quarantined => 3
  | .departed => 4

/-- A device state from its code. -/
def devStateOf : Nat → DevState
  | 1 => .present
  | 2 => .admitted
  | 3 => .quarantined
  | 4 => .departed
  | _ => .absent

/-- The 8-byte map entry of R481. -/
def MapEntry.word (e : MapEntry) : Nat := e.dev.code + e.linkMask.toNat * 2 ^ 8 + e.serialDigest.toNat * 2 ^ 32

/-- The control message of a map update (R461, R481). -/
def mapBytes (version : BitVec 32) (entries : List (BitVec 16 × BitVec 64)) : Bytes :=
  ctlBytes 4 (toLe 4 version.toNat ++ entries.flatMap fun x => toLe 2 x.1.toNat ++ toLe 8 x.2.toNat)

/-- The map changed: its version rises by 1 and the changed entries go to the followers (R891, R461). -/
def State.mapChanged (s : State) (addrs : List Nat) : State :=
  let s := { s with topo := { s.topo with mapVersion := s.topo.mapVersion + 1 } }
  s.flood (mapBytes s.topo.mapVersion (addrs.map fun a => (BitVec.ofNat 16 a, BitVec.ofNat 64 (s.mapEntry a).word)))

/-- Replaces an entry of the map; the tick of a DEPARTED mark is kept with it (R614). -/
def State.putEntry (s : State) (addr : Nat) (e : MapEntry) : State :=
  let at_ := if e.dev ≠ .departed then none
    else if (s.mapEntry addr).dev = .departed then (s.mapEntry addr).departedAt else some s.tick.now
  { s with topo := { s.topo with map := s.topo.map.put addr { e with departedAt := at_ } } }

/-- The device state that a report leads to (R483, R484, R490, R497). -/
def State.reportedState (s : State) (old : MapEntry) (r : Report) (conflict : Bool) : DevState :=
  let bad := conflict || r.signature != BitVec.ofNat 128 (leNat s.signature) || r.extents != s.topo.extents
  match old.dev with
  | .admitted => if bad then .quarantined else .admitted
  | .quarantined => .quarantined
  | .departed => .quarantined
  | _ => if bad || s.mapLocked then .quarantined else .present

/-- A report with a serial other than the one held for its address claims another device's address (R484). -/
def MapEntry.conflicts (e : MapEntry) (r : Report) : Bool := e.conflict || (e.dev != .absent && e.serial != r.serial)

/-- The lead takes a device's report into its map (R481 to R484, R490, R495, R497, R890, R891). -/
def State.takeReport (s : State) (r : Report) : State :=
  let a := r.addr.toNat
  let old := s.mapEntry a
  let conflict := old.conflicts r
  let e : MapEntry :=
    { dev := s.reportedState old r conflict, linkMask := r.linkMask
      serialDigest := BitVec.ofNat 32 (leNat ((Sha.sha384 (toLe 16 r.serial.toNat)).take 4)), serial := r.serial
      signature := r.signature, extents := r.extents, express := r.express, pairRole := r.pairRole
      downSince := if r.linkMask ≠ 0 then none else if old.linkMask ≠ 0 then some s.tick.now else old.downSince
      conflict := conflict }
  let s := s.putEntry a e
  if old.word = e.word then s
  else
    let s := (s.mapChanged [a]).chooseTree
    if old.linkMask = e.linkMask ∧ old.dev = e.dev then s else s.newRoutes

/-- DISCOVERY_REPORT (R481 to R484, R490, R495, R497, R890, R891): the lead takes a device's report into its map. -/
def execDiscoveryReport (r : Report) (s : State) : Result := .next (if s.topo.role ≠ 1 then s else s.takeReport r)

/-- What this device reports of itself (R481). -/
def State.ownReport (s : State) : Report :=
  { addr := s.topo.selfAddr, linkMask := BitVec.ofNat 12 ((s.upLinks.map (2 ^ ·)).sum), serial := s.ident.serial
    signature := BitVec.ofNat 128 (leNat s.signature), extents := s.topo.extents
    express := BitVec.ofNat 8 (s.cfgNum 0x9000 8), pairRole := BitVec.ofNat 8 s.pair.role }

/-- A report as a control message (R461, R481; the codes are the model's, log entry 13). -/
def reportBytes (r : Report) : Bytes :=
  ctlBytes 3 (toLe 2 r.addr.toNat ++ toLe 2 r.linkMask.toNat ++ toLe 16 r.serial.toNat ++ toLe 16 r.signature.toNat ++
    toLe 2 r.extents.toNat ++ toLe 1 r.express.toNat ++ toLe 1 r.pairRole.toNat)

/-- A report goes one hop nearer the lead (R472, R481). -/
def State.passReport (s : State) (r : Report) : State :=
  match s.tick.upstream with
  | none => s.emit (.report r)
  | some l => s.queueControl l.val (reportBytes r)

/-- The state or peer of a link has changed: a device with a position reports to the lead, and the lead takes its own
links into the map (R481). -/
def State.reportLinks (s : State) : State :=
  if s.topo.role = 1 then s.takeReport s.ownReport
  else if s.topo.positioned then s.passReport s.ownReport
  else s

/-- DEVICE_DEPART (R890, R476, R32): 65,536 GT after its last link left UP. -/
def execDeviceDepart (addr : BitVec 16) (s : State) : Result :=
  .next (
    let e := s.mapEntry addr.toNat
    match e.downSince with
    | none => s
    | some t =>
      if s.topo.role ≠ 1 ∨ s.now < t.toNat + 65536 ∨ e.dev = .absent ∨ e.dev = .departed then s
      else ((s.putEntry addr.toNat { e with dev := .departed }).mapChanged [addr.toNat]).chooseTree.newRoutes)

/-- ROUTE_TABLE_SWITCH (R476): at D + 65,536. -/
def execRouteTableSwitch (s : State) : Result :=
  .next (
    match s.topo.routeChange with
    | none => s
    | some d =>
      if s.now < d.toNat + 65536 then s
      else { s with topo := { s.topo with routeMap := s.topo.nextRoutes, routeChange := none, nextRoutes := [] } })

/-! ## Becoming lead -/

/-- This device's own entry in the map it leads. -/
def State.ownEntry (s : State) : MapEntry :=
  { dev := if (s.mapEntry s.topo.selfAddr.toNat).dev = .admitted then .admitted else .present
    linkMask := BitVec.ofNat 12 ((s.upLinks.map (2 ^ ·)).sum)
    serialDigest := BitVec.ofNat 32 (leNat ((Sha.sha384 s.serialBytes).take 4)), serial := s.ident.serial
    signature := BitVec.ofNat 128 (leNat s.signature), extents := s.topo.extents
    express := BitVec.ofNat 8 (s.cfgNum 0x9000 8), pairRole := BitVec.ofNat 8 s.pair.role }

/-- The device leads: its role, its address as lead, the tick and the tree (R31, R32). -/
def State.becomeLead (s : State) : State :=
  let s := { s with topo := { s.topo with role := 1, leadAddr := s.topo.selfAddr } }
  let s := s.updTick fun t => t.toMaster s.topo.selfAddr
  ((s.putEntry s.topo.selfAddr.toNat s.ownEntry).mapChanged [s.topo.selfAddr.toNat]).chooseTree

/-- The log record of an assigned position (R878). -/
def State.logPosition (s : State) : State :=
  let lead := match s.topo.lowestSerial with
    | none => s.ident.serial
    | some x => if x.toNat < s.ident.serial.toNat then x else s.ident.serial
  s.logEvent 1 1 0x0306 [s.topo.selfAddr.toNat, s.topo.extents.toNat, lead.toNat % 2 ^ 32, 0]

/-- ELECTION_COMPLETE (R869, R870, R874, R882): 65,536 GT after the last torus link entered UP with no lower SERIAL
received, the device leads from address 0x0000. -/
def execElectionComplete (s : State) : Result :=
  .next (
    match s.topo.lastTorusUp with
    | none => s
    | some t =>
      if s.topo.elected ∨ s.topo.positioned ∨ s.fw.stage ≠ 2 ∨ s.now < t.toNat + 65536 then s
      else
        let s := { s with topo := { s.topo with elected := true } }
        let lower := match s.topo.lowestSerial with
          | none => false
          | some x => decide (x.toNat < s.ident.serial.toNat)
        if lower then s
        else
          let s := { s with topo := { s.topo with positioned := true, selfAddr := 0, extents := 0 } }
          let s := s.becomeLead.logPosition
          s.upLinks.foldl (fun s l => s.sendIdentity l) s)

/-- SOLO_LEAD (R873): no torus link UP 250 ms after the ready point. -/
def execSoloLead (s : State) : Result :=
  .next (
    if s.fw.stage ≠ 2 ∨ s.topo.positioned ∨ s.topo.lastTorusUp.isSome ∨ s.now < s.fw.startTick.toNat + 156250000 then s
    else
      let s := { s with topo := { s.topo with elected := true, positioned := true, selfAddr := 0, extents := 0 } }
      s.becomeLead.logPosition)

/-- The position that a peer's address and the link to it imply (R871, R874). -/
def impliedAddr (extents l peer : Nat) : Nat :=
  stepAddr peer (l / 2) (coordOf extents (l / 2) + 1) (l % 2 == 0)

/-- A device without a position takes one, with ROLE FOLLOWER or STANDBY (R871, R478). -/
def State.takePosition (s : State) (addr : Nat) (extents : BitVec 16) : State :=
  let a : BitVec 16 := BitVec.ofNat 16 addr
  let role : BitVec 8 := if s.cfgNum 0x9010 2 = addr then 2 else 3
  let s := { s with topo := { s.topo with positioned := true, selfAddr := a, extents := extents, role := role } }
  let s := s.logPosition
  s.upLinks.foldl (fun s l => s.sendIdentity l) s

/-- The walk along an axis returns to the lead by its minus link: the axis's extent is known (R870, R872). -/
def State.closeAxis (s : State) (l peer : Nat) : State :=
  let a := l / 2
  if l % 2 = 1 ∨ (List.range 4).any (fun b => b != a && coordOf peer b != 0) then s
  else if 15 < coordOf peer a then s.logEvent 3 1 0x0309 [l, 2]
  else
    let e := withCoord s.topo.extents.toNat a (coordOf peer a)
    { s with topo := { s.topo with extents := BitVec.ofNat 16 e } }

/-- POSITION_ASSIGN (R870 to R874, R878): a positioned peer on a torus link gives this device its address; a second,
different offer leaves it without a position (the log record of that is the lead's, log entry 36). -/
def execPositionAssign (l : LinkId) (peerAddr : BitVec 16) (extents : BitVec 16) (s : State) : Result :=
  .next (
    if 8 ≤ l.val ∨ s.fw.stage ≠ 2 ∨ (s.link l.val).state ≠ .up ∨ s.topo.positionFailed then s
    else if s.topo.role = 1 then s.closeAxis l.val peerAddr.toNat
    else
      let a := impliedAddr extents.toNat l.val peerAddr.toNat
      if !s.topo.positioned then s.takePosition a extents
      else if s.topo.selfAddr.toNat = a then { s with topo := { s.topo with extents := extents } }
      else
        { s with topo := { s.topo with positioned := false, positionFailed := true, role := 0 } })

/-- A lead that meets a higher epoch becomes a follower; its tick passes through SLEWING once its new upstream's delay
is known (R597, R65). -/
def State.yieldLead (s : State) : State :=
  let s := { s with topo := { s.topo with role := 3 } }
  s.updTick fun t => { t with state := 5, measured := false, downstream := [] }

end Sys2Proof.Machine
end

