-- ==== Sys2Proof/Machine/Links.lean ====
section
/-! DEFINITION. The link ports: training, identity, hop delay, flits, acknowledgement, replay, credits, control messages
and link-down (R36 to R39, R60, R444 to R490, R868, R875). -/

namespace Sys2Proof.Machine

/-! ## Declared down -/

/-- The transmitter and receiver of a port as training leaves them (R451). -/
def Link.resetSeries (k : Link) : Link :=
  { k with
    txSeq := 0, replayBuf := [], resend := [], lastReplay := none, rxSeq := 0, delivered := false, replayWait := false
    nakDue := false, discardTicks := [], transit := [], credits := [], owed := [] }

/-- Both pair links of a primary are down: it continues unmirrored (R613). -/
def State.primaryAlone (s : State) : State :=
  if s.pair.role = 1 ∧ s.pair.state = 1 ∧ (s.link 8).state ≠ .up ∧ (s.link 9).state ≠ .up then
    { s with pair := { s.pair with state := 3, partnerLostTick := s.tick.now } }
  else s

/-- The packets that a port's queue holds, one flit of each: those it opens, and one of each context and VC whose first
flit is not the first of its packet. -/
def lostPackets (q : List Flit) : List Flit :=
  q.filter (fun f => f.kind == .head) ++
    ((q.map fun f => (f.ctx, f.vc)).eraseDups.filterMap fun key =>
      (q.find? fun f => f.ctx == key.1 && f.vc == key.2).filter fun f => f.kind != .head)

/-- Discarded packets are counted, one for each context named (R475, R476). -/
def State.countLost (s : State) (l : List Nat) : State :=
  l.foldl (fun s c => s.updCtx c fun x => { x with unroutable := satAdd x.unroutable 1 }) s

/-- Flits of context c were discarded at a port: a row that an operation of it sent is never written (R328, R332, R416). -/
def State.loseRows (s : State) (c : Nat) : State :=
  let s := s.updQuill c fun q => { q with moves := q.moves.map fun m =>
    (m.1, { m.2 with scatterOut := m.2.scatterOut.map (· + 1), returnOut := m.2.returnOut.map (· + 1) }) }
  { s with groups := s.groups.map fun g =>
      (g.1, { g.2 with steps := mapIf (fun t => t.ctx.val == c && t.open_) (fun t => { t with lost := true }) g.2.steps }) }

/-- A link is declared down in this tick (R488, R489, R54, R423, R613); the packets that wait at its
port are discarded and counted (R476). -/
def State.declareDown (s : State) (l : Nat) : State :=
  match (s.link l).state with
  | .down => s
  | .disabled => s
  | _ =>
    let dropped := lostPackets (s.link l).queue
    let cut := (((s.link l).queue ++ (s.link l).replayBuf.map (·.1)).filter fun f => carries f.ctx.val f).map (·.ctx.val)
    let s := s.updLink l fun k =>
      { k.resetSeries with
        state := .down, since := s.tick.now, retryAt := s.tick.now, downEvents := satAdd k.downEvents 1
        lastDownTick := s.tick.now, queue := [] }
    let s := s.countLost (dropped.map (·.ctx.val))
    let s := cut.eraseDups.foldl State.loseRows s
    let s := if s.tick.upstream = some (Fin.ofNat 12 l) then s.updTick fun t => 
      { t with downAt := some s.tick.now, freqLocked := false, byMarker := false } else s
    let s := s.detectAll 2 fun t => t.links.contains l
    s.primaryAlone.reportLinks

/-- LINK_DOWN (R488, R489, R494). -/
def execLinkDown (l : LinkId) (s : State) : Result := .next (s.declareDown l.val)

/-- BLOCK_LOCK_LOST (R488, R489). -/
def execBlockLockLost (l : LinkId) (s : State) : Result := .next (s.declareDown l.val)

/-! ## Training -/

/-- ENABLE of a link (R491). -/
def State.linkEnabled (s : State) (l : Nat) : Bool := s.cfgNum (0x9100 + l) 2 == 1

/-- A link enters a training state. -/
def State.enter (s : State) (l : Nat) (st : LinkState) : State := s.updLink l fun k => { k with state := st, since := s.tick.now }

/-- LINK_TRAIN_START (R477): after the ready point, and 1 ms after a failed attempt. -/
def execLinkTrainStart (l : LinkId) (s : State) : Result :=
  .next (
    let k := s.link l.val
    if k.state = .down ∧ s.fw.stage = 2 ∧ s.linkEnabled l.val = true ∧ k.retryAt.toNat ≤ s.now then s.enter l.val .equalise
    else s)

/-- The maximum time of a training state in GT (R477). -/
def LinkState.limit : LinkState → Option Nat
  | .equalise => some 31250000
  | .align => some 62500
  | .identity => some 625000
  | .delay => some 125000
  | _ => none

/-- The state's maximum time has not run out. -/
def State.inTime (s : State) (l : Nat) : Bool :=
  match (s.link l).state.limit with
  | none => true
  | some n => decide (s.now ≤ (s.link l).since.toNat + n)

/-- LINK_EQUALISED (R477, R444): all eight lanes have trained. -/
def execLinkEqualised (l : LinkId) (s : State) : Result :=
  .next (if (s.link l.val).state = .equalise ∧ s.inTime l.val = true then s.enter l.val .align else s)

/-- LINK_ALIGNED (R477, R451, R478): both sequence series restart and the identity block goes out. -/
def execLinkAligned (l : LinkId) (s : State) : Result :=
  .next (
    if (s.link l.val).state = .align ∧ s.inTime l.val = true then
      ((s.updLink l.val Link.resetSeries).enter l.val .identity).sendIdentity l.val
    else s)

/-- LINK_STATE_TIMEOUT (R477): the link returns to DOWN and retries after 625,000 GT. -/
def execLinkStateTimeout (l : LinkId) (s : State) : Result :=
  .next (
    match (s.link l.val).state.limit with
    | none => s
    | some n =>
      if s.now < (s.link l.val).since.toNat + n then s
      else s.updLink l.val fun k =>
        { k with state := .down, since := s.tick.now, retryAt := s.tick.now + 625000 })

/-- The address that R445 places at the other end of a link; none where it places none. -/
def State.expectedPeer (s : State) (l : Nat) : Option Nat :=
  if l < 8 then
    some (stepAddr s.topo.selfAddr.toNat (l / 2) (s.axisExtent (l / 2)) (l % 2 == 1))
  else if 10 ≤ l then s.neighbour s.topo.selfAddr.toNat (s.cfgNum 0x9000 8) l
  else none

/-- The peer's sending link or claimed address contradicts R445 (R480, R868). -/
def State.miswired (s : State) (l : Nat) (b : IdBlock) : Bool :=
  b.sendLink.toNat != peerLink l ||
    (b.role != 0 && s.topo.positioned && match s.expectedPeer l with
      | none => false
      | some a => b.addr.toNat != a)

/-- IDENTITY_RECEIVE (R477 to R480, R868, R627): a signature that fails leaves the link in IDENTITY. A new block on a
trained link is taken too (R871). -/
def execIdentityReceive (l : LinkId) (b : IdBlock) (s : State) : Result :=
  .next (
    let k := s.link l.val
    if k.state ≠ .identity ∧ k.state ≠ .up ∧ k.state ≠ .quarantined then s
    else if !b.sigOk then
      if k.state = .identity then s.updLink l.val fun k => { k with idFailures := satAdd k.idFailures 1 } else s
    else
      let s := s.updLink l.val fun k =>
        { k with
          peerAddr := if b.role = 0 then 0xFFFF else b.addr, peerLink := b.sendLink, peerRole := b.role, peerId := some b }
      if s.miswired l.val b then (s.enter l.val .miswired).reportLinks
      else if k.state = .identity then s.enter l.val .delay
      else s.reportLinks)

/-! ## Hop delay -/

/-- A rational rounded half to even. -/
def divHalfEven (a : Int) (b : Nat) : Int :=
  let q := a / b
  let r := a - q * b
  if 2 * r < b then q else if (b : Int) < 2 * r then q + 1 else if q % 2 = 0 then q else q + 1

/-- The one-way delay in root cycles (R37). -/
def hopDelay (l : List Stamps) : Nat :=
  (divHalfEven ((l.map fun x => ((x.t4 : Int) - x.t1) - ((x.t3 : Int) - x.t2)).sum) (2 * l.length)).toNat

/-- Downstream minus upstream for a delay: the sum over the exchanges, which for 1,024 of them is their mean in 1/1,024
root cycles (R37). -/
def hopOffset (l : List Stamps) (delay : Nat) : Int :=
  (l.map fun x => (x.t2 : Int) - (x.t1 + delay)).sum

/-- The alignment write (R39, R875). -/
def State.alignTick (s : State) (offset : Int) : State :=
  let s := s.updTick fun t => t.align offset
  let up := match s.tick.upstream with
    | none => 0xFF
    | some l => l.val
  s.logEvent 1 1 0x0307 [s.tick.depth.toNat, up]

/-- What a measured delay of the upstream link does to the tick (R39, R60). -/
def State.useDelay (s : State) (l : Nat) (offset : Int) : State :=
  if s.tick.upstream ≠ some (Fin.ofNat 12 l) ∨ s.tick.state = 1 ∨ s.tick.freqLocked = false then s
  else if s.tick.aligned then s.updTick fun t => t.toSlewing offset.natAbs
  else s.alignTick offset

/-- A follower starts its own downstream hops only once it has reached LOCKED (R36). -/
def State.hopMayStart (s : State) (l : Nat) : Bool :=
  !(s.tick.downstream.contains (Fin.ofNat 12 l)) || s.tick.aligned

/-- The state a trained link enters: QUARANTINED where its peer is another device than before, is marked DEPARTED or
QUARANTINED, or is not admitted to a locked map (R485, R490, R495). -/
def State.trainedState (s : State) (l : Nat) : LinkState :=
  let k := s.link l
  let other := match k.peerSerial, k.peerId with
    | some old, some b => old != b.serial
    | _, _ => false
  let dev := (s.mapEntry k.peerAddr.toNat).dev
  let known := k.peerAddr != 0xFFFF
  if other || (known && (dev == .departed || dev == .quarantined || (s.mapLocked && dev != .admitted))) then .quarantined
  else .up

/-- DELAY_COMPLETE (R37 to R39, R60, R477, R490, R869, R875, R890): 1,024 exchanges give the hop delay, at training or
for a new upstream on a trained link. -/
def execDelayComplete (l : LinkId) (stamps : List Stamps) (s : State) : Result :=
  .next (
    let k := s.link l.val
    if stamps.length ≠ 1024 ∨ s.hopMayStart l.val = false ∨ (k.state ≠ .delay ∧ ¬ (k.state = .up ∧ s.tick.upstream = some l))
    then s
    else
      let delay := hopDelay stamps
      let s := s.updTick fun t => { t with hopDelay := t.hopDelay.put l.val (BitVec.ofNat 32 delay) }
      let s := if k.state ≠ .delay then s
        else
          let st := s.trainedState l.val
          let s := s.updLink l.val fun k =>
            { k with state := st, since := s.tick.now, peerSerial := k.peerId.map (·.serial) }
          (if l.val < 8 ∧ st = .up then { s with topo := { s.topo with lastTorusUp := some s.tick.now } } else s).reportLinks
      if (s.link l.val).state = .up then s.useDelay l.val (hopOffset stamps delay) else s)

/-! ## Sending flits -/

/-- The 256 bytes of a flit without its CRC (R447). -/
def flitBytes (f : Flit) : Bytes :=
  let kind : Nat := match f.kind with
    | .idle => 0
    | .head => 1
    | .body => 2
    | .control => 3
    | .nak => 4
    | .linkDown => 5
  toLe 4 (f.vc.toNat + 4 * f.ctx.val + 256 * kind + 2048 * f.seq.toNat + 2 ^ 21 * f.credit.toNat) ++ slice f.payload 0 250

/-- Every other byte, from the first on. -/
def everyOther : Bytes → Bytes
  | [] => []
  | [a] => [a]
  | a :: _ :: t => a :: everyOther t

/-- An RS(140,128) codeword: 128 bytes and their twelve parity bytes (R449). -/
def codeword (half : Bytes) : Bytes := half ++ slice (Config.rsParity half) 0 12

/-- The 256 bytes of a flit with its CRC (R447). -/
def flitWire (f : Flit) : Bytes := flitBytes f ++ toLe 2 (Sha.crc16 (flitBytes f)).toNat

/-- A block cannot be decoded: a codeword has more than six byte errors (R449). -/
def blockFails (e : Fec) : Bool := decide (6 < e.even) || decide (6 < e.odd)

/-- A block that was decoded with a correction is counted in FEC_CORRECTED (R449, R450, R491). -/
def State.countFec (s : State) (l : Nat) (e : Fec) : State :=
  if e.even = 0 ∧ e.odd = 0 then s else s.updLink l fun k => { k with fecCorrected := satAdd k.fecCorrected 1 }

/-- The flit time that starts in a tick, if one does (R459). -/
def flitTime (t : Nat) : Option Nat :=
  let f := ceilDiv (16 * t) 25
  if 25 * f < 16 * t + 16 then some f else none

/-- The context and VC that the CREDIT field of flit time f is for (R467). -/
def creditFor (l f : Nat) : Nat × Nat :=
  (f % 64, if 8 ≤ l ∧ l ≤ 9 then (if f / 64 % 2 = 0 then 2 else 3) else f / 64 % 3)

/-- LINK_ACK: the latest sequence number delivered in order, 1,023 before the first (R452). -/
def Link.ack (k : Link) : Nat := if k.delivered then (k.rxSeq - 1).toNat else 1023

/-- Credits of a context and VC at the peer when nothing is outstanding (R466). -/
def State.creditShare (s : State) (l c vc : Nat) : Nat :=
  let n := s.cfgNum (0x9200 + c) 1
  if vc = 2 then min n 8 else if 8 ≤ l ∧ l ≤ 9 then (if vc = 3 then n - 8 else 0) else if vc ≤ 1 then (n - 8) / 2 else 0

/-- The context holds a credit for the flit (R468). -/
def State.hasCredit (s : State) (l : Nat) (f : Flit) : Bool :=
  decide ((s.link l).credits.get 0 (4 * f.ctx.val + f.vc.toNat) < s.creditShare l f.ctx.val f.vc.toNat)

/-- An unsequenced flit (R451). -/
def plainFlit (kind : FlitKind) (seq : BitVec 10) (payload : Bytes) : Flit :=
  { vc := 0, ctx := 0, kind := kind, seq := seq, credit := 0, payload := payload }

/-- A flit leaves the port in its block: its CREDIT field is filled and the credits are returned (R447, R449, R467). -/
def State.putFlit (s : State) (l f : Nat) (x : Flit) : State :=
  let (c, vc) := creditFor l f
  let owed := min 255 ((s.link l).owed.get 0 (4 * c + vc))
  let x := { x with credit := BitVec.ofNat 8 owed }
  (s.updLink l fun k => { k with owed := k.owed.put (4 * c + vc) (k.owed.get 0 (4 * c + vc) - owed) }).emit
    (.flit (Fin.ofNat 12 l) x (codeword (everyOther (flitWire x))) (codeword (everyOther ((flitWire x).drop 1))))

/-- A sequenced flit takes the next number and a place in the replay buffer (R451). -/
def State.sendSequenced (s : State) (l f : Nat) (x : Flit) : State :=
  let x := { x with seq := (s.link l).txSeq }
  (s.updLink l fun k => { k with txSeq := k.txSeq + 1, replayBuf := k.replayBuf ++ [(x, 0)] }).putFlit l f x

/-- An IDLE flit with LINK_ACK (R452). -/
def State.sendIdle (s : State) (l f : Nat) : State := s.putFlit l f (plainFlit .idle 0 (toLe 2 (s.link l).ack))

/-- Whole messages that fit in a number of bytes, and what is left; a longer message goes in fragments (R461). -/
def takeMessages : Nat → List Bytes → Bytes × List Bytes
  | _, [] => ([], [])
  | room, m :: t =>
    if m.length ≤ room then
      let (b, rest) := takeMessages (room - m.length) t
      (m ++ b, rest)
    else if room = 248 then (m.take 248, (m.take 1 ++ m.drop 248) :: t)
    else ([], m :: t)

/-- The control flit of a control flit time, or IDLE (R461). -/
def State.sendControl (s : State) (l f : Nat) : State :=
  let k := s.link l
  if k.control.isEmpty ∨ 960 ≤ k.replayBuf.length then s.sendIdle l f
  else
    let (b, rest) := takeMessages 248 k.control
    (s.updLink l fun k => { k with control := rest }).sendSequenced l f
      { plainFlit .control 0 (toLe 2 k.ack ++ b) with vc := 2 }

/-- A flit that is resent carries the current LINK_ACK, and a marker the start tick of its flit time (R452, R454). -/
def State.refreshFlit (s : State) (l : Nat) (x : Flit) : Flit :=
  if x.kind ≠ .control then x
  else
    let body := x.payload.drop 2
    let body := if body.headD 0 = 1 then body.take 1 ++ toLe 8 s.now ++ body.drop 9 else body
    { x with payload := toLe 2 (s.link l).ack ++ body }

/-- The flit of a context in its slot, if it has one that may go (R460, R468, R485). -/
def State.slotFlit (s : State) (l : Nat) : Option Flit :=
  match s.engineOwner (34 + l) with
  | none => none
  | some c =>
    if (s.ctx c).life.state ≠ .live ∨ (s.link l).state ≠ .up ∨ s.safety.stopped = true then none
    else (s.link l).queue.find? fun x => x.ctx.val == c && s.hasCredit l x

/-- A context's flit is sent; it takes one of the context's credits (R468). -/
def State.sendSlotFlit (s : State) (l f : Nat) (x : Flit) : State :=
  let key := 4 * x.ctx.val + x.vc.toNat
  (s.updLink l fun k =>
    { k with queue := k.queue.erase x, credits := k.credits.put key (k.credits.get 0 key + 1) }).sendSequenced l f x

/-- FLIT_SEND (R447, R451 to R456, R459 to R468, R485): the flit time that starts in this tick. -/
def execFlitSend (l : LinkId) (s : State) : Result :=
  .next (
    let k := s.link l.val
    if k.state ≠ .up ∧ k.state ≠ .quarantined then s
    else match flitTime s.now with
      | none => s
      | some f =>
        if f % 512 = 0 then s.sendControl l.val f
        else if k.nakDue then
          (s.updLink l.val fun k => { k with nakDue := false, nakTick := s.tick.now }).putFlit l.val f (plainFlit .nak k.rxSeq [])
        else match k.resend with
          | x :: rest => (s.updLink l.val fun k => { k with resend := rest }).putFlit l.val f (s.refreshFlit l.val x)
          | [] =>
            if 960 ≤ k.replayBuf.length then s.sendIdle l.val f
            else match s.slotFlit l.val with
              | none => s.sendIdle l.val f
              | some x => s.sendSlotFlit l.val f x)

/-! ## Receiving flits -/

/-- Frees the named flit and every flit sent before it (R455). -/
def ackBuffer (seq : BitVec 10) (b : List (Flit × Nat)) : List (Flit × Nat) :=
  match indexOf (fun x : Flit × Nat => x.1.seq == seq) b with
  | none => b
  | some i => b.drop (i + 1)

/-- The flit time in which a flit that arrives now was sent (R446, R467; log entry 13). -/
def State.sentFlitTime (s : State) (l : Nat) : Nat := (16 * s.now - (s.tick.hopDelay.get 0 l).toNat) / 25

/-- Credits that a flit returns (R467). -/
def State.takeCredits (s : State) (l : Nat) (n : BitVec 8) : State :=
  let (c, vc) := creditFor l (s.sentFlitTime l)
  s.updLink l fun k => { k with credits := k.credits.put (4 * c + vc) (k.credits.get 0 (4 * c + vc) - n.toNat) }


/-- A flit is discarded under R453; with more than 64 in 1,048,576 flit times the link is declared down (R488). -/
def State.discardFlit (s : State) (l : Nat) : State :=
  let recent := s.tick.now :: (s.link l).discardTicks.filter fun t => decide (s.now < t.toNat + 1638400)
  let s := s.updLink l fun k => { k with discardTicks := recent }
  if 64 < recent.length then s.declareDown l else s

/-- A flit that fails decoding or its CRC: the receiver enters REPLAY_WAIT and owes a NAK (R453, R488). -/
def State.badFlit (s : State) (l : Nat) : State :=
  let k := s.link l
  if k.state ≠ .up ∧ k.state ≠ .quarantined then s
  else (s.updLink l fun k => { k with replayWait := true, nakDue := k.nakDue || !k.replayWait }).discardFlit l

/-- FLIT_ERROR (R453, R488). -/
def execFlitError (l : LinkId) (s : State) : Result := .next (s.badFlit l.val)

/-- An arriving block: it is decoded, or its flit fails (R449, R450, R453). -/
def State.onBlock (s : State) (l : Nat) (e : Fec) (f : State → State) : State :=
  if blockFails e then s.badFlit l else f (s.countFec l e)

/-- LINK_ACK_RECEIVE (R449, R452, R455, R467): an IDLE flit with its LINK_ACK and its CREDIT field. -/
def execLinkAckReceive (l : LinkId) (seq : BitVec 10) (credit : BitVec 8) (fec : Fec) (s : State) : Result :=
  .next (s.onBlock l.val fec fun s =>
    (s.updLink l.val fun k => { k with replayBuf := ackBuffer seq k.replayBuf }).takeCredits l.val credit)

/-- NAK_REPEAT (R457): 512 flit times after the previous NAK, which are 800 GT. -/
def execNakRepeat (l : LinkId) (s : State) : Result :=
  .next (
    let k := s.link l.val
    if k.replayWait ∧ k.nakDue = false ∧ k.nakTick.toNat + 800 ≤ s.now then s.updLink l.val fun k => { k with nakDue := true }
    else s)

/-- NAK_RECEIVE (R449, R454, R457, R467, R488): every buffered flit from the named number onward is resent; a flit replayed four
times already takes the link down. -/
def execNakReceive (l : LinkId) (seq : BitVec 10) (credit : BitVec 8) (fec : Fec) (s : State) : Result :=
  .next (s.onBlock l.val fec fun s =>
    let k := s.link l.val
    if k.state ≠ .up ∧ k.state ≠ .quarantined then s
    else
      let s := (s.updLink l.val fun k => { k with replays := k.replays + 1 }).takeCredits l.val credit
      let again := match k.lastReplay with
        | none => false
        | some (n, t) => n == seq && decide (s.now < t.toNat + 800)
      match indexOf (fun x : Flit × Nat => x.1.seq == seq) k.replayBuf with
      | none => s
      | some i =>
        if again then s
        else if (k.replayBuf.drop i).any fun x => decide (4 ≤ x.2) then s.declareDown l.val
        else s.updLink l.val fun k =>
          { k with
            replayBuf := k.replayBuf.take i ++ (k.replayBuf.drop i).map fun x => (x.1, x.2 + 1)
            resend := (k.replayBuf.drop i).map (·.1), lastReplay := some (seq, s.tick.now) })

/-- A data flit has been delivered: one for another device goes on to the port of its next hop, or is discarded where
there is none or its link is not UP (R448, R463, R470, R475, R476). Its place in the receive buffer is freed. -/
def State.passFlit (s : State) (l : Nat) (f : Flit) : State :=
  let key := 4 * f.ctx.val + f.vc.toNat
  let s := s.updLink l fun k => { k with owed := k.owed.put key (k.owed.get 0 key + 1) }
  let hop : Option (LinkId × BitVec 2) :=
    if f.kind = .head then
      let dst := Config.headerDst (f.payload.take 16)
      if s.isMine dst then none
      else ((s.nextHop dst.toNat).filter fun n => (s.link n).state == .up).map fun n =>
        (Fin.ofNat 12 n, s.hopVc n (some (f.vc.toNat, l)))
    else (s.link l).transit.get none key
  let lost := f.kind = .head && hop.isNone && !s.isMine (Config.headerDst (f.payload.take 16))
  let s := s.updLink l fun k => { k with transit := k.transit.put key hop }
  match hop with
  | none => if lost then s.countLost [f.ctx.val] else s
  | some (n, vc) => s.updLink n.val fun k => { k with queue := k.queue ++ [{ f with vc := vc }] }

/-- A sequenced flit in order is delivered (R451, R453). -/
def Link.deliver (k : Link) : Link := { k with rxSeq := k.rxSeq + 1, delivered := true, replayWait := false, nakDue := false }

/-- DATA_FLIT_RECEIVE (R449 to R451, R453, R467, R485, R494): out of order it is discarded. -/
def execDataFlitReceive (l : LinkId) (f : Flit) (fec : Fec) (s : State) : Result :=
  .next (s.onBlock l.val fec fun s =>
    let k := s.link l.val
    if k.state ≠ .up ∨ (f.kind ≠ .head ∧ f.kind ≠ .body) then s
    else if f.seq ≠ k.rxSeq then s.discardFlit l.val
    else ((s.updLink l.val Link.deliver).takeCredits l.val f.credit).passFlit l.val f)

/-! ## Control messages -/

/-- A map update from the lead (R481, R891); this device's own links follow their peers' states (R485, R486). -/
def State.takeMap (s : State) (version : BitVec 32) (entries : List (BitVec 16 × BitVec 64)) : State :=
  if s.topo.role = 1 then s
  else
    let put := fun (s : State) (x : BitVec 16 × BitVec 64) =>
      let w := x.2.toNat
      let old := s.mapEntry x.1.toNat
      s.putEntry x.1.toNat
        { old with dev := devStateOf (w % 256), linkMask := BitVec.ofNat 12 (w / 2 ^ 8), serialDigest := BitVec.ofNat 32 (w / 2 ^ 32) }
    let s := entries.foldl put s
    { s with topo := { s.topo with mapVersion := version } }

/-- The links to a device take the state its map entry calls for (R485, R486). -/
def State.relink (s : State) : State :=
  (List.range 12).foldl (fun s l =>
    let k := s.link l
    let dev := (s.mapEntry k.peerAddr.toNat).dev
    if k.peerAddr = 0xFFFF then s
    else if k.state = .up ∧ dev = .quarantined then s.enter l .quarantined
    else if k.state = .quarantined ∧ dev = .admitted then (s.enter l .up).reportLinks
    else s) s

/-- A configuration command or a commit reaches its terminal status (R674, R689). -/
def State.cfgTerminal (s : State) (status reason entry : Nat) : State :=
  { s with sets := { s.sets with
      status := status, checkReason := reason, checkEntry := entry, terminalTick := s.tick.now } }.raise 0 8

/-- A prepared participant that meets a higher epoch before the decision discards its draft (R691). -/
def State.leadChanged (s : State) : State :=
  if s.sets.draftState = .prepared ∧ s.sets.preparedEpoch.isSome = true then
    { s with sets := { s.sets with
        draft := [], draftState := .empty, preparedEpoch := none
        service := if s.sets.groupActTick.isSome then none else s.sets.service, groupActTick := none } }.cfgTerminal 0x0A 19 0
  else s

/-- A new lead's message (R596, R597): the highest epoch is obeyed. -/
def State.takeLead (s : State) (epoch : BitVec 32) (addr : BitVec 16) : State :=
  if epoch.toNat ≤ s.topo.leadEpoch.toNat then s
  else
    let s := if s.topo.role = 1 then s.yieldLead else s
    let s := { s with topo := { s.topo with
      leadEpoch := epoch, leadAddr := addr, lastBeat := s.tick.now, leadChangeTick := s.tick.now } }
    (s.updTick fun t => { t with masterAddr := addr }).leadChanged

/-- The control message of a lead change (R596). -/
def leadChangeBytes (epoch : BitVec 32) (addr : BitVec 16) : Bytes := ctlBytes 4 (toLe 4 epoch.toNat ++ toLe 2 addr.toNat)

/-- A flooded lead change is relayed once, by each device that obeys it (R472, R596). -/
def State.relayLead (s : State) (epoch : BitVec 32) (addr : BitVec 16) : State :=
  if epoch.toNat ≤ s.topo.leadEpoch.toNat then s else (s.takeLead epoch addr).flood (leadChangeBytes epoch addr)

/-- One message of a CONTROL flit (R461): its effect, and its relay to the lead or over the torus (R472). An aligned
follower that is given a new upstream keeps its tick state until the hop delay of the new upstream is measured; until
then its residual does not count as measured (R60, R65; log entry 76). -/
def State.takeMessage (s : State) (m : CtlMsg) : State :=
  match m with
  | .mapUpdate v e =>
    if s.topo.role = 1 ∨ s.topo.mapVersion = v then s
    else
      let s := (s.takeMap v e).relink
      s.flood (mapBytes v e)
  | .routeTable d express =>
    let known := s.topo.routeChange == some d
    let map := s.topo.map.map fun (a, e) =>
      (a, match express.find? fun x => x.1.toNat == a with
        | none => e
        | some x => { e with express := x.2 })
    let s := { s with topo := { s.topo with map := map } }
    let s := { s with topo := { s.topo with routeChange := some d, nextRoutes := s.routeEntries } }
    if known then s else s.flood (ctlBytes 5 (toLe 8 d.toNat))
  | .lowestSerial x =>
    let lower := match s.topo.lowestSerial with
      | none => true
      | some y => decide (x.toNat < y.toNat)
    if lower then { s with topo := { s.topo with lowestSerial := some x } }.flood (ctlBytes 3 (toLe 16 x.toNat)) else s
  | .upstreamAssign l depth down =>
    if s.topo.role = 1 ∨ 32 < depth.toNat ∨ (s.pair.role = 2 ∧ s.pair.state = 1) then s
    else s.updTick fun t =>
      { t with
        upstream := some l, depth := depth, downstream := ((List.range 12).filter down.getLsbD).map (Fin.ofNat 12)
        freqLocked := if t.upstream = some l then t.freqLocked else false, masterAddr := s.topo.leadAddr
        measured := t.measured && decide (t.upstream = some l), byMarker := t.byMarker && decide (t.upstream = some l) }
  | .leadChange epoch addr => s.relayLead epoch addr
  | .report r => if s.topo.role = 1 then s.takeReport r else s.passReport r

/-- CONTROL_FLIT_RECEIVE (R449, R451, R452, R455, R461, R472, R476, R486, R597, R869, R891). -/
def execControlFlitReceive (l : LinkId) (f : Flit) (fec : Fec) (msgs : List CtlMsg) (s : State) : Result :=
  .next (s.onBlock l.val fec fun s =>
    let k := s.link l.val
    if (k.state ≠ .up ∧ k.state ≠ .quarantined) ∨ f.kind ≠ .control then s
    else
      let s := s.updLink l.val fun k => { k with replayBuf := ackBuffer (BitVec.ofNat 10 (field f.payload 0 2)) k.replayBuf }
      if f.seq ≠ k.rxSeq then s.discardFlit l.val
      else
        let s := (s.updLink l.val Link.deliver).takeCredits l.val f.credit
        msgs.foldl (fun s m => s.takeMessage m) s)

end Sys2Proof.Machine
end

