-- ==== Sys2Proof/Machine/Leads.lean ====
section
/-! DEFINITION. The lead's beat, takeover by the standby, and the mirrored pair: beats, forwarded inputs as they arrive,
digests and promotion (R593 to R627). -/

namespace Sys2Proof.Machine

/-! ## Lead and standby -/

/-- The control message of a lead beat (R595). -/
def leadBeatBytes (epoch mapVersion : BitVec 32) : Bytes := ctlBytes 4 (toLe 4 epoch.toNat ++ toLe 4 mapVersion.toNat)

/-- LEAD_BEAT_SEND (R595): every 65,536 GT on the spanning-tree links of the lead. -/
def execLeadBeatSend (s : State) : Result :=
  .next (
    if s.topo.role = 1 ∧ s.topo.beatSent.toNat + 65536 ≤ s.now then
      let s := s.tick.downstream.foldl (fun s l =>
        s.queueControl l.val (leadBeatBytes s.topo.leadEpoch s.topo.mapVersion)) s
      { s with topo := { s.topo with beatSent := s.tick.now } }
    else s)

/-- LEAD_BEAT_RECEIVE (R595, R597, R891): a beat of a lower epoch is not obeyed; the lead's own is relayed down the
tree. -/
def execLeadBeatReceive (l : LinkId) (epoch : BitVec 32) (lead : BitVec 16) (mapVersion : BitVec 32) (s : State) : Result :=
  .next (
    if (s.link l.val).state ≠ .up ∨ epoch.toNat < s.topo.leadEpoch.toNat then s
    else
      let s := s.takeLead epoch lead
      if s.topo.role = 1 then s
      else
        let s := { s with topo := { s.topo with lastBeat := s.tick.now, mapVersion := mapVersion } }
        s.tick.downstream.foldl (fun s l => s.queueControl l.val (leadBeatBytes epoch mapVersion)) s)

/-- The device takes the lead at D_L (R596, R598, R618). -/
def State.takeLeadRole (s : State) : State :=
  let s := { s with topo := { s.topo with leadEpoch := s.topo.leadEpoch + 1, leadChangeTick := s.tick.now } }
  (s.becomeLead.newRoutes).flood (leadChangeBytes s.topo.leadEpoch s.topo.selfAddr)

/-- STANDBY_TAKEOVER (R596, R598): the standby has received no lead beat for 262,144 GT. -/
def execStandbyTakeover (s : State) : Result :=
  .next (
    if s.topo.positioned = true ∧ s.topo.role ≠ 1 ∧ s.cfgNum 0x9010 2 = s.topo.selfAddr.toNat ∧
        s.topo.lastBeat.toNat + 262144 ≤ s.now then s.takeLeadRole
    else s)

/-! ## The mirrored pair -/

/-- The state with the pair changed. -/
def State.updPair (s : State) (f : Pair → Pair) : State := { s with pair := f s.pair }

/-- PAIR_LAG in force (R605). -/
def State.pairLag (s : State) : Nat := s.cfgNum 0x9020 2

/-- PAIR_BEAT_SEND (R613): the primary, every 1,024 GT, on L8 and L9. -/
def execPairBeatSend (s : State) : Result :=
  .next (
    if s.pair.role = 1 ∧ s.pair.state = 1 ∧ s.pair.beatSent.toNat + 1024 ≤ s.now then
      let s := ([8, 9].filter fun l => (s.link l).state == .up).foldl (fun s l => s.emit (.pairBeat (Fin.ofNat 12 l))) s
      s.updPair fun p => { p with beatSent := s.tick.now }
    else s)

/-- PAIR_BEAT_RECEIVE (R613). -/
def execPairBeatReceive (l : LinkId) (s : State) : Result :=
  .next (
    if s.pair.role = 2 ∧ (l = 8 ∨ l = 9) ∧ (s.link l.val).state = .up then s.updPair fun p => { p with lastBeat := s.tick.now }
    else s)

/-- PARTNER_LOST (R613): on the secondary 16,384 GT without a beat, on the primary both pair links down. -/
def execPartnerLost (s : State) : Result :=
  .next (
    if s.pair.state ≠ 1 then s
    else if s.pair.role = 2 then
      if s.now < s.pair.lastBeat.toNat + 16384 then s
      else s.updPair fun p =>
        { p with
          state := 3, partnerLostTick := s.tick.now
          primaryWasLead := s.topo.positioned && s.topo.leadAddr == (s.link 8).peerAddr }
    else s.primaryAlone)

/-- FORWARDED_INPUT_RECEIVE (R605, R608): the input waits for its tick; one that had not arrived by t + PAIR_LAG − 1,024
is LAG_OVERRUN. -/
def execForwardedInputReceive (stamp : Word) (input : FwdInput) (s : State) : Result :=
  .next (
    if s.pair.role ≠ 2 ∨ s.pair.state ≠ 1 then s
    else if stamp.toNat + s.pairLag < s.now + 1024 then s.updPair fun p => { p with state := 4 }
    else s.updPair fun p => { p with forwarded := p.forwarded ++ [(stamp, input)] })

/-- LAG_OVERRUN (R608): an input has not arrived by t + PAIR_LAG − 1,024. -/
def execLagOverrun (s : State) : Result :=
  .next (if s.pair.role = 2 ∧ s.pair.state = 1 then s.updPair fun p => { p with state := 4 } else s)

/-- The devices have diverged at a command (R612): on the secondary every mirrored context stops issuing. -/
def State.diverge (s : State) (c : CtxId) (cmdId : BitVec 32) : State :=
  let s := s.updPair fun p => { p with state := 2, divergeTick := s.tick.now, divergeCtx := c, divergeCmd := cmdId }
  if s.pair.role ≠ 2 then s
  else
    let held := ((List.range 64).drop 1).filter fun c => (s.ctx c).life.state == .live ||
      (s.ctx c).life.state == .suspended || (s.ctx c).life.state == .creating
    (held.foldl (fun s c => s.suspend c) s).updPair fun p => { p with suspended := held }

/-- The record of a command that diverged carries PAIR_DIVERGENCE (R612). -/
def divergedRecord (cmdId : BitVec 32) (b : Bytes) : Bytes :=
  if field b 0 4 = cmdId.toNat then b.take 4 ++ [0x0C] ++ b.drop 5 else b

/-- DIGEST_COMPARE (R610, R612, R624): the secondary compares the partner's digest with its own copy's; the primary
learns of a mismatch. A divergence in the tick of the partner's loss stands. -/
def execDigestCompare (c : CtxId) (cmdId : BitVec 32) (digest : BitVec 256) (terminal : Word) (s : State) : Result :=
  .next (
    if s.pair.state ≠ 1 ∧ ¬ (s.pair.state = 3 ∧ s.pair.partnerLostTick = s.tick.now) then s
    else if s.pair.role = 1 then s.diverge c cmdId
    else if s.pair.role ≠ 2 then s
    else match s.pair.digests.find? fun d => d.1 == c && d.2.1 == cmdId with
      | none => s
      | some own =>
        let s := s.updPair fun p => { p with digests := p.digests.erase own }
        if own.2.2.1 = digest ∧ own.2.2.2.toNat = terminal.toNat + s.pairLag then s
        else
          let mark := fun (h : CtxId × Nat × Nat × Bytes × Word) =>
            if h.1 = c then (h.1, h.2.1, h.2.2.1, divergedRecord cmdId h.2.2.2.1, h.2.2.2.2) else h
          let s := s.updPair fun p => { p with heldRecords := p.heldRecords.map mark }
          s.diverge c cmdId)

/-! ## Promotion -/

/-- A discarded descriptor completes with ABORTED (R615). -/
def State.abortForwarded (s : State) (i : FwdInput) : State :=
  match i with
  | .descriptor c r b =>
    let x := parseCmd b (s.ctx c.val).nextUid r s.tick.now
    let s := s.updCtx c.val fun y => { y with cmds := y.cmds ++ [x], nextUid := y.nextUid + 1 }
    let s := s.updRing c.val r.val fun y => { y with tail := if y.head = y.tail then y.tail + 1 else y.tail, head := y.head + 1 }
    s.finishCmd c.val x 2
  | _ => s

/-- A record kept back goes to the host, when its terminal tick is late enough (R615). -/
def State.deliverHeld (s : State) (h : CtxId × Nat × Nat × Bytes × Word) : State :=
  if h.2.2.2.2.toNat + s.pairLag < s.now then s else (s.hostWrite h.2.2.1 h.2.2.2.1).raise h.1.val h.2.1

/-- Promotion at P (R614, R615, R618, R625). -/
def State.promoteNow (s : State) : State :=
  let stop := fun (s : State) c => (s.ctx c).cmds.foldl (fun s x => (s.stopCommand c x.uid).finishCmd c x 2) s
  let s := ((List.range 64).drop 1).foldl stop s
  let s := s.pair.forwarded.foldl (fun s i => s.abortForwarded i.2) s
  let s := s.updPair fun p => { p with state := 5, promoteTick := s.tick.now, forwarded := [], digests := [] }
  let drop := fun (s : State) c => s.updCtx c fun x => { x with serving := { x.serving with handed := [] } }
  let s := ((List.range 64).drop 1).foldl drop s
  let s := s.pair.heldRecords.foldl (fun s h => s.deliverHeld h) s
  let s := s.updPair fun p => { p with heldRecords := [] }
  if s.pair.primaryWasLead then s.takeLeadRole else s

/-- The lead's map marked the primary DEPARTED before this tick (R614). -/
def State.primaryDeparted (s : State) : Bool :=
  match (s.mapEntry (s.link 8).peerAddr.toNat).departedAt with
  | none => false
  | some t => decide (t.toNat < s.now)

/-- PROMOTION (R614, R619): one tick after the lead's map marked the primary DEPARTED and, when the primary was lead, no lead beat has
come for 262,144 GT. -/
def execPromotion (s : State) : Result :=
  .next (
    if s.pair.role = 2 ∧ s.pair.state = 3 ∧ s.primaryDeparted = true ∧
        (s.pair.primaryWasLead = false ∨ s.topo.lastBeat.toNat + 262144 < s.now) then s.promoteNow
    else s)

/-- A write of 1 to PROMOTE: a pair outside any torus promotes (R614). -/
def State.promote (s : State) : State :=
  if s.pair.role = 2 ∧ s.pair.state = 3 ∧ s.topo.lastTorusUp = none then s.promoteNow else s

/-- PROMOTE (R614, R619). -/
def execPromote (s : State) : Result := .next s.promote

end Sys2Proof.Machine
end

