-- ==== Sys2Proof/Machine/Firmware.lean ====
section
/-! DEFINITION. Flash, the boot control block, images and their verification, power-on and the start of the firmware
(R697 to R720, R835, R837, R857 to R867, R878). -/

namespace Sys2Proof.Machine

/-! ## Flash -/

/-- S, the size of a slot (R698). -/
def State.slotBytes (s : State) : Nat := (s.ident.flash.mib - 1) * 1048576 / 2

/-- The flash offset of a slot (R698). -/
def State.slotBase (s : State) (slot : Nat) : Nat := 0x100000 + slot * s.slotBytes

/-- The fields of a boot control block (R699). -/
structure BootBlock where
  seq : Nat := 0
  preferred : Nat := 0
  trial : Nat := 0
  tries : Nat := 0
  deriving DecidableEq, Repr

/-- The fields of a valid copy (R699, R700). -/
def State.bootCopy (s : State) (i : Nat) : Option BootBlock :=
  let b := s.flash.readBytes (65536 * i) 64
  if field b 0 4 = 0x5A424342 ∧ field b 60 4 = (Sha.crc32 (b.take 60)).toNat then
    some { seq := field b 4 4, preferred := field b 8 1, trial := field b 9 1, tries := field b 10 1 }
  else none

/-- The copy in use (R700). -/
def State.copyInUse (s : State) : Option Nat :=
  match s.bootCopy 0, s.bootCopy 1 with
  | none, none => none
  | some _, none => some 0
  | none, some _ => some 1
  | some a, some b => if a.seq < b.seq then some 1 else some 0

/-- The block the ROM uses (R700). -/
def State.bootBlock (s : State) : BootBlock :=
  match s.copyInUse with
  | none => {}
  | some i => (s.bootCopy i).getD {}

/-- The 64 bytes of a copy (R699). -/
def BootBlock.bytes (x : BootBlock) : Bytes :=
  let b := toLe 4 0x5A424342 ++ toLe 4 x.seq ++ toLe 1 x.preferred ++ toLe 1 x.trial ++ toLe 1 x.tries ++ List.replicate 49 0
  b ++ toLe 4 (Sha.crc32 b).toNat

/-- The block is written: the copy that is not in use, with SEQ one higher (R701). -/
def State.writeBoot (s : State) (preferred trial tries : Nat) : State :=
  let copy := if s.copyInUse = some 0 then 1 else 0
  let x : BootBlock := { seq := (s.bootBlock.seq + 1) % 2 ^ 32, preferred := preferred, trial := trial, tries := tries }
  { s with flash := s.flash.writeBytes (65536 * copy) x.bytes, fw := { s.fw with trial := trial } }

/-- The 512-byte header of a slot (R702). -/
def State.imageHeader (s : State) (slot : Nat) : Bytes := s.flash.readBytes (s.slotBase slot) 512

/-- Step 1 of R704. -/
def State.headerOk (s : State) (slot : Nat) : Bool :=
  let h := s.imageHeader slot
  let n := field h 16 4
  field h 0 4 == 0x5A465732 && field h 4 4 == 1 && zeros h 21 11 && zeros h 80 336 && n % 4096 == 0 &&
    decide (4096 ≤ n ∧ n ≤ 4194304) && decide (n + 4096 ≤ s.slotBytes)

/-- The body of a slot's image (R702). -/
def State.imageBody (s : State) (slot : Nat) : Bytes :=
  s.flash.readBytes (s.slotBase slot + 4096) (field (s.imageHeader slot) 16 4)

/-- A firmware key slot is PROGRAMMED: fused and not revoked (R766). -/
def State.fwKeyState (s : State) (k : Nat) : Nat :=
  if (s.safety.fwKeys.get none k).isNone then 0 else if s.safety.revoked.contains k then 2 else 1

/-- SHA-384 over header bytes 0 to 415: the firmware digest (R703). -/
def State.imageDigest (s : State) (slot : Nat) : Bytes := Sha.sha384 ((s.imageHeader slot).take 416)

/-- The first of steps 1 to 4 of R704 that a slot fails; 0 when it passes them. -/
def State.headerStep (s : State) (slot : Nat) : Nat :=
  let h := s.imageHeader slot
  let key := field h 20 1
  if !s.headerOk slot then 1
  else if s.fwKeyState key ≠ 1 ∨ 3 < key then 2
  else if !Config.ecdsaVerify ((s.safety.fwKeys.get none key).getD []) (s.imageDigest slot) (slice h 416 96) then 3
  else if field h 12 4 < s.safety.rollback ∨ 127 < field h 12 4 then 4
  else 0

/-- The first step of R704 that a slot fails; 0 when it passes. -/
def State.slotStep (s : State) (slot : Nat) : Nat :=
  let k := s.headerStep slot
  if k ≠ 0 then k
  else
    let h := s.imageHeader slot
    if Sha.sha384 (s.imageBody slot) = slice h 32 48 then 0 else 5

/-- A FLASH_WRITE keeps R712 and R714. -/
def State.flashWriteOk (s : State) (offset : Nat) (data : Bytes) : Bool :=
  offset % 256 == 0 && data.length % 256 == 0 && decide (256 ≤ data.length ∧ data.length ≤ 1024) &&
    decide (offset + data.length ≤ s.slotBytes) && !s.fw.flashBusy &&
    !(match s.sets.pending with
      | none => false
      | some p => p.items.any fun i => i.1 == ekey 0x7010 3 || i.1 == ekey 0x7010 4)

/-- FLASH_WRITE into the slot that did not start (R712, R713). -/
def State.writeFlash (s : State) (offset : Nat) (data : Bytes) : State :=
  let a := s.slotBase (1 - s.fw.bootSlot) + offset
  let flash := if offset % 65536 = 0 then s.flash.writeBytes a (List.replicate 65536 0xFF) else s.flash
  { s with flash := flash.writeBytes a data, fw := { s.fw with flashBusy := true } }

/-- FLASH_WRITE (R712 to R714). -/
def execFlashWrite (offset : Nat) (data : Bytes) (s : State) : Result :=
  .next (if s.fw.stage = 2 ∧ s.flashWriteOk offset data = true then s.writeFlash offset data else s)

/-- FLASH_WRITE_DONE (R713, R714). -/
def execFlashWriteDone (s : State) : Result :=
  .next (if s.fw.flashBusy then { s with fw := { s.fw with flashBusy := false } }.trace .flash else s)

/-! ## Power-on -/

/-- Everything but what power-on keeps: the flash, the fuses, the identity, the host's memory, the pins and rails of the
board, and what has been sent; BOOT_COUNT rises by 1 (R631, R716, R763, R769, R837). -/
def State.powerOn (s : State) : State :=
  { ident := { s.ident with bootCount := s.ident.bootCount + 1 }
    flash := s.flash
    hostMem := s.hostMem
    mgmt := { keys := [(0, s.mgmt.keys.get none 0)]
              lastSeq := tabulate (fun k => (k, BitVec.ofNat 64 ((s.ident.bootCount + 1).toNat * 2 ^ 40))) 4 }
    safety := { fwKeys := s.safety.fwKeys, revoked := s.safety.revoked, rollback := s.safety.blown
                blown := s.safety.blown, rollbackTarget := s.safety.blown, railMv := s.safety.railMv }
    pcie := { perst := s.pcie.perst }
    pins := { por := s.pins.por, i2cAddr := s.pins.i2cAddr, xspiOctal := s.pins.xspiOctal }
    out := s.out
    pending := s.pending }

/-- POR_RESET (R837, R856, R879): POR_N has been low for at least 4.4 µs. -/
def execPorReset (s : State) : Result :=
  .next (let s := s.powerOn; { s with pins := { s.pins with por := false } })

/-- The ROM starts (R859, R878). -/
def State.romStart (s : State) : State :=
  { s with fw := { s.fw with stage := 1 } }.logEvent 1 0 0x0300 [s.pins.i2cAddr.toNat + 4 * b2n s.pins.xspiOctal]

/-- POR_RISE (R835, R859): the straps are sampled and ROM verification starts. -/
def execPorRise (i2cAddr : BitVec 2) (xspiOctal : Bool) (s : State) : Result :=
  .next (
    if s.pins.por then s
    else
      { s with pins := { s.pins with por := true, i2cAddr := i2cAddr, xspiOctal := xspiOctal, testMode := 0 } }.romStart)

/-- ROOT_PLL_LOCK (R858): the tick unit counts from 0 in UNLOCKED. -/
def execRootPllLock (s : State) : Result :=
  .next (if s.pins.por ∧ s.tick.rootLocked = false then s.updTick fun t => { t with rootLocked := true, now := 0, state := 0 } else s)

/-- The ROM tries one slot: a failure is logged (R704, R708, R878). -/
def State.trySlot (s : State) (slot : Nat) : State × Bool :=
  if s.fw.watchdogFailed.contains slot then (s.logEvent 2 0 0x0302 [slot, Config.logField 1], false)
  else
    let k := s.slotStep slot
    if k = 0 then (s, true) else (s.logEvent 2 0 0x0302 [slot, k], false)

/-- The image of a slot starts: its body is copied to offset 0 of control SRAM (R706, R707, R711). -/
def State.startImage (s : State) (slot cause : Nat) : State :=
  let h := s.imageHeader slot
  { s with
    fw := { s.fw with
      started := true, startedAt := s.tick.now, bootSlot := slot, bootCause := cause
      fwVersion := BitVec.ofNat 32 (field h 8 4), fwDigest := s.imageDigest slot, securityVersion := field h 12 4
      keyIndex := field h 20 1, trial := s.bootBlock.trial }
    ctlMem := s.ctlMem.writeBytes 0 (s.imageBody slot) }

/-- The other slot, when the preferred one has not started (R705, R706, R709, R711). -/
def State.fallBack (s : State) (slot cause : Nat) : State :=
  match s.trySlot slot with
  | (s, true) => (s.writeBoot slot 0 0).startImage slot cause
  | (s, false) => { s with fw := { s.fw with bootFailed := true } }

/-- The ROM's choice of a slot (R700, R704 to R709). -/
def State.romSelect (s : State) : State :=
  let b := s.bootBlock
  let pref := b.preferred % 2
  if b.trial = 1 ∧ b.tries = 0 then s.fallBack (1 - pref) 3
  else
    let s := if b.trial = 1 then s.writeBoot pref 1 (b.tries - 1) else s
    match s.trySlot pref with
    | (s, true) => s.startImage pref (if b.trial = 1 then 1 else 0)
    | (s, false) => s.fallBack (1 - pref) (if s.fw.watchdogFailed.contains pref then 4 else 2)

/-- ROM_VERIFY_DONE (R700, R704 to R709, R711). -/
def execRomVerifyDone (s : State) : Result :=
  .next (if s.fw.stage = 1 ∧ s.fw.started = false ∧ s.fw.bootFailed = false then s.romSelect else s)

/-- BOOT_WATCHDOG (R708): the start counts as a failure of its slot. -/
def execBootWatchdog (s : State) : Result :=
  .next (
    if s.fw.stage = 1 ∧ s.fw.started = true ∧ s.fw.startedAt.toNat + 1250000000 ≤ s.now then
      { s with fw := { s.fw with started := false, watchdogFailed := s.fw.bootSlot :: s.fw.watchdogFailed } }
    else s)

/-- READY_POINT (R859, R860, R878). -/
def execReadyPoint (s : State) : Result :=
  .next (
    if s.fw.stage = 1 ∧ s.fw.started = true then
      { s with fw := { s.fw with stage := 2, startTick := s.tick.now } }.logEvent 1 1 0x0301
        [s.fw.bootSlot, s.fw.bootCause, Config.logField 2]
    else s)

/-- HBM_TRAIN_DONE (R864, R866, R867, R878): all stacks have trained, or one has failed its third attempt. -/
def execHbmTrainDone (failed : Option (Fin 8)) (s : State) : Result :=
  .next (
    if s.fw.stage ≠ 2 ∨ s.hbm.trained = true then s
    else match failed with
      | none =>
        if s.hbm.failedStacks.isEmpty then
          { s with hbm := { s.hbm with trained := true } }.logEvent 1 1 0x0303 [0xFF]
        else s
      | some k =>
        { s with hbm := { s.hbm with failedStacks := k.val :: s.hbm.failedStacks } }.logEvent 3 1 0x0304 [k.val, 3])

/-- POWER_ON_SCRUB_DONE (R865, R866, R878): every SCRUBBING unit of HBM is zero. -/
def execPowerOnScrubDone (s : State) : Result :=
  .next (
    if s.hbm.trained ∧ s.hbm.scrubbed = false then
      let s := s.scrubHbm.foldl (fun s r => s.zeroMem .hbm (r.1 * 2097152) (r.2 * 2097152)) s
      { s with scrubHbm := [], hbm := { s.hbm with scrubbed := true } }.logEvent 1 1 0x0305 []
    else s)

end Sys2Proof.Machine
end

