-- ==== Sys2Proof/Machine/Entries.lean ====
section
/-! DEFINITION. What each dictionary entry reads: the values of RS and RO entries from the state, all others from the
configuration in force (R62, R103, R197, R291, R346, R390, R436, R491, R547, R581, R622, R661, R696, R727, R753,
R777, R884). -/

namespace Sys2Proof.Machine

/-- The state of a context as R498 codes it. -/
def CtxState.code : CtxState → Nat
  | .free => 0
  | .creating => 1
  | .live => 2
  | .suspended => 3
  | .tearingDown => 4

/-- The state of a group as R436 codes it. -/
def GroupState.code : GroupState → Nat
  | .free => 0
  | .active => 1
  | .aborted => 2
  | .reforming => 3

/-- The state of a link as R477 codes it. -/
def LinkState.code : LinkState → Nat
  | .down => 0
  | .equalise => 1
  | .align => 2
  | .identity => 3
  | .delay => 4
  | .up => 5
  | .quarantined => 6
  | .miswired => 7
  | .disabled => 8

/-- The state of the draft as R670 codes it. -/
def DraftState.code : DraftState → Nat
  | .empty => 0
  | .opened => 1
  | .checking => 2
  | .checked => 3
  | .committing => 4
  | .prepared => 5

/-- Bytes of a staged value (R669). -/
def DVal.size (key : Nat) : DVal → Nat
  | .num _ => (typeLen ((entryOf key).elim 0 (·.type))).getD 0
  | .blob b => b.length

/-- Value bytes of a draft (R669). -/
def draftBytes (l : List (Nat × DVal)) : Nat := (l.map fun (k, v) => v.size k).sum

/-- DESC_USED: descriptor store entries in use (R183, R197). -/
def State.descUsed (s : State) (c : Nat) : Nat := ((s.ctx c).descs.filter fun d => d.2.isSome).length

/-- SCRUB_PENDING (R197): bytes of the former or new shares that are not yet zero. -/
def State.scrubPending (s : State) (c : Nat) : Nat :=
  let l := (s.ctx c).life
  s.scrubBytes ((l.former ++ if l.state == .creating then s.shares c else []).eraseDups)

/-- A number that is state and no configuration; none where the entry holds a configured or fixed number. -/
def State.stateNum (s : State) (self base rec' sub : Nat) : Option Nat :=
  let i2n := fun (x : Int) => (BitVec.ofInt 32 x).toNat
  let c := s.ctx rec'
  let g := s.group rec'
  let k := s.link rec'
  match base, sub with
  | 0x1000, 3 => some (b2n s.ident.grade.isB22)
  | 0x1000, 4 => some (b2n s.ident.steppingB0)
  | 0x1000, 6 => some s.ident.bootCount.toNat
  | 0x1000, 7 => some self
  | 0x1010, 1 => some s.coreMask
  | 0x1010, 2 => some (s.coreClock * 100000000)
  | 0x1040, 5 => some s.mgmt.formFails.toNat
  | 0x1050, 1 => some (b2n (s.mgmt.keys.get none rec').isSome)
  | 0x1050, 2 => some (s.mgmt.lastSeq.get 0 rec').toNat
  | 0x1050, 3 => some (s.mgmt.authFails.get 0 rec').toNat
  | 0x2000, 1 => some s.sets.activeVersion.toNat
  | 0x2000, 2 => some s.sets.previousVersion.toNat
  | 0x2000, 3 => some s.sets.draftState.code
  | 0x2000, 4 => some s.sets.draft.length
  | 0x2000, 5 => some (draftBytes s.sets.draft)
  | 0x2000, 7 => some s.sets.actTick.toNat
  | 0x2000, 8 => some (b2n s.sets.groupScope)
  | 0x2000, 9 => some s.sets.commitId.toNat
  | 0x2000, 10 => some s.sets.status
  | 0x2000, 11 => some s.sets.checkReason
  | 0x2000, 12 => some s.sets.checkEntry
  | 0x2000, 13 => some s.sets.terminalTick.toNat
  | 0x2000, 14 => some (s.sets.pending.elim 0 fun p => p.actTick.toNat)
  | 0x2000, 15 => some s.sets.lastActTick.toNat
  | 0x2000, 16 => some s.sets.vetoAddr.toNat
  | 0x2000, 17 => some (b2n s.sets.holdoverFlag)
  | 0x3000, 2 => some (s.cfgNum 0x8000 2)
  | 0x3000, 3 => some s.ident.staticW
  | 0x3000, 7 => some s.energy.scale
  | 0x3000, 8 => some (i2n s.energy.reconError)
  | 0x3000, 9 => some s.energy.measured
  | 0x3000, 10 => some s.energy.powerState
  | 0x3000, 12 => some (i2n s.energy.junctionMc)
  | 0x3000, 13 => some (b2n s.energy.thermalWarn)
  | 0x3100, 2 => some (i2n c.energy.balance)
  | 0x3100, 3 => some (b2n c.energy.governed)
  | 0x3100, 5 => some c.energy.deferrals.toNat
  | 0x4000, 6 => some s.discardedInactive.toNat
  | 0x4100, 1 => some c.life.state.code
  | 0x4100, 7 => some c.life.jobs.toNat
  | 0x4100, 8 => some c.life.createTick.toNat
  | 0x4100, 9 => some c.life.teardownTick.toNat
  | 0x4100, 10 => some c.life.cause
  | 0x4300, 6 => some (c.rosters.filter fun r => r.2.isSome).length
  | 0x5100, 1 => some c.quill.bal.length
  | 0x5100, 3 => some c.quill.balLastAct.toNat
  | 0x5200, 4 => some c.quill.dropped.toNat
  | 0x5200, 5 => some c.quill.spilled.toNat
  | 0x5200, 6 => some c.quill.exited.toNat
  | 0x6000, 1 => some g.state.code
  | 0x6000, 4 => some g.size
  | 0x6000, 5 => some (s.rankIn rec')
  | 0x6000, 6 => some g.generation.toNat
  | 0x6000, 7 => some g.abortCode.toNat
  | 0x6000, 8 => some g.abortTick.toNat
  | 0x6000, 9 => some g.abortRank.toNat
  | 0x6000, 10 => some g.aborts.toNat
  | 0x7000, 1 => some s.fw.fwVersion.toNat
  | 0x7000, 3 => some s.fw.securityVersion
  | 0x7000, 4 => some s.safety.rollback
  | 0x7000, 5 => some s.fw.bootSlot
  | 0x7000, 6 => some s.fw.bootCause
  | 0x7000, 7 => some s.fw.trial
  | 0x7000, 8 => some s.slotBytes
  | 0x7010, 2 => some (b2n s.fw.flashBusy)
  | 0x7010, 7 =>
    let other := 1 - s.fw.bootSlot
    some (if s.headerOk other then field (s.imageHeader other) 8 4 else 0)
  | 0x7020, 2 => some s.fw.logSeq.toNat
  | 0x7020, 3 => some s.fw.logOverwritten.toNat
  | 0x8000, 4 => some (b2n s.safety.tripped)
  | 0x8000, 5 => some s.safety.tripCause
  | 0x8000, 6 => some s.safety.tripTick.toNat
  | 0x8000, 7 => some s.safety.refusedWrites.toNat
  | 0x8000, 10 => some s.safety.rollback
  | 0x8010, 1 => some (s.fwKeyState rec')
  | 0x8020, 3 => some (s.safety.railMv.get 0 rec').toNat
  | 0x9000, 1 => some s.topo.selfAddr.toNat
  | 0x9000, 2 => some s.topo.extents.toNat
  | 0x9000, 3 => some s.topo.leadAddr.toNat
  | 0x9000, 5 => some s.topo.mapVersion.toNat
  | 0x9010, 3 => some s.topo.role.toNat
  | 0x9010, 4 => some s.topo.leadEpoch.toNat
  | 0x9010, 5 => some s.topo.leadChangeTick.toNat
  | 0x9020, 3 => some s.pair.state
  | 0x9020, 5 => some s.pair.divergeTick.toNat
  | 0x9020, 6 => some s.pair.divergeCtx.val
  | 0x9020, 7 => some s.pair.divergeCmd.toNat
  | 0x9020, 8 => some s.pair.promoteTick.toNat
  | 0x9100, 1 => some k.state.code
  | 0x9100, 3 => some k.peerAddr.toNat
  | 0x9100, 4 => some k.peerLink.toNat
  | 0x9100, 5 => some k.fecCorrected.toNat
  | 0x9100, 6 => some k.replays.toNat
  | 0x9100, 7 => some k.downEvents.toNat
  | 0x9100, 8 => some k.lastDownTick.toNat
  | 0x9100, 9 => some k.idFailures.toNat
  | 0x9200, 2 => some c.unroutable.toNat
  | 0xA000, 1 => some s.now
  | 0xA000, 2 => some s.tick.state.toNat
  | 0xA000, 3 => some s.tick.masterAddr.toNat
  | 0xA000, 4 => some (if s.tick.state = 0 ∨ s.tick.state = 1 then 0xFF else s.tick.upstream.elim 0xFF (·.val))
  | 0xA000, 5 => some s.tick.depth.toNat
  | 0xA000, 6 => some s.tick.elapsedNow.toNat
  | 0xA001, 0 => none
  | 0xA001, n => some (s.tick.hopDelay.get 0xFFFFFFFF (n - 1)).toNat
  | 0xB100, 1 => some c.flags.toNat
  | 0xB200, 1 => some (if rec' < 14 then 1 else if (s.loadedGlyph rec').isEmpty then 0 else 2)
  | 0xB200, 2 => some (if rec' < 14 then rec' else field (s.loadedGlyph rec') 4 2)
  | 0xB200, 3 => some (b2n (s.slotQuarter rec'))
  | 0xC000, 7 => some s.hbm.eccCorrected.toNat
  | 0xC000, 8 => some s.hbm.eccUncorrectable.toNat
  | 0xC100, 8 => some (s.descUsed rec')
  | 0xC100, 9 => some c.oobCount.toNat
  | 0xC100, 11 => some (s.scrubPending rec')
  | 0xD100, 18 => some c.serving.step
  | 0xD100, 19 => some (s.activeSeqs rec').length
  | 0xD100, 20 => some c.serving.refused.toNat
  | 0xD100, 21 => some c.serving.fallbacks.toNat
  | 0xD100, 22 => some c.serving.misses.toNat
  | _, _ => none

/-- A log record's 32 bytes (R721). -/
def LogRec.bytes (r : LogRec) : Bytes :=
  toLe 8 r.tick.toNat ++ toLe 4 r.seq.toNat ++ toLe 1 r.severity ++ toLe 1 r.source ++ toLe 2 r.code ++
    (List.range 4).flatMap fun i => toLe 4 (r.args.getD i 0)

/-- The 2,048 record positions of the log ring, oldest first (R727). -/
def State.logBytes (s : State) : Bytes := slice (s.fw.log.flatMap LogRec.bytes) 0 65536

/-- A byte of the 8 MiB of control SRAM (R399, R643, R707, R721): the firmware's body and data; the member pool, in which the
model puts the lists of the groups one after another (log entry 63); the snapshot buffer; the log ring, oldest first. -/
def State.controlSram (s : State) (off : Nat) : Byte :=
  if off < 0x4F0000 then (s.ctlMem.readBytes off 1).headD 0
  else if off < 0x6F0000 then
    ((List.range 4096).flatMap fun g => (s.group g).memberList.flatMap fun m => toLe 2 m.toNat).getD (off - 0x4F0000) 0
  else if off < 0x7F0000 then (s.mgmt.snap.elim [] (·.1)).getD (off - 0x6F0000) 0
  else s.logBytes.getD (off - 0x7F0000) 0

/-- A sequence-table entry's 64 bytes (R557). -/
def SeqEntry.bytes (e : SeqEntry) (c : Nat) : Bytes :=
  if !e.active then List.replicate 64 0
  else
    toLe 4 e.seqId.toNat ++ toLe 4 e.position.toNat ++ toLe 1 c ++ [1] ++ toLe 2 e.kvDesc.toNat ++ List.replicate 4 0 ++
      toLe 8 e.bitmapPtr ++ toLe 8 e.joinStep ++ toLe 8 e.joinTick.toNat ++ List.replicate 24 0

/-- The attestation report of context n with a nonce (R775). -/
def State.attestReport (s : State) (n : Nat) (nonce : Bytes) : Bytes :=
  let body := toLe 4 1 ++ toLe 1 n ++ toLe 1 (s.cfgNum 0x8000 3) ++ [0, 0] ++ s.serialBytes ++ slice nonce 0 32 ++ toLe 8 s.now ++
    toLe 4 s.fw.fwVersion.toNat ++ toLe 4 s.fw.securityVersion ++ slice s.fw.fwDigest 0 48 ++ s.signature ++
    toLe 8 (s.ctx n).life.createTick.toNat ++ List.replicate 16 0
  body ++ slice (Config.ecdsaSign body) 0 96

/-- The bytes of ORDER_CODE (R661). -/
def State.orderCode (s : State) : Bytes :=
  [0x5A, 0x4C, 0x51, 0x2D, 0x32, 0x2D] ++ if s.ident.grade.isB22 then [0x42, 0x32, 0x32] else [0x41, 0x32, 0x35]

/-- A BLOB or STR that is state; none where the entry holds configured bytes. MGMT_IPV4 lists the most significant byte
first, an order that the spec does not state (DESIGN CHOICE, log entry 84). -/
def State.stateBlob (s : State) (base rec' sub : Nat) : Option Bytes :=
  match base, sub with
  | 0x1000, 1 => some s.serialBytes
  | 0x1000, 2 => some s.orderCode
  | 0x1040, 4 => some (Sha.toBe 4 s.mgmt.ipv4.toNat)
  | 0x6000, 2 => some (if (s.group rec').state == .free then [] else (s.group rec').entry)
  | 0x6000, 3 => some ((s.group rec').memberList.flatMap fun m => toLe 2 m.toNat)
  | 0x7000, 2 => some (slice s.fw.fwDigest 0 48)
  | 0x7020, 1 => some s.logBytes
  | 0x8010, 2 => some (slice ((s.safety.fwKeys.get none rec').getD []) 0 96)
  | 0x8100, 1 => some (s.attestReport rec' [])
  | 0x9000, 6 => some ((List.range 65536).flatMap fun a => toLe 8 (s.mapEntry a).word)
  | 0xB000, 2 => some s.signature
  | 0xB200, 4 => some (
    if rec' < 14 then Sha.sha384 (romImage rec')
    else if (s.loadedGlyph rec').isEmpty then List.replicate 48 0 else Sha.sha384 (s.loadedGlyph rec'))
  | 0xB200, 5 => some (s.loadedGlyph rec')
  | 0xD100, 23 => some ((List.range (s.cfgNum (0xD100 + rec') 2)).flatMap fun i => ((s.ctx rec').serving.entry i).bytes rec')
  | _, _ => none

/-- The value in force of an entry as a path of context `self` reads it (R629, R633, R659, R668). A write-only entry
reads 0 (R8): a number as 0, and a BLOB, for which R8 states no length, as the empty value (DESIGN CHOICE, log entry
40). -/
def State.entryValue (s : State) (self : Nat) (e : Entry) (key : Nat) (access : Access) : Bytes :=
  let idx := key / 256
  let sub := key % 256
  if e.type = 8 ∨ e.type = 7 then
    if access = .wo then [] else (s.stateBlob e.base (idx - e.base) sub).getD (s.cfgBlob idx sub)
  else
    let n := if access = .wo then 0 else (s.stateNum self e.base (idx - e.base) sub).getD (s.cfgNum idx sub)
    toLe ((typeLen e.type).getD 0) n

end Sys2Proof.Machine
end

