-- ==== Sys2Proof/Machine/Check.lean ====
section
/-! DEFINITION. The configuration check: the reasons of R676 and the rules they name, tested on the draft as if it were
activated over the configuration in force together with any pending set (R675). -/

namespace Sys2Proof.Machine

/-- Items of a set. -/
abbrev Items := List (Nat × DVal)

/-- A failing reason with the key of the entry it names (R675, R676). -/
abbrev Failure := Nat × Nat

/-- An entry that acts once at activation and holds no configuration (R684, R697 to R728, R754, R777). -/
def oneShot (key : Nat) : Bool :=
  let idx := key / 256
  let sub := key % 256
  (decide (0x4100 ≤ idx ∧ idx < 0x4140) && sub == 2) ||
    [ekey 0x9000 7, ekey 0x7010 4, ekey 0x7010 5, ekey 0x7010 6, ekey 0x3000 0x0B, ekey 0x8000 8, ekey 0x8000 9].contains key

/-- The value of a staged item, if a set stages the entry. -/
def Items.find (l : Items) (key : Nat) : Option DVal := (List.find? (fun i : Nat × DVal => i.1 == key) l).map (·.2)

/-- The number a set stages for an entry. -/
def Items.num (l : Items) (idx sub : Nat) : Option Nat :=
  match l.find (ekey idx sub) with
  | some (.num v) => some v
  | _ => none

/-- The bytes a set stages for an entry. -/
def Items.blob (l : Items) (idx sub : Nat) : Option Bytes :=
  match l.find (ekey idx sub) with
  | some (.blob b) => some b
  | _ => none

/-- The value an entry holds when nothing is listed for it. -/
def defaultVal (key : Nat) : DVal → DVal
  | .num _ => .num (defaultNum key)
  | .blob _ => .blob (defaultBlob key)

/-- Puts a value into the configuration, which lists only what differs from the defaults. -/
def cfgPut (m : SMap DVal) (key : Nat) (v : DVal) : SMap DVal := if v = defaultVal key v then m.del key else m.put key v

/-- The action a set stages for context n: 1 CREATE, 2 DESTROY, 3 SUSPEND, 4 RESUME (R499). -/
def Items.action (l : Items) (n : Nat) : Nat := (l.num (0x4100 + n) 2).getD 0

/-- The context whose per-context record a key lies in (R657). -/
def contextOf (key : Nat) : Option Nat :=
  match entryOf key with
  | none => none
  | some e => if e.perCtx then some (key / 256 - e.base) else none

/-- A key of the records of a context that the set creates (R631). -/
def Items.creates (l : Items) (key : Nat) : Bool :=
  match contextOf key with
  | none => false
  | some n => l.action n == 1

/-- The configuration with the items of a set over it; the entries of a context it creates take their defaults again,
but for those it stages (R631). -/
def applyItems (m : SMap DVal) (l : Items) : SMap DVal :=
  (l.filter fun i => !oneShot i.1).foldl (fun m (k, v) => cfgPut m k v) (m.filter fun (k, _) => !l.creates k)

/-- The state with the items' values in force. -/
def State.withItems (s : State) (l : Items) : State := { s with cfg := applyItems s.cfg l }

/-- Items of the pending set. -/
def State.pendingItems (s : State) : Items :=
  match s.sets.pending with
  | none => []
  | some p => p.items

/-- The state of a context with the actions of the pending set applied (R500). -/
def State.stateAtCheck (s : State) (n : Nat) : CtxState :=
  match s.pendingItems.action n with
  | 1 => .creating
  | 2 => .tearingDown
  | 3 => .suspended
  | 4 => .live
  | _ => (s.ctx n).life.state

/-- What a check looks at: the state, the values before and after the set, and the set. -/
structure Checking where
  s : State
  old : State
  new : State
  items : Items

/-- The check of a set on a state. -/
def State.checking (s : State) (items : Items) : Checking :=
  let old := s.withItems s.pendingItems
  { s := s, old := old, new := old.withItems items, items := items }

/-- A set changes a number. -/
def Checking.changes (k : Checking) (idx sub : Nat) : Bool := k.old.cfgNum idx sub != k.new.cfgNum idx sub

/-- The 64 contexts. -/
def allCtx : List Nat := List.range 64

/-- The key when a condition holds. -/
def failIf (b : Bool) (reason idx sub : Nat) : List Failure := if b then [(reason, ekey idx sub)] else []

/-- The lowest staged key of a record kind, else the first of the kind. -/
def Checking.stagedOf (k : Checking) (base n sub : Nat) : Nat :=
  let keys := ((k.items ++ k.s.pendingItems).map (·.1)).filter fun x =>
    decide (base ≤ x / 256) && decide (x / 256 < base + n) && x % 256 == sub
  keys.foldl min (if keys.isEmpty then ekey base sub else ekey 0xFFFF 0xFF)

/-! ## The rules by reason -/

/-- Keys of BASE and SIZE of context n's share of a memory: 0 to 2 of record 0xC100, 3 staging. -/
def shareKey (n m : Nat) : Nat × Nat := if m = 3 then (0x5200 + n, 1) else (0xC100 + n, 2 * m + 1)

/-- Bytes of a memory that shares partition (R155, R343). -/
def shareLimit : Nat → Nat
  | 0 => Config.sramBytes
  | 1 => Config.hbmBytes
  | 2 => Config.reservoirBytes
  | _ => Config.stagingBytes

/-- SHARES (R155 to R157, R198, R343). -/
def Checking.shares (k : Checking) : List Failure :=
  (allCtx.flatMap fun n => [0, 1, 2, 3].flatMap fun m =>
    let (idx, sub) := shareKey n m
    let unit := unitBytes (spaceMem m)
    let base := k.new.shareBase n m
    let size := k.new.shareFull n m
    let clash := (List.range n).any fun j =>
      decide (0 < size) && decide (0 < k.new.shareFull j m) && decide (base < k.new.shareBase j m + k.new.shareFull j m) &&
        decide (k.new.shareBase j m < base + size)
    let exists_ := k.s.stateAtCheck n != .free
    failIf (base % unit != 0 || decide (shareLimit m < base) || clash || (exists_ && k.changes idx sub)) 1 idx sub ++
      failIf (size % unit != 0 || decide (shareLimit m < base + size) || (exists_ && k.changes idx (sub + 1))) 1 idx (sub + 1)) ++
  allCtx.flatMap fun n => failIf (k.s.stateAtCheck n != .free && k.changes (0xC100 + n) 7) 1 (0xC100 + n) 7

/-- DESC_QUOTA (R183). -/
def Checking.quota (k : Checking) : List Failure :=
  if Config.descStore < (allCtx.map k.new.quota).sum then [(2, k.stagedOf 0xC100 64 7)] else []

/-- CONTEXT_ACTION (R500). -/
def Checking.actions (k : Checking) : List Failure :=
  allCtx.flatMap fun n =>
    let st := k.s.stateAtCheck n
    let waiting := st == .creating && (k.s.ctx n).life.suspendOnCreate
    let bad := match k.items.action n with
      | 1 => st != .free
      | 2 => st == .free || n == 0
      | 3 => st == .free || n == 0 || st == .suspended
      | 4 => st == .free || (st != .suspended && !waiting)
      | _ => false
    failIf bad 3 (0x4100 + n) 2 ++
      failIf (k.items.action n == 1 && decide (k.new.shareFull n 0 < 393216)) 3 (0xC100 + n) 2

/-- The context will be LIVE, SUSPENDED or CREATING at activation (R513). -/
def Checking.present (k : Checking) (n : Nat) : Bool :=
  let st := k.s.stateAtCheck n
  (k.items.action n == 1 || st == .live || st == .suspended || st == .creating) && k.items.action n != 2

/-- The contexts a ruling table names. -/
def tableContexts (t : Bytes) : List Nat := ((t.map BitVec.toNat).filter fun b => decide (b < 64)).eraseDups

/-- RULING (R505, R508, R513). -/
def Checking.ruling (k : Checking) : List Failure :=
  (List.range 47).flatMap fun e =>
    let t := k.new.cfgBlob (0x4200 + e) 2
    let named := tableContexts t
    let before := tableContexts (k.old.cfgBlob (0x4200 + e) 2)
    let removed := before.any fun n => k.s.stateAtCheck n == .live && !named.contains n && k.items.action n != 3
    failIf (!powerOfTwoIn (k.new.cfgNum (0x4200 + e) 1) 128 8192) 4 (0x4200 + e) 1 ++
      failIf ((t.any fun b => decide (0x41 < b.toNat)) || (named.any fun n => !k.present n) ||
        (decide (e < 32) && (decide (4 < named.length) || removed))) 4 (0x4200 + e) 2

/-- GLYPH (R121). -/
def Checking.glyphs (k : Checking) : List Failure :=
  (List.range 64).flatMap fun i => match k.items.blob (0xB200 + i) 5 with
    | none => []
    | some b => failIf (decide (i < 16) || !(b.isEmpty || glyphOk b)) 5 (0xB200 + i) 5

/-- ENTRY and MEMBER_LIST of a group as a set would leave them. -/
def Checking.groupImage (k : Checking) (g : Nat) : Bytes × Bytes := (k.new.cfgBlob (0x6000 + g) 2, k.new.cfgBlob (0x6000 + g) 3)

/-- The addresses of a member list (R399). -/
def parseMembers (b : Bytes) : List (BitVec 16) := tabulate (fun i => BitVec.ofNat 16 (field b (2 * i) 2)) (b.length / 2)

/-- The entry breaks a field rule of R397 or leaves an axis (R402). -/
def State.groupEntryBad (s : State) (e : Bytes) : Bool :=
  let kind := field e 0 1
  let mask := field e 3 1 % 16
  let axis := fun a => (bit mask a, coordOf (field e 4 2) a, coordOf (field e 6 2) a)
  decide (1 < kind) || decide (1 < field e 1 1) || decide (63 < field e 2 1) || decide (field e 12 4 < 1024) ||
    (if kind = 0 then field e 8 4 != 0 else decide (field e 8 4 = 0 ∨ 65536 < field e 8 4)) ||
    (List.range 4).any fun a =>
      let (on, o, x) := axis a
      if on then decide (s.axisExtent a < o + x + 1) else o != 0 || x != 0

/-- The members an entry and a list name on this device, in canonical order (R398 to R400). -/
def State.groupMembers (s : State) (e list : Bytes) : List (BitVec 16) :=
  if field e 0 1 = 1 then parseMembers list
  else
    let mask := field e 3 1 % 16
    let range := fun a =>
      if bit mask a then tabulate (fun i => coordOf (field e 4 2) a + i) (coordOf (field e 6 2) a + 1)
      else [coordOf s.topo.selfAddr.toNat a]
    let put := fun (l : List Nat) a => l.flatMap fun x => (range a).map fun v => withCoord x a v
    (sortBy id ((List.range 4).foldl put [0])).map (BitVec.ofNat 16)

/-- GROUP (R397 to R402). A group whose staged ENTRY is empty leaves the table (log entry 38). -/
def Checking.groups (k : Checking) : List Failure :=
  let staged := (((k.items.map (·.1 / 256)).filter fun i => decide (0x6000 ≤ i ∧ i < 0x7000)).map (· - 0x6000)).eraseDups
  let pool := (((List.range 4096).filter fun g => (k.new.group g).state != .free || staged.contains g).map fun g =>
    (k.groupImage g).2.length / 2).sum
  staged.flatMap fun g =>
    let (e, list) := k.groupImage g
    if e.isEmpty then []
    else
      let members := k.new.groupMembers e list
      let explicit := field e 0 1 == 1
      let lacks := !members.contains k.s.topo.selfAddr
      failIf (k.new.groupEntryBad e || (!explicit && lacks)) 6 (0x6000 + g) 2 ++
        failIf (explicit && (members.isEmpty || members.eraseDups.length != members.length || lacks ||
          members.length != field e 8 4 || decide (1048576 < pool))) 6 (0x6000 + g) 3

/-- CREDITS (R465). -/
def Checking.credits (k : Checking) : List Failure :=
  if 2048 < (allCtx.map fun n => k.new.cfgNum (0x9200 + n) 1).sum then [(7, k.stagedOf 0x9200 64 1)] else []

/-- ADMIT (R484, R486). -/
def Checking.admitOne (k : Checking) : List Failure :=
  match k.items.num 0x9000 7 with
  | none => []
  | some a =>
    let e := k.s.mapEntry a
    failIf (e.dev != .quarantined || e.conflict || e.signature != BitVec.ofNat 128 (leNat k.s.signature) ||
      e.extents != k.s.topo.extents) 8 0x9000 7

/-- SERVING (R556). -/
def Checking.serving (k : Checking) : List Failure :=
  allCtx.flatMap fun n =>
    let idx := 0xD100 + n
    let base := k.new.cfgNum idx 1
    let size := k.new.cfgNum idx 2
    let clash := (List.range n).any fun j =>
      let b := k.new.cfgNum (0xD100 + j) 1
      let z := k.new.cfgNum (0xD100 + j) 2
      decide (0 < size) && decide (0 < z) && decide (base < b + z) && decide (b < base + size)
    let exists_ := k.s.stateAtCheck n != .free
    failIf (clash || (exists_ && k.changes idx 1)) 9 idx 1 ++
      failIf (decide (0 < size ∧ 16384 < base + size) || (exists_ && k.changes idx 2)) 9 idx 2 ++
      failIf (k.items.num idx 3 == some 0 && !(k.s.activeSeqs n).isEmpty) 9 idx 3

/-- LEAD (R594). -/
def Checking.lead (k : Checking) : List Failure :=
  let known := fun a => (k.s.mapEntry a).dev == .present || (k.s.mapEntry a).dev == .admitted
  let lead := k.new.cfgNum 0x9010 1
  let standby := k.new.cfgNum 0x9010 2
  failIf ((k.items.num 0x9010 1).isSome && (!known lead || standby == lead)) 10 0x9010 1 ++
    failIf ((k.items.num 0x9010 2).isSome && standby != 0xFFFF && (!known standby || standby == lead)) 10 0x9010 2

/-- The peer of a pair link matches this device (R602). -/
def State.pairLinkOk (s : State) (l : Nat) : Bool :=
  (s.link l).state == .up && match (s.link l).peerId with
    | none => false
    | some b => b.signature == BitVec.ofNat 128 (leNat s.signature) && b.grade == BitVec.ofNat 8 (b2n s.ident.grade.isB22) &&
        b.stepping == BitVec.ofNat 8 (b2n s.ident.steppingB0) && b.fwDigest == slice s.fw.fwDigest 0 48

/-- PAIR (R602); the partner's lag and contexts are free values (log entry 37). -/
def Checking.pair (k : Checking) : List Failure :=
  match k.items.num 0x9020 1 with
  | none => []
  | some 0 => []
  | some _ =>
    let busy := (allCtx.drop 1).any fun n => k.s.stateAtCheck n != .free
    let peers := (k.s.link 8).peerSerial == (k.s.link 9).peerSerial
    failIf (!k.s.pairLinkOk 8 || !k.s.pairLinkOk 9 || !peers || busy || !Config.partnerIdle k.s.now) 11 0x9020 1 ++
      failIf (k.new.cfgNum 0x9020 2 != Config.partnerLag k.s.now) 11 0x9020 2

/-- FIRMWARE (R719). -/
def Checking.firmware (k : Checking) : List Failure :=
  let busy := (allCtx.drop 1).any fun n => k.s.stateAtCheck n != .free
  failIf (match k.items.num 0x7010 3 with
    | none => false
    | some slot => k.s.headerStep slot != 0) 21 0x7010 3 ++
  failIf (k.items.num 0x7010 4 == some 1 && busy) 21 0x7010 4 ++
  failIf (k.items.num 0x7010 6 == some 1 && k.s.fw.trial == 1) 21 0x7010 6

/-- POWER (R735). -/
def Checking.power (k : Checking) : List Failure :=
  let cap := k.new.cfgNum 0x3000 1
  let carry := k.new.cfgNum 0x3000 5
  let live := (allCtx.drop 1).any fun n => k.s.stateAtCheck n == .live
  failIf (decide (k.new.cfgNum 0x8000 2 < cap ∨ cap ≤ k.s.ident.staticW)) 22 0x3000 1 ++
    failIf (!powerOfTwoIn (k.new.cfgNum 0x3000 4) 16384 1048576) 22 0x3000 4 ++
    failIf (decide (carry = 0 ∨ 256 < carry)) 22 0x3000 5 ++
    failIf (decide (1999999999 < k.new.cfgNum 0x3000 6)) 22 0x3000 6 ++
    failIf (k.items.num 0x3000 0x0B == some 3 && live) 22 0x3000 0x0B ++
    if 65536 < ((allCtx.drop 1).map fun n => k.new.cfgNum (0x3100 + n) 1).sum then [(22, k.stagedOf 0x3100 64 1)] else []

/-- The highest absolute maximum of each rail in mV (R838). -/
def railMax : List Nat :=
  [900, 900, 900, 900, 900, 950, 1200, 850, 2100, 1000, 1400, 1000, 1050, 900, 2100, 3800]

/-- SAFETY (R765, R772). -/
def Checking.safety (k : Checking) : List Failure :=
  let trip := k.new.cfgNum 0x8000 1
  let ceiling := k.new.cfgNum 0x8000 2
  let busy := (allCtx.drop 1).any fun n => k.s.stateAtCheck n != .free
  let revoke := k.items.num 0x8000 8
  let left := fun (m : Nat) =>
    (List.range 4).any fun i => k.s.fwKeyState i == 1 && !bit m i && !k.s.safety.revokePending.contains i
  failIf ((k.items.num 0x8000 1).isSome && decide (trip < 100000 ∨ 110000 < trip)) 23 0x8000 1 ++
    failIf ((k.items.num 0x8000 2).isSome && decide (ceiling < 300 ∨ 1500 < ceiling)) 23 0x8000 2 ++
    failIf (k.old.cfgNum 0x8000 3 == 1 && k.new.cfgNum 0x8000 3 == 0 && busy) 23 0x8000 3 ++
    failIf (match revoke with
      | none => false
      | some m => bit m k.s.fw.keyIndex || !left m) 23 0x8000 8 ++
    failIf (match k.items.blob 0x8000 9 with
      | none => false
      | some b => decide (field b 0 1 = 0 ∨ 3 < field b 0 1)) 23 0x8000 9 ++
    ((allCtx.drop 1).flatMap fun n =>
      failIf (k.items.action n == 1 && k.new.cfgNum 0x8000 3 == 0) 23 (0x4100 + n) 2) ++
    (List.range 16).flatMap fun r =>
      let lo := k.new.cfgNum (0x8020 + r) 1
      let hi := k.new.cfgNum (0x8020 + r) 2
      failIf ((k.items.num (0x8020 + r) 1).isSome && decide (hi ≤ lo)) 23 (0x8020 + r) 1 ++
        failIf ((k.items.num (0x8020 + r) 2).isSome && decide (hi ≤ lo ∨ railMax.getD r 0 < hi)) 23 (0x8020 + r) 2

/-- BRING_UP (R876). -/
def Checking.bringUp (k : Checking) : List Failure :=
  (allCtx.drop 1).flatMap fun n =>
    failIf (k.items.action n == 1 && (k.s.tick.state == 0 || !k.s.hbm.failedStacks.isEmpty)) 24 (0x4100 + n) 2

/-- The failures of a set but for those of its command. -/
def Checking.failures (k : Checking) : List Failure :=
  k.shares ++ k.quota ++ k.actions ++ k.ruling ++ k.glyphs ++ k.groups ++ k.credits ++ k.admitOne ++ k.serving ++ k.lead ++
    k.pair ++ failIf (k.s.pair.role == 2 && decide (k.s.pair.state = 1)) 12 0x2000 6 ++ k.firmware ++ k.power ++ k.safety ++ k.bringUp

/-- One failure is reported before another: the lower reason, then the lower entry (R675, R676). -/
def failBefore (a b : Failure) : Bool := decide (a.1 < b.1) || (a.1 == b.1 && decide (a.2 < b.2))

/-- The failure that is reported. -/
def reported (l : List Failure) : Option Failure :=
  l.foldl (fun best f => match best with
    | none => some f
    | some b => if failBefore f b then some f else some b) none

/-- The check of a set with failures of its command beside it (R675). -/
def State.checkSet (s : State) (items : Items) (more : List Failure) : Option Failure :=
  reported ((s.checking items).failures ++ more)

/-- PENDING (R676): a set that is to become the pending set meets one. A CHECK takes a pending set as activated (R675). -/
def State.pendingFailure (s : State) : List Failure := failIf s.sets.pending.isSome 13 0x2000 6

end Sys2Proof.Machine
end

