-- ==== Sys2Proof/Machine/Sets.lean ====
section
/-! DEFINITION. Configuration sets: what the activation of a set does, and the commands CHECK, COMMIT, REVERT, DISCARD
and ABORT on one device and across a group (R593, R602 to R604, R623, R667 to R696, R715 to R718, R749, R766 to R771). -/

namespace Sys2Proof.Machine

/-! ## Activation -/

/-- The set's action on context n (R499, R501, R536, R892). -/
def State.actOn (s : State) (n action : Nat) : State :=
  match action with
  | 1 => match (s.ctx n).life.state with
    | .free => s.startCreate n
    | .tearingDown => s.updLife n fun l => { l with createWaits := true }
    | _ => s
  | 2 => s.teardown n 1
  | 3 => s.suspend n
  | 4 => s.resume n
  | _ => s

/-- A set stages an entry of a record. -/
def Items.stages (l : Items) (idx sub : Nat) : Bool := (l.find (ekey idx sub)).isSome

/-- The ruling changes of a set wait for their boundaries (R514). -/
def State.changeWheels (s : State) (l : Items) : State :=
  ((List.range 47).filter fun e => l.stages (0x4200 + e) 1 || l.stages (0x4200 + e) 2).foldl (fun s e =>
    let ch : WheelChange := { len := s.cfgNum (0x4200 + e) 1, table := s.cfgBlob (0x4200 + e) 2, from_ := s.tick.now }
    s.updWheel e fun w => { w with changes := w.changes ++ [ch] }) s

/-- A group's entry as the table holds it: AXIS_MASK[7:4] and bytes 16 to 31 are reserved (R397). -/
def groupEntry (e : Bytes) : Bytes :=
  if e.isEmpty then [] else e.take 3 ++ toLe 1 (field e 3 1 % 16) ++ slice e 4 12 ++ List.replicate 16 0

/-- Group g as a set leaves it (R397 to R403). -/
def State.activateGroup (s : State) (g : Nat) : State :=
  let e := groupEntry (s.cfgBlob (0x6000 + g) 2)
  let list := s.cfgBlob (0x6000 + g) 3
  if e.isEmpty then s.updGroup g fun _ => {}
  else s.updGroup g fun x =>
    { x with
      state := .active, entry := e, memberList := if field e 0 1 = 1 then parseMembers list else []
      members := s.groupMembers e list, generation := if x.state = .free then 1 else x.generation + 1
      detection := none, fixed := false }

/-- The groups of a set. -/
def State.activateGroups (s : State) (l : Items) : State :=
  ((((l.map (·.1 / 256)).filter fun i => decide (0x6000 ≤ i ∧ i < 0x7000)).map (· - 0x6000)).eraseDups).foldl
    (fun s g => s.activateGroup g) s

/-- The lead's part of a change of its map (R32, R476, R891). -/
def State.leadMap (s : State) (addrs : List Nat) : State :=
  if s.topo.role = 1 ∧ ¬ addrs.isEmpty then ((s.mapChanged addrs).chooseTree).newRoutes else s

/-- MAP_LOCK goes from 0 to 1: every PRESENT device is ADMITTED (R483). -/
def State.lockMap (s : State) : State :=
  let addrs := (s.topo.map.filter fun e => e.2.dev == .present).map (·.1)
  let s := addrs.foldl (fun s a => s.putEntry a { s.mapEntry a with dev := .admitted }) s
  s.leadMap addrs

/-- A staged ADMIT (R486). -/
def State.admitOne (s : State) (a : Nat) : State :=
  ((s.putEntry a { s.mapEntry a with dev := .admitted }).relink).leadMap [a]

/-- ENABLE of the links of a set (R477, R488). -/
def State.enableLinks (s : State) (l : Items) : State :=
  ((List.range 12).filter fun k => l.stages (0x9100 + k) 2).foldl (fun s k =>
    if s.linkEnabled k then
      if (s.link k).state = .disabled then s.updLink k fun x => { x with state := .down, since := s.tick.now, retryAt := s.tick.now }
      else s
    else (s.declareDown k).enter k .disabled) s

/-- LEAD_SET and STANDBY_SET (R478, R593, R594). -/
def State.appointLead (s : State) (l : Items) : State :=
  let lead := s.cfgNum 0x9010 1
  let self := s.topo.selfAddr.toNat
  let s :=
    if !l.stages 0x9010 1 || !s.topo.positioned then s
    else if lead = self then (if s.topo.role = 1 then s else s.takeLeadRole)
    else
      let s := if s.topo.role = 1 then s.yieldLead else s
      { s with topo := { s.topo with leadAddr := BitVec.ofNat 16 lead } }
  if !s.topo.positioned || s.topo.role = 1 then s
  else { s with topo := { s.topo with role := if s.cfgNum 0x9010 2 = self then 2 else 3 } }

/-- PAIR_ROLE: the pair forms, and the secondary takes its tick from L8, or is dissolved (R602 to R604, R623). -/
def State.setPair (s : State) (l : Items) : State :=
  match l.num 0x9020 1 with
  | none => s
  | some 0 =>
    let held := s.pair.suspended
    (held.foldl (fun s n => s.teardown n 1) s).updPair fun p =>
      { p with state := 0, role := 0, forwarded := [], digests := [], heldRecords := [], suspended := [] }
  | some r =>
    let s := s.updPair fun p =>
      { p with
        state := 1, role := r, lastBeat := s.tick.now, beatSent := s.tick.now, forwarded := [], digests := []
        heldRecords := [], suspended := [] }
    if r ≠ 2 then s
    else s.updTick fun t => 
      { t with upstream := some 8, freqLocked := false, downstream := [], measured := false, byMarker := false }

/-- Boot control, key and fuse entries of a set (R648, R715, R717, R718, R766, R767, R770). -/
def State.setSecure (s : State) (l : Items) : State :=
  let s := match l.num 0x7010 3 with
    | none => s
    | some slot => s.writeBoot slot 1 3
  let s := if l.num 0x7010 5 = some 1 then s.writeBoot s.fw.bootSlot 0 0 else s
  let s := if l.num 0x7010 6 = some 1 then
      { s with safety := { s.safety with rollbackTarget := max s.safety.rollbackTarget s.fw.securityVersion } }
    else s
  let s := match l.num 0x8000 8 with
    | none => s
    | some m => { s with safety := { s.safety with revokePending := s.safety.revokePending ++ (List.range 4).filter (bit m) } }
  match l.blob 0x8000 9 with
  | none => s
  | some b =>
    let k := field b 0 1
    { s with mgmt := { s.mgmt with
        keys := s.mgmt.keys.put k (some (slice b 1 32))
        lastSeq := s.mgmt.lastSeq.put k (BitVec.ofNat 64 (s.ident.bootCount.toNat * 2 ^ 40)), kept := s.mgmt.kept.del k } }

/-- POWER_REQUEST and TENANCY_LOCK of a set (R749, R771). -/
def State.setPower (s : State) (l : Items) : State :=
  let s := match l.num 0x3000 0x0B with
    | some 3 =>
      let s := s.enabledCores.foldl (fun s k => s.updCore k fun x => { x with asleep := true }) s
      { s with energy := { s.energy with retention := true, wakeAt := none } }
    | some _ =>
      if s.energy.retention then
        { s with energy := { s.energy with retention := false, wakeAt := some (s.tick.now + 1024) } }
      else s
    | none => s
  if s.cfgNum 0x8000 3 = 1 then { s with pcie := { s.pcie with numVfs := 63, vfEnable := true } } else s

/-- REBOOT of a set (R716). -/
def State.reboot (s : State) : State := s.powerOn.romStart

/-- Every change of a set takes effect (R679). -/
def State.activateItems (s : State) (l : Items) : State :=
  let locked := s.mapLocked
  let s := s.withItems l
  let s := allCtx.foldl (fun s n => s.actOn n (l.action n)) s
  let s := (s.changeWheels l).activateGroups l
  let s := if !locked && s.mapLocked then s.lockMap else s
  let s := match l.num 0x9000 7 with
    | none => s
    | some a => s.admitOne a
  let s := ((s.enableLinks l).appointLead l).setPair l
  let s := (s.setSecure l).setPower l
  if l.num 0x7010 4 = some 1 then s.reboot else s

/-- An item as the primary forwards it (R605). -/
def forwardItem (i : Nat × DVal) : WriteItem :=
  let ty := (entryOf i.1).elim 0 (·.type)
  { key := i.1, type := ty, value := match i.2 with
      | .num v => toLe ((typeLen ty).getD 0) v
      | .blob b => b }

/-- A forwarded item as a set holds it. -/
def itemOf (i : WriteItem) : Nat × DVal := (i.key, if i.type = 7 ∨ i.type = 8 then .blob i.value else .num (leNat i.value))

/-- The versions and the retained set at an activation (R683, R688, R692). -/
def State.newVersion (s : State) (v : BitVec 32) (group : Bool) : State :=
  { s with sets := { s.sets with
      previous := some s.cfg, previousVersion := s.sets.activeVersion, activeVersion := v, lastActTick := s.tick.now
      holdoverFlag := group && (s.tick.state == 0 || s.tick.state == 4) } }

/-- The pending set activates (R679 to R684, R692, R605). -/
def State.activate (s : State) (p : PendingSet) : State :=
  let s := s.newVersion (p.version.getD (s.sets.activeVersion + 1)) p.group
  let s := { s with sets := { s.sets with pending := none, service := if p.group then s.sets.service else none } }
  let s := if p.group then s else s.cfgTerminal 0 0 0
  let s := if s.pair.role = 1 ∧ s.pair.state = 1 then
      s.emit (.forward s.tick.now (.configSet (p.items.map forwardItem) s.tick.now)) else s
  s.activateItems p.items

/-- A trip keeps a set from activating at a tick: the sample that trips came by then, or the partition is TRIPPED, which
a power-on alone leaves (R763, R780). -/
def State.tripHolds (s : State) (t : Nat) : Bool :=
  s.safety.tripped || match s.safety.tripPending with
    | some (_, ts) => decide (ts.toNat ≤ t)
    | none => false

/-- SET_ACTIVATION (R679, R683, R692, R780): at the activation tick; on the secondary of a pair that is MIRRORING only
forwarded sets take effect (R606). -/
def execSetActivation (s : State) : Result :=
  .next (
    match s.sets.pending with
    | none => s
    | some p =>
      if s.now < p.actTick.toNat ∨ s.tripHolds p.actTick.toNat = true ∨ s.takesInputs = true then s else s.activate p)

/-- FUSE_PROGRAM (R767, R768): a bit is programmed and verified; after the last one of a change its value reads. -/
def execFuseProgram (s : State) : Result :=
  .next (
    if s.safety.blown < s.safety.rollbackTarget then
      let n := s.safety.blown + 1
      { s with safety := { s.safety with
          blown := n, rollback := if n = s.safety.rollbackTarget then n else s.safety.rollback } }
    else match s.safety.revokePending with
      | [] => s
      | k :: rest => { s with safety := { s.safety with
          revokePending := rest, revoked := if s.safety.revoked.contains k then s.safety.revoked else k :: s.safety.revoked } })

/-! ## Commands -/

/-- A write of CMD is accepted (R671, R673): one in a tick, and none but ABORT while a command is in service or a group
commit holds the draft. -/
def State.cmdAllowed (s : State) (v : Nat) : Bool :=
  s.fw.stage == 2 && s.sets.cmdTick != some s.tick.now &&
    (v == 5 || (s.sets.service.isNone && s.sets.draftState != .prepared))

/-- A command is given its COMMIT_ID (R674). -/
def State.newCommand (s : State) : State :=
  { s with sets := { s.sets with commitId := s.sets.commitId + 1, cmdTick := some s.tick.now } }

/-- A command whose check runs is in service (R675, R677). -/
def State.serve (s : State) (k : CfgCmd) (d : DraftState) : State :=
  { s with sets := { s.sets with
      service := some k, serviceDone := false, serviceTick := s.tick.now, serviceActTick := s.sets.actTick, draftState := d } }

/-- DISCARD (R672). -/
def State.cfgDiscard (s : State) : State :=
  { s.newCommand with sets := { s.newCommand.sets with draft := [], draftState := .empty } }.cfgTerminal 0 0 0

/-- The participants of a group commit (R685): before the map is locked the PRESENT devices count (log entry 39). -/
def State.participants (s : State) : List (BitVec 16) :=
  let b := s.cfgBlob 0x2010 1
  if b.isEmpty then ((s.topo.map.filter fun e => s.treeMember e.2).map fun e => BitVec.ofNat 16 e.1)
  else (parseMembers b).eraseDups

/-- A participant checks its draft and votes; it is PREPARED when the check passes (R686). -/
def State.prepareVote (s : State) (id : BitVec 32) (actTick : Word) (epoch : BitVec 32) : State × Vote :=
  let s := { s with sets := { s.sets with preparedEpoch := some epoch, preparedTick := actTick, preparedId := id } }
  match s.checkSet s.sets.draft s.pendingFailure with
  | some f => ({ s with sets := { s.sets with checkReason := f.1, checkEntry := f.2 } }, .veto f.1)
  | none =>
    let s := { s with sets := { s.sets with draftState := .prepared } }
    if s.tick.state = 1 ∨ s.tick.state = 2 ∨ s.tick.state = 3 then (s, .ready s.sets.activeVersion)
    else ({ s with sets := { s.sets with checkReason := 20 } }, .veto 20)

/-! The control messages of a group commit, the last in the order of R461; their bytes are the model's (log entry 13). -/

/-- PREPARE (R686). -/
def prepareBytes (id : BitVec 32) (act : Word) (epoch : BitVec 32) : Bytes :=
  ctlBytes 6 (toLe 4 id.toNat ++ toLe 8 act.toNat ++ toLe 4 epoch.toNat)

/-- A vote (R686). -/
def voteBytes (addr : BitVec 16) (v : Vote) : Bytes :=
  ctlBytes 6 (toLe 2 addr.toNat ++ match v with
    | .ready n => [0] ++ toLe 4 n.toNat
    | .veto r => [1] ++ toLe 4 r)

/-- The decision (R688). -/
def decisionBytes (version : Option (BitVec 32)) : Bytes :=
  ctlBytes 6 (match version with
    | none => [0]
    | some v => [1] ++ toLe 4 v.toNat)

/-- PREPARE goes out, or on, over the torus (R472, R686). -/
def State.sendPrepare (s : State) (id : BitVec 32) (act : Word) (epoch : BitVec 32) : State :=
  (s.emit (.prepare id act epoch)).flood (prepareBytes id act epoch)

/-- A vote goes one hop nearer the lead (R472, R686). -/
def State.passVote (s : State) (addr : BitVec 16) (v : Vote) : State :=
  match s.tick.upstream with
  | none => s
  | some l => s.queueControl l.val (voteBytes addr v)

/-- The decision goes out, or on, over the torus (R472, R688). -/
def State.sendDecision (s : State) (version : Option (BitVec 32)) : State :=
  (s.emit (.decision version)).flood (decisionBytes version)

/-- COMMIT with SCOPE GROUP (R685, R686). -/
def State.groupCommit (s : State) : State :=
  let act := s.sets.actTick.toNat
  let t := if act = 0 then s.now + 786432 else act
  match reported (failIf (s.topo.role != 1) 16 0x2000 8 ++ failIf (decide (t < s.now + 786432)) 14 0x2000 7) with
  | some f => s.cfgTerminal 9 f.1 f.2
  | none =>
    let who := s.participants
    let tt : Word := BitVec.ofNat 64 t
    let id := s.sets.commitId
    let s := { s with sets := { s.sets with
        service := some .commit, serviceDone := true, serviceTick := s.tick.now, serviceActTick := tt
        groupActTick := some tt, participants := who, votes := [] } }
    let s := s.sendPrepare id tt s.topo.leadEpoch
    if who.contains s.topo.selfAddr then
      let (s, v) := s.prepareVote id tt s.topo.leadEpoch
      { s with sets := { s.sets with votes := [(s.topo.selfAddr, v)] } }
    else s

/-- A group commit runs on this lead and is not decided. -/
def State.groupRuns (s : State) : Bool := s.sets.groupActTick.isSome

/-- An ABORT takes effect on a commit: the set is discarded, and both reach their status at this tick (R694). -/
def State.abortCommit (s : State) : State := (s.cfgTerminal 2 0 0).cfgTerminal 0 0 0

/-- ABORT (R693 to R695). -/
def State.cfgAbort (s : State) : State :=
  let s := s.newCommand
  if s.groupRuns then
    let held := s.sets.preparedEpoch.isSome
    let s := { s with sets := { s.sets with
        service := none, groupActTick := none, votes := [], preparedEpoch := none
        draft := if held then [] else s.sets.draft, draftState := if held then .empty else s.sets.draftState } }
    (s.abortCommit).sendDecision none
  else match s.sets.pending with
    | none => s.cfgTerminal 1 0 0
    | some p =>
      if p.group ∨ p.actTick.toNat ≤ s.now then s.cfgTerminal 1 0 0
      else { s with sets := { s.sets with pending := none, service := none } }.abortCommit

/-- A command of CMD runs (R672). -/
def State.runCmd (s : State) (v : Nat) : State :=
  if !s.cmdAllowed v then s
  else match v with
    | 1 => s.newCommand.serve .check .checking
    | 2 => if s.sets.groupScope then s.newCommand.groupCommit else s.newCommand.serve .commit .committing
    | 3 => s.newCommand.serve .revert s.sets.draftState
    | 4 => s.cfgDiscard
    | 5 => s.cfgAbort
    | _ => s

/-- CHECK (R672, R675). -/
def execCheck (s : State) : Result := .next (s.runCmd 1)
/-- COMMIT (R677, R685). -/
def execCommit (s : State) : Result := .next (s.runCmd 2)
/-- REVERT (R684). -/
def execRevert (s : State) : Result := .next (s.runCmd 3)
/-- DISCARD (R672). -/
def execDiscard (s : State) : Result := .next (s.runCmd 4)
/-- CONFIG_ABORT (R693 to R695). -/
def execConfigAbort (s : State) : Result := .next (s.runCmd 5)

/-! ## The end of a check -/

/-- The items of a REVERT: every entry a set can stage whose value differs from the previous set's (R684). -/
def revertItems (cfg previous : SMap DVal) : Items :=
  let keys := ((cfg.map (·.1) ++ previous.map (·.1)).eraseDups).filter fun k =>
    ((entryOf k).elim false (·.staged)) && !oneShot k
  let value := fun (m : SMap DVal) (k : Nat) => (m.find? fun i => i.1 == k).map (·.2)
  keys.filterMap fun k =>
    match value cfg k, value previous k with
    | a, some v => if a = some v then none else some (k, v)
    | some v, none => some (k, defaultVal k v)
    | none, none => none

/-- A set that has passed becomes the pending set (R678, R684). -/
def State.makePending (s : State) (items : Items) (t : Nat) : State :=
  { s with sets := { s.sets with
      serviceDone := true
      pending := some { items := items, actTick := BitVec.ofNat 64 t, commitId := s.sets.commitId } } }

/-- The end of the check of a COMMIT or REVERT at tick c = now (R677, R678). -/
def State.endCheck (s : State) (items : Items) (more : List Failure) : State :=
  let act := s.sets.serviceActTick.toNat
  let soon := act != 0 && decide (act < s.now + 1024)
  match s.checkSet items (more ++ s.pendingFailure ++ failIf soon 14 0x2000 7) with
  | some f => { s with sets := { s.sets with service := none } }.cfgTerminal 9 f.1 f.2
  | none => s.makePending items (if act = 0 then s.now + 1024 else act)

/-- The draft is OPEN while it holds items. -/
def CfgSets.openState (c : CfgSets) : DraftState := if c.draft.isEmpty then .empty else .opened

/-- The check of the command in service completes (R675 to R678, R684). -/
def State.endService (s : State) : State :=
  match s.sets.service with
  | none => s
  | some .check =>
    let s' := { s with sets := { s.sets with service := none } }
    match s.checkSet s.sets.draft [] with
    | some f => { s' with sets := { s'.sets with draftState := s.sets.openState } }.cfgTerminal 9 f.1 f.2
    | none =>
      let st := if s.sets.draft.isEmpty then DraftState.empty else .checked
      { s' with sets := { s'.sets with draftState := st } }.cfgTerminal 0 0 0
  | some .commit =>
    let s' := s.endCheck s.sets.draft []
    if s'.sets.serviceDone then { s' with sets := { s'.sets with draft := [], draftState := .empty } }
    else { s' with sets := { s'.sets with draftState := s.sets.openState } }
  | some .revert =>
    match s.sets.previous with
    | none => s.endCheck [] (failIf true 15 0x2000 6)
    | some old => s.endCheck (revertItems s.cfg old) []

/-- CHECK_DONE (R675 to R678, R684). -/
def execCheckDone (s : State) : Result :=
  .next (if s.sets.serviceDone || s.sets.service.isNone then s else s.endService.trace .check)

/-! ## Group commits -/

/-- PREPARE_RECEIVE (R686): a participant votes and relays the PREPARE, once; one of a lower epoch is not obeyed (R597). -/
def execPrepareReceive (commitId : BitVec 32) (actTick : Word) (epoch : BitVec 32) (s : State) : Result :=
  .next (
    let known := s.sets.preparedEpoch = some epoch ∧ s.sets.preparedId = commitId
    if s.topo.role = 1 ∨ epoch.toNat < s.topo.leadEpoch.toNat ∨ known then s
    else
      let (s, v) := s.prepareVote commitId actTick epoch
      ((s.emit (.vote v)).passVote s.topo.selfAddr v).sendPrepare commitId actTick epoch)

/-- VOTE_RECEIVE (R687): on its way to the lead another device passes it on (R472). -/
def execVoteReceive (addr : BitVec 16) (v : Vote) (s : State) : Result :=
  .next (
    if s.topo.role ≠ 1 then s.passVote addr v
    else if s.groupRuns && s.sets.participants.contains addr && !(s.sets.votes.any fun x => x.1 == addr) then
      { s with sets := { s.sets with votes := s.sets.votes ++ [(addr, v)] } }
    else s)

/-- The first VETO of the votes in order of arrival. -/
def firstVeto : List (BitVec 16 × Vote) → Option (BitVec 16 × Nat)
  | [] => none
  | (a, .veto r) :: _ => some (a, r)
  | (_, .ready _) :: t => firstVeto t

/-- The largest ACTIVE_VERSION voted. -/
def maxVersion (l : List (BitVec 16 × Vote)) : Nat :=
  l.foldl (fun m x => match x.2 with
    | .ready v => max m v.toNat
    | .veto _ => m) 0

/-- The prepared draft becomes the pending set with the group's version, or is discarded (R688, R689). -/
def State.decided (s : State) (version : Option (BitVec 32)) : State :=
  let held := s.sets.preparedEpoch.isSome
  let ready := held && s.sets.draftState == .prepared
  let p : PendingSet :=
    { items := s.sets.draft, actTick := s.sets.preparedTick, commitId := s.sets.preparedId, version := version, group := true }
  { s with sets := { s.sets with
      pending := if version.isSome && ready then some p else s.sets.pending
      draft := if held then [] else s.sets.draft, draftState := if held then .empty else s.sets.draftState
      preparedEpoch := none, groupActTick := none
      service := if s.groupRuns then none else s.sets.service } }

/-- COMMIT_DECIDE (R687 to R689): at the first VETO, the last READY, or ACT_TICK − 65,536. -/
def execCommitDecide (s : State) : Result :=
  .next (
    match s.sets.groupActTick with
    | none => s
    | some t =>
      let missing := s.sets.participants.filter fun a => !(s.sets.votes.any fun x => x.1 == a)
      let veto := match firstVeto s.sets.votes with
        | some v => some v
        | none => (sortBy BitVec.toNat missing).head?.map fun a => (a, 17)
      match firstVeto s.sets.votes, missing with
      | none, [] =>
        let v : BitVec 32 := BitVec.ofNat 32 (maxVersion s.sets.votes + 1)
        ((s.decided (some v)).cfgTerminal 0 0 0).sendDecision (some v)
      | none, _ :: _ =>
        if s.now + 65536 < t.toNat then s
        else
          let (a, r) := veto.getD (0, 17)
          let s := (s.decided none).cfgTerminal 0x0A r 0
          { s with sets := { s.sets with vetoAddr := a } }.sendDecision none
      | some (a, r), _ =>
        let s := (s.decided none).cfgTerminal 0x0A r 0
        { s with sets := { s.sets with vetoAddr := a } }.sendDecision none)

/-- DECISION_RECEIVE (R688, R689): a participant that has had the PREPARE takes the decision and relays it. -/
def execDecisionReceive (version : Option (BitVec 32)) (s : State) : Result :=
  .next (
    if s.groupRuns || s.sets.preparedEpoch.isNone then s
    else if version.isSome then ((s.decided version).cfgTerminal 0 0 0).sendDecision version
    else ((s.decided none).cfgTerminal 0x0A s.sets.checkReason 0).sendDecision none)

/-- NO_DECISION (R690). -/
def execNoDecision (s : State) : Result :=
  .next (
    if s.groupRuns = false ∧ s.sets.draftState = .prepared ∧ s.sets.preparedTick.toNat ≤ s.now + 16384 then
      (s.decided none).cfgTerminal 0x0A 18 0
    else s)

end Sys2Proof.Machine
end

