-- ==== Sys2Proof/Machine/Apply.lean ====
section
/-! DEFINITION. The secondary applies a forwarded input at its tick (R605, R606, R608, R812). -/

namespace Sys2Proof.Machine

/-- The effect of a forwarded input on the secondary. -/
def State.applyInput (s : State) (i : FwdInput) : State :=
  match i with
  | .descriptor c r b =>
    let s := s.updRing c.val r.val fun y => { y with tail := if y.head = y.tail then y.tail + 1 else y.tail }
    s.acceptDescriptor c r b
  | .bar2Write c off b => s.bar2Write c off b
  | .regWrite c off v => s.registerWrite c off v
  | .request c b => s.updCtx c.val fun x => { x with serving := { x.serving with handed := x.serving.handed ++ [b] } }
  | .configSet items _ =>
    let l := items.map itemOf
    if s.tripHolds s.now then s else (s.newVersion (s.sets.activeVersion + 1) false).activateItems l
  | .packet p => if s.accepting p.ctx.val then s.landPacket p else s
  | .flr c => s.vfFlr c.val
  | .hostLoss => s.loseTenants

/-- FORWARDED_INPUT_APPLY (R605, R608): the earliest forwarded input at tick t + PAIR_LAG. -/
def execForwardedInputApply (s : State) : Result :=
  .next (
    match s.pair.forwarded with
    | [] => s
    | (t, i) :: rest =>
      if s.pair.role = 2 ∧ (s.pair.state = 1 ∨ s.pair.state = 3) ∧ t.toNat + s.pairLag ≤ s.now then
        (s.updPair fun p => { p with forwarded := rest }).applyInput i
      else s)

end Sys2Proof.Machine
end

