-- ==== Sys2Proof/Machine/Dictionary.lean ====
section
/-! DEFINITION. The parameter dictionary and its three paths: READ, WRITE, SNAPSHOT and SNAP_READ, GDP datagrams and
mailboxes (R628 to R666, R99, R197, R753, R773, R776). -/

namespace Sys2Proof.Machine

/-- A path to the dictionary: the operator, the PF driver, or the tenant of a context. -/
inductive Path where
  | o
  | h
  | t (n : Nat)
  deriving DecidableEq, Repr

/-- The context a path speaks for (R659). -/
def Path.self : Path → Nat
  | .t n => n
  | _ => 0

/-- The place of a path among the WRITEs of one tick (R638). -/
def Path.rank : Path → Nat
  | .o => 0
  | .h => 1
  | .t n => 2 + n

/-- The access code of an entry on a path (R630). -/
def Entry.access (e : Entry) : Path → Access
  | .o => e.o
  | .h => e.h
  | .t _ => e.t

/-- The record lies in the tenant's view (R657, R438). -/
def State.tenantSees (s : State) (e : Entry) (key n : Nat) : Bool :=
  if e.base = 0x6000 then (s.group (key / 256 - 0x6000)).state != .free && (s.group (key / 256 - 0x6000)).owner == n
  else !e.perCtx || key / 256 - e.base == n

/-- The entry that a path reaches under a key, with its access code (R630, R657). -/
def State.reach (s : State) (p : Path) (key : Nat) : Option (Entry × Access) :=
  match entryOf key with
  | none => none
  | some e =>
    if e.access p = .none then none
    else match p with
      | .t n => if s.tenantSees e key n then some (e, e.access p) else none
      | _ => some (e, e.access p)

/-! ## Requests and replies -/

/-- A request: its header fields and body (R639). -/
structure Request where
  op : Nat
  keySlot : Nat
  seq : Nat
  items : Nat
  body : Bytes
  /-- The header breaks a rule of R639 (R642, log entry 40). -/
  bad : Bool
  deriving DecidableEq, Repr

/-- Reads the header of a request. -/
def parseRequest (b : Bytes) (mailbox : Bool) : Request :=
  let n := field b 16 2
  { op := field b 3 1, keySlot := field b 5 1, seq := field b 8 8, items := field b 18 2, body := slice b 24 n
    bad := field b 4 1 != 0 || field b 6 1 != 0 || field b 7 1 != 0 || field b 20 4 != 0 ||
      (mailbox && (field b 0 2 != 0x4744 || field b 2 1 != 1 || field b 5 1 != 0 || decide (4072 < n))) }

/-- Header and body of a reply (R639, R650). -/
def replyBytes (q : Request) (status items : Nat) (body : Bytes) : Bytes :=
  toLe 2 0x4744 ++ [1] ++ toLe 1 q.op ++ [1] ++ toLe 1 q.keySlot ++ toLe 1 status ++ [0] ++ toLe 8 q.seq ++ toLe 2 body.length ++
    toLe 2 items ++ List.replicate 4 0 ++ body

/-- Zero bytes up to a multiple of 4 (R640). -/
def pad4 (b : Bytes) : Bytes := b ++ List.replicate ((4 - b.length % 4) % 4) 0

/-- What serving a request gives: the state, the status of the whole, the number of items and the body of its reply. -/
structure Served where
  s : State
  status : Nat
  items : Nat
  body : Bytes

/-! ## READ -/

/-- The value of an entry at the start of this tick: of one that a WRITE of this tick has touched, the value before it
(R633, R637, R664). -/
def State.sampleValue (s : State) (self : Nat) (e : Entry) (key : Nat) (access : Access) : Bytes :=
  let v := s.entryValue self e key access
  if s.mgmt.wroteTick = s.tick.now ∧ access ≠ .wo then (s.mgmt.held.get none key).getD v else v

/-- The reply items of a READ, as long as the values fit (R640, R641, R658). -/
def State.readItems (s : State) (p : Path) (body : Bytes) (limit : Nat) : Nat → Nat → Nat → Bytes
  | 0, _, _ => []
  | n + 1, at_, used =>
    let idx := field body at_ 2
    let sub := field body (at_ + 2) 1
    let key := ekey idx sub
    let head := toLe 2 idx ++ toLe 1 sub
    match s.reach p key with
    | none => head ++ [1, 0, 0, 0, 0] ++ State.readItems s p body limit n (at_ + 4) used
    | some (e, acc) =>
      let v := s.sampleValue p.self e key acc
      let len := toLe 2 (min v.length 0xFFFF)
      if limit < used + (pad4 v).length then
        head ++ [5] ++ toLe 1 e.type ++ [0] ++ len ++ State.readItems s p body limit n (at_ + 4) used
      else
        head ++ [0] ++ toLe 1 e.type ++ [0] ++ len ++ pad4 v ++
          State.readItems s p body limit n (at_ + 4) (used + (pad4 v).length)

/-- READ (R633, R640 to R642, R663): every item is sampled at this tick. -/
def State.serveRead (s : State) (p : Path) (q : Request) (limit : Nat) : Served :=
  let reserved := (List.range q.items).any fun i => field q.body (4 * i + 3) 1 != 0
  if q.body.length ≠ 4 * q.items ∨ reserved = true then { s := s, status := 6, items := 0, body := [] }
  else if limit < 8 + 8 * q.items then { s := s, status := 5, items := 0, body := toLe 8 s.now }
  else
    { s := s, status := 0, items := q.items
      body := toLe 8 s.now ++ s.readItems p q.body limit q.items 0 (8 + 8 * q.items) }

/-! ## WRITE -/

/-- The items of a WRITE; none where the form is broken (R640, R642). -/
def parseWrites (b : Bytes) : Nat → Nat → Option (List WriteItem)
  | 0, at_ => if at_ = b.length then some [] else none
  | n + 1, at_ =>
    let len := field b (at_ + 4) 2
    let next := at_ + 8 + (len + 3) / 4 * 4
    if b.length < next ∨ field b (at_ + 6) 2 ≠ 0 ∨ zeros b (at_ + 8 + len) (next - (at_ + 8 + len)) = false then none
    else match parseWrites b n next with
      | none => none
      | some l =>
        let key := ekey (field b at_ 2) (field b (at_ + 2) 1)
        if l.any fun i => i.key == key then none
        else some ({ key := key, type := field b (at_ + 3) 1, value := slice b (at_ + 8) len } :: l)

/-- The value of an item is one its entry may take (R635). -/
def itemValueOk (i : WriteItem) (e : Entry) : Bool :=
  i.type == e.type && match typeLen e.type with
    | none => blobInRange i.key i.value.length
    | some n => i.value.length == n && (e.type != 6 || decide (leNat i.value ≤ 1)) && numInRange i.key (leNat i.value)

/-- A staged item may enter the draft (R669, R671). -/
def State.draftTakes (s : State) (l : Items) (i : WriteItem) : Bool :=
  let l' := l.filter fun x => x.1 != i.key
  !(s.sets.draftState == .checking || s.sets.draftState == .committing || s.sets.draftState == .prepared) &&
    decide (l'.length + 1 ≤ 4096) && decide (draftBytes l' + i.value.length ≤ 1048576)

/-- The draft with an item: a later write of an entry replaces the earlier one (R667). -/
def Items.stage (l : Items) (x : Nat × DVal) : Items := List.filter (fun y : Nat × DVal => y.1 != x.1) l ++ [x]

/-- The reply status of one item, with the draft as the items before it leave it (R635, R669 to R673, R714). -/
def State.writeStatus (s : State) (p : Path) (draft : Items) (i : WriteItem) : Nat :=
  match s.reach p i.key with
  | none => 1
  | some (e, acc) =>
    if acc ≠ .rw ∧ acc ≠ .wo then 2
    else if !itemValueOk i e then 3
    else if e.staged then (if s.draftTakes draft i then 0 else 3)
    else if i.key = ekey 0x2000 6 then (if s.cmdAllowed (leNat i.value) then 0 else 3)
    else if i.key = ekey 0x7010 1 then (if s.flashWriteOk (field i.value 0 4) (i.value.drop 4) then 0 else 3)
    else 0

/-- The statuses of the items of a WRITE, in order. -/
def State.writeStatuses (s : State) (p : Path) : Items → List WriteItem → List Nat
  | _, [] => []
  | draft, i :: t =>
    let st := s.writeStatus p draft i
    let staged := ((entryOf i.key).elim false (·.staged)) && decide (st = 0)
    st :: State.writeStatuses s p (if staged then Items.stage draft (itemOf i) else draft) t

/-- FLAGS_CLEAR (R99, R103). -/
def State.clearFlags (s : State) (c : Nat) (mask : BitVec 16) : State := s.updCtx c fun x => { x with flags := x.flags &&& ~~~mask }
/-- OOB_CLEAR (R99, R197). -/
def State.clearOob (s : State) (c : Nat) : State :=
  s.updCtx c fun x => { x with oobCount := 0, flags := x.flags &&& ~~~Flag.oob }
/-- GOV_CLEAR (R753). -/
def State.clearGov (s : State) (c : Nat) : State :=
  s.updCtx c fun x => { x with energy := { x.energy with governed := false } }

/-- FLAGS_CLEAR (R99). -/
def execFlagsClear (c : CtxId) (mask : BitVec 16) (s : State) : Result := .next (s.clearFlags c.val mask)
/-- OOB_CLEAR (R99, R197). -/
def execOobClear (c : CtxId) (s : State) : Result := .next (s.clearOob c.val)
/-- GOV_CLEAR (R753). -/
def execGovClear (c : CtxId) (s : State) : Result := .next (s.clearGov c.val)

/-- An item takes effect (R632, R637); CMD runs after the others (R672). -/
def State.applyWrite (s : State) (i : WriteItem) : State :=
  let n := leNat i.value
  let idx := i.key / 256
  let sub := i.key % 256
  if (entryOf i.key).elim false (·.staged) then
    { s with sets := { s.sets with
        draft := Items.stage s.sets.draft (itemOf i)
        draftState := if s.sets.draftState = .empty ∨ s.sets.draftState = .checked then .opened else s.sets.draftState } }
  else if i.key = ekey 0x2000 6 then s
  else if i.key = ekey 0x2000 7 then { s with sets := { s.sets with actTick := BitVec.ofNat 64 n } }
  else if i.key = ekey 0x2000 8 then { s with sets := { s.sets with groupScope := n == 1 } }
  else if i.key = ekey 0x7010 1 then s.writeFlash (field i.value 0 4) (i.value.drop 4)
  else if i.key = ekey 0x9020 9 then (if n = 1 then s.promote else s)
  else if 0xB100 ≤ idx ∧ idx < 0xB140 ∧ sub = 2 then s.clearFlags (idx - 0xB100) (BitVec.ofNat 16 n)
  else if 0xC100 ≤ idx ∧ idx < 0xC140 ∧ sub = 10 then (if n = 1 then s.clearOob (idx - 0xC100) else s)
  else if 0x3100 ≤ idx ∧ idx < 0x3140 ∧ sub = 4 then (if n = 1 then s.clearGov (idx - 0x3100) else s)
  else { s with cfg := cfgPut s.cfg i.key (itemOf i).2 }

/-- An entry whose WRITE acts and leaves no value behind. -/
def actsAtOnce (key : Nat) : Bool :=
  let idx := key / 256
  let sub := key % 256
  [ekey 0x2000 6, ekey 0x7010 1, ekey 0x9020 9].contains key || (decide (0xB100 ≤ idx ∧ idx < 0xB140) && sub == 2) ||
    (decide (0xC100 ≤ idx ∧ idx < 0xC140) && sub == 10) || (decide (0x3100 ≤ idx ∧ idx < 0x3140) && sub == 4)

/-- The numbered entries of a record from subindex 1 on. -/
def recordKeys (idx : Nat) : List Nat := ((List.range 31).map fun i => ekey idx (i + 1)).filter fun k => (entryOf k).isSome

/-- The entries whose values the WRITE of an entry can change (R632, R667, R672, R99, R103, R197, R621, R714, R753). -/
def touchedKeys (key : Nat) : List Nat :=
  let idx := key / 256
  let sub := key % 256
  if (entryOf key).elim false (·.staged) then [ekey 0x2000 3, ekey 0x2000 4, ekey 0x2000 5]
  else if key = ekey 0x2000 6 then recordKeys 0x2000
  else if key = ekey 0x7010 1 then [ekey 0x7010 2, ekey 0x7010 7]
  else if key = ekey 0x9020 9 then [0x9000, 0x9010, 0x9020, 0xA000].flatMap recordKeys
  else if 0xB100 ≤ idx ∧ idx < 0xB140 ∧ sub = 2 then [ekey idx 1]
  else if 0xC100 ≤ idx ∧ idx < 0xC140 ∧ sub = 10 then [ekey idx 9, ekey (0xB100 + (idx - 0xC100)) 1]
  else if 0x3100 ≤ idx ∧ idx < 0x3140 ∧ sub = 4 then [ekey idx 3]
  else [key]

/-- A value the state keeps for the rest of the tick, unless it keeps one already (R633). -/
def State.holdValue (s : State) (m : SMap (Option Bytes)) (key : Nat) : SMap (Option Bytes) :=
  match (m.get none key), entryOf key with
  | none, some e => m.put key (some (s.entryValue 0 e key e.o))
  | _, _ => m

/-- Before a WRITE takes effect, the values it can change are kept as reads of this tick see them, and its path for what
later WRITEs of the tick may do (R633, R638, R664). -/
def State.beginWrite (s : State) (p : Path) (l : List WriteItem) : State :=
  if l.isEmpty then s else
  let fresh := s.mgmt.wroteTick != s.tick.now
  let held := (l.flatMap fun i => touchedKeys i.key).foldl (fun m k => s.holdValue m k) (if fresh then [] else s.mgmt.held)
  let wrote : SMap Nat := if fresh then [] else s.mgmt.wroteBy
  let wrote := l.foldl (fun (m : SMap Nat) i => m.put i.key (max p.rank (m.get 0 i.key))) wrote
  { s with mgmt := { s.mgmt with wroteTick := s.tick.now, held := held, wroteBy := wrote } }

/-- An item leaves its value: a WRITE of this tick whose path comes later in the order has not written the entry (R638). -/
def State.prevails (s : State) (p : Path) (i : WriteItem) : Bool :=
  actsAtOnce i.key || decide (s.mgmt.wroteBy.get 0 i.key ≤ p.rank)

/-- The safety partition counts and logs the H or T writes that name its entries (R666, R773). -/
def State.refuseSafety (s : State) (p : Path) (l : List WriteItem) : State :=
  match p with
  | .o => s
  | _ =>
    let path := if p = .h then 1 else 2
    (l.filter fun i => decide (0x8000 ≤ i.key / 256 ∧ i.key / 256 < 0x9000)).foldl (fun s i =>
      { s with safety := { s.safety with refusedWrites := s.safety.refusedWrites + 1 } }.logEvent 2 6 0x0101
        [path, p.self, i.key, 0]) s

/-- WRITE (R635 to R638, R663, R672): all items take effect together, or none does; of the WRITEs of one tick the path
later in the order prevails. The status of the whole is that of the first item that fails (log entry 40). -/
def State.serveWrite (s : State) (p : Path) (q : Request) : Served :=
  match parseWrites q.body q.items 0 with
  | none => { s := s, status := 6, items := 0, body := [] }
  | some l =>
    let t := s.now
    let st := s.writeStatuses p s.sets.draft l
    let reply := fun (st : List Nat) =>
      toLe 8 t ++ (l.zip st).flatMap fun (i, x) => toLe 2 (i.key / 256) ++ toLe 1 (i.key % 256) ++ toLe 1 x
    let s := s.refuseSafety p l
    match st.find? (· != 0) with
    | some x => { s := s, status := x, items := l.length, body := reply (st.map fun y => if y = 0 then 4 else y) }
    | none =>
      let s := s.beginWrite p l
      let s := (l.filter (s.prevails p)).foldl (fun s i => s.applyWrite i) s
      let s := match l.find? fun i => i.key == ekey 0x2000 6 with
        | none => s
        | some i => s.runCmd (leNat i.value)
      { s := s, status := 0, items := l.length, body := reply st }

/-! ## SNAPSHOT and SNAP_READ -/

/-- SNAPSHOT (R643, R644, R776): the value goes to the operator's buffer, or into the HBM share of the path's context,
whose mailbox waits for the copy (R655); an attestation report takes its nonce from there. -/
def State.serveSnapshot (s : State) (p : Path) (q : Request) : Served :=
  let len := if p = .o then 4 else 12
  if q.items ≠ 1 ∨ q.body.length ≠ len ∨ field q.body 3 1 ≠ 0 then { s := s, status := 6, items := 0, body := [] }
  else
    let key := ekey (field q.body 0 2) (field q.body 2 1)
    let reply := fun (n : Nat) => toLe 8 s.now ++ toLe 4 n ++ List.replicate 4 0
    match s.reach p key with
    | none => { s := s, status := 1, items := 1, body := reply 0 }
    | some (e, acc) =>
      let off := field q.body 4 8
      let c := p.self
      let v :=
        if e.base = 0x8100 ∧ e.sub = 1 ∧ p ≠ .o then s.attestReport (key / 256 - 0x8100) (s.hbmShare c off 32)
        else s.sampleValue c e key acc
      if p = .o then
        { s := { s with mgmt := { s.mgmt with snap := some (v, s.tick.now) } }, status := 0, items := 1, body := reply v.length }
      else if off % 64 ≠ 0 ∨ s.inShare c 1 off v.length = false then { s := s, status := 3, items := 1, body := reply 0 }
      else
        let s := s.updHost c fun h => { h with mbx := { h.mbx with copying := true } }
        { s := (s.putHbm c off v).hubDone c none [.copied], status := 0, items := 1, body := reply v.length }

/-- SNAP_READ (R640, R641, R643, R665): part of the operator's snapshot; no other path holds one. -/
def State.serveSnapRead (s : State) (p : Path) (q : Request) : Served :=
  if q.items ≠ 1 ∨ q.body.length ≠ 8 ∨ field q.body 6 2 ≠ 0 then { s := s, status := 6, items := 0, body := [] }
  else
    let off := field q.body 0 4
    let n := field q.body 4 2
    let reply := fun (status : Nat) (t : Word) (n : Nat) (b : Bytes) =>
      ({ s := s, status := status, items := 1, body := toLe 8 t.toNat ++ toLe 4 n ++ List.replicate 4 0 ++ pad4 b } : Served)
    match p, s.mgmt.snap with
    | .o, some (v, t) =>
      if v.length < off + n then reply 8 t 0 []
      else if 1376 < n then reply 5 t n []
      else reply 0 t n (slice v off n)
    | _, _ => reply 8 0 0 []

/-! ## Serving a request -/

/-- A request is served: BAD_FORM where its header or OP is malformed (R642). -/
def State.serveRequest (s : State) (p : Path) (q : Request) (limit : Nat) : Served :=
  if q.bad then { s := s, status := 6, items := 0, body := [] }
  else match q.op with
    | 1 => s.serveRead p q limit
    | 2 => s.serveWrite p q
    | 3 => s.serveSnapshot p q
    | 4 => s.serveSnapRead p q
    | _ => { s := s, status := 6, items := 0, body := [] }

/-- The reply of a served request. -/
def Served.reply (v : Served) (q : Request) : Bytes := replyBytes q v.status v.items v.body

/-- A GDP reply leaves with its tag (R646, R650). -/
def sealReply (key : Bytes) (b : Bytes) : Bytes := b ++ (Sha.hmac256 key b).take 16

/-- The request's key slot, once its form and tag have passed; else the state with its failure counted (R646, R649). -/
def State.gdpKey (s : State) (d : Bytes) : Bytes ⊕ State :=
  let n := field d 16 2
  let slot := field d 5 1
  let form := Sum.inr { s with mgmt := { s.mgmt with formFails := s.mgmt.formFails + 1 } }
  if d.length < 40 ∨ field d 0 2 ≠ 0x4744 ∨ field d 2 1 ≠ 1 ∨ 1408 < n ∨ d.length ≠ 40 + n ∨ 3 < slot then form
  else match s.mgmt.keys.get none slot with
    | none => form
    | some key =>
      if (Sha.hmac256 key (d.take (24 + n))).take 16 = d.drop (24 + n) then .inl key
      else .inr { s with mgmt := { s.mgmt with authFails := s.mgmt.authFails.put slot (s.mgmt.authFails.get 0 slot + 1) } }

/-- A GDP datagram arrives (R645 to R650). -/
def State.gdpReceive (s : State) (d : Bytes) : State :=
  match s.gdpKey d with
  | .inr s' => s'
  | .inl key =>
    let q := parseRequest d false
    let last := s.mgmt.lastSeq.get 0 q.keySlot
    if last.toNat < q.seq then
      let v := s.serveRequest .o q 1408
      let r := sealReply key (v.reply q)
      let s := v.s.trace (.request q.op)
      { s with mgmt := { s.mgmt with
          lastSeq := s.mgmt.lastSeq.put q.keySlot (BitVec.ofNat 64 q.seq), kept := s.mgmt.kept.put q.keySlot (some (d, r)) } }.emit
        (.gdp r)
    else match s.mgmt.kept.get none q.keySlot with
      | some (old, r) =>
        if q.seq = last.toNat ∧ old = d then s.emit (.gdp r)
        else s.emit (.gdp (sealReply key (replyBytes q 7 0 (toLe 8 last.toNat))))
      | none => s.emit (.gdp (sealReply key (replyBytes q 7 0 (toLe 8 last.toNat))))

/-- The PF mailbox's request is served (R651, R652). -/
def State.servePf (s : State) (op : Nat) : State :=
  let m := (s.ctx 0).host.mbx
  let q := parseRequest m.taken true
  if !m.busy || m.ready.isSome || (q.op != op && decide (1 ≤ q.op ∧ q.op ≤ 4)) then s
  else
    let v := s.serveRequest .h q 4072
    let r := v.reply q
    (v.s.trace (.request q.op)).updHost 0 fun h => { h with mbx := { h.mbx with ready := some (r, s.tick.now) } }

/-- A dictionary request with an OP: a datagram of another listed OP is another command's. -/
def State.request (s : State) (op : Nat) (src : ReqSource) : State :=
  if s.fw.stage ≠ 2 then s
  else match src with
    | .pf => s.servePf op
    | .gdp d => if field d 3 1 ≠ op ∧ 1 ≤ field d 3 1 ∧ field d 3 1 ≤ 4 then s else s.gdpReceive d

/-- READ (R633). -/
def execRead (src : ReqSource) (s : State) : Result := .next (s.request 1 src)
/-- WRITE (R635 to R637). -/
def execWrite (src : ReqSource) (s : State) : Result := .next (s.request 2 src)
/-- SNAPSHOT (R643, R644). -/
def execSnapshot (src : ReqSource) (s : State) : Result := .next (s.request 3 src)
/-- SNAP_READ (R643). -/
def execSnapRead (src : ReqSource) (s : State) : Result := .next (s.request 4 src)

/-! ## Mailboxes -/

/-- MBX_T_SERVICE (R655, R657): a tenant's request is served at r + 1,024; its reply shows at r + 62,500. -/
def execMbxTService (c : CtxId) (s : State) : Result :=
  .next (
    let m := (s.ctx c.val).host.mbx
    if c = 0 ∨ m.busy = false ∨ m.ready.isSome = true ∨ s.now < m.ringTick.toNat + 1024 then s
    else
      let q := parseRequest m.taken true
      let v := s.serveRequest (.t c.val) q 4072
      let r := v.reply q
      (v.s.trace (.request q.op)).updHost c.val fun h => { h with mbx := { h.mbx with ready := some (r, m.ringTick + BitVec.ofNat 64 Config.mbxLatency) } })

/-- MBX_REPLY (R654, R655): not before the tick after the copy of a SNAPSHOT has ended, the reply area is written, MBX_BUSY cleared, MBX_DONE set and the interrupt raised. -/
def execMbxReply (f : CtxId) (s : State) : Result :=
  .next (
    let m := (s.ctx f.val).host.mbx
    match m.ready with
    | none => s
    | some (r, t) =>
      if m.busy = false ∨ s.now < t.toNat ∨ m.copying = true ∨ m.copied.elim false (fun u => decide (s.now ≤ u.toNat)) = true then s
      else
        (s.updHost f.val fun h =>
          { h with mbx := { h.mbx with
              busy := false, done := true, ready := none, copied := none, taken := [], reply := h.mbx.reply.writeBytes 0 r } }).raise f.val 0)

end Sys2Proof.Machine
end

