-- ==== Sys2Proof/Machine/Energy.lean ====
section
/-! DEFINITION. Energy windows, thermal and voltage samples and the trip (R731 to R752, R756 to R763, R779, R780,
R813, R855). -/

namespace Sys2Proof.Machine

/-! ## Reconciliation and the scale -/

/-- Static energy of one window in µJ (R745). -/
def State.staticEnergy (s : State) : Int := (s.ident.staticW * s.energy.windowGt * 16 / 10000 : Nat)

/-- RECON_ERROR after a window in which `m` µJ were measured (R745). -/
def State.reconAfter (s : State) (m : Nat) : Int :=
  let e := s.energy.windowDebits + s.staticEnergy
  min (max (s.energy.reconError + m - e) (-2000000000)) 2000000000

/-- The largest SCALE (R746). -/
def State.scaleLimit (s : State) : Nat := if s.energy.thermalWarn then s.cfgNum 0x3000 0x0E else 256

/-- SCALE at the next window start, and the windows in a row with no excess (R746, R752). The rise after 64 of them
counts the next 64 afresh (log entry 41). -/
def State.scaleAfter (s : State) (recon : Int) : Nat × Nat :=
  let e := s.energy
  let quiet := if recon ≤ 0 then e.quietWindows + 1 else 0
  let (scale, quiet) :=
    if (s.cfgNum 0x3000 6 : Int) < recon then (max (e.scale - 8) 128, quiet)
    else if 64 ≤ quiet then (min (e.scale + 8) s.scaleLimit, 0)
    else (e.scale, quiet)
  (if e.thermalWarn then min scale s.scaleLimit else scale, quiet)

/-- The end of a window: the measured energy is compared with the accounts (R745 to R747, R752). -/
def State.reconcile (s : State) (m : Nat) : State :=
  let recon := s.reconAfter m
  let (scale, quiet) := s.scaleAfter recon
  let changed := scale != s.energy.scale
  let s := { s with energy := { s.energy with
    measured := m, reconError := recon, scale := scale, quietWindows := quiet } }
  if changed then s.logEvent 2 1 (Config.logField 3) (freeArgs 2) else s

/-! ## The start of a window -/

/-- Context n has an account (R733). -/
def State.refilled (s : State) (n : Nat) : Bool :=
  decide (n ≠ 0) && match (s.ctx n).life.state with
    | .creating | .live | .suspended => true
    | _ => false

/-- The refill of one context (R733). -/
def State.refill (s : State) (n : Nat) : State :=
  if s.refilled n then
    s.updCtx n fun x =>
      { x with energy := { x.energy with
          refill := s.refillOf n, balance := min (x.energy.balance + s.refillOf n) (s.balanceCap n) } }
  else s

/-- CAP_W, WINDOW_GT, CARRY and the shares come into force (R736). -/
def State.latchShares (s : State) : State :=
  { s with energy := { s.energy with
    capW := s.cfgNum 0x3000 1, windowGt := s.cfgNum 0x3000 4, carry := s.cfgNum 0x3000 5
    shares := (List.range 63).map fun n => (n + 1, s.cfgNum (0x3101 + n) 1) } }

/-- POWER_STATE (R748). -/
def State.powerNow (s : State) : Nat :=
  if s.energy.retention then 3
  else if s.energy.windowDeferred || s.ctxs.any (fun c => c.2.cmds.any fun x => x.phase == .deferred) then 1
  else if (List.range 64).any fun n => n != 0 && (s.ctx n).life.state == .live then 0
  else 2

/-- A deferred command starts when its balance covers the tag (R738); it may not start outside LIVE (R530). -/
def State.startDeferred (s : State) (c : Nat) (x : Cmd) : State :=
  if (s.ctx c).life.state ≠ .live ∨ (s.ctx c).energy.balance < x.tag ∨ s.doomed c x.uid = true then s
  else if s.urgentOk c x = false then s.ctxFault c
  else (s.debit c x).startNow c { x with debited := true } true

/-- The deferred commands, context by context (R738, R739). -/
def State.startAllDeferred (s : State) : State :=
  (List.range 64).foldl (fun s c =>
    ((s.ctx c).cmds.filter fun x => x.phase == .deferred).foldl (fun s x => s.startDeferred c x) s) s

/-- ENERGY_WINDOW_START (R731 to R738, R745 to R748, R752, R756): the tick is a window's first, under the WINDOW_GT in
force from here on. The refill precedes the deferred starts of the tick. -/
def execEnergyWindowStart (measured : Nat) (s : State) : Result :=
  .next (
    if s.now % s.cfgNum 0x3000 4 ≠ 0 ∨ s.energy.windowStart = s.tick.now ∨ s.tick.rootLocked = false then s
    else
      let s := (s.reconcile measured).latchShares
      let s := (List.range 64).foldl (fun s n => s.refill n) s
      let s := { s with energy := { s.energy with
        powerState := s.powerNow, windowStart := s.tick.now, windowDebits := 0, windowDeferred := false } }
      s.startAllDeferred)

/-! ## Samples and the trip -/

/-- A trip condition is met by a sample of this tick (R760). A set that activates later does not, and a fuse write in
progress ends with its current bit (R780). -/
def State.trip (s : State) (cause : Nat) : State :=
  if s.safety.tripped || s.safety.tripPending.isSome || !s.pins.por then s
  else
    let f := s.safety
    let advancing := decide (f.blown < f.rollbackTarget)
    { s with safety := { f with
      tripPending := some (cause, s.tick.now)
      rollbackTarget := if advancing then f.blown + 1 else f.rollbackTarget
      revokePending := if advancing then [] else f.revokePending.take 1 } }

/-- The thermal warning after a sample (R751): 95 °C sets it; 65,536 GT of samples below 90 °C clear it. -/
def Energy.thermal (e : Energy) (milliC : Int) (now : Word) : Energy :=
  let cool : Option Word := if milliC < 90000 then some (e.coolSince.getD now) else none
  let calm := match cool with
    | none => false
    | some t => decide (65536 ≤ (now - t).toNat)
  { e with
    junctionMc := milliC, sampled := true, coolSince := cool
    thermalWarn := decide (95000 ≤ milliC) || (e.thermalWarn && !calm) }

/-- THERMAL_SAMPLE (R751, R759, R760, R779, R853): the highest junction of all dies. -/
def execThermalSample (milliC : Int) (s : State) : Result :=
  .next (
    if s.pins.por then
      let s := { s with energy := s.energy.thermal milliC s.tick.now }
      if (BitVec.ofNat 32 (s.cfgNum 0x8000 1)).toInt ≤ milliC then s.trip 1 else s
    else s)

/-- A rail's sample lies outside its limits (R759). -/
def State.railOut (s : State) (rail : Nat) (mV : Nat) : Bool :=
  decide (mV < s.cfgNum (0x8020 + rail) 1) || decide (s.cfgNum (0x8020 + rail) 2 < mV)

/-- RAIL_SAMPLE (R759, R760, R855): the fourth consecutive sample outside the limits trips; while POR_N is low a sample is
compared with nothing. -/
def execRailSample (rail : Fin 16) (mV : BitVec 16) (s : State) : Result :=
  .next (
    let bad := if s.pins.por && s.railOut rail.val mV.toNat then s.safety.railBad.get 0 rail.val + 1 else 0
    let s := { s with safety := { s.safety with
      railMv := s.safety.railMv.put rail.val mV, railBad := s.safety.railBad.put rail.val bad } }
    if 4 ≤ bad then s.trip 2 else s)

/-- PARTITION_WATCHDOG (R762). -/
def execPartitionWatchdog (s : State) : Result := .next (s.trip 3)

/-- TRIP_ASSERT (R761 to R763, R813): TRIP_N, STATE, TRIP_CAUSE and TRIP_TICK; the PF reports a fatal internal error
and raises vector 10. -/
def execTripAssert (s : State) : Result :=
  .next (
    match s.safety.tripPending with
    | none => s
    | some (cause, t) =>
      let s := { s with
        safety := { s.safety with tripPending := none, tripped := true, tripCause := cause, tripTick := t }
        pins := { s.pins with tripN := true } }
      (s.emit (.aer 0 AerKind.internalFatal.code)).raise 0 10)

/-- TRIP_STOP (R761): the engines stop, HBM enters self-refresh and the FATAL record is written. -/
def execTripStop (s : State) : Result :=
  .next (
    if s.safety.tripped && !s.safety.stopped then
      { s with safety := { s.safety with stopped := true }, hbm := { s.hbm with selfRefresh := true } }.logEvent 4 6 0x0201
        (freeArgs 3)
    else s)

end Sys2Proof.Machine
end

