-- ==== Sys2Proof/Machine/Manage.lean ====
section
/-! DEFINITION. Attestation by SPDM, IDE keys, the management port's answers beside GDP, the I²C target and the
boundary-scan TAP (R645, R774, R815, R825, R845 to R854). -/

namespace Sys2Proof.Machine

/-! ## SPDM and IDE (R774, R815) -/

/-- Every entry that a set can stage, with its value in force, in ascending Index.Sub order (R774). -/
def State.stagedValues (s : State) : List (Nat × Nat × Bytes) :=
  let keys := (catalogue.filter (·.staged)).flatMap fun e => (List.range e.records).map fun i => (ekey (e.base + i) e.sub, e)
  (sortBy (fun (k : Nat × Entry) => k.1) (keys.filter fun k => !oneShot k.1)).map fun (k, e) =>
    (k, e.type, s.entryValue 0 e k .rw)

/-- The content of measurement i, empty where R774 lists none. -/
def State.measurement (s : State) (i : Nat) : Bytes :=
  match i with
  | 1 => slice Config.romDigest 0 48
  | 2 => slice s.fw.fwDigest 0 48
  | 3 => toLe 4 s.fw.securityVersion ++ toLe 4 s.safety.rollback
  | 4 => s.signature
  | 5 => toLe 4 s.sets.activeVersion.toNat ++ Sha.sha384 (s.stagedValues.flatMap fun (k, ty, v) => Config.entryHead k ty v.length ++ v)
  | 6 => toLe 4 (s.cfgNum 0x8000 1) ++ toLe 4 (s.cfgNum 0x8000 2) ++ toLe 1 (s.cfgNum 0x8000 3) ++
    (List.range 4).flatMap (fun k => toLe 1 (s.fwKeyState k)) ++
    (List.range 4).flatMap fun k => toLe 1 (b2n (s.mgmt.keys.get none k).isSome)
  | _ => []

/-- A measurement block: its index, its length and its content; the spec leaves the message to SPDM 1.2 (log entry 12). -/
def State.measureBlock (s : State) (i : Nat) : Bytes :=
  let b := s.measurement i
  toLe 1 i ++ toLe 2 b.length ++ b

/-- A signed SPDM answer of the PF (R774). -/
def State.spdmAnswer (s : State) (b : Bytes) : State := s.emit (.spdm (b ++ slice (Config.ecdsaSign b) 0 96))

/-- GET_MEASUREMENTS (R774): 0 asks for the number of measurements and 255 for all of them (log entry 12). -/
def execGetMeasurements (index : BitVec 8) (s : State) : Result :=
  .next (
    if !s.pcie.linkUp then s
    else if index = 0 then s.spdmAnswer (toLe 1 6)
    else if index = 0xFF then s.spdmAnswer ((List.range 6).flatMap fun i => s.measureBlock (i + 1))
    else s.spdmAnswer (if index.toNat ≤ 6 then s.measureBlock index.toNat else []))

/-- CHALLENGE (R774): the nonce and the device's measurements under the device identity key. -/
def execChallenge (nonce : Bytes) (s : State) : Result :=
  .next (if s.pcie.linkUp then s.spdmAnswer (nonce ++ (List.range 6).flatMap fun i => s.measureBlock (i + 1)) else s)

/-- KEY_EXCHANGE (R774): a secured session. -/
def execKeyExchange (peer : Bytes) (s : State) : Result :=
  .next (
    if s.pcie.linkUp then
      { s with pcie := { s.pcie with spdmSession := some (Config.spdmSessionKey peer) } }.spdmAnswer peer
    else s)

/-- IDE_KM (R815): within the session, keys a selective IDE stream, which is then no longer Insecure. -/
def execIdeKm (stream : Fin 4) (key : Bytes) (s : State) : Result :=
  .next (
    if s.pcie.linkUp && s.pcie.spdmSession.isSome then
      { s with pcie := { s.pcie with
        ideKeys := s.pcie.ideKeys.put stream.val (some key), ideInsecure := s.pcie.ideInsecure.filter (· != stream.val) } }
    else s)

/-! ## The management port (R645) -/

/-- The port's IPv6 address. -/
def State.portAddress (s : State) : Bytes :=
  let a := s.cfgBlob 0x1040 2
  if a.all (· == 0) then slice (Config.autoAddress s.ident.serial) 0 16 else slice a 0 16

/-- The management core answers on its port (R860). -/
def State.portAnswers (s : State) : Bool := decide (s.fw.stage = 2)

/-- NEIGHBOUR_DISCOVERY (R645): an advertisement of the port's address to the asker (log entry 42). -/
def execNeighbourDiscovery (src : Bytes) (s : State) : Result :=
  .next (if s.portAnswers then s.emit (.net (src ++ [136] ++ s.portAddress)) else s)

/-- ICMPV6_ECHO (R645): the payload goes back to the asker (log entry 42). -/
def execIcmpv6Echo (src payload : Bytes) (s : State) : Result :=
  .next (if s.portAnswers then s.emit (.net (src ++ [129] ++ payload)) else s)

/-- DHCPV4 (R645): while IPV4_ENABLE is 1 the port takes the address. -/
def execDhcpv4 (addr : BitVec 32) (s : State) : Result :=
  .next (
    if s.portAnswers && s.cfgNum 0x1040 3 == 1 then { s with mgmt := { s.mgmt with ipv4 := addr } } else s)

/-! ## I²C (R849 to R853) -/

/-- The target's 7-bit address, from the straps (R849). -/
def State.i2cAddress (s : State) : BitVec 7 := 0x4C + s.pins.i2cAddr.setWidth 7

/-- JUNCTION: the highest junction in units of 0.25 °C, 0x8000 before the first sample (R852). -/
def State.i2cJunction (s : State) : BitVec 16 :=
  if s.energy.sampled then BitVec.ofInt 16 (s.energy.junctionMc / 250) else 0x8000

/-- Offset 0x03 of the map (R852). -/
def State.i2cStatus (s : State) : Nat :=
  s.fw.stage % 4 + 4 * b2n s.fw.bootFailed + 8 * b2n s.safety.tripped + 16 * b2n s.energy.thermalWarn

/-- The register map, to its last register (R852). -/
def State.i2cMap (s : State) : Bytes :=
  [0x5A] ++ toLe 1 (b2n s.ident.grade.isB22) ++ toLe 1 (b2n s.ident.steppingB0) ++ toLe 1 s.i2cStatus ++
    toLe 2 s.i2cJunction.toNat ++ [0, 0] ++ toLe 4 s.fw.fwVersion.toNat ++ List.replicate 4 0 ++ slice s.serialBytes 0 16 ++
    slice s.orderCode 0 16

/-- One byte of the map; offsets not listed read 0 (R852). -/
def State.i2cByte (s : State) (off : Nat) : Byte := s.i2cMap.getD off 0

/-- ALERT_N is asserted (R825). -/
def State.alert (s : State) : Bool := s.fw.bootFailed || s.safety.tripped || s.energy.thermalWarn

/-- I2C_READ (R850, R853): bytes of the map as sampled at START, from the pointer on; the 8-bit pointer moves past
them. -/
def execI2cRead (length : Nat) (s : State) : Result :=
  .next (
    let p := s.pins.i2cPointer.toNat
    { s with pins := { s.pins with i2cPointer := BitVec.ofNat 8 (p + length) } }.emit
      (.i2c (tabulate (fun i => s.i2cByte ((p + i) % 256)) length)))

/-- I2C_WRITE (R851): the first data byte sets the pointer; every later one is refused. -/
def execI2cWrite (data : Bytes) (s : State) : Result :=
  .next (
    match data with
    | [] => s
    | p :: rest =>
      let s := { s with pins := { s.pins with i2cPointer := p } }
      if rest.isEmpty then s else s.emit (.i2cNack rest.length))

/-! ## Boundary scan (R845 to R847) -/

/-- A TAP instruction is selected, with what its test mode drives. -/
def State.tapSelect (s : State) (reg mode : Nat) : State :=
  { s with pins := { s.pins with tapReg := reg, testMode := mode } }

/-- The boundary cells are captured and shifted out (log entry 14). -/
def State.tapCapture (s : State) : State :=
  { s with pins := { s.pins with captures := s.pins.captures + 1 } }.emit (.tap (Config.pinSample s.pins.captures))

/-- BYPASS (R845): one bit, which captures 0 (log entry 14). -/
def State.tapBypass (s : State) : State := (s.tapSelect 0 0).emit (.tap [0])

/-- BYPASS (R845). -/
def execBypass (s : State) : Result := .next s.tapBypass

/-- The IDCODE of the stepping (R847). -/
def State.idcode (s : State) : Nat := if s.ident.steppingB0 then 0x1A512B4F else 0x0A512B4F

/-- IDCODE (R847). -/
def execIdcode (s : State) : Result := .next ((s.tapSelect 1 0).emit (.tap (toLe 4 s.idcode)))

/-- SAMPLE/PRELOAD (R845): the pins are captured and the cells loaded. -/
def execSamplePreload (cells : Bytes) (s : State) : Result :=
  .next (
    let s := (s.tapSelect 2 0).tapCapture
    { s with pins := { s.pins with cells := cells } })

/-- An instruction that R846 honours only while POR_N is low. -/
def State.tapTest (s : State) (reg mode : Nat) (capture : Bool) : State :=
  if s.pins.por then s.tapBypass
  else
    let s := s.tapSelect reg mode
    if capture then s.tapCapture else s

/-- EXTEST (R845, R846): the pins take the cells. -/
def execExtest (s : State) : Result := .next (s.tapTest 3 1 true)
/-- CLAMP (R845, R846): the outputs hold the cells, with BYPASS selected between TDI and TDO. -/
def execClamp (s : State) : Result := .next (s.tapTest 4 2 false)
/-- HIGHZ (R845, R846): the outputs float. -/
def execHighz (s : State) : Result := .next (s.tapTest 5 3 false)
/-- EXTEST_PULSE of IEEE 1149.6 on the differential pairs (R845, R846). -/
def execExtestPulse (s : State) : Result := .next (s.tapTest 6 4 true)
/-- EXTEST_TRAIN of IEEE 1149.6 on the differential pairs (R845, R846). -/
def execExtestTrain (s : State) : Result := .next (s.tapTest 7 5 true)

/-! ## The 1V8 outputs (R709, R825, R842, R845, R846) -/

/-- The outputs of the 1V8 group. TDO is driven while a scan shifts alone, and a TAP command is one step. -/
inductive Pin18 where
  | xspiClk
  | xspiCs
  | xspiRst
  | xspiDqs
  | xspiDq (i : Fin 8)
  | mdc
  | mdio
  | tdo
  deriving DecidableEq, Repr

/-- What drives an output. -/
inductive PinDrive where
  | floating
  | high
  /-- The boundary cell of the pin (R845). -/
  | cell
  /-- The interface of the pin at work. -/
  | interface
  deriving DecidableEq, Repr

/-- A pin of the flash's interface. -/
def Pin18.isXspi : Pin18 → Bool
  | .mdc | .mdio | .tdo => false
  | _ => true

/-- VDD_IO18, rail 14, is within its recommended range of 1.710 to 1.890 V (R828). -/
def State.io18 (s : State) : Bool :=
  decide (1710 ≤ (s.safety.railMv.get 0 14).toNat ∧ (s.safety.railMv.get 0 14).toNat ≤ 1890)

/-- What drives an output of the 1V8 group: nothing before VDD_IO18 is within range; until POR_N rises high on XSPI_CS# and
XSPI_RST# and nothing elsewhere, but for a test mode of the TAP; in BOOT_FAILED nothing on the flash's pins. -/
def State.drives (s : State) (p : Pin18) : PinDrive :=
  if !s.io18 || p == .tdo then .floating
  else if !s.pins.por then
    if s.pins.testMode = 1 ∨ s.pins.testMode = 2 then .cell
    else if s.pins.testMode = 3 then .floating
    else if p = .xspiCs ∨ p = .xspiRst then .high
    else .floating
  else if s.fw.bootFailed && p.isXspi then .floating
  else .interface

end Sys2Proof.Machine
end

