-- ==== Sys2Proof/Machine/Dispatch.lean ====
section
/-! DEFINITION. The meaning of each command: one arm for each constructor of Instr. -/

namespace Sys2Proof.Machine

def exec (i : Instr) (s : State) : Host.Outcome State Fault Refusal :=
  match i with
  | .loop k n count offset => Sys2Proof.Machine.execLoop k n count offset s
  | .branch k cond n offset => Sys2Proof.Machine.execBranch k cond n offset s
  | .waitsem k sem n => Sys2Proof.Machine.execWaitsem k sem n s
  | .waitsemRelease c sem => Sys2Proof.Machine.execWaitsemRelease c sem s
  | .sigsem k sem n => Sys2Proof.Machine.execSigsem k sem n s
  | .waittick k n => Sys2Proof.Machine.execWaittick k n s
  | .waittickRelease k => Sys2Proof.Machine.execWaittickRelease k s
  | .sets k n imm => Sys2Proof.Machine.execSets k n imm s
  | .adds k n imm => Sys2Proof.Machine.execAdds k n imm s
  | .endProgram k => Sys2Proof.Machine.execEndProgram k s
  | .tloadv k vd desc org high => Sys2Proof.Machine.execTloadv k vd desc org high s
  | .tstorev k vs desc org high round => Sys2Proof.Machine.execTstorev k vs desc org high round s
  | .dma k src dst sem => Sys2Proof.Machine.execDma k src dst sem s
  | .dmaRetire k => Sys2Proof.Machine.execDmaRetire k s
  | .atomaddXa k vs desc org high => Sys2Proof.Machine.execAtomaddXa k vs desc org high s
  | .atomaddF32 k vs desc org high => Sys2Proof.Machine.execAtomaddF32 k vs desc org high s
  | .mma k array a b org sk clear ta tb => Sys2Proof.Machine.execMma k array a b org sk clear ta tb s
  | .xspill k array desc org high release => Sys2Proof.Machine.execXspill k array desc org high release s
  | .xfill k array desc org high => Sys2Proof.Machine.execXfill k array desc org high s
  | .xout k array desc org high round => Sys2Proof.Machine.execXout k array desc org high round s
  | .vop k op vd vs vt => Sys2Proof.Machine.execVop k op vd vs vt s
  | .sfu k slot vd vs vt => Sys2Proof.Machine.execSfu k slot vd vs vt s
  | .softmax k src dst scratch org round => Sys2Proof.Machine.execSoftmax k src dst scratch org round s
  | .norm k stable src vd org sr => Sys2Proof.Machine.execNorm k stable src vd org sr s
  | .stipple k vd sn st => Sys2Proof.Machine.execStipple k vd sn st s
  | .route k n sem => Sys2Proof.Machine.execRoute k n sem s
  | .routeDone c => Sys2Proof.Machine.execRouteDone c s
  | .balReset k n sem => Sys2Proof.Machine.execBalReset k n sem s
  | .count k n sem => Sys2Proof.Machine.execCount k n sem s
  | .countExchangeResult c parts => Sys2Proof.Machine.execCountExchangeResult c parts s
  | .countComplete c spill => Sys2Proof.Machine.execCountComplete c spill s
  | .scatter k n sem => Sys2Proof.Machine.execScatter k n sem s
  | .scatterDone c => Sys2Proof.Machine.execScatterDone c s
  | .ret k n sem => Sys2Proof.Machine.execRet k n sem s
  | .returnDone c => Sys2Proof.Machine.execReturnDone c s
  | .combine k n sem => Sys2Proof.Machine.execCombine k n sem s
  | .combineTokenStart c token => Sys2Proof.Machine.execCombineTokenStart c token s
  | .combineDone c => Sys2Proof.Machine.execCombineDone c s
  | .exitTest k n sem => Sys2Proof.Machine.execExitTest k n sem s
  | .queueRelease c queue => Sys2Proof.Machine.execQueueRelease c queue s
  | .coll k n sem => Sys2Proof.Machine.execColl k n sem s
  | .collF32 k n sem => Sys2Proof.Machine.execCollF32 k n sem s
  | .collAlloc g step => Sys2Proof.Machine.execCollAlloc g step s
  | .collStepOk g step => Sys2Proof.Machine.execCollStepOk g step s
  | .collTimeout g step => Sys2Proof.Machine.execCollTimeout g step s
  | .abortFloodReceive g code tick rank => Sys2Proof.Machine.execAbortFloodReceive g code tick rank s
  | .abortFix g => Sys2Proof.Machine.execAbortFix g s
  | .collAbortSettle g => Sys2Proof.Machine.execCollAbortSettle g s
  | .groupReform g members => Sys2Proof.Machine.execGroupReform g members s
  | .gclaim k n sd => Sys2Proof.Machine.execGclaim k n sd s
  | .rosterReady c header => Sys2Proof.Machine.execRosterReady c header s
  | .rosterRelease c header entry => Sys2Proof.Machine.execRosterRelease c header entry s
  | .gclaimResult k => Sys2Proof.Machine.execGclaimResult k s
  | .launch c uid => Sys2Proof.Machine.execLaunch c uid s
  | .descCreate c uid => Sys2Proof.Machine.execDescCreate c uid s
  | .descDestroy c uid => Sys2Proof.Machine.execDescDestroy c uid s
  | .dmaCommand c uid => Sys2Proof.Machine.execDmaCommand c uid s
  | .signal c uid => Sys2Proof.Machine.execSignal c uid s
  | .abort c uid => Sys2Proof.Machine.execAbort c uid s
  | .fence c uid => Sys2Proof.Machine.execFence c uid s
  | .distSet c uid => Sys2Proof.Machine.execDistSet c uid s
  | .commandStart c uid => Sys2Proof.Machine.execCommandStart c uid s
  | .launchStart c uid => Sys2Proof.Machine.execLaunchStart c uid s
  | .commandTerminal c uid ats => Sys2Proof.Machine.execCommandTerminal c uid ats s
  | .trackerWaitEnd k => Sys2Proof.Machine.execTrackerWaitEnd k s
  | .waitTimeout k c => Sys2Proof.Machine.execWaitTimeout k c s
  | .teardownStop c => Sys2Proof.Machine.execTeardownStop c s
  | .scrubStart c => Sys2Proof.Machine.execScrubStart c s
  | .transactionAbandon c => Sys2Proof.Machine.execTransactionAbandon c s
  | .teardownFree c => Sys2Proof.Machine.execTeardownFree c s
  | .scrubUnitDone m unit => Sys2Proof.Machine.execScrubUnitDone m unit s
  | .createComplete c => Sys2Proof.Machine.execCreateComplete c s
  | .slotStart e => Sys2Proof.Machine.execSlotStart e s
  | .preemptSaveDone k => Sys2Proof.Machine.execPreemptSaveDone k s
  | .restoreDone k => Sys2Proof.Machine.execRestoreDone k s
  | .rulingSwitch e => Sys2Proof.Machine.execRulingSwitch e s
  | .hbmLineIssue c => Sys2Proof.Machine.execHbmLineIssue c s
  | .hbmRefresh => Sys2Proof.Machine.execHbmRefresh s
  | .hbmReadReturn xfer line ecc => Sys2Proof.Machine.execHbmReadReturn xfer line ecc s
  | .hbmWriteRetire xfer line => Sys2Proof.Machine.execHbmWriteRetire xfer line s
  | .tickMarkerSend => Sys2Proof.Machine.execTickMarkerSend s
  | .tickMarkerReceive l m arrival => Sys2Proof.Machine.execTickMarkerReceive l m arrival s
  | .holdoverEntry => Sys2Proof.Machine.execHoldoverEntry s
  | .holdoverLongEntry => Sys2Proof.Machine.execHoldoverLongEntry s
  | .slewStep => Sys2Proof.Machine.execSlewStep s
  | .frequencyLock => Sys2Proof.Machine.execFrequencyLock s
  | .linkTrainStart l => Sys2Proof.Machine.execLinkTrainStart l s
  | .linkEqualised l => Sys2Proof.Machine.execLinkEqualised l s
  | .linkAligned l => Sys2Proof.Machine.execLinkAligned l s
  | .identityReceive l b => Sys2Proof.Machine.execIdentityReceive l b s
  | .delayComplete l stamps => Sys2Proof.Machine.execDelayComplete l stamps s
  | .linkStateTimeout l => Sys2Proof.Machine.execLinkStateTimeout l s
  | .flitSend l => Sys2Proof.Machine.execFlitSend l s
  | .dataFlitReceive l f fec => Sys2Proof.Machine.execDataFlitReceive l f fec s
  | .controlFlitReceive l f fec msgs => Sys2Proof.Machine.execControlFlitReceive l f fec msgs s
  | .linkAckReceive l seq credit fec => Sys2Proof.Machine.execLinkAckReceive l seq credit fec s
  | .flitError l => Sys2Proof.Machine.execFlitError l s
  | .nakReceive l seq credit fec => Sys2Proof.Machine.execNakReceive l seq credit fec s
  | .nakRepeat l => Sys2Proof.Machine.execNakRepeat l s
  | .linkDown l => Sys2Proof.Machine.execLinkDown l s
  | .blockLockLost l => Sys2Proof.Machine.execBlockLockLost l s
  | .packetLand p => Sys2Proof.Machine.execPacketLand p s
  | .discoveryReport r => Sys2Proof.Machine.execDiscoveryReport r s
  | .deviceDepart addr => Sys2Proof.Machine.execDeviceDepart addr s
  | .routeTableSwitch => Sys2Proof.Machine.execRouteTableSwitch s
  | .electionComplete => Sys2Proof.Machine.execElectionComplete s
  | .positionAssign l peerAddr extents => Sys2Proof.Machine.execPositionAssign l peerAddr extents s
  | .soloLead => Sys2Proof.Machine.execSoloLead s
  | .leadBeatSend => Sys2Proof.Machine.execLeadBeatSend s
  | .leadBeatReceive l epoch lead mapVersion => Sys2Proof.Machine.execLeadBeatReceive l epoch lead mapVersion s
  | .standbyTakeover => Sys2Proof.Machine.execStandbyTakeover s
  | .pairBeatSend => Sys2Proof.Machine.execPairBeatSend s
  | .partnerLost => Sys2Proof.Machine.execPartnerLost s
  | .forwardedInputReceive stamp input => Sys2Proof.Machine.execForwardedInputReceive stamp input s
  | .forwardedInputApply => Sys2Proof.Machine.execForwardedInputApply s
  | .lagOverrun => Sys2Proof.Machine.execLagOverrun s
  | .digestCompare c cmdId digest terminal => Sys2Proof.Machine.execDigestCompare c cmdId digest terminal s
  | .promotion => Sys2Proof.Machine.execPromotion s
  | .promote => Sys2Proof.Machine.execPromote s
  | .stepBuild c => Sys2Proof.Machine.execStepBuild c s
  | .stepPost c => Sys2Proof.Machine.execStepPost c s
  | .ctxSeqReqTail c v => Sys2Proof.Machine.execCtxSeqReqTail c v s
  | .read src => Sys2Proof.Machine.execRead src s
  | .write src => Sys2Proof.Machine.execWrite src s
  | .snapshot src => Sys2Proof.Machine.execSnapshot src s
  | .snapRead src => Sys2Proof.Machine.execSnapRead src s
  | .mbxTService c => Sys2Proof.Machine.execMbxTService c s
  | .mbxReply f => Sys2Proof.Machine.execMbxReply f s
  | .flagsClear c mask => Sys2Proof.Machine.execFlagsClear c mask s
  | .oobClear c => Sys2Proof.Machine.execOobClear c s
  | .govClear c => Sys2Proof.Machine.execGovClear c s
  | .flashWrite offset data => Sys2Proof.Machine.execFlashWrite offset data s
  | .flashWriteDone => Sys2Proof.Machine.execFlashWriteDone s
  | .check => Sys2Proof.Machine.execCheck s
  | .checkDone => Sys2Proof.Machine.execCheckDone s
  | .commit => Sys2Proof.Machine.execCommit s
  | .revert => Sys2Proof.Machine.execRevert s
  | .discard => Sys2Proof.Machine.execDiscard s
  | .configAbort => Sys2Proof.Machine.execConfigAbort s
  | .prepareReceive commitId actTick epoch => Sys2Proof.Machine.execPrepareReceive commitId actTick epoch s
  | .voteReceive addr v => Sys2Proof.Machine.execVoteReceive addr v s
  | .commitDecide => Sys2Proof.Machine.execCommitDecide s
  | .decisionReceive version => Sys2Proof.Machine.execDecisionReceive version s
  | .noDecision => Sys2Proof.Machine.execNoDecision s
  | .setActivation => Sys2Proof.Machine.execSetActivation s
  | .fuseProgram => Sys2Proof.Machine.execFuseProgram s
  | .energyWindowStart measured => Sys2Proof.Machine.execEnergyWindowStart measured s
  | .thermalSample milliC => Sys2Proof.Machine.execThermalSample milliC s
  | .railSample rail mV => Sys2Proof.Machine.execRailSample rail mV s
  | .tripAssert => Sys2Proof.Machine.execTripAssert s
  | .tripStop => Sys2Proof.Machine.execTripStop s
  | .partitionWatchdog => Sys2Proof.Machine.execPartitionWatchdog s
  | .ringDoorbell c r v => Sys2Proof.Machine.execRingDoorbell c r v s
  | .ringEnable c r enable log2 => Sys2Proof.Machine.execRingEnable c r enable log2 s
  | .cqHeadWrite c r v => Sys2Proof.Machine.execCqHeadWrite c r v s
  | .descriptorTake c r fetched => Sys2Proof.Machine.execDescriptorTake c r fetched s
  | .counterLoRead f offset => Sys2Proof.Machine.execCounterLoRead f offset s
  | .bar2Access f offset write length poisoned => Sys2Proof.Machine.execBar2Access f offset write length poisoned s
  | .registerWrite f offset value => Sys2Proof.Machine.execRegisterWrite f offset value s
  | .vfFlr c => Sys2Proof.Machine.execVfFlr c s
  | .pfFlr => Sys2Proof.Machine.execPfFlr s
  | .hostLoss kind => Sys2Proof.Machine.execHostLoss kind s
  | .perstDeassert => Sys2Proof.Machine.execPerstDeassert s
  | .sriovControlWrite numVfs vfEnable => Sys2Proof.Machine.execSriovControlWrite numVfs vfEnable s
  | .ideCheckFail stream => Sys2Proof.Machine.execIdeCheckFail stream s
  | .getMeasurements index => Sys2Proof.Machine.execGetMeasurements index s
  | .challenge nonce => Sys2Proof.Machine.execChallenge nonce s
  | .keyExchange peer => Sys2Proof.Machine.execKeyExchange peer s
  | .ideKm stream key => Sys2Proof.Machine.execIdeKm stream key s
  | .neighbourDiscovery src => Sys2Proof.Machine.execNeighbourDiscovery src s
  | .icmpv6Echo src payload => Sys2Proof.Machine.execIcmpv6Echo src payload s
  | .dhcpv4 addr => Sys2Proof.Machine.execDhcpv4 addr s
  | .i2cRead length => Sys2Proof.Machine.execI2cRead length s
  | .i2cWrite data => Sys2Proof.Machine.execI2cWrite data s
  | .bypass => Sys2Proof.Machine.execBypass s
  | .idcode => Sys2Proof.Machine.execIdcode s
  | .samplePreload cells => Sys2Proof.Machine.execSamplePreload cells s
  | .extest => Sys2Proof.Machine.execExtest s
  | .clamp => Sys2Proof.Machine.execClamp s
  | .highz => Sys2Proof.Machine.execHighz s
  | .extestPulse => Sys2Proof.Machine.execExtestPulse s
  | .extestTrain => Sys2Proof.Machine.execExtestTrain s
  | .porReset => Sys2Proof.Machine.execPorReset s
  | .porRise i2cAddr xspiOctal => Sys2Proof.Machine.execPorRise i2cAddr xspiOctal s
  | .rootPllLock => Sys2Proof.Machine.execRootPllLock s
  | .romVerifyDone => Sys2Proof.Machine.execRomVerifyDone s
  | .bootWatchdog => Sys2Proof.Machine.execBootWatchdog s
  | .readyPoint => Sys2Proof.Machine.execReadyPoint s
  | .hbmTrainDone failed => Sys2Proof.Machine.execHbmTrainDone failed s
  | .powerOnScrubDone => Sys2Proof.Machine.execPowerOnScrubDone s
  | .pcieLinkUp rate width flit => Sys2Proof.Machine.execPcieLinkUp rate width flit s
  | .mbxRing f => Sys2Proof.Machine.execMbxRing f s
  | .pairBeatReceive l => Sys2Proof.Machine.execPairBeatReceive l s
  | .balRowWritten c layer => Sys2Proof.Machine.execBalRowWritten c layer s
  | .unitFree k unit => Sys2Proof.Machine.execUnitFree k unit s
  | .undefinedOpcode k => Sys2Proof.Machine.execUndefinedOpcode k s

end Sys2Proof.Machine
end

