-- ==== Sys2Proof/Machine/Idle.lean ====
section
/-! DEFINITION. What happens when no command waits: the clock ticks once. -/

namespace Sys2Proof.Machine

/-- A tick state in which holdover time runs (R53, R56). -/
def TickUnit.inHoldover (t : TickUnit) : Bool := t.state == 3 || t.state == 4 || t.holdover

/-- One tick of the clock, once the root PLL has locked (R27, R858); the elapsed time of a holdover counts on
(R55, R56). -/
def TickUnit.advance (t : TickUnit) : TickUnit :=
  if t.rootLocked then
    { t with now := t.now + 1, elapsed := if t.inHoldover then t.elapsed + 1 else t.elapsed }
  else t

/-- What waits for a place in the log ring or on ring 3, for a slot of an engine or for BAR2 writes goes on in the cycle in
which it can (R250, R303, R387, R722, R786). -/
def State.retry (s : State) : State :=
  s.ctxs.foldl (fun s x =>
    let s := if x.2.quill.todo.isEmpty then s else s.moveNow x.1
    let s := if x.2.quill.conductor.isEmpty then s else s.conductNow x.1
    s.settleBells x.1) s.pushLog

/-- The state after a tick with no command. -/
def State.idle (s : State) : State := { s with tick := s.tick.advance }.retry

end Sys2Proof.Machine
end

