-- ==== Sys2Proof/Laws/Memory.lean ====
section
/-! SUPPORT. Byte memories keep their canonical form, a byte written reads back, and every other byte stays. -/

namespace Sys2Proof.Machine

/-- Address k lies above an optional bound. -/
def Memory.above (lo : Option Nat) (k : Nat) : Prop := ∀ l, lo = some l → l < k

/-- The canonical form of a memory with a first entry. -/
theorem Memory.wfFrom_cons (lo : Option Nat) (k : Nat) (v : Byte) (t : Memory) :
    Memory.wfFrom lo ((k, v) :: t) = true ↔ Memory.above lo k ∧ v ≠ 0 ∧ Memory.wfFrom (some k) t = true := by
  cases lo <;> simp [Memory.wfFrom, Memory.above, and_assoc]

/-- A lower bound that holds may be weakened. -/
theorem Memory.wfFrom_weaken (m : Memory) (a b : Option Nat) (hab : ∀ l, a = some l → ∃ k, b = some k ∧ l ≤ k)
    (h : Memory.wfFrom b m = true) : Memory.wfFrom a m = true := by
  cases m with
  | nil => rfl
  | cons p t =>
    obtain ⟨k, v⟩ := p
    rw [Memory.wfFrom_cons] at h ⊢
    refine ⟨fun l e => ?_, h.2⟩
    obtain ⟨j, hj, hle⟩ := hab l e
    exact Nat.lt_of_le_of_lt hle (h.1 j hj)

/-- The rest of a canonical memory is canonical above every bound of the whole. -/
theorem Memory.wfFrom_tail (lo : Option Nat) (k : Nat) (t : Memory) (hk : Memory.above lo k)
    (h : Memory.wfFrom (some k) t = true) : Memory.wfFrom lo t = true :=
  Memory.wfFrom_weaken t lo (some k) (fun l e => ⟨k, rfl, Nat.le_of_lt (hk l e)⟩) h

/-- Writing keeps the form above a bound below the address. -/
theorem Memory.write_wfFrom (m : Memory) (lo : Option Nat) (a : Nat) (v : Byte) (ha : Memory.above lo a)
    (h : Memory.wfFrom lo m = true) : Memory.wfFrom lo (m.write a v) = true := by
  induction m generalizing lo with
  | nil =>
    unfold Memory.write
    split
    · rfl
    · exact (Memory.wfFrom_cons _ _ _ _).2 ⟨ha, ‹_›, rfl⟩
  | cons p t ih =>
    obtain ⟨k, w⟩ := p
    have hk := (Memory.wfFrom_cons _ _ _ _).1 h
    unfold Memory.write
    split
    · split
      · exact h
      · exact (Memory.wfFrom_cons _ _ _ _).2
          ⟨ha, ‹_›, (Memory.wfFrom_cons _ _ _ _).2 ⟨fun l e => by cases e; assumption, hk.2⟩⟩
    · split
      · split
        · exact Memory.wfFrom_tail _ _ _ hk.1 hk.2.2
        · rename_i e hv
          subst e
          exact (Memory.wfFrom_cons _ _ _ _).2 ⟨ha, hv, hk.2.2⟩
      · exact (Memory.wfFrom_cons _ _ _ _).2
          ⟨hk.1, hk.2.1, ih (some k) (fun l e => by cases e; omega) hk.2.2⟩

/-- Writing a byte keeps the canonical form. -/
theorem Memory.write_wf (m : Memory) (a : Nat) (v : Byte) (h : m.wf = true) : (m.write a v).wf = true :=
  Memory.write_wfFrom m none a v (fun _ e => nomatch e) h

/-- Writing bytes keeps the canonical form. -/
theorem Memory.writeBytes_wf (m : Memory) (a : Nat) (b : Bytes) (h : m.wf = true) : (m.writeBytes a b).wf = true := by
  induction b generalizing m a with
  | nil => exact h
  | cons x t ih => exact ih _ _ (Memory.write_wf m a x h)

/-- Dropping entries keeps the form. -/
theorem Memory.filter_wfFrom (m : Memory) (p : Host.Cell → Bool) (lo : Option Nat) (h : Memory.wfFrom lo m = true) :
    Memory.wfFrom lo (m.filter p) = true := by
  induction m generalizing lo with
  | nil => rfl
  | cons c t ih =>
    obtain ⟨k, v⟩ := c
    have hk := (Memory.wfFrom_cons _ _ _ _).1 h
    simp only [List.filter_cons]
    split
    · exact (Memory.wfFrom_cons _ _ _ _).2 ⟨hk.1, hk.2.1, ih _ hk.2.2⟩
    · exact Memory.wfFrom_tail _ _ _ hk.1 (ih _ hk.2.2)

/-- Zeroing a range keeps the canonical form. -/
theorem Memory.zero_wf (m : Memory) (a n : Nat) (h : m.wf = true) : (m.zero a n).wf = true :=
  Memory.filter_wfFrom m _ none h

/-- Every address up to the bound reads 0. -/
theorem Memory.read_below (m : Memory) (l a : Nat) (ha : a ≤ l) (h : Memory.wfFrom (some l) m = true) : m.read a = 0 := by
  induction m generalizing l with
  | nil => rfl
  | cons p t ih =>
    obtain ⟨k, v⟩ := p
    have hk := (Memory.wfFrom_cons _ _ _ _).1 h
    have h1 := hk.1 l rfl
    unfold Memory.read
    rw [if_neg (by omega)]
    exact ih k (by omega) hk.2.2

/-- A byte of a canonical memory after a write: the byte written at its address, the old one elsewhere. -/
theorem Memory.read_write (m : Memory) (lo : Option Nat) (a b : Nat) (v : Byte) (h : Memory.wfFrom lo m = true) :
    (m.write a v).read b = if b = a then v else m.read b := by
  induction m generalizing lo with
  | nil =>
    unfold Memory.write
    by_cases hb : b = a
    · subst hb
      split
      · rw [if_pos rfl]; exact (‹v = 0›).symm
      · simp [Memory.read]
    · rw [if_neg hb]
      split
      · rfl
      · unfold Memory.read; rw [if_neg (Ne.symm hb)]; rfl
  | cons p t ih =>
    obtain ⟨k, w⟩ := p
    have hk := (Memory.wfFrom_cons _ _ _ _).1 h
    unfold Memory.write
    split
    · rename_i h1
      have hr : ∀ c, c < k → Memory.read ((k, w) :: t) c = 0 := fun c hc => by
        unfold Memory.read
        rw [if_neg (by omega)]
        exact Memory.read_below t k c (by omega) hk.2.2
      split
      · split
        · rename_i e; subst e; rw [hr _ h1]; exact (‹v = 0›).symm
        · rfl
      · by_cases hb : b = a
        · subst hb; simp [Memory.read]
        · rw [if_neg hb]; unfold Memory.read; rw [if_neg (Ne.symm hb)]; rfl
    · split
      · rename_i e
        subst e
        split
        · by_cases hb : b = a
          · subst hb; rw [if_pos rfl, Memory.read_below t b b (Nat.le_refl b) hk.2.2]; exact (‹v = 0›).symm
          · rw [if_neg hb]
            conv => rhs; unfold Memory.read
            rw [if_neg (Ne.symm hb)]
        · by_cases hb : b = a
          · subst hb; simp [Memory.read]
          · rw [if_neg hb]; unfold Memory.read; rw [if_neg (Ne.symm hb), if_neg (Ne.symm hb)]
      · unfold Memory.read
        split
        · rename_i e; subst e; rw [if_neg (by omega)]
        · exact ih (some k) hk.2.2

/-- Bytes written elsewhere leave a byte alone. -/
theorem Memory.read_writeBytes_ne (m : Memory) (a b : Nat) (l : Bytes) (h : m.wf = true) (hb : b < a ∨ a + l.length ≤ b) :
    (m.writeBytes a l).read b = m.read b := by
  induction l generalizing m a with
  | nil => rfl
  | cons x t ih =>
    have hl : (x :: t).length = t.length + 1 := rfl
    show ((m.write a x).writeBytes (a + 1) t).read b = _
    rw [ih _ _ (Memory.write_wf m a x h) (by omega), Memory.read_write m none a b x h, if_neg (by omega)]

end Sys2Proof.Machine
end

