-- ==== Sys2Proof/Laws/State.lean ====
section
/-! SUPPORT. What each updater of the state leaves alone, one lemma for each field, and what it changes. -/

namespace Sys2Proof.Machine

/-! ## updCtx -/

@[simp] theorem State.updCtx_ident (s : State) (c : Nat) (f : Ctx → Ctx) : (s.updCtx c f).ident = s.ident := rfl
@[simp] theorem State.updCtx_tick (s : State) (c : Nat) (f : Ctx → Ctx) : (s.updCtx c f).tick = s.tick := rfl
@[simp] theorem State.updCtx_cores (s : State) (c : Nat) (f : Ctx → Ctx) : (s.updCtx c f).cores = s.cores := rfl
@[simp] theorem State.updCtx_wheels (s : State) (c : Nat) (f : Ctx → Ctx) : (s.updCtx c f).wheels = s.wheels := rfl
@[simp] theorem State.updCtx_hbm (s : State) (c : Nat) (f : Ctx → Ctx) : (s.updCtx c f).hbm = s.hbm := rfl
@[simp] theorem State.updCtx_hbmMem (s : State) (c : Nat) (f : Ctx → Ctx) : (s.updCtx c f).hbmMem = s.hbmMem := rfl
@[simp] theorem State.updCtx_sramMem (s : State) (c : Nat) (f : Ctx → Ctx) : (s.updCtx c f).sramMem = s.sramMem := rfl
@[simp] theorem State.updCtx_resMem (s : State) (c : Nat) (f : Ctx → Ctx) : (s.updCtx c f).resMem = s.resMem := rfl
@[simp] theorem State.updCtx_stageMem (s : State) (c : Nat) (f : Ctx → Ctx) : (s.updCtx c f).stageMem = s.stageMem := rfl
@[simp] theorem State.updCtx_ctlMem (s : State) (c : Nat) (f : Ctx → Ctx) : (s.updCtx c f).ctlMem = s.ctlMem := rfl
@[simp] theorem State.updCtx_flash (s : State) (c : Nat) (f : Ctx → Ctx) : (s.updCtx c f).flash = s.flash := rfl
@[simp] theorem State.updCtx_hostMem (s : State) (c : Nat) (f : Ctx → Ctx) : (s.updCtx c f).hostMem = s.hostMem := rfl
@[simp] theorem State.updCtx_scrubSram (s : State) (c : Nat) (f : Ctx → Ctx) : (s.updCtx c f).scrubSram = s.scrubSram := rfl
@[simp] theorem State.updCtx_scrubHbm (s : State) (c : Nat) (f : Ctx → Ctx) : (s.updCtx c f).scrubHbm = s.scrubHbm := rfl
@[simp] theorem State.updCtx_scrubRes (s : State) (c : Nat) (f : Ctx → Ctx) : (s.updCtx c f).scrubRes = s.scrubRes := rfl
@[simp] theorem State.updCtx_scrubStage (s : State) (c : Nat) (f : Ctx → Ctx) : (s.updCtx c f).scrubStage = s.scrubStage := rfl
@[simp] theorem State.updCtx_links (s : State) (c : Nat) (f : Ctx → Ctx) : (s.updCtx c f).links = s.links := rfl
@[simp] theorem State.updCtx_topo (s : State) (c : Nat) (f : Ctx → Ctx) : (s.updCtx c f).topo = s.topo := rfl
@[simp] theorem State.updCtx_groups (s : State) (c : Nat) (f : Ctx → Ctx) : (s.updCtx c f).groups = s.groups := rfl
@[simp] theorem State.updCtx_cfg (s : State) (c : Nat) (f : Ctx → Ctx) : (s.updCtx c f).cfg = s.cfg := rfl
@[simp] theorem State.updCtx_sets (s : State) (c : Nat) (f : Ctx → Ctx) : (s.updCtx c f).sets = s.sets := rfl
@[simp] theorem State.updCtx_mgmt (s : State) (c : Nat) (f : Ctx → Ctx) : (s.updCtx c f).mgmt = s.mgmt := rfl
@[simp] theorem State.updCtx_fw (s : State) (c : Nat) (f : Ctx → Ctx) : (s.updCtx c f).fw = s.fw := rfl
@[simp] theorem State.updCtx_energy (s : State) (c : Nat) (f : Ctx → Ctx) : (s.updCtx c f).energy = s.energy := rfl
@[simp] theorem State.updCtx_safety (s : State) (c : Nat) (f : Ctx → Ctx) : (s.updCtx c f).safety = s.safety := rfl
@[simp] theorem State.updCtx_pair (s : State) (c : Nat) (f : Ctx → Ctx) : (s.updCtx c f).pair = s.pair := rfl
@[simp] theorem State.updCtx_pcie (s : State) (c : Nat) (f : Ctx → Ctx) : (s.updCtx c f).pcie = s.pcie := rfl
@[simp] theorem State.updCtx_pins (s : State) (c : Nat) (f : Ctx → Ctx) : (s.updCtx c f).pins = s.pins := rfl
@[simp] theorem State.updCtx_discardedInactive (s : State) (c : Nat) (f : Ctx → Ctx) : (s.updCtx c f).discardedInactive = s.discardedInactive := rfl
@[simp] theorem State.updCtx_out (s : State) (c : Nat) (f : Ctx → Ctx) : (s.updCtx c f).out = s.out := rfl
@[simp] theorem State.updCtx_pending (s : State) (c : Nat) (f : Ctx → Ctx) : (s.updCtx c f).pending = s.pending := rfl

/-! ## updCore -/

@[simp] theorem State.updCore_ident (s : State) (k : Nat) (f : Core → Core) : (s.updCore k f).ident = s.ident := rfl
@[simp] theorem State.updCore_tick (s : State) (k : Nat) (f : Core → Core) : (s.updCore k f).tick = s.tick := rfl
@[simp] theorem State.updCore_ctxs (s : State) (k : Nat) (f : Core → Core) : (s.updCore k f).ctxs = s.ctxs := rfl
@[simp] theorem State.updCore_wheels (s : State) (k : Nat) (f : Core → Core) : (s.updCore k f).wheels = s.wheels := rfl
@[simp] theorem State.updCore_hbm (s : State) (k : Nat) (f : Core → Core) : (s.updCore k f).hbm = s.hbm := rfl
@[simp] theorem State.updCore_hbmMem (s : State) (k : Nat) (f : Core → Core) : (s.updCore k f).hbmMem = s.hbmMem := rfl
@[simp] theorem State.updCore_sramMem (s : State) (k : Nat) (f : Core → Core) : (s.updCore k f).sramMem = s.sramMem := rfl
@[simp] theorem State.updCore_resMem (s : State) (k : Nat) (f : Core → Core) : (s.updCore k f).resMem = s.resMem := rfl
@[simp] theorem State.updCore_stageMem (s : State) (k : Nat) (f : Core → Core) : (s.updCore k f).stageMem = s.stageMem := rfl
@[simp] theorem State.updCore_ctlMem (s : State) (k : Nat) (f : Core → Core) : (s.updCore k f).ctlMem = s.ctlMem := rfl
@[simp] theorem State.updCore_flash (s : State) (k : Nat) (f : Core → Core) : (s.updCore k f).flash = s.flash := rfl
@[simp] theorem State.updCore_hostMem (s : State) (k : Nat) (f : Core → Core) : (s.updCore k f).hostMem = s.hostMem := rfl
@[simp] theorem State.updCore_scrubSram (s : State) (k : Nat) (f : Core → Core) : (s.updCore k f).scrubSram = s.scrubSram := rfl
@[simp] theorem State.updCore_scrubHbm (s : State) (k : Nat) (f : Core → Core) : (s.updCore k f).scrubHbm = s.scrubHbm := rfl
@[simp] theorem State.updCore_scrubRes (s : State) (k : Nat) (f : Core → Core) : (s.updCore k f).scrubRes = s.scrubRes := rfl
@[simp] theorem State.updCore_scrubStage (s : State) (k : Nat) (f : Core → Core) : (s.updCore k f).scrubStage = s.scrubStage := rfl
@[simp] theorem State.updCore_links (s : State) (k : Nat) (f : Core → Core) : (s.updCore k f).links = s.links := rfl
@[simp] theorem State.updCore_topo (s : State) (k : Nat) (f : Core → Core) : (s.updCore k f).topo = s.topo := rfl
@[simp] theorem State.updCore_groups (s : State) (k : Nat) (f : Core → Core) : (s.updCore k f).groups = s.groups := rfl
@[simp] theorem State.updCore_cfg (s : State) (k : Nat) (f : Core → Core) : (s.updCore k f).cfg = s.cfg := rfl
@[simp] theorem State.updCore_sets (s : State) (k : Nat) (f : Core → Core) : (s.updCore k f).sets = s.sets := rfl
@[simp] theorem State.updCore_mgmt (s : State) (k : Nat) (f : Core → Core) : (s.updCore k f).mgmt = s.mgmt := rfl
@[simp] theorem State.updCore_fw (s : State) (k : Nat) (f : Core → Core) : (s.updCore k f).fw = s.fw := rfl
@[simp] theorem State.updCore_energy (s : State) (k : Nat) (f : Core → Core) : (s.updCore k f).energy = s.energy := rfl
@[simp] theorem State.updCore_safety (s : State) (k : Nat) (f : Core → Core) : (s.updCore k f).safety = s.safety := rfl
@[simp] theorem State.updCore_pair (s : State) (k : Nat) (f : Core → Core) : (s.updCore k f).pair = s.pair := rfl
@[simp] theorem State.updCore_pcie (s : State) (k : Nat) (f : Core → Core) : (s.updCore k f).pcie = s.pcie := rfl
@[simp] theorem State.updCore_pins (s : State) (k : Nat) (f : Core → Core) : (s.updCore k f).pins = s.pins := rfl
@[simp] theorem State.updCore_discardedInactive (s : State) (k : Nat) (f : Core → Core) : (s.updCore k f).discardedInactive = s.discardedInactive := rfl
@[simp] theorem State.updCore_out (s : State) (k : Nat) (f : Core → Core) : (s.updCore k f).out = s.out := rfl
@[simp] theorem State.updCore_pending (s : State) (k : Nat) (f : Core → Core) : (s.updCore k f).pending = s.pending := rfl

/-! ## updLink -/

@[simp] theorem State.updLink_ident (s : State) (l : Nat) (f : Link → Link) : (s.updLink l f).ident = s.ident := rfl
@[simp] theorem State.updLink_tick (s : State) (l : Nat) (f : Link → Link) : (s.updLink l f).tick = s.tick := rfl
@[simp] theorem State.updLink_ctxs (s : State) (l : Nat) (f : Link → Link) : (s.updLink l f).ctxs = s.ctxs := rfl
@[simp] theorem State.updLink_cores (s : State) (l : Nat) (f : Link → Link) : (s.updLink l f).cores = s.cores := rfl
@[simp] theorem State.updLink_wheels (s : State) (l : Nat) (f : Link → Link) : (s.updLink l f).wheels = s.wheels := rfl
@[simp] theorem State.updLink_hbm (s : State) (l : Nat) (f : Link → Link) : (s.updLink l f).hbm = s.hbm := rfl
@[simp] theorem State.updLink_hbmMem (s : State) (l : Nat) (f : Link → Link) : (s.updLink l f).hbmMem = s.hbmMem := rfl
@[simp] theorem State.updLink_sramMem (s : State) (l : Nat) (f : Link → Link) : (s.updLink l f).sramMem = s.sramMem := rfl
@[simp] theorem State.updLink_resMem (s : State) (l : Nat) (f : Link → Link) : (s.updLink l f).resMem = s.resMem := rfl
@[simp] theorem State.updLink_stageMem (s : State) (l : Nat) (f : Link → Link) : (s.updLink l f).stageMem = s.stageMem := rfl
@[simp] theorem State.updLink_ctlMem (s : State) (l : Nat) (f : Link → Link) : (s.updLink l f).ctlMem = s.ctlMem := rfl
@[simp] theorem State.updLink_flash (s : State) (l : Nat) (f : Link → Link) : (s.updLink l f).flash = s.flash := rfl
@[simp] theorem State.updLink_hostMem (s : State) (l : Nat) (f : Link → Link) : (s.updLink l f).hostMem = s.hostMem := rfl
@[simp] theorem State.updLink_scrubSram (s : State) (l : Nat) (f : Link → Link) : (s.updLink l f).scrubSram = s.scrubSram := rfl
@[simp] theorem State.updLink_scrubHbm (s : State) (l : Nat) (f : Link → Link) : (s.updLink l f).scrubHbm = s.scrubHbm := rfl
@[simp] theorem State.updLink_scrubRes (s : State) (l : Nat) (f : Link → Link) : (s.updLink l f).scrubRes = s.scrubRes := rfl
@[simp] theorem State.updLink_scrubStage (s : State) (l : Nat) (f : Link → Link) : (s.updLink l f).scrubStage = s.scrubStage := rfl
@[simp] theorem State.updLink_topo (s : State) (l : Nat) (f : Link → Link) : (s.updLink l f).topo = s.topo := rfl
@[simp] theorem State.updLink_groups (s : State) (l : Nat) (f : Link → Link) : (s.updLink l f).groups = s.groups := rfl
@[simp] theorem State.updLink_cfg (s : State) (l : Nat) (f : Link → Link) : (s.updLink l f).cfg = s.cfg := rfl
@[simp] theorem State.updLink_sets (s : State) (l : Nat) (f : Link → Link) : (s.updLink l f).sets = s.sets := rfl
@[simp] theorem State.updLink_mgmt (s : State) (l : Nat) (f : Link → Link) : (s.updLink l f).mgmt = s.mgmt := rfl
@[simp] theorem State.updLink_fw (s : State) (l : Nat) (f : Link → Link) : (s.updLink l f).fw = s.fw := rfl
@[simp] theorem State.updLink_energy (s : State) (l : Nat) (f : Link → Link) : (s.updLink l f).energy = s.energy := rfl
@[simp] theorem State.updLink_safety (s : State) (l : Nat) (f : Link → Link) : (s.updLink l f).safety = s.safety := rfl
@[simp] theorem State.updLink_pair (s : State) (l : Nat) (f : Link → Link) : (s.updLink l f).pair = s.pair := rfl
@[simp] theorem State.updLink_pcie (s : State) (l : Nat) (f : Link → Link) : (s.updLink l f).pcie = s.pcie := rfl
@[simp] theorem State.updLink_pins (s : State) (l : Nat) (f : Link → Link) : (s.updLink l f).pins = s.pins := rfl
@[simp] theorem State.updLink_discardedInactive (s : State) (l : Nat) (f : Link → Link) : (s.updLink l f).discardedInactive = s.discardedInactive := rfl
@[simp] theorem State.updLink_out (s : State) (l : Nat) (f : Link → Link) : (s.updLink l f).out = s.out := rfl
@[simp] theorem State.updLink_pending (s : State) (l : Nat) (f : Link → Link) : (s.updLink l f).pending = s.pending := rfl

/-! ## updGroup -/

@[simp] theorem State.updGroup_ident (s : State) (g : Nat) (f : Group → Group) : (s.updGroup g f).ident = s.ident := rfl
@[simp] theorem State.updGroup_tick (s : State) (g : Nat) (f : Group → Group) : (s.updGroup g f).tick = s.tick := rfl
@[simp] theorem State.updGroup_ctxs (s : State) (g : Nat) (f : Group → Group) : (s.updGroup g f).ctxs = s.ctxs := rfl
@[simp] theorem State.updGroup_cores (s : State) (g : Nat) (f : Group → Group) : (s.updGroup g f).cores = s.cores := rfl
@[simp] theorem State.updGroup_wheels (s : State) (g : Nat) (f : Group → Group) : (s.updGroup g f).wheels = s.wheels := rfl
@[simp] theorem State.updGroup_hbm (s : State) (g : Nat) (f : Group → Group) : (s.updGroup g f).hbm = s.hbm := rfl
@[simp] theorem State.updGroup_hbmMem (s : State) (g : Nat) (f : Group → Group) : (s.updGroup g f).hbmMem = s.hbmMem := rfl
@[simp] theorem State.updGroup_sramMem (s : State) (g : Nat) (f : Group → Group) : (s.updGroup g f).sramMem = s.sramMem := rfl
@[simp] theorem State.updGroup_resMem (s : State) (g : Nat) (f : Group → Group) : (s.updGroup g f).resMem = s.resMem := rfl
@[simp] theorem State.updGroup_stageMem (s : State) (g : Nat) (f : Group → Group) : (s.updGroup g f).stageMem = s.stageMem := rfl
@[simp] theorem State.updGroup_ctlMem (s : State) (g : Nat) (f : Group → Group) : (s.updGroup g f).ctlMem = s.ctlMem := rfl
@[simp] theorem State.updGroup_flash (s : State) (g : Nat) (f : Group → Group) : (s.updGroup g f).flash = s.flash := rfl
@[simp] theorem State.updGroup_hostMem (s : State) (g : Nat) (f : Group → Group) : (s.updGroup g f).hostMem = s.hostMem := rfl
@[simp] theorem State.updGroup_scrubSram (s : State) (g : Nat) (f : Group → Group) : (s.updGroup g f).scrubSram = s.scrubSram := rfl
@[simp] theorem State.updGroup_scrubHbm (s : State) (g : Nat) (f : Group → Group) : (s.updGroup g f).scrubHbm = s.scrubHbm := rfl
@[simp] theorem State.updGroup_scrubRes (s : State) (g : Nat) (f : Group → Group) : (s.updGroup g f).scrubRes = s.scrubRes := rfl
@[simp] theorem State.updGroup_scrubStage (s : State) (g : Nat) (f : Group → Group) : (s.updGroup g f).scrubStage = s.scrubStage := rfl
@[simp] theorem State.updGroup_links (s : State) (g : Nat) (f : Group → Group) : (s.updGroup g f).links = s.links := rfl
@[simp] theorem State.updGroup_topo (s : State) (g : Nat) (f : Group → Group) : (s.updGroup g f).topo = s.topo := rfl
@[simp] theorem State.updGroup_cfg (s : State) (g : Nat) (f : Group → Group) : (s.updGroup g f).cfg = s.cfg := rfl
@[simp] theorem State.updGroup_sets (s : State) (g : Nat) (f : Group → Group) : (s.updGroup g f).sets = s.sets := rfl
@[simp] theorem State.updGroup_mgmt (s : State) (g : Nat) (f : Group → Group) : (s.updGroup g f).mgmt = s.mgmt := rfl
@[simp] theorem State.updGroup_fw (s : State) (g : Nat) (f : Group → Group) : (s.updGroup g f).fw = s.fw := rfl
@[simp] theorem State.updGroup_energy (s : State) (g : Nat) (f : Group → Group) : (s.updGroup g f).energy = s.energy := rfl
@[simp] theorem State.updGroup_safety (s : State) (g : Nat) (f : Group → Group) : (s.updGroup g f).safety = s.safety := rfl
@[simp] theorem State.updGroup_pair (s : State) (g : Nat) (f : Group → Group) : (s.updGroup g f).pair = s.pair := rfl
@[simp] theorem State.updGroup_pcie (s : State) (g : Nat) (f : Group → Group) : (s.updGroup g f).pcie = s.pcie := rfl
@[simp] theorem State.updGroup_pins (s : State) (g : Nat) (f : Group → Group) : (s.updGroup g f).pins = s.pins := rfl
@[simp] theorem State.updGroup_discardedInactive (s : State) (g : Nat) (f : Group → Group) : (s.updGroup g f).discardedInactive = s.discardedInactive := rfl
@[simp] theorem State.updGroup_out (s : State) (g : Nat) (f : Group → Group) : (s.updGroup g f).out = s.out := rfl
@[simp] theorem State.updGroup_pending (s : State) (g : Nat) (f : Group → Group) : (s.updGroup g f).pending = s.pending := rfl

/-! ## updWheel -/

@[simp] theorem State.updWheel_ident (s : State) (e : Nat) (f : Wheel → Wheel) : (s.updWheel e f).ident = s.ident := rfl
@[simp] theorem State.updWheel_tick (s : State) (e : Nat) (f : Wheel → Wheel) : (s.updWheel e f).tick = s.tick := rfl
@[simp] theorem State.updWheel_ctxs (s : State) (e : Nat) (f : Wheel → Wheel) : (s.updWheel e f).ctxs = s.ctxs := rfl
@[simp] theorem State.updWheel_cores (s : State) (e : Nat) (f : Wheel → Wheel) : (s.updWheel e f).cores = s.cores := rfl
@[simp] theorem State.updWheel_hbm (s : State) (e : Nat) (f : Wheel → Wheel) : (s.updWheel e f).hbm = s.hbm := rfl
@[simp] theorem State.updWheel_hbmMem (s : State) (e : Nat) (f : Wheel → Wheel) : (s.updWheel e f).hbmMem = s.hbmMem := rfl
@[simp] theorem State.updWheel_sramMem (s : State) (e : Nat) (f : Wheel → Wheel) : (s.updWheel e f).sramMem = s.sramMem := rfl
@[simp] theorem State.updWheel_resMem (s : State) (e : Nat) (f : Wheel → Wheel) : (s.updWheel e f).resMem = s.resMem := rfl
@[simp] theorem State.updWheel_stageMem (s : State) (e : Nat) (f : Wheel → Wheel) : (s.updWheel e f).stageMem = s.stageMem := rfl
@[simp] theorem State.updWheel_ctlMem (s : State) (e : Nat) (f : Wheel → Wheel) : (s.updWheel e f).ctlMem = s.ctlMem := rfl
@[simp] theorem State.updWheel_flash (s : State) (e : Nat) (f : Wheel → Wheel) : (s.updWheel e f).flash = s.flash := rfl
@[simp] theorem State.updWheel_hostMem (s : State) (e : Nat) (f : Wheel → Wheel) : (s.updWheel e f).hostMem = s.hostMem := rfl
@[simp] theorem State.updWheel_scrubSram (s : State) (e : Nat) (f : Wheel → Wheel) : (s.updWheel e f).scrubSram = s.scrubSram := rfl
@[simp] theorem State.updWheel_scrubHbm (s : State) (e : Nat) (f : Wheel → Wheel) : (s.updWheel e f).scrubHbm = s.scrubHbm := rfl
@[simp] theorem State.updWheel_scrubRes (s : State) (e : Nat) (f : Wheel → Wheel) : (s.updWheel e f).scrubRes = s.scrubRes := rfl
@[simp] theorem State.updWheel_scrubStage (s : State) (e : Nat) (f : Wheel → Wheel) : (s.updWheel e f).scrubStage = s.scrubStage := rfl
@[simp] theorem State.updWheel_links (s : State) (e : Nat) (f : Wheel → Wheel) : (s.updWheel e f).links = s.links := rfl
@[simp] theorem State.updWheel_topo (s : State) (e : Nat) (f : Wheel → Wheel) : (s.updWheel e f).topo = s.topo := rfl
@[simp] theorem State.updWheel_groups (s : State) (e : Nat) (f : Wheel → Wheel) : (s.updWheel e f).groups = s.groups := rfl
@[simp] theorem State.updWheel_cfg (s : State) (e : Nat) (f : Wheel → Wheel) : (s.updWheel e f).cfg = s.cfg := rfl
@[simp] theorem State.updWheel_sets (s : State) (e : Nat) (f : Wheel → Wheel) : (s.updWheel e f).sets = s.sets := rfl
@[simp] theorem State.updWheel_mgmt (s : State) (e : Nat) (f : Wheel → Wheel) : (s.updWheel e f).mgmt = s.mgmt := rfl
@[simp] theorem State.updWheel_fw (s : State) (e : Nat) (f : Wheel → Wheel) : (s.updWheel e f).fw = s.fw := rfl
@[simp] theorem State.updWheel_energy (s : State) (e : Nat) (f : Wheel → Wheel) : (s.updWheel e f).energy = s.energy := rfl
@[simp] theorem State.updWheel_safety (s : State) (e : Nat) (f : Wheel → Wheel) : (s.updWheel e f).safety = s.safety := rfl
@[simp] theorem State.updWheel_pair (s : State) (e : Nat) (f : Wheel → Wheel) : (s.updWheel e f).pair = s.pair := rfl
@[simp] theorem State.updWheel_pcie (s : State) (e : Nat) (f : Wheel → Wheel) : (s.updWheel e f).pcie = s.pcie := rfl
@[simp] theorem State.updWheel_pins (s : State) (e : Nat) (f : Wheel → Wheel) : (s.updWheel e f).pins = s.pins := rfl
@[simp] theorem State.updWheel_discardedInactive (s : State) (e : Nat) (f : Wheel → Wheel) : (s.updWheel e f).discardedInactive = s.discardedInactive := rfl
@[simp] theorem State.updWheel_out (s : State) (e : Nat) (f : Wheel → Wheel) : (s.updWheel e f).out = s.out := rfl
@[simp] theorem State.updWheel_pending (s : State) (e : Nat) (f : Wheel → Wheel) : (s.updWheel e f).pending = s.pending := rfl

/-! ## updTick -/

@[simp] theorem State.updTick_ident (s : State) (f : TickUnit → TickUnit) : (s.updTick f).ident = s.ident := rfl
@[simp] theorem State.updTick_ctxs (s : State) (f : TickUnit → TickUnit) : (s.updTick f).ctxs = s.ctxs := rfl
@[simp] theorem State.updTick_cores (s : State) (f : TickUnit → TickUnit) : (s.updTick f).cores = s.cores := rfl
@[simp] theorem State.updTick_wheels (s : State) (f : TickUnit → TickUnit) : (s.updTick f).wheels = s.wheels := rfl
@[simp] theorem State.updTick_hbm (s : State) (f : TickUnit → TickUnit) : (s.updTick f).hbm = s.hbm := rfl
@[simp] theorem State.updTick_hbmMem (s : State) (f : TickUnit → TickUnit) : (s.updTick f).hbmMem = s.hbmMem := rfl
@[simp] theorem State.updTick_sramMem (s : State) (f : TickUnit → TickUnit) : (s.updTick f).sramMem = s.sramMem := rfl
@[simp] theorem State.updTick_resMem (s : State) (f : TickUnit → TickUnit) : (s.updTick f).resMem = s.resMem := rfl
@[simp] theorem State.updTick_stageMem (s : State) (f : TickUnit → TickUnit) : (s.updTick f).stageMem = s.stageMem := rfl
@[simp] theorem State.updTick_ctlMem (s : State) (f : TickUnit → TickUnit) : (s.updTick f).ctlMem = s.ctlMem := rfl
@[simp] theorem State.updTick_flash (s : State) (f : TickUnit → TickUnit) : (s.updTick f).flash = s.flash := rfl
@[simp] theorem State.updTick_hostMem (s : State) (f : TickUnit → TickUnit) : (s.updTick f).hostMem = s.hostMem := rfl
@[simp] theorem State.updTick_scrubSram (s : State) (f : TickUnit → TickUnit) : (s.updTick f).scrubSram = s.scrubSram := rfl
@[simp] theorem State.updTick_scrubHbm (s : State) (f : TickUnit → TickUnit) : (s.updTick f).scrubHbm = s.scrubHbm := rfl
@[simp] theorem State.updTick_scrubRes (s : State) (f : TickUnit → TickUnit) : (s.updTick f).scrubRes = s.scrubRes := rfl
@[simp] theorem State.updTick_scrubStage (s : State) (f : TickUnit → TickUnit) : (s.updTick f).scrubStage = s.scrubStage := rfl
@[simp] theorem State.updTick_links (s : State) (f : TickUnit → TickUnit) : (s.updTick f).links = s.links := rfl
@[simp] theorem State.updTick_topo (s : State) (f : TickUnit → TickUnit) : (s.updTick f).topo = s.topo := rfl
@[simp] theorem State.updTick_groups (s : State) (f : TickUnit → TickUnit) : (s.updTick f).groups = s.groups := rfl
@[simp] theorem State.updTick_cfg (s : State) (f : TickUnit → TickUnit) : (s.updTick f).cfg = s.cfg := rfl
@[simp] theorem State.updTick_sets (s : State) (f : TickUnit → TickUnit) : (s.updTick f).sets = s.sets := rfl
@[simp] theorem State.updTick_mgmt (s : State) (f : TickUnit → TickUnit) : (s.updTick f).mgmt = s.mgmt := rfl
@[simp] theorem State.updTick_fw (s : State) (f : TickUnit → TickUnit) : (s.updTick f).fw = s.fw := rfl
@[simp] theorem State.updTick_energy (s : State) (f : TickUnit → TickUnit) : (s.updTick f).energy = s.energy := rfl
@[simp] theorem State.updTick_safety (s : State) (f : TickUnit → TickUnit) : (s.updTick f).safety = s.safety := rfl
@[simp] theorem State.updTick_pair (s : State) (f : TickUnit → TickUnit) : (s.updTick f).pair = s.pair := rfl
@[simp] theorem State.updTick_pcie (s : State) (f : TickUnit → TickUnit) : (s.updTick f).pcie = s.pcie := rfl
@[simp] theorem State.updTick_pins (s : State) (f : TickUnit → TickUnit) : (s.updTick f).pins = s.pins := rfl
@[simp] theorem State.updTick_discardedInactive (s : State) (f : TickUnit → TickUnit) : (s.updTick f).discardedInactive = s.discardedInactive := rfl
@[simp] theorem State.updTick_out (s : State) (f : TickUnit → TickUnit) : (s.updTick f).out = s.out := rfl
@[simp] theorem State.updTick_pending (s : State) (f : TickUnit → TickUnit) : (s.updTick f).pending = s.pending := rfl

/-! ## emit -/

@[simp] theorem State.emit_ident (s : State) (o : Output) : (s.emit o).ident = s.ident := rfl
@[simp] theorem State.emit_tick (s : State) (o : Output) : (s.emit o).tick = s.tick := rfl
@[simp] theorem State.emit_ctxs (s : State) (o : Output) : (s.emit o).ctxs = s.ctxs := rfl
@[simp] theorem State.emit_cores (s : State) (o : Output) : (s.emit o).cores = s.cores := rfl
@[simp] theorem State.emit_wheels (s : State) (o : Output) : (s.emit o).wheels = s.wheels := rfl
@[simp] theorem State.emit_hbm (s : State) (o : Output) : (s.emit o).hbm = s.hbm := rfl
@[simp] theorem State.emit_hbmMem (s : State) (o : Output) : (s.emit o).hbmMem = s.hbmMem := rfl
@[simp] theorem State.emit_sramMem (s : State) (o : Output) : (s.emit o).sramMem = s.sramMem := rfl
@[simp] theorem State.emit_resMem (s : State) (o : Output) : (s.emit o).resMem = s.resMem := rfl
@[simp] theorem State.emit_stageMem (s : State) (o : Output) : (s.emit o).stageMem = s.stageMem := rfl
@[simp] theorem State.emit_ctlMem (s : State) (o : Output) : (s.emit o).ctlMem = s.ctlMem := rfl
@[simp] theorem State.emit_flash (s : State) (o : Output) : (s.emit o).flash = s.flash := rfl
@[simp] theorem State.emit_hostMem (s : State) (o : Output) : (s.emit o).hostMem = s.hostMem := rfl
@[simp] theorem State.emit_scrubSram (s : State) (o : Output) : (s.emit o).scrubSram = s.scrubSram := rfl
@[simp] theorem State.emit_scrubHbm (s : State) (o : Output) : (s.emit o).scrubHbm = s.scrubHbm := rfl
@[simp] theorem State.emit_scrubRes (s : State) (o : Output) : (s.emit o).scrubRes = s.scrubRes := rfl
@[simp] theorem State.emit_scrubStage (s : State) (o : Output) : (s.emit o).scrubStage = s.scrubStage := rfl
@[simp] theorem State.emit_links (s : State) (o : Output) : (s.emit o).links = s.links := rfl
@[simp] theorem State.emit_topo (s : State) (o : Output) : (s.emit o).topo = s.topo := rfl
@[simp] theorem State.emit_groups (s : State) (o : Output) : (s.emit o).groups = s.groups := rfl
@[simp] theorem State.emit_cfg (s : State) (o : Output) : (s.emit o).cfg = s.cfg := rfl
@[simp] theorem State.emit_sets (s : State) (o : Output) : (s.emit o).sets = s.sets := rfl
@[simp] theorem State.emit_mgmt (s : State) (o : Output) : (s.emit o).mgmt = s.mgmt := rfl
@[simp] theorem State.emit_fw (s : State) (o : Output) : (s.emit o).fw = s.fw := rfl
@[simp] theorem State.emit_energy (s : State) (o : Output) : (s.emit o).energy = s.energy := rfl
@[simp] theorem State.emit_safety (s : State) (o : Output) : (s.emit o).safety = s.safety := rfl
@[simp] theorem State.emit_pair (s : State) (o : Output) : (s.emit o).pair = s.pair := rfl
@[simp] theorem State.emit_pcie (s : State) (o : Output) : (s.emit o).pcie = s.pcie := rfl
@[simp] theorem State.emit_pins (s : State) (o : Output) : (s.emit o).pins = s.pins := rfl
@[simp] theorem State.emit_discardedInactive (s : State) (o : Output) : (s.emit o).discardedInactive = s.discardedInactive := rfl
@[simp] theorem State.emit_pending (s : State) (o : Output) : (s.emit o).pending = s.pending := rfl

/-! ## What an updater changes -/

/-- The value at the key that was put. -/
@[simp] theorem SMap.get_put {α : Type} (d v : α) (m : SMap α) (i : Nat) : (m.put i v).get d i = v := by
  induction m with
  | nil => simp [SMap.put, SMap.get]
  | cons p t ih =>
    obtain ⟨k, w⟩ := p
    unfold SMap.put
    split
    · simp [SMap.get]
    · split
      · simp [SMap.get]
      · rename_i h
        simp [SMap.get, ih, Ne.symm h]

/-- Other keys keep their value. -/
theorem SMap.get_put_ne {α : Type} (d v : α) (m : SMap α) (i j : Nat) (h : j ≠ i) : (m.put i v).get d j = m.get d j := by
  induction m with
  | nil => simp [SMap.put, SMap.get, Ne.symm h]
  | cons p t ih =>
    obtain ⟨k, w⟩ := p
    unfold SMap.put
    split
    · simp [SMap.get, Ne.symm h]
    · split
      · rename_i e
        subst e
        simp [SMap.get, Ne.symm h]
      · simp [SMap.get, ih]

@[simp] theorem State.updCtx_ctx (s : State) (c : Nat) (f : Ctx → Ctx) : (s.updCtx c f).ctx c = f (s.ctx c) := by
  simp [State.updCtx, State.ctx]

theorem State.updCtx_ctx_ne (s : State) (c d : Nat) (f : Ctx → Ctx) (h : d ≠ c) : (s.updCtx c f).ctx d = s.ctx d := by
  simp [State.updCtx, State.ctx, SMap.get_put_ne _ _ _ _ _ h]

@[simp] theorem State.updCore_core (s : State) (k : Nat) (f : Core → Core) : (s.updCore k f).core k = f (s.core k) := by
  simp [State.updCore, State.core]

theorem State.updCore_core_ne (s : State) (k j : Nat) (f : Core → Core) (h : j ≠ k) : (s.updCore k f).core j = s.core j := by
  simp [State.updCore, State.core, SMap.get_put_ne _ _ _ _ _ h]

@[simp] theorem Core.updStream_stream (x : Core) (key : Nat) (f : Stream → Stream) :
    (x.updStream key f).stream key = f (x.stream key) := by
  simp [Core.updStream, Core.stream]

theorem Core.updStream_stream_ne (x : Core) (key j : Nat) (f : Stream → Stream) (h : j ≠ key) :
    (x.updStream key f).stream j = x.stream j := by
  simp [Core.updStream, Core.stream, SMap.get_put_ne _ _ _ _ _ h]

@[simp] theorem State.updLink_link (s : State) (l : Nat) (f : Link → Link) : (s.updLink l f).link l = f (s.link l) := by
  simp [State.updLink, State.link]

theorem State.updLink_link_ne (s : State) (l j : Nat) (f : Link → Link) (h : j ≠ l) : (s.updLink l f).link j = s.link j := by
  simp [State.updLink, State.link, SMap.get_put_ne _ _ _ _ _ h]

@[simp] theorem State.updGroup_group (s : State) (g : Nat) (f : Group → Group) :
    (s.updGroup g f).group g = f (s.group g) := by
  simp [State.updGroup, State.group]

theorem State.updGroup_group_ne (s : State) (g j : Nat) (f : Group → Group) (h : j ≠ g) :
    (s.updGroup g f).group j = s.group j := by
  simp [State.updGroup, State.group, SMap.get_put_ne _ _ _ _ _ h]

@[simp] theorem State.updWheel_wheel (s : State) (e : Nat) (f : Wheel → Wheel) :
    (s.updWheel e f).wheel e = f (s.wheel e) := by
  simp [State.updWheel, State.wheel]

@[simp] theorem State.emit_out (s : State) (o : Output) : (s.emit o).out = o :: s.out := rfl
@[simp] theorem State.updTick_tick (s : State) (f : TickUnit → TickUnit) : (s.updTick f).tick = f s.tick := rfl

end Sys2Proof.Machine
end

