-- ==== Sys2Proof/Safety.lean ====
section
/-! DEFINITION. What counts as a sound state, and the terms in which the statements speak of a stream's record. -/

namespace Sys2Proof.Machine

/-- Every memory of the block is in canonical form: addresses rise strictly and no entry holds what an unlisted address
reads as. Equal memories are then equal lists. -/
def State.memOk (s : State) : Bool :=
  s.hbmMem.wf && s.sramMem.wf && s.resMem.wf && s.stageMem.wf && s.ctlMem.wf && s.flash.wf && s.hostMem.wf

/-- Instruction i issues on core k: stream `key` has the slot and may issue, and i stands at its pc (R207, R219). -/
def State.issues (s : State) (k : CoreId) (key : Nat) (i : Instr) : Prop :=
  s.issuer k.val = some key ∧ s.fetches k key i = true

/-- Unit u of core k does no work of the stream's context (R208, R522). -/
def State.unitFree (s : State) (k : CoreId) (key u : Nat) : Prop :=
  (s.core k.val).units.get none (unitKey (keyCtx key) u) = none

/-- Nothing of a context waits for a slot of an engine, for a place on ring 3 or for a BAR2 write. -/
def Ctx.settled (x : Ctx) : Prop := x.quill.todo = [] ∧ x.quill.conductor = [] ∧ x.host.doorbells = []

/-- The offset that scalar register n of stream `key` on core k holds. -/
def State.offsetIn (s : State) (k : CoreId) (key : Nat) (n : SReg) : Nat := (((s.core k.val).stream key).s n.val).toNat

/-- That offset names a 64-byte record inside the context's SRAM share (R261, R298, R409). -/
def State.recordThere (s : State) (k : CoreId) (key : Nat) (n : SReg) : Prop :=
  s.offsetIn k key n % 64 = 0 ∧ s.inShare (keyCtx key) 0 (s.offsetIn k key n) 64 = true

/-- The 64 bytes of that record. -/
def State.recordIn (s : State) (k : CoreId) (key : Nat) (n : SReg) : Bytes :=
  s.sramShare (keyCtx key) k.val (s.offsetIn k key n) 64

/-- The movement record of that place keeps its rules (R298 to R302). -/
def State.moveThere (s : State) (k : CoreId) (key : Nat) (n : SReg) : Prop :=
  s.recordThere k key n ∧
    s.moveOk (keyCtx key) k.val (parseMove (s.recordIn k key n))
      (parseRoute (s.routeAt (keyCtx key) k.val (parseMove (s.recordIn k key n)))) = true

end Sys2Proof.Machine
end

