-- ==== Sys2Proof/Certificates/Slice0/Obligations.lean ====
section
/-! DEFINITION. The statements about this model, for the provers: each a proposition about exec, step or a shared operation,
named after what it states. A clause that rests on a choice of the model names its row of the assumption log. -/

open Sys2Proof Sys2Proof.Machine

/-- A step takes the command at the front of the queue and is that command's meaning on the state with the queue's rest. -/
def Obligations.StepRunsFrontCommand : Prop :=
  ∀ (c : Instr) (rest : List Instr) (s : State), s.pending = c :: rest →
    step s = exec c { s with pending := rest }

/-- On an empty queue a step is one tick of the clock, once the root PLL has locked (the model's choice, log entry 2). While
nothing of a context waits for an engine, for ring 3 or for a BAR2 write, nothing else happens than that elapsed holdover
time counts on and the records that wait enter the log ring, in their order behind those in it. -/
def Obligations.EmptyQueueTicks : Prop :=
  ∀ s : State, s.pending = [] → (∀ x ∈ s.ctxs, x.2.settled) →
    ∃ t, step s = .next t ∧
      (s.tick.rootLocked = false → t.tick = s.tick) ∧
      (s.tick.rootLocked = true → t.tick = { s.tick with
        now := s.tick.now + 1
        elapsed := if s.tick.state = 3 ∨ s.tick.state = 4 ∨ s.tick.holdover = true then s.tick.elapsed + 1
          else s.tick.elapsed }) ∧
      t.fw = { s.fw with log := s.fw.log ++ s.fw.logWaiting, logWaiting := [] } ∧
      (s.fw.logWaiting = [] → t.out = s.out) ∧
      t = { s with tick := t.tick, fw := t.fw, out := t.out }

/-- The sequencer's instructions, where they issue. SETS writes its sign-extended immediate and ADDS adds it modulo 2^64;
the stream goes on, and nothing else changes. LOOP with a count of at least 1 and an offset of at least 1 pushes a level
that ends at the last instruction of its body, writes 0 to its register and enters the body; with a count of 0 it goes on
after the body; a ninth level faults the context; an offset of 0 or less leaves the body out (the model's choice, log
entry 20). A BRANCH whose condition holds goes to its offset in instructions from the branch itself and leaves no level
but some of its own; another goes on; the reserved condition faults the context. END ends the stream: no tile and no
vector register of it stays live and its loops are gone, and nothing else changes, but that after an urgent stream the
slot is assigned anew. An undefined opcode faults the context. -/
def Obligations.ScalarAndControlFlow : Prop :=
  ∀ (k : CoreId) (s : State) (key : Nat),
    let st := (s.core k.val).stream key
    (∀ (n : SReg) (imm : BitVec 32),
      (s.issues k key (.sets k n imm) → exec (.sets k n imm) s =
        .next (s.updStream k.val key fun st => (st.setS n.val (imm.signExtend 64)).advance)) ∧
      (s.issues k key (.adds k n imm) → exec (.adds k n imm) s =
        .next (s.updStream k.val key fun st => (st.setS n.val (st.s n.val + imm.signExtend 64)).advance))) ∧
    (∀ (n : SReg) (count offset : BitVec 16), s.issues k key (.loop k n count offset) →
      (count ≠ 0 → 0 < offset.toInt → st.loops.length < 8 →
        exec (.loop k n count offset) s = .next (s.updStream k.val key fun st =>
          { (st.setS n.val 0) with
            loops := { reg := n, count := count.toNat, iter := 0, start := st.pc + 8, last := st.pc + 8 * offset.toNat } ::
              st.loops
            pc := st.pc + 8 })) ∧
      (count = 0 → 0 < offset.toInt →
        exec (.loop k n count offset) s = .next (s.updStream k.val key fun st =>
          { st with pc := st.pc + 8 * offset.toNat }.advance)) ∧
      (count ≠ 0 → 0 < offset.toInt → 8 ≤ st.loops.length →
        exec (.loop k n count offset) s = .next (s.ctxFault (keyCtx key))) ∧
      (offset.toInt ≤ 0 → exec (.loop k n count offset) s = .next (s.updStream k.val key Stream.advance))) ∧
    (∀ (c : BranchCond) (n : SReg) (offset : BitVec 16), s.issues k key (.branch k c n offset) →
      (c ≠ .reserved → condHolds c (st.s n.val) = true →
        ∃ t, exec (.branch k c n offset) s = .next t ∧
          ((t.core k.val).stream key).pc = (st.pc + 8 * offset.toInt).toNat ∧
          ((t.core k.val).stream key).sregs = st.sregs ∧
          (∀ l ∈ ((t.core k.val).stream key).loops, l ∈ st.loops) ∧
          t = s.updStream k.val key fun st =>
            { st with pc := ((t.core k.val).stream key).pc, loops := ((t.core k.val).stream key).loops }) ∧
      (c ≠ .reserved → condHolds c (st.s n.val) = false →
        exec (.branch k c n offset) s = .next (s.updStream k.val key Stream.advance)) ∧
      (c = .reserved → exec (.branch k c n offset) s = .next (s.ctxFault (keyCtx key)))) ∧
    (s.issues k key (.endProgram k) →
      ∃ u, ((u.core k.val).stream key).status = .ended ∧ ((u.core k.val).stream key).liveV = [] ∧
        (∀ a, (((u.core k.val).stream key).tile a).live = false) ∧ ((u.core k.val).stream key).loops = [] ∧
        (∀ a, (((u.core k.val).stream key).tile a).elems = (st.tile a).elems) ∧
        u = (s.updStream k.val key fun st =>
          { st with status := .ended, liveV := [], loops := [], tiles := ((u.core k.val).stream key).tiles }) ∧
        (key % 2 = 0 → exec (.endProgram k) s = .next u) ∧
        (key % 2 = 1 → exec (.endProgram k) s = .next (u.assignSlot k.val))) ∧
    (s.issues k key (.undefinedOpcode k) → exec (.undefinedOpcode k) s = .next (s.ctxFault (keyCtx key)))

/-- WAITSEM, where it issues, with a count that suffices subtracts it and goes on (n = 0 leaves the count); with one that
does not, the stream waits from this tick on. SIGSEM adds n, from 1 to 65,535, and goes on; a signal that would take the count above 0xFFFF_FFFF
faults the context. A semaphore number of 16,384 or more faults the context. -/
def Obligations.SemaphoreInstructions : Prop :=
  ∀ (k : CoreId) (s : State) (key : Nat) (sem n : BitVec 16),
   (s.issues k key (.waitsem k sem n) →
    (sem.toNat < 16384 → n.toNat ≤ s.sem (keyCtx key) sem.toNat →
      ∃ t, exec (.waitsem k sem n) s = .next t ∧
        t.sem (keyCtx key) sem.toNat = s.sem (keyCtx key) sem.toNat - n.toNat ∧
        (t.core k.val).stream key = ((s.core k.val).stream key).advance ∧
        t = (s.setSem (keyCtx key) sem.toNat (t.sem (keyCtx key) sem.toNat)).updStream k.val key Stream.advance) ∧
    (sem.toNat < 16384 → s.sem (keyCtx key) sem.toNat < n.toNat →
      ∃ t, exec (.waitsem k sem n) s = .next t ∧
        ((t.core k.val).stream key).status = .waitSem sem n ∧ ((t.core k.val).stream key).pc = ((s.core k.val).stream key).pc ∧
        ((t.core k.val).stream key).waitSince = s.tick.now ∧ ((t.core k.val).stream key).sregs = ((s.core k.val).stream key).sregs ∧
        t = s.updStream k.val key fun _ => (t.core k.val).stream key) ∧
    (16384 ≤ sem.toNat → exec (.waitsem k sem n) s = .next (s.ctxFault (keyCtx key)))) ∧
   (s.issues k key (.sigsem k sem n) →
    (sem.toNat < 16384 → 1 ≤ n.toNat → s.sem (keyCtx key) sem.toNat + n.toNat ≤ 0xFFFFFFFF →
      ∃ t, exec (.sigsem k sem n) s = .next t ∧
        t.sem (keyCtx key) sem.toNat = s.sem (keyCtx key) sem.toNat + n.toNat ∧
        (t.core k.val).stream key = ((s.core k.val).stream key).advance ∧
        t = (s.updStream k.val key Stream.advance).setSem (keyCtx key) sem.toNat (t.sem (keyCtx key) sem.toNat)) ∧
    (sem.toNat < 16384 → 1 ≤ n.toNat → 0xFFFFFFFF < s.sem (keyCtx key) sem.toNat + n.toNat →
      exec (.sigsem k sem n) s = .next ((s.updStream k.val key Stream.advance).ctxFault (keyCtx key))) ∧
    (16384 ≤ sem.toNat → exec (.sigsem k sem n) s = .next (s.ctxFault (keyCtx key))))

/-- WAITSEM_RELEASE serves the satisfiable waits of a LIVE context on one semaphore in order of core number. With one
wait that the count satisfies, that stream goes on and the count falls by its n. Of two waits of which the count
satisfies either and not both, the lower core's is served and the other stays. WAITTICK goes on when its tick has
come and waits otherwise; a waiting stream goes on at the first WAITTICK_RELEASE at or after its tick, and not
before it. -/
def Obligations.WaitsEnd : Prop :=
  (∀ (c : CtxId) (sem : BitVec 16) (s : State), (s.ctx c.val).life.state = .live →
     (∀ (k : CoreId) (key n : Nat), (key = 2 * c.val ∨ key = 2 * c.val + 1) → s.waitsOn key sem k.val = some n →
       n ≤ s.sem c.val sem.toNat →
       (∀ (j : CoreId) (other : Nat), (other = 2 * c.val ∨ other = 2 * c.val + 1) → (j, other) ≠ (k, key) →
         s.waitsOn other sem j.val = none) →
       exec (.waitsemRelease c sem) s = .next ((s.setSem c.val sem.toNat (s.sem c.val sem.toNat - n)).updStream k.val key
         fun st => { st with status := .running }.advance)) ∧
     (∀ (j k : CoreId) (a b m n : Nat), j < k → (a = 2 * c.val ∨ a = 2 * c.val + 1) → (b = 2 * c.val ∨ b = 2 * c.val + 1) →
       s.waitsOn a sem j.val = some m → s.waitsOn b sem k.val = some n →
       m ≤ s.sem c.val sem.toNat → n ≤ s.sem c.val sem.toNat → s.sem c.val sem.toNat < m + n →
       (∀ (i : CoreId) (other : Nat), (other = 2 * c.val ∨ other = 2 * c.val + 1) → (i, other) ≠ (j, a) → (i, other) ≠ (k, b) →
         s.waitsOn other sem i.val = none) →
       exec (.waitsemRelease c sem) s = .next ((s.setSem c.val sem.toNat (s.sem c.val sem.toNat - m)).updStream j.val a
         fun st => { st with status := .running }.advance))) ∧
  (∀ (k : CoreId) (s : State) (key : Nat),
     (∀ n : SReg, s.issues k key (.waittick k n) → (((s.core k.val).stream key).s n.val).toNat ≤ s.now →
       exec (.waittick k n) s = .next (s.updStream k.val key Stream.advance)) ∧
     (∀ n : SReg, s.issues k key (.waittick k n) → s.now < (((s.core k.val).stream key).s n.val).toNat →
       exec (.waittick k n) s = .next (s.updStream k.val key fun st => { st with status := .waitTick (st.s n.val) })) ∧
     (∀ t : Word, (s.core k.val).cur = some key → ((s.core k.val).stream key).status = .waitTick t → t.toNat ≤ s.now →
       (s.ctx (keyCtx key)).life.state = .live → (s.core k.val).blocked key = false →
       exec (.waittickRelease k) s = .next (s.updStream k.val key fun st => { st with status := .running }.advance)) ∧
     (∀ t : Word, (s.core k.val).cur = some key → ((s.core k.val).stream key).status = .waitTick t → s.now < t.toNat →
       exec (.waittickRelease k) s = .next s))

/-- An instruction of a core that does not issue there changes nothing: no stream issues (no stream's slot, a context that
is not LIVE, a stream that waits, a stopped engine), or another word stands at the pc. A QSUBMIT or GCLAIM operation whose record is not
at a multiple of 64 inside the context's SRAM share faults the context. An instruction that names a descriptor entry
which is not there, on a core whose units are free, faults its context. -/
def Obligations.NoIssueAndBadOperands : Prop :=
  (∀ (k : CoreId) (s : State),
     let waits := fun (i : Instr) => (∀ key, ¬ s.issues k key i) → exec i s = .next s
     (∀ n c o, waits (.loop k n c o)) ∧ (∀ c n o, waits (.branch k c n o)) ∧
     (∀ m n, waits (.waitsem k m n)) ∧ (∀ m n, waits (.sigsem k m n)) ∧
     (∀ n, waits (.waittick k n)) ∧ (∀ n i, waits (.sets k n i)) ∧
     (∀ n i, waits (.adds k n i)) ∧ waits (.endProgram k) ∧
     (∀ v d o h, waits (.tloadv k v d o h)) ∧ (∀ v d o h r, waits (.tstorev k v d o h r)) ∧
     (∀ a b m, waits (.dma k a b m)) ∧ (∀ v d o h, waits (.atomaddXa k v d o h)) ∧
     (∀ v d o h, waits (.atomaddF32 k v d o h)) ∧
     (∀ a x y o q c t u, waits (.mma k a x y o q c t u)) ∧
     (∀ a d o h r, waits (.xspill k a d o h r)) ∧ (∀ a d o h, waits (.xfill k a d o h)) ∧
     (∀ a d o h r, waits (.xout k a d o h r)) ∧ (∀ p v w x, waits (.vop k p v w x)) ∧
     (∀ p v w x, waits (.sfu k p v w x)) ∧ (∀ a b c o r, waits (.softmax k a b c o r)) ∧
     (∀ m a v o q, waits (.norm k m a v o q)) ∧ (∀ v a b, waits (.stipple k v a b)) ∧
     (∀ n m, waits (.route k n m)) ∧ (∀ n m, waits (.balReset k n m)) ∧
     (∀ n m, waits (.count k n m)) ∧ (∀ n m, waits (.scatter k n m)) ∧
     (∀ n m, waits (.ret k n m)) ∧ (∀ n m, waits (.combine k n m)) ∧
     (∀ n m, waits (.exitTest k n m)) ∧ (∀ n m, waits (.coll k n m)) ∧
     (∀ n m, waits (.collF32 k n m)) ∧ (∀ n d, waits (.gclaim k n d)) ∧
     waits (.undefinedOpcode k)) ∧
  (∀ (k : CoreId) (n : SReg) (sem : BitVec 16) (s : State) (key : Nat), ¬ s.recordThere k key n →
     let faults := fun (i : Instr) => s.issues k key i → exec i s = .next (s.ctxFault (keyCtx key))
     faults (.route k n sem) ∧ faults (.balReset k n sem) ∧ faults (.count k n sem) ∧ faults (.scatter k n sem) ∧
     faults (.ret k n sem) ∧ faults (.combine k n sem) ∧ faults (.exitTest k n sem) ∧ faults (.coll k n sem) ∧
     faults (.collF32 k n sem) ∧ ∀ d : SReg, faults (.gclaim k n d)) ∧
  (∀ (k : CoreId) (s : State) (key : Nat) (desc : BitVec 16), (s.core k.val).units = [] →
     s.desc (keyCtx key) desc.toNat = none →
     let faults := fun (i : Instr) => s.issues k key i → exec i s = .next (s.ctxFault (keyCtx key))
     (∀ v o h, faults (.tloadv k v desc o h)) ∧
     (∀ v o h r, faults (.tstorev k v desc o h r)) ∧
     (∀ v o h, faults (.atomaddXa k v desc o h)) ∧
     (∀ v o h, faults (.atomaddF32 k v desc o h)) ∧
     (∀ d m, faults (.dma k desc d m)) ∧
     (∀ d m, faults (.dma k d desc m)) ∧
     (∀ a b o n c t u, faults (.mma k a desc b o n c t u)) ∧
     (∀ a b o n c t u, faults (.mma k a b desc o n c t u)) ∧
     (∀ a o h r, faults (.xspill k a desc o h r)) ∧
     (∀ a o h, faults (.xfill k a desc o h)) ∧
     (∀ a o h r, faults (.xout k a desc o h r)) ∧
     (∀ m v o q, faults (.norm k m desc v o q)) ∧
     (∀ a b o r, faults (.softmax k desc a b o r)) ∧
     (∀ a b o r, faults (.softmax k a desc b o r)) ∧
     (∀ a b o r, faults (.softmax k a b desc o r)))

/-- Vector loads, stores and atomic additions, where they issue with their unit free and their source register written.
TLOADV gives the tensor engine the 256 elements from its origin as binary32, FILL for those out of bounds, for its
register, with the union of the conversions' flags and the number of elements out of bounds; TSTOREV gives it the
in-bounds writes of its 256 lanes, each converted once by its ROUND. Both take their bytes at 4,096 a cycle. The atomic
additions are one for each in-bounds lane, in order of lanes, exact into an XA64 or XA96 tensor at its anchor, in
binary32 into an FP32 tensor, and the other lanes count as out-of-bounds writes. On an empty tensor each of the four does
nothing in its unit. An operand that names no register pair, the reserved ROUND 3 and an atomic addition into another
format fault the context. -/
def Obligations.VectorLoadsStoresAndAtomics : Prop :=
  ∀ (k : CoreId) (v : VReg) (desc : BitVec 16) (org : SReg) (high : Option SReg) (s : State) (key : Nat) (d : Desc),
    s.unitFree k key 10 → (s.core k.val).vectorPending key v = false → s.desc (keyCtx key) desc.toNat = some d →
    let c := keyCtx key
    let st := (s.core k.val).stream key
    let co := st.lanesAt org high
    let lanes := (co.zip (st.lanes v.val)).filter fun p => d.inBounds p.1
    let place := fun (op : UnitOp) => s.placeUnit k 10 key st op
    (s.issues k key (.tloadv k v desc org high) →
      (formOk org high = true → d.empty = false →
        ∃ op, exec (.tloadv k v desc org high) s = .next (place op) ∧ op.cycles = ceilDiv (256 * d.size) 4096 ∧
          op.effects =
            [.vreg v (co.map fun g => (d.toF32 (s.readElem c k.val d g).1).1),
             .flags (Flag.union (co.map fun g => (d.toF32 (s.readElem c k.val d g).1).2)),
             .oob (co.filter fun g => !d.inBounds g).length false, .oob 0 true]) ∧
      (formOk org high = true → d.empty = true → exec (.tloadv k v desc org high) s = .next (place {})) ∧
      (formOk org high = false → exec (.tloadv k v desc org high) s = .next (s.ctxFault c))) ∧
    (∀ round : BitVec 2, s.issues k key (.tstorev k v desc org high round) →
      (formOk org high = true → d.empty = false → round ≠ 3 →
        ∃ op, exec (.tstorev k v desc org high round) s = .next (place op) ∧ op.cycles = ceilDiv (256 * d.size) 4096 ∧
          ∀ m a b, (.mem m a b) ∈ op.effects ↔
            ∃ g x, (g, x) ∈ lanes ∧ m = spaceMem d.space ∧ a = s.elemAddr c k.val d g ∧
              b = toLe d.size (d.fromNum (s.roundBy c round.toNat (Config.roundSeed c st.pc) d g) (f32 x)).1) ∧
      (formOk org high = true → d.empty = true → round ≠ 3 →
        exec (.tstorev k v desc org high round) s = .next (place {})) ∧
      (formOk org high = false ∨ round = 3 → exec (.tstorev k v desc org high round) s = .next (s.ctxFault c))) ∧
    (s.issues k key (.atomaddXa k v desc org high) →
      (formOk org high = true → d.format = 7 ∨ d.format = 8 → d.empty = false →
        ∃ op, exec (.atomaddXa k v desc org high) s = .next (place op) ∧
          op.effects = lanes.map (fun p =>
              Effect.atomXa (spaceMem d.space) (s.elemAddr c k.val d p.1) (8 * d.size) d.anchor p.2) ++
            [.flags 0, .oob 0 false, .oob (256 - lanes.length) true]) ∧
      (formOk org high = true → d.format = 7 ∨ d.format = 8 → d.empty = true →
        exec (.atomaddXa k v desc org high) s = .next (place {})) ∧
      (formOk org high = false ∨ (d.format ≠ 7 ∧ d.format ≠ 8) →
        exec (.atomaddXa k v desc org high) s = .next (s.ctxFault c))) ∧
    (s.issues k key (.atomaddF32 k v desc org high) →
      (formOk org high = true → d.format = 4 → d.empty = false →
        ∃ op, exec (.atomaddF32 k v desc org high) s = .next (place op) ∧
          op.effects = lanes.map (fun p => Effect.atomF32 (spaceMem d.space) (s.elemAddr c k.val d p.1) p.2) ++
            [.flags 0, .oob 0 false, .oob (256 - lanes.length) true]) ∧
      (formOk org high = true → d.format = 4 → d.empty = true →
        exec (.atomaddF32 k v desc org high) s = .next (place {})) ∧
      (formOk org high = false ∨ d.format ≠ 4 → exec (.atomaddF32 k v desc org high) s = .next (s.ctxFault c)))

/-- DMA, where it issues with the tensor engine free. The copy of every element of the source to the same coordinates of
the destination, which ends with the signal of its semaphore, joins the core's copies behind those there, and the tensor
engine is occupied for the copy's cycles, with no effect of its own; no context and no memory changes. A copy of no
elements signals at once and goes on. Descriptors of different FORMAT fault the context (the model's choice, log entry
55), and so does one that is not there. DMA_RETIRE has the effects of the oldest copy once its lines and transfers have
retired, and frees its trackers; until then it changes nothing. -/
def Obligations.DmaCopies : Prop :=
  ∀ (k : CoreId) (s : State),
    (∀ (src dst sem : BitVec 16) (key : Nat), s.issues k key (.dma k src dst sem) → s.unitFree k key 10 →
      (∀ a b : Desc, s.desc (keyCtx key) src.toNat = some a → s.desc (keyCtx key) dst.toNat = some b →
        (a.format = b.format → a.empty = false → b.empty = false →
          ∃ t x e, exec (.dma k src dst sem) s = .next t ∧ (t.core k.val).dmas = (s.core k.val).dmas ++ [x] ∧
            x.effects = ((s.copyOp (keyCtx key) k.val a b).effects ++ [Effect.sem sem 1]).filter (fun e => !e.inHbm) ∧ x.stream = key ∧
            (t.core k.val).units.get none (unitKey (keyCtx key) 10) = some e ∧ e.effects = [] ∧
            e.cycles = ceilDiv (a.count * a.size) 4096 ∧
            t.ctxs = s.ctxs ∧ t.sramMem = s.sramMem ∧ t.hbmMem = s.hbmMem ∧ t.resMem = s.resMem ∧ t.stageMem = s.stageMem) ∧
        (a.format = b.format → (a.empty || b.empty) = true →
          exec (.dma k src dst sem) s =
            .next ((s.updStream k.val key Stream.advance).signalSem (keyCtx key) sem.toNat 1)) ∧
        (a.format ≠ b.format → exec (.dma k src dst sem) s = .next (s.ctxFault (keyCtx key)))) ∧
      (s.desc (keyCtx key) src.toNat = none ∨ s.desc (keyCtx key) dst.toNat = none →
        exec (.dma k src dst sem) s = .next (s.ctxFault (keyCtx key)))) ∧
    (∀ (x : InFlight) (rest : List InFlight), (s.core k.val).dmas = x :: rest →
      (s.retired x = true →
        exec (.dmaRetire k) s = .next ((((s.updCore k.val fun y => { y with dmas := rest }).freeTracker k.val x.ctx.val
          x.held).meter x.ctx.val x.uid x.picojoule).applyAll k.val x)) ∧
      (s.retired x = false → exec (.dmaRetire k) s = .next s))

/-- The matrix arrays, where an instruction issues with its array free. MMA: for each of the 1,024 elements the exact
products of row and column enter the accumulator, at the native anchor for the native formats and at the instruction's
for the others; an MMA with CLEAR starts from zero and one without adds to the tile at the tile's anchor. Its cycles are 5
for each beat of K, or 10 for a transposed FP32 operand. With an empty operand, or with no K, the tile's elements stay, or are zero with CLEAR. Formats
that do not pair (log entry 77), an anchor out of range and one that is not the tile's fault the context. XSPILL, XFILL and XOUT occupy their
array for 32 cycles and one for each 512 bytes of the tile: XSPILL writes the tile's 1,024 elements that lie in bounds in
the descriptor's XA format, in the spill form in XA192_SPILL, and releases the tile or not; XOUT writes them converted once;
XFILL makes the tile of a spill live at the descriptor's anchor. An XSPILL or XFILL in another format, a spill at another
anchor and ROUND 3 fault the context. -/
def Obligations.MatrixArrays : Prop :=
  (∀ (k : CoreId) (array : ArrayId) (a b : BitVec 16) (org sk : SReg) (clear ta tb : Bool) (s : State) (key : Nat)
       (da db : Desc),
     s.issues k key (.mma k array a b org sk clear ta tb) → s.unitFree k key array.val →
     s.desc (keyCtx key) a.toNat = some da → s.desc (keyCtx key) b.toNat = some db →
     org.val ≤ 14 → sk.val ≤ 14 →
     let st := (s.core k.val).stream key
     let c := keyCtx key
     let kk := (st.s (sk.val + 1)).toNat % 2 ^ 32
     let k0 := (st.s sk.val).toNat % 2 ^ 32
     let t := st.tile array.val
     (∀ anchor : Int, pairFormats da.format db.format = true →
       mmaAnchor da.format (BitVec.ofNat 16 ((st.s (sk.val + 1)).toNat / 2 ^ 32)).toInt = some anchor →
       (clear = true ∨ t.anchor = anchor) → kk ≠ 0 →
       ∃ op t', exec (.mma k array a b org sk clear ta tb) s = .next (s.placeUnit k array.val key st op) ∧
         op.cycles = (if da.format = 4 ∧ (ta = true ∨ tb = true) then 10 else 5) * ceilDiv kk (kPerBeat da.format) ∧
         op.writes = [] ∧ (Effect.tile array t') ∈ op.effects ∧ t'.live = true ∧ t'.anchor = anchor ∧
         ∀ i < 32, ∀ j < 32,
           let start : XaElem := if clear then {} else t.elems.get {} (32 * i + j)
           t'.elems.get {} (32 * i + j) =
             if da.empty = true ∨ db.empty = true then start
             else (start.addAll ((List.range kk).map fun n =>
               let x := (k0 + n) % 2 ^ 32
               let row := ((st.origin org.val).2 + i) % 2 ^ 32
               let col := ((st.origin org.val).1 + j) % 2 ^ 32
               enterProduct 192 anchor
                 (decodeElem da.format (s.readElem c k.val da (if ta then [row, x] else [x, row])).1)
                 (decodeElem db.format (s.readElem c k.val db (if tb then [x, col] else [col, x])).1))).1) ∧
     (∀ anchor : Int, pairFormats da.format db.format = true →
       mmaAnchor da.format (BitVec.ofNat 16 ((st.s (sk.val + 1)).toNat / 2 ^ 32)).toInt = some anchor →
       (clear = true ∨ t.anchor = anchor) → kk = 0 →
       exec (.mma k array a b org sk clear ta tb) s = .next (s.placeUnit k array.val key st
         { effects := if clear then [.tile array { live := true, anchor := anchor }] else [] })) ∧
     (pairFormats da.format db.format = false →
       exec (.mma k array a b org sk clear ta tb) s = .next (s.ctxFault c)) ∧
     (pairFormats da.format db.format = true →
       mmaAnchor da.format (BitVec.ofNat 16 ((st.s (sk.val + 1)).toNat / 2 ^ 32)).toInt = none →
       exec (.mma k array a b org sk clear ta tb) s = .next (s.ctxFault c)) ∧
     (∀ anchor : Int, pairFormats da.format db.format = true → clear = false → t.anchor ≠ anchor →
       mmaAnchor da.format (BitVec.ofNat 16 ((st.s (sk.val + 1)).toNat / 2 ^ 32)).toInt = some anchor →
       exec (.mma k array a b org sk clear ta tb) s = .next (s.ctxFault c))) ∧
  (∀ (k : CoreId) (array : ArrayId) (desc : BitVec 16) (org : SReg) (high : Option SReg) (s : State) (key : Nat) (d : Desc),
     s.unitFree k key array.val → s.desc (keyCtx key) desc.toNat = some d → formOk org high = true →
     let st := (s.core k.val).stream key
     let c := keyCtx key
     let t := st.tile array.val
     let co := st.tileAt org high
     (∀ release : Bool, s.issues k key (.xspill k array desc org high release) →
       (d.isXa = true → (d.format = 9 → d.anchor = t.anchor) → d.empty = false →
         ∃ op, exec (.xspill k array desc org high release) s = .next (s.placeUnit k array.val key st op) ∧
           op.cycles = tileCycles d ∧
           (∀ m a bs, (.mem m a bs) ∈ op.effects ↔ ∃ g e, (g, e) ∈ co.zip t.list ∧ d.inBounds g = true ∧
             m = spaceMem d.space ∧ a = s.elemAddr c k.val d g ∧
             bs = toLe d.size (if d.format = 9 then leNat e.spill else (e.toXa (8 * d.size) t.anchor d.anchor).1)) ∧
           ((.tile array { t with live := false }) ∈ op.effects ↔ release = true)) ∧
       (d.isXa = false ∨ (d.format = 9 ∧ d.anchor ≠ t.anchor) →
         exec (.xspill k array desc org high release) s = .next (s.ctxFault c))) ∧
     (∀ round : BitVec 2, s.issues k key (.xout k array desc org high round) →
       (round ≠ 3 → d.empty = false →
         ∃ op, exec (.xout k array desc org high round) s = .next (s.placeUnit k array.val key st op) ∧
           op.cycles = tileCycles d ∧
           ∀ m a bs, (.mem m a bs) ∈ op.effects ↔ ∃ g e, (g, e) ∈ co.zip t.list ∧ d.inBounds g = true ∧
             m = spaceMem d.space ∧ a = s.elemAddr c k.val d g ∧
             bs = toLe d.size (d.fromXa (s.roundBy c round.toNat (Config.roundSeed c st.pc) d g) 192 t.anchor e).1) ∧
       (round = 3 → exec (.xout k array desc org high round) s = .next (s.ctxFault c))) ∧
     (s.issues k key (.xfill k array desc org high) →
       (d.format = 9 → d.empty = false →
         ∃ op t', exec (.xfill k array desc org high) s = .next (s.placeUnit k array.val key st op) ∧
           op.cycles = tileCycles d ∧ (Effect.tile array t') ∈ op.effects ∧ t'.live = true ∧ t'.anchor = d.anchor ∧
           ∀ i < 1024, t'.elems.get {} i = XaElem.unspill (toLe 32 (s.readElem c k.val d (co.getD i [])).1)) ∧
       (d.isXa = false → exec (.xfill k array desc org high) s = .next (s.ctxFault c))))

/-- The vector unit and the SFU, where an instruction issues with its unit free and its source registers written: a VOP
gives its unit, for 4 cycles, the 256 results of its binary32 operation and the union of their flags; an SFU instruction
the 256 values of its glyph slot and the union of their flags, for 14 cycles or 25 of a quarter-rate slot; STIPPLE, for 4
cycles, the 256 words of the counter-based generator for its key, its linear index and its stream number. A conversion to
no format, a slot that holds no function and stream 0 fault the context. -/
def Obligations.LaneOperations : Prop :=
  ∀ (k : CoreId) (vd vs vt : VReg) (s : State) (key : Nat),
    let x := s.core k.val
    let st := x.stream key
    let lanes := fun (v : VReg) (i : Nat) => (st.lanes v.val).getD i 0
    (∀ op : VopOp, s.issues k key (.vop k op vd vs vt) → s.unitFree k key 8 →
      (∀ v ∈ vopSources op vd vs vt, x.vectorPending key v = false) →
      (vopValid op = true → ∃ o, exec (.vop k op vd vs vt) s = .next (s.placeUnit k 8 key st o) ∧ o.cycles = 4 ∧
        o.reads = [] ∧ o.writes = [] ∧ o.effects =
          [.vreg vd ((List.range 256).map fun i => (vopLane op (lanes vd i) (lanes vs i) (lanes vt i)).1),
           .flags (Flag.union ((List.range 256).map fun i => (vopLane op (lanes vd i) (lanes vs i) (lanes vt i)).2))]) ∧
      (vopValid op = false → exec (.vop k op vd vs vt) s = .next (s.ctxFault (keyCtx key)))) ∧
    (∀ slot : GlyphSlot, s.issues k key (.sfu k slot vd vs vt) → s.unitFree k key 9 → x.vectorPending key vs = false →
      (slot = 10 → x.vectorPending key vt = false) →
      (s.slotUsable slot.val = true → ∃ o, exec (.sfu k slot vd vs vt) s = .next (s.placeUnit k 9 key st o) ∧
        o.cycles = (if s.slotQuarter slot.val then 25 else 14) ∧ o.reads = [] ∧ o.writes = [] ∧ o.effects =
          [.vreg vd ((List.range 256).map fun i => (s.sfuLane slot.val (lanes vs i) (lanes vt i)).1),
           .flags (Flag.union ((List.range 256).map fun i => (s.sfuLane slot.val (lanes vs i) (lanes vt i)).2))]) ∧
      (s.slotUsable slot.val = false → exec (.sfu k slot vd vs vt) s = .next (s.ctxFault (keyCtx key)))) ∧
    (∀ sn sr : SReg, s.issues k key (.stipple k vd sn sr) → s.unitFree k key 8 →
      (sn.val ≤ 14 → (st.s sr.val).toNat % 2 ^ 32 ≠ 0 →
        ∃ o, exec (.stipple k vd sn sr) s = .next (s.placeUnit k 8 key st o) ∧ o.cycles = 4 ∧ o.reads = [] ∧ o.writes = [] ∧
          o.effects = [.vreg vd ((List.range 256).map fun i => stippleWord (st.s sn.val)
            (stippleCounter ((st.s sr.val).toNat / 2 ^ 32) ((st.s (sn.val + 1)).toNat + i) ((st.s sr.val).toNat % 2 ^ 32)))]) ∧
      ((st.s sr.val).toNat % 2 ^ 32 = 0 → exec (.stipple k vd sn sr) s = .next (s.ctxFault (keyCtx key))))

/-- SOFTMAX and NORM, where they issue with the SFU free, run on the row from their origin to the row's end, for 2 cycles
each 256 elements and 40 more: SOFTMAX fills the scratch with the row's words first and then has the row's weights as its
in-bounds writes of the destination, NORM has μ for lane 0 and ρ for lane 1 of its register and writes no memory; on an
empty row either does nothing in its unit. Of SOFTMAX ROUND 3, a row beyond the largest and a scratch outside SRAM or too
small, and of NORM in sum mode an anchor out of range fault the context. -/
def Obligations.RowOperations : Prop :=
  ∀ (k : CoreId) (s : State) (key : Nat), s.unitFree k key 9 →
    let st := (s.core k.val).stream key
    let c := keyCtx key
    (∀ (src dst scratch : BitVec 16) (org : SReg) (round : BitVec 2) (a b t : Desc),
      s.issues k key (.softmax k src dst scratch org round) → s.desc c src.toNat = some a → s.desc c dst.toNat = some b →
      s.desc c scratch.toNat = some t → org.val ≤ 14 →
      let n := (st.rowAt org a).length
      let row := softRow ((st.rowAt org a).map fun g => (a.toF32 (s.readElem c k.val a g).1).1)
      (round ≠ 3 → t.space = 0 → n ≤ Config.softmaxMaxRow → 4 * n ≤ t.count * t.size → 0 < n → b.empty = false →
        ∃ o, exec (.softmax k src dst scratch org round) s = .next (s.placeUnit k 9 key st o) ∧
          o.cycles = 2 * ceilDiv n 256 + 40 ∧
          o.effects.head? = some (.mem .sram (s.absAddr c k.val 0 t.base) (row.scratch.flatMap fun w => toLe 4 w.toNat)) ∧
          ∀ m x bs, (.mem m x bs) ∈ o.effects.tail ↔ ∃ g y, (g, y) ∈ (st.rowAt org a).zip row.outs ∧
            b.inBounds g = true ∧ m = spaceMem b.space ∧ x = s.elemAddr c k.val b g ∧
            bs = toLe b.size (b.fromNum (s.roundBy c round.toNat (Config.roundSeed c st.pc) b g) y).1) ∧
      (round ≠ 3 → t.space = 0 → n = 0 →
        exec (.softmax k src dst scratch org round) s = .next (s.placeUnit k 9 key st {})) ∧
      (round = 3 ∨ t.space ≠ 0 ∨ Config.softmaxMaxRow < n ∨ t.count * t.size < 4 * n →
        exec (.softmax k src dst scratch org round) s = .next (s.ctxFault c))) ∧
    (∀ (stable : Bool) (src : BitVec 16) (vd : VReg) (org sr : SReg) (d : Desc),
      s.issues k key (.norm k stable src vd org sr) → s.desc c src.toNat = some d → org.val ≤ 14 →
      let r := (st.s sr.val).toNat
      let a1 := (BitVec.ofNat 16 (r / 2 ^ 32)).toInt
      let a2 := (BitVec.ofNat 16 (r / 2 ^ 48)).toInt
      let ranged := Config.anchorMin ≤ a1 ∧ a1 ≤ Config.anchorMax ∧ Config.anchorMin ≤ a2 ∧ a2 ≤ Config.anchorMax
      (stable = true ∨ ranged → st.rowAt org d ≠ [] →
        let res := normRow stable [(st.rowAt org d).map fun g => (d.toF32 (s.readElem c k.val d g).1).1]
          (BitVec.ofNat 32 r) a1 a2
        ∃ o, exec (.norm k stable src vd org sr) s = .next (s.placeUnit k 9 key st o) ∧
          o.cycles = 2 * ceilDiv (st.rowAt org d).length 256 + 40 ∧
          o.effects.take 2 = [.lane vd 0 res.1.1, .lane vd 1 res.2.1] ∧
          ∀ m x bs, (.mem m x bs) ∉ o.effects) ∧
      (stable = true ∨ ranged → st.rowAt org d = [] →
        exec (.norm k stable src vd org sr) s = .next (s.placeUnit k 9 key st {})) ∧
      (stable = false → ¬ ranged → exec (.norm k stable src vd org sr) s = .next (s.ctxFault c)))

/-- An instruction that issues while its unit or a source register is busy is held. Placed in its unit, an operation that
moves no tracked line leaves its stream to go on past it, its tiles live from its issue; and whatever it moves, nothing
changes but the controller's queue and its core. UNIT_FREE, in a slot of the operation's context: when the lines of the
unit's operation have all retired, and no copy of the context has lines left to issue, it returns its trackers, is metered
and has its effects in their order, the unit is free, and the instruction that the slot's stream holds is tried; with none
held, a vector result of the command at work lands in its register and no more happens. Until the lines have retired
nothing changes. TRACKER_WAIT_END, in a slot of a LIVE context with no copy at work on the core: the unit's operation with
lines left takes a free tracker for its next line, or, with none free, that of a line of its own that is no HBM line;
with its last line its waiting stream goes on, and before it the stream stays; with no tracker of either kind nothing
changes. -/
def Obligations.UnitsAndTrackers : Prop :=
  (∀ (k : CoreId) (s : State) (key : Nat),
     let st := (s.core k.val).stream key
     let held := fun (i : Instr) => exec i s = .next (s.updStream k.val key fun st => { st with status := .held i })
     (∀ (op : VopOp) (vd vs vt : VReg), s.issues k key (.vop k op vd vs vt) →
       ¬ s.unitFree k key 8 ∨ (∃ v ∈ vopSources op vd vs vt, (s.core k.val).vectorPending key v = true) →
       held (.vop k op vd vs vt)) ∧
     (∀ (v : VReg) (d : BitVec 16) (o : SReg) (h : Option SReg), s.issues k key (.tloadv k v d o h) →
       ¬ s.unitFree k key 10 → held (.tloadv k v d o h)) ∧
     (∀ (v : VReg) (d : BitVec 16) (o : SReg) (h : Option SReg) (r : BitVec 2), s.issues k key (.tstorev k v d o h r) →
       ¬ s.unitFree k key 10 ∨ (s.core k.val).vectorPending key v = true → held (.tstorev k v d o h r)) ∧
     (∀ (a b m : BitVec 16), s.issues k key (.dma k a b m) → ¬ s.unitFree k key 10 → held (.dma k a b m)) ∧
     (∀ (u : Nat) (op : UnitOp), op.reads = [] → op.writes = [] → op.others = 0 →
       s.placeUnit k u key st op = s.updCore k.val fun y =>
         { (y.updStream key fun _ => (st.writing op.effects).advance) with
           units := y.units.put (unitKey (keyCtx key) u) (some
             { stream := key, ctx := ctxOf key, uid := st.uid, cycles := op.cycles
               effects := op.effects.filter fun e => !e.inHbm, picojoule := op.picojoule }) }) ∧
     (∀ (u : Nat) (op : UnitOp), ∃ h cs, s.placeUnit k u key st op = { s with hbm := h, cores := cs } ∧
       ∀ j, j ≠ k.val → cs.get {} j = s.core j)) ∧
  (∀ (k : CoreId) (unit : Fin 11) (s : State) (key : Nat) (x : InFlight), (s.core k.val).cur = some key →
     (s.core k.val).units.get none (unitKey (keyCtx key) unit.val) = some x →
     let freed := s.updCore k.val fun y => { y with units := y.units.put (unitKey (keyCtx key) unit.val) none }
     (s.retired x = false → exec (.unitFree k unit) s = .next s) ∧
     (s.retired x = true → (∀ y ∈ (s.core k.val).dmas, y.ctx = x.ctx → y.linesLeft = 0) →
       exec (.unitFree k unit) s = .next (((freed.freeTracker k.val x.ctx.val x.held).meter x.ctx.val x.uid
         x.picojoule).applyAll k.val x |>.tryHeld k.val)) ∧
     (∀ (v : VReg) (l : List F32), s.retired x = true → (∀ y ∈ (s.core k.val).dmas, y.ctx = x.ctx → y.linesLeft = 0) →
       (∀ i, ((s.core k.val).stream key).status ≠ .held i) → x.held = 0 → x.effects = [.vreg v l] →
       s.accepting (keyCtx x.stream) = true → ((s.core k.val).stream x.stream).uid = x.uid →
       exec (.unitFree k unit) s = .next ((freed.meter x.ctx.val x.uid x.picojoule).updStream k.val x.stream
         fun st => st.setV v.val l))) ∧
  (∀ (k : CoreId) (c : CtxId) (s : State) (key u : Nat) (x : InFlight), (key = 2 * c.val ∨ key = 2 * c.val + 1) →
     (s.core k.val).cur = some key → (s.ctx (keyCtx key)).life.state = .live → (s.core k.val).blocked key = false → s.safety.stopped = false →
     (s.core k.val).dmas = [] → (s.core k.val).lineWaiter (keyCtx key) = some u → (s.core k.val).units.get none u = some x →
     let free := s.freeTrackers k.val (keyCtx key)
     let g := grantLine x s.hbm.xfers (decide (free = 0))
     (free = 0 → x.held = 0 → exec (.trackerWaitEnd k) s = .next s) ∧
     (0 < free ∨ 0 < x.held → 0 < x.linesLeft → ∃ t, exec (.trackerWaitEnd k) s = .next t ∧
       (0 < free → t.freeTrackers k.val (keyCtx key) = free - 1) ∧
       (free = 0 → (t.core k.val).trackers = (s.core k.val).trackers) ∧
       (t.core k.val).units.get none u = some g.1 ∧ g.1.linesLeft = x.linesLeft - 1 ∧
       t.hbm = { s.hbm with xfers := g.2 } ∧
       (x.xfers = [] → g = ({ x with linesLeft := x.linesLeft - 1, held := if free = 0 then x.held else x.held + 1 },
         s.hbm.xfers)) ∧
       (x.linesLeft = 1 → ((s.core k.val).stream x.stream).status = .waitTracker u →
         ((t.core k.val).stream x.stream).status = .running) ∧
       (1 < x.linesLeft → (t.core k.val).stream x.stream = (s.core k.val).stream x.stream) ∧
       t.ctxs = s.ctxs ∧ ∀ j, j ≠ k.val → t.core j = s.core j))

/-- ROUTE, where it issues with a record. One that keeps its rules and whose assignments, with a balancing state it makes,
fit the staging share joins the Quill's operations, behind those already there, with the record's image and the bytes its
assignments take; the stream goes on, and nothing else changes but the balancing state of its layer. Where the layer has
none and the ROUTE has no BALANCE, none is made, its row is row 0 and it is not held; a ROUTE with BALANCE makes it, for the
record's descriptor and number of experts. The epoch rises at a ROUTE launched at or after the pending activation; the row
is that of the epoch, and the ROUTE is held while that row is not written. A record that breaks a rule or does not fit
faults the context.
ROUTE_DONE, in a Quill slot of the context: the earliest ROUTE, unless it is held, leaves the list, the latest assignments
are those of its layer, and its semaphore is signalled when its outputs are in memory; with K = 0 there are no assignments
and nothing is read. With no output tables the assignments are the selection of each token in order, with the global
expert indices. Held, or outside the slots, nothing changes. -/
def Obligations.RoutesIssueAndComplete : Prop :=
  (∀ (k : CoreId) (n : SReg) (sem : BitVec 16) (s : State) (key : Nat), s.issues k key (.route k n sem) →
     s.recordThere k key n →
     let c := keyCtx key
     let st := (s.core k.val).stream key
     let b := s.recordIn k key n
     let r := parseRoute b
     let q := (s.ctx c).quill
     let fits := q.stateUse + r.stage + (if r.balance && !q.balanced r.layer then 8 * r.experts + 64 else 0) ≤ s.shareSize c 3
     (s.routeOk c r = false ∨ (r.balance = true ∧ s.balRouteOk c st r = false) ∨ ¬ fits →
       exec (.route k n sem) s = .next (s.ctxFault c)) ∧
     (s.routeOk c r = true → (r.balance = true → s.balRouteOk c st r = true) → fits →
       ∃ (op : RouteOp) (q' : CtxQuill), exec (.route k n sem) s = .next ((s.updStream k.val key Stream.advance).updQuill c fun _ =>
           { q' with routes := q.routes ++ [op], assignStage := 16 * r.tokens * r.k }) ∧
         op.image = b ∧ op.core = k ∧ op.sem = sem ∧ op.layer = r.layer ∧ op.uid = st.uid ∧
         (r.balance = false → q.balanced r.layer = false → q' = q ∧ op.row = 0 ∧ op.held = false) ∧
         (r.balance = true ∨ q.balanced r.layer = true →
           let b := q.balOf r.layer
           let b' := q'.balOf r.layer
           b'.epoch = (match b.pendingAct with
             | some t => if t.toNat ≤ st.launchTick.toNat then b.epoch + 1 else b.epoch
             | none => b.epoch) ∧
           (b'.pendingAct = none ↔ ∀ t, b.pendingAct = some t → t.toNat ≤ st.launchTick.toNat) ∧
           b'.steps = b.steps ∧ b'.loads = b.loads ∧ b'.rowWritten = b.rowWritten ∧ b'.rowValues = b.rowValues ∧
           (r.balance = true → b'.biasDesc = BitVec.ofNat 16 r.bias ∧ b'.eCount = r.experts ∧ b'.core = k) ∧
           (r.balance = false → b'.biasDesc = b.biasDesc ∧ b'.eCount = b.eCount ∧ b'.core = b.core) ∧
           op.row = b'.epoch % 2 ∧ (op.held = true ↔ b.rowWritten = false ∧ b.row = op.row) ∧
           q'.moves = q.moves ∧ q'.assigns = q.assigns))) ∧
  (∀ (c : CtxId) (s : State) (op : RouteOp) (rest : List RouteOp), (s.ctx c.val).quill.routes = op :: rest →
     let r := parseRoute op.image
     (op.held = true ∨ s.quillRuns c.val = false → exec (.routeDone c) s = .next s) ∧
     (op.held = false → s.quillRuns c.val = true → r.k = 0 →
       exec (.routeDone c) s = .next (((s.updQuill c.val fun q => { q with
         routes := rest, assigns := [], assignLayer := r.layer, adjusted := [], hashKeys := [] }).meterHub c.val op.uid
           48).hubDone c.val (some op.uid) [.sem op.sem 1])) ∧
     (op.held = false → s.quillRuns c.val = true → ∃ t : State, exec (.routeDone c) s =
         .next (t.hubDone c.val (some op.uid) [.sem op.sem 1]) ∧
       (t.ctx c.val).quill.routes = rest ∧ (t.ctx c.val).quill.assignLayer = r.layer ∧
       (r.k ≠ 0 → r.expertOut = 0xFFFF → r.gateOut = 0xFFFF →
         t.sramMem = s.sramMem ∧ t.hbmMem = s.hbmMem ∧ t.resMem = s.resMem ∧
         (t.ctx c.val).quill.assigns = (List.range r.tokens).flatMap fun i =>
           let x := s.selectToken c.val op.core.val r (s.biasRow c.val op.core.val r.bias op.row r.experts) i
           tokenAssigns r.base i x.experts x.gates)))

/-- BAL_RESET, where it issues with a record that keeps its rules, releases the balancing state of its layer, lets the
ROUTEs go on that were held for its row (the model's choice, log entry 81), and signals; another record faults the
context. BAL_ROW_WRITTEN. A layer with no balancing state, or whose row is written, stays as it is. Else the pending
biases go to their row. Of a row that lies in SRAM, the reservoir or nowhere, with no other transfer without a command
submitted in the tick, the row then counts as written, and no ROUTE of the layer is held any more; only the context
and these two memories change. For a row in HBM the row counts as written when the transfer that carries it has
retired. -/
def Obligations.BalancingRows : Prop :=
  ∀ (s : State),
    (∀ (k : CoreId) (n : SReg) (sem : BitVec 16) (key : Nat), s.issues k key (.balReset k n sem) → s.recordThere k key n →
      let r := parseRoute (s.recordIn k key n)
      (s.routeOk (keyCtx key) r = true →
        exec (.balReset k n sem) s = .next (((s.updStream k.val key Stream.advance).updQuill (keyCtx key) fun q =>
          { q with
            bal := q.bal.del r.layer
            routes := mapIf (fun o => o.layer == r.layer) (fun o => { o with held := false }) q.routes }).signalSem
              (keyCtx key) sem.toNat 1)) ∧
      (s.routeOk (keyCtx key) r = false → exec (.balReset k n sem) s = .next (s.ctxFault (keyCtx key)))) ∧
    (∀ (c : CtxId) (layer : Nat),
      (s.ctx c.val).quill.balanced layer = false ∨ ((s.ctx c.val).quill.balOf layer).rowWritten = true →
      exec (.balRowWritten c layer) s = .next s) ∧
    (∀ (c : CtxId) (layer : Nat), (s.ctx c.val).quill.balanced layer = true →
      let b := (s.ctx c.val).quill.balOf layer
      b.rowWritten = false →
      ((∀ d, s.desc c.val b.biasDesc.toNat = some d → d.space = 0 ∨ d.space = 2) →
        (∀ x ∈ s.hbm.xfers, x.uid = none → x.submitted ≠ s.tick.now) →
        ∃ t, exec (.balRowWritten c layer) s = .next t ∧
          (∀ p ∈ (t.ctx c.val).quill.bal, p.1 = layer → p.2.rowWritten = true ∧ p.2.rowValues = []) ∧
          (∀ o ∈ (t.ctx c.val).quill.routes, o.layer = layer → o.held = false) ∧
          (t.ctx c.val).quill.assigns = (s.ctx c.val).quill.assigns ∧
          (∀ j, j ≠ c.val → t.ctx j = s.ctx j) ∧
          t = { s with ctxs := t.ctxs, sramMem := t.sramMem, resMem := t.resMem }) ∧
      (∀ d, s.desc c.val b.biasDesc.toNat = some d → d.format = 4 → d.space = 1 → s.ownsShares c.val = true →
        (∃ e < b.rowValues.length, d.inBounds [e, b.row] = true) →
        ∃ t x, exec (.balRowWritten c layer) s = .next t ∧ x ∈ t.hbm.xfers ∧ x.ctx = c ∧ x.write = true ∧
          (Effect.balRow layer b.updates) ∈ x.effects ∧ (t.ctx c.val).quill.balOf layer = b ∧
          (t.ctx c.val).quill.routes = (s.ctx c.val).quill.routes ∧ t.hbmMem = s.hbmMem))

/-- COUNT, where it issues with a record that keeps its rules: one whose counters do not fit the staging share faults the
context. Else it takes for each expert the number of the latest ROUTE's assignments of tokens that have not exited, notes
the next step number of its group, which rises by one, and the stream goes on; no memory of a tensor changes. In an ACTIVE
group its contribution goes out, in an ABORTED one it has failed.
COUNT_EXCHANGE_RESULT, for the earliest COUNT the contributions belong to. Contributions that differ in check word or
overlap fault the context. Contributions that agree give, once the layer's loads have them and where every queue has the
rows and the staging share the bytes, the exact totals, the bases of the members with lower TOKEN_BASE, T_G, the capacity
and the rows of the first pass; under SPILL the second exchange begins with the requests. A capacity that does not fit
faults the context. With no such COUNT nothing changes.
COUNT_COMPLETE, in a Quill slot of the context. An assignment with no row is dropped and counted, a queue that expects no
row is released, each expects the rows of its expert. Without SPILL the row counts are the totals up to the capacity, with
it those and the second exchange's totals up to the capacity, and second contributions that do not agree fault the
context. Outside the slots, or with no COUNT that has its result, nothing changes. -/
def Obligations.CountExchange : Prop :=
  (∀ (k : CoreId) (n : SReg) (sem : BitVec 16) (s : State) (key : Nat), s.issues k key (.count k n sem) → s.moveThere k key n →
     let c := keyCtx key
     let rec' := moveKey k (s.offsetIn k key n)
     let m := parseMove (s.recordIn k key n)
     let r := parseRoute (s.routeAt c k.val m)
     let fits := (s.updMove c rec' fun x => { x with stage := 0 }).stageFits c
       ((24 + (if m.policy = 1 then 16 else 0)) * r.experts + 4 * r.tokens)
     (fits = false → exec (.count k n sem) s = .next (s.ctxFault c)) ∧
     (fits = true → ∃ t, exec (.count k n sem) s = .next t ∧
       (t.move c rec').sem = sem ∧ (t.move c rec').step = (s.group m.group).nextStep ∧
       (t.group m.group).nextStep = (s.group m.group).nextStep + 1 ∧
       (∀ e < r.experts, (t.move c rec').counts.getD e 0 =
         ((s.liveAssigns c k.val m).filter fun a => a.expert - r.base == e).length) ∧
       ((t.core k.val).stream key) = ((s.core k.val).stream key).advance ∧
       t.sramMem = s.sramMem ∧ t.hbmMem = s.hbmMem ∧ t.resMem = s.resMem ∧
       ((s.group m.group).state ≠ .aborted → (t.move c rec').phase = .exchanging) ∧
       ((s.group m.group).state = .aborted → (t.move c rec').phase = .failed) ∧
       ((s.group m.group).state = .active →
         ∃ p, (.exchange (Fin.ofNat 4096 m.group) (s.group m.group).nextStep p) ∈ t.out ∧ p.tokenBase = m.tokenBase ∧
           p.tokens = r.tokens ∧ p.counts = (t.move c rec').counts))) ∧
  (∀ (c : CtxId) (parts : List Contribution) (s : State) (x : MoveState),
     s.moveWhere c.val (fun x => x.phase == .exchanging && s.wholeExchange x parts) = some x →
     let m := parseMove x.image
     let r := parseRoute x.route
     let cap := capacityOf m.cf (parts.map (·.tokens)).sum r.k r.experts
     let u := (s.updStep x.group x.step fun t => { t with phase := .ok }).balUpdate c.val r (exchangeTotals r.experts parts) x.launch
     let room := (∀ q < m.queues, ∃ d, s.desc c.val (s.queueEntry c.val x.core.val m q).queue = some d ∧ cap ≤ d.ext 1) ∧
       u.stageFits c.val (8 * m.queues * cap) = true
     (badExchange parts = true → exec (.countExchangeResult c parts) s = .next (s.ctxFault c.val)) ∧
     (badExchange parts = false → ¬ room → exec (.countExchangeResult c parts) s = .next (u.ctxFault c.val)) ∧
     (r.balance = false → u = s.updStep x.group x.step fun t => { t with phase := .ok }) ∧
     (badExchange parts = false → room →
       ∃ t, exec (.countExchangeResult c parts) s = .next t ∧
         (t.move c.val x.record).globalTokens = (parts.map (·.tokens)).sum ∧ (t.move c.val x.record).capacity = cap ∧
         (∀ e < r.experts, (t.move c.val x.record).totals.getD e 0 = (parts.map fun p => p.counts.getD e 0).sum) ∧
         (∀ e < r.experts, (t.move c.val x.record).bases.getD e 0 =
           ((parts.filter fun p => decide (p.tokenBase < m.tokenBase)).map fun p => p.counts.getD e 0).sum) ∧
         (t.move c.val x.record).assigns = firstPass r (exchangeBases r.experts m.tokenBase parts) cap x.assigns ∧
         t.sramMem = u.sramMem ∧ t.hbmMem = u.hbmMem ∧ t.resMem = u.resMem ∧
         (m.policy ≠ 1 → (t.move c.val x.record).phase = .placing ∧
           t = u.updMove c.val x.record fun _ => t.move c.val x.record) ∧
         (m.policy = 1 → (s.group x.group).state = .active → (t.move c.val x.record).phase = .placing ∧
           (t.move c.val x.record).step = (s.group x.group).nextStep ∧
           ∃ p, (.exchange (Fin.ofNat 4096 x.group) (s.group x.group).nextStep p) ∈ t.out ∧
             p.counts = countExperts r.experts ((t.move c.val x.record).requests.map (·.2.2))))) ∧
  (∀ (c : CtxId) (parts : List Contribution) (s : State),
     s.moveWhere c.val (fun x => x.phase == .exchanging && s.wholeExchange x parts) = none →
     exec (.countExchangeResult c parts) s = .next s) ∧
  (∀ (c : CtxId) (spill : List Contribution) (s : State),
     let at_ := s.moveWhere c.val fun x => x.phase == .placing && ((parseMove x.image).policy != 1 || s.wholeExchange x spill)
     (at_ = none ∨ s.quillRuns c.val = false → exec (.countComplete c spill) s = .next s) ∧
     (∀ x : MoveState, at_ = some x → s.quillRuns c.val = true →
       let m := parseMove x.image
       let r := parseRoute x.route
       (m.policy = 1 → badExchange spill = true → exec (.countComplete c spill) s = .next (s.ctxFault c.val)) ∧
       (m.policy ≠ 1 ∨ badExchange spill = false →
         ∃ t : State, exec (.countComplete c spill) s = .next t ∧
           let y := t.move c.val x.record
           y.phase = .complete ∧ y.dropped = (y.assigns.filter fun a => a.row.isNone).length ∧
           (t.ctx c.val).quill.dropped = satAdd (s.ctx c.val).quill.dropped (y.assigns.filter fun a => a.row.isNone).length ∧
           (t.ctx c.val).quill.spilled =
             satAdd (s.ctx c.val).quill.spilled (y.assigns.filter fun a => a.overflow && a.row.isSome).length ∧
           (m.policy ≠ 1 → y.assigns = x.assigns ∧
             ∀ e < r.experts, y.kept.getD e 0 = min (x.totals.getD e 0) x.capacity) ∧
           (m.policy = 1 → y.assigns = (spillPass x r.base m.tokenBase r.experts spill).1 ∧
             ∀ e < r.experts, y.kept.getD e 0 =
               min x.capacity (min (x.totals.getD e 0) x.capacity + (spill.map fun p => p.counts.getD e 0).sum)) ∧
           (∀ q < m.queues, y.expectRows.get 0 q = y.kept.getD ((s.queueEntry c.val x.core.val m q).expert - r.base) 0) ∧
           (∀ q < m.queues, y.expectRows.get 0 q = 0 → q ∈ y.released))))

/-- SCATTER, RETURN, COMBINE and EXIT of a record whose COUNT has not completed fault the context. SCATTER and RETURN of one
whose COUNT has completed: outside the Quill's slots of the context they join its work there, behind the work that waits;
in such a slot, with nothing waiting, they do their work at once: the record notes the semaphore and how many rows must
still be written as far as this device knows, and no memory of a tensor changes. A SCATTER has then sent every kept
assignment's row that is not lost, in pieces of at most 4,096 bytes with its queue, its row and its origin tag, to the
device of its expert's queue. A RETURN has sent rows 0 to A_q − 1 of each queue's output home. SCATTER_DONE and RETURN_DONE
signal once those rows are in memory and nothing of the context waits at a link (log entry 82), and change nothing before. -/
def Obligations.ScatterAndReturn : Prop :=
  ∀ (s : State),
    (∀ (k : CoreId) (n : SReg) (sem : BitVec 16) (key : Nat), s.moveThere k key n →
      (s.move (keyCtx key) (moveKey k (s.offsetIn k key n))).phase ≠ .complete →
      let faults := fun (i : Instr) => s.issues k key i → exec i s = .next (s.ctxFault (keyCtx key))
      faults (.scatter k n sem) ∧ faults (.ret k n sem) ∧ faults (.combine k n sem) ∧ faults (.exitTest k n sem)) ∧
    (∀ (k : CoreId) (n : SReg) (sem : BitVec 16) (key : Nat), s.moveThere k key n →
      let c := keyCtx key
      let rec' := moveKey k (s.offsetIn k key n)
      let x := s.move c rec'
      let b := s.recordIn k key n
      let m := parseMove b
      let r := parseRoute (s.routeAt c k.val m)
      let st := (s.core k.val).stream key
      let joined := fun (kind : MoveKind) => (s.updStream k.val key Stream.advance).updQuill c fun q =>
        { q with todo := q.todo ++
          [{ kind := kind, key := rec', uid := st.uid, sem := sem, image := b, route := s.routeAt c k.val m }] }
      let device := fun (a : Assign) => BitVec.ofNat 16 (mapDevice (s.mapElem c x.core.val m (a.placed - r.base)))
      let goes := fun (a : BitVec 16) => a = s.topo.selfAddr ∨
        (s.packetLost c a = false ∧ (s.mirrored c = false ∨ s.silent c = false))
      x.phase = .complete →
      (s.issues k key (.scatter k n sem) →
        (s.quillRuns c = false → exec (.scatter k n sem) s = .next (joined .scatter)) ∧
        (s.quillRuns c = true → (s.ctx c).quill.todo = [] → ∃ t : State, exec (.scatter k n sem) s = .next t ∧
          (t.move c rec').scatterSem = sem ∧
          (t.move c rec').scatterOut = some ((x.assigns.filter fun a => a.row.isSome &&
            (device a == s.topo.selfAddr || s.packetLost c (device a))).length) ∧
          (t.core k.val).stream key = st.advance ∧ t.sramMem = s.sramMem ∧ t.hbmMem = s.hbmMem ∧ t.resMem = s.resMem ∧
          ∀ a ∈ x.assigns, ∀ row, a.row = some row → goes (device a) → ∀ d, s.desc c m.src = some d →
            ∀ p ∈ pieces (s.rowBytes c x.core.val d [a.token]),
              (.packet { ctx := Fin.ofNat 64 c, src := s.topo.selfAddr, dst := device a
                         use := .queueRow (Fin.ofNat 4096 x.group) x.step
                           (mapQueue (s.mapElem c x.core.val m (a.placed - r.base))) row p.1
                           (originTag s.topo.selfAddr.toNat a.slot a.token), data := p.2 }) ∈ t.out)) ∧
      (s.issues k key (.ret k n sem) →
        (s.quillRuns c = false → exec (.ret k n sem) s = .next (joined .ret)) ∧
        (s.quillRuns c = true → (s.ctx c).quill.todo = [] → ∃ t : State, exec (.ret k n sem) s = .next t ∧
          (t.move c rec').returnSem = sem ∧ (t.move c rec').returnOut.isSome = true ∧
          (t.core k.val).stream key = st.advance ∧ t.sramMem = s.sramMem ∧ t.hbmMem = s.hbmMem ∧ t.resMem = s.resMem ∧
          ∀ q < m.queues, ∀ row < x.expectRows.get 0 q, ∀ d, s.desc c (s.queueEntry c x.core.val m q).out = some d →
            let tag := (x.tags.get 0 (q * 2 ^ 24 + row)).toNat
            goes (BitVec.ofNat 16 tag) → ∀ p ∈ pieces (s.rowBytes c x.core.val d [row]),
              (.packet { ctx := Fin.ofNat 64 c, src := s.topo.selfAddr, dst := BitVec.ofNat 16 tag
                         use := .returnRow (Fin.ofNat 4096 x.group) x.step (bits tag 19 16) (bits tag 40 24) p.1
                         data := p.2 }) ∈ t.out))) ∧
    (∀ c : CtxId,
      let sent := s.moveWhere c.val fun x => x.scatterOut == some 0 && !s.flitsWait c.val
      let home := s.moveWhere c.val fun x => x.returnOut == some 0 && !s.flitsWait c.val
      (∀ x : MoveState, sent = some x → exec (.scatterDone c) s = .next ((s.updMove c.val x.record fun y =>
        { y with scatterOut := none }).signalSem c.val x.scatterSem.toNat 1)) ∧
      (sent = none → exec (.scatterDone c) s = .next s) ∧
      (∀ x : MoveState, home = some x → exec (.returnDone c) s = .next ((s.updMove c.val x.record fun y =>
        { y with returnOut := none }).signalSem c.val x.returnSem.toNat 1)) ∧
      (home = none → exec (.returnDone c) s = .next s))

/-- COMBINE, where it issues with a record whose COUNT has completed, begins to combine for its command, with no token
summed yet, and the stream goes on; nothing else changes. COMBINE_TOKEN_START, in a Quill slot of the context: a token
that is ready, its landings equal to its kept slots, is summed once: it is no longer ready. Each element of its row is one
exact sum at the record's anchor, of a single kept slot the product of gate and landed value, rounded once; a row of one
element in SRAM, from a return tensor outside HBM with no base and no other transfer of the command submitted in the tick,
is written and the token is combined. Outside the slots, or with no record whose token is ready, nothing changes.
COMBINE_DONE ends the earliest combining whose every token that has not exited has its row in memory, releases its staging
bytes and signals; with none nothing changes. -/
def Obligations.CombineTokens : Prop :=
  ∀ (s : State),
    (∀ (k : CoreId) (n : SReg) (sem : BitVec 16) (key : Nat), s.issues k key (.combine k n sem) → s.moveThere k key n →
      let c := keyCtx key
      let rec' := moveKey k (s.offsetIn k key n)
      let st := (s.core k.val).stream key
      (s.move c rec').phase = .complete →
      ∃ y : MoveState, exec (.combine k n sem) s = .next ((s.updStream k.val key Stream.advance).updMove c rec' fun _ => y) ∧
        y.combining = true ∧ y.combineSem = sem ∧ y.combineUid = st.uid ∧ y.summed = [] ∧ y.combined = [] ∧
        y.image = s.recordIn k key n ∧ y.assigns = (s.move c rec').assigns ∧ y.landings = (s.move c rec').landings ∧
        y.expectContrib = (s.move c rec').expectContrib ∧ y.phase = .complete ∧ y.stage = (s.move c rec').stage) ∧
    (∀ (c : CtxId) (token : Nat),
      (s.moveWhere c.val (s.tokenReady c.val token) = none ∨ s.quillRuns c.val = false →
        exec (.combineTokenStart c token) s = .next s) ∧
      (∀ x : MoveState, s.moveWhere c.val (s.tokenReady c.val token) = some x → s.quillRuns c.val = true →
        ∃ t : State, exec (.combineTokenStart c token) s = .next t ∧
          token ∈ (t.move c.val x.record).summed ∧ s.tokenReady c.val token (t.move c.val x.record) = false ∧
          (∀ (ret out : Desc), s.desc c.val (parseMove x.image).ret = some ret → s.desc c.val (parseMove x.image).out = some out →
            (parseMove x.image).base = 0xFFFF → ret.space ≠ 1 → out.space = 0 → out.ext 0 = 1 → out.inBounds [0, token] = true →
            s.ownsShares c.val = true → (∀ y ∈ s.hbm.xfers, y.uid = some x.combineUid → y.submitted ≠ s.tick.now) →
            let w := s.combineElem c.val x.core.val (parseMove x.image) ret out
              (x.assigns.filter fun a => a.token == token && a.row.isSome) x.combineSeed token 0
            t.sramMem = s.sramMem.writeBytes (s.elemAddr c.val x.core.val out [0, token]) (toLe out.size w.1) ∧
            token ∈ (t.move c.val x.record).combined ∧ t.hbmMem = s.hbmMem ∧ t.resMem = s.resMem))) ∧
    (∀ (c k : Nat) (m : MoveRec) (ret out : Desc) (seed : BitVec 64) (t i : Nat) (a : Assign), m.base = 0xFFFF →
      s.combineElem c k m ret out [a] seed t i =
        (let (y, f) := ret.toF32 (s.hubRead c k ret [i, a.slot, t])
         let (p, g) := enterProduct 96 m.anchor (f32 a.gate) (f32 y)
         let (e, h) := ({} : XaElem).addAll [(p, f ||| g)]
         let (w, j) := out.fromXa (s.roundBy c m.round seed out [i, t]) 96 m.anchor e
         (w, h ||| j))) ∧
    (∀ c : CtxId,
      (s.moveWhere c.val (s.combineOver c.val) = none → exec (.combineDone c) s = .next s) ∧
      (∀ x : MoveState, s.moveWhere c.val (s.combineOver c.val) = some x →
        exec (.combineDone c) s = .next ((s.updMove c.val x.record fun y => { y with combining := false, stage := 0 }).signalSem
          c.val x.combineSem.toNat 1)))

/-- QUEUE_RELEASE, of a context that takes commands, signals once the semaphore of a queue whose arrivals equal the rows it
expects; of another queue or context nothing changes. EXIT, where it issues with a record whose COUNT has completed. One
whose descriptors break its rules faults the context. Outside the Quill's slots of the context it joins its work there. In
such a slot, with nothing waiting, it ends with the signal of its semaphore, once what it moves is in memory: with no token
that passes the test and has not exited no tensor and no sequence entry changes and no token is counted; a single token that passes is
counted, its flag written and its row of the output copied to the final tensor, here with EXIT_DESC in SRAM and both
tensors in the reservoir. -/
def Obligations.QueueReleaseAndExit : Prop :=
  ∀ (s : State),
    (∀ (c : CtxId) (q : Nat),
      let due := s.moveWhere c.val fun x => x.phase == .complete && decide (q < (parseMove x.image).queues) &&
        !x.released.contains q && x.arrivals.get 0 q == x.expectRows.get 0 q
      (∀ x : MoveState, s.accepting c.val = true → due = some x →
        exec (.queueRelease c q) s = .next ((s.updMove c.val x.record fun y => { y with released := q :: y.released }).signalSem
          c.val (s.queueEntry c.val x.core.val (parseMove x.image) q).sem 1)) ∧
      (s.accepting c.val = false ∨ due = none → exec (.queueRelease c q) s = .next s)) ∧
    (∀ (k : CoreId) (n : SReg) (sem : BitVec 16) (key : Nat), s.issues k key (.exitTest k n sem) → s.moveThere k key n →
      let c := keyCtx key
      let rec' := moveKey k (s.offsetIn k key n)
      let b := s.recordIn k key n
      let m := parseMove b
      let r := parseRoute (s.routeAt c k.val m)
      let st := (s.core k.val).stream key
      let home := (s.move c rec').core.val
      (s.move c rec').phase = .complete →
      (s.exitOk c m r = false → exec (.exitTest k n sem) s = .next (s.ctxFault c)) ∧
      (s.exitOk c m r = true → s.quillRuns c = false →
        exec (.exitTest k n sem) s = .next ((s.updStream k.val key Stream.advance).updQuill c fun q =>
          { q with todo := q.todo ++
            [{ kind := .exit, key := rec', uid := st.uid, sem := sem, image := b, route := s.routeAt c k.val m }] })) ∧
      (s.exitOk c m r = true → s.quillRuns c = true → (s.ctx c).quill.todo = [] →
        ∃ t : State, exec (.exitTest k n sem) s = .next (t.hubDone c (some st.uid) [.sem sem 1]) ∧
          (t.core k.val).stream key = st.advance ∧ (t.ctx c).quill.todo = [] ∧
          ((∀ i < r.tokens, s.exitedTok c home m i = true ∨ s.exitTestHolds c home m i = false) →
            t.sramMem = s.sramMem ∧ t.hbmMem = s.hbmMem ∧ t.resMem = s.resMem ∧ t.stageMem = s.stageMem ∧
            (t.ctx c).serving = (s.ctx c).serving ∧ (t.ctx c).quill.exited = (s.ctx c).quill.exited) ∧
          (r.tokens = 1 → s.exitedTok c home m 0 = false → s.exitTestHolds c home m 0 = true →
            (t.ctx c).quill.exited = satAdd (s.ctx c).quill.exited 1 ∧
            ∀ (e out final : Desc), m.exitDesc ≠ 0xFFFF → s.desc c m.exitDesc = some e → s.desc c m.out = some out →
              s.desc c m.final = some final → e.space = 0 → out.space = 2 → final.space = 2 → e.inBounds [0] = true →
              final.inBounds [0, 0] = true → s.ownsShares c = true →
              t.sramMem = s.sramMem.writeBytes (s.elemAddr c home e [0]) (toLe e.size 1) ∧
              t.resMem = s.resMem.writeBytes (s.elemAddr c home final [0, 0])
                ((s.rowBytes c home out [0]).take (final.ext 0 * final.size)))))

/-- COLL and COLL.F32, where they issue with a record. One that breaks a rule, or can never fit the reservoir share, faults
its context. Else the step joins its group with the next number, the stream goes on, and RANK and SIZE are written to its
record. In an ACTIVE group, with the generation it expects, it starts where its allocation fits and waits where it does
not; with another generation it ends at once with code 6, and in an ABORTED group with code 5; in a REFORMING one it waits.
COLL_ALLOC starts a waiting step of an ACTIVE group once its allocation fits, which is then counted, and changes nothing
of another. COLL_STEP_OK: of a running step whose part on this member is done, with nothing of its context at a link (log
entry 82) and no detection older than this tick, STATUS 0 is written, the allocation released and the semaphore
signalled; of another step nothing changes. -/
def Obligations.CollectiveSteps : Prop :=
  (∀ (k : CoreId) (n : SReg) (sem : BitVec 16) (f32 : Bool) (s : State) (key : Nat),
     let i : Instr := if f32 then .collF32 k n sem else .coll k n sem
     s.issues k key i → s.recordThere k key n →
     let c := keyCtx key
     let v := s.collView (s.recordIn k key n) f32
     let g := s.group v.group
     let joins := fun (x : CollStep) => ((s.updStream k.val key Stream.advance).updGroup v.group fun g =>
       { g with steps := g.steps ++ [x], nextStep := g.nextStep + 1 }).putSram c k.val (s.offsetIn k key n + 32)
         (toLe 4 v.rank ++ toLe 4 v.p)
     let stale := v.expectGen ≠ 0 ∧ v.expectGen ≠ g.generation.toNat
     (s.collOk c v = false ∨ s.shareSize c 2 < v.alloc → exec i s = .next (s.ctxFault c)) ∧
     (s.collOk c v = true → v.alloc ≤ s.shareSize c 2 →
       ∃ x : CollStep, x.number = g.nextStep ∧ x.phase = .waiting ∧ x.sem = sem ∧ x.f32 = f32 ∧ x.core = k ∧
         x.record = s.offsetIn k key n ∧ x.image = s.recordIn k key n ∧ x.issueTick = s.tick.now ∧ x.exchange = false ∧
         x.uid = ((s.core k.val).stream key).uid ∧
         (g.state = .active → ¬ stale → s.allocFits c v = true → exec i s = .next ((joins x).startStep x)) ∧
         (g.state = .active → ¬ stale → s.allocFits c v = false → exec i s = .next (joins x)) ∧
         (g.state = .active → stale → exec i s = .next ((joins x).abortStep v.group x 6 g.abortTick g.abortRank)) ∧
         (g.state = .aborted → exec i s = .next ((joins x).abortStep v.group x 5 g.abortTick g.abortRank)) ∧
         (g.state = .reforming → exec i s = .next (joins x)))) ∧
  (∀ (g : GroupId) (step : Nat) (s : State) (t : CollStep), s.collStep g.val step = some t →
     let v := s.collView t.image t.f32
     (t.exchange = false → t.phase = .waiting → (s.group g.val).state = .active → s.allocFits t.ctx.val v = true →
       ∃ u, exec (.collAlloc g step) s = .next u ∧ u = s.startStep t ∧
         (u.ctx t.ctx.val).resAlloc = (s.ctx t.ctx.val).resAlloc + v.alloc ∧
         (v.group = g.val → (s.desc t.ctx.val v.src).isSome = true →
           ∃ x, u.collStep g.val step = some x ∧ x.phase = .running ∧ x.alloc = v.alloc)) ∧
     (s.allocFits t.ctx.val v = false ∨ t.phase ≠ .waiting ∨ t.exchange = true ∨ (s.group g.val).state ≠ .active →
       exec (.collAlloc g step) s = .next s)) ∧
  (∀ (g : GroupId) (step : Nat) (s : State) (t : CollStep), s.collStep g.val step = some t →
     let done := t.localDone (s.collView t.image t.f32)
     (t.phase = .running → t.exchange = false → s.detectedBefore g.val = false → s.flitsWait t.ctx.val = false →
       done = true →
       exec (.collStepOk g step) s = .next ((((s.updStep g.val step fun t => { t with phase := .ok, alloc := 0 }).updCtx
         t.ctx.val fun x => { x with resAlloc := x.resAlloc - t.alloc }).putSram t.ctx.val t.core.val (t.record + 28)
           [0, 0, 0, 0]).signalSem t.ctx.val t.sem.toNat 1)) ∧
     (t.phase ≠ .running ∨ t.exchange = true ∨ s.detectedBefore g.val = true ∨ s.flitsWait t.ctx.val = true ∨ done = false →
       exec (.collStepOk g step) s = .next s))

/-- Detection and flood: a step of an ACTIVE group without an outcome TIMEOUT ticks after its issue makes this member
detect TIMEOUT now, with its rank, and flood it; a lower detection that arrives replaces the one held and goes on,
and one that is not lower changes nothing. The outcome of an abort: 16,384 GT after the lowest detection its code,
tick and rank are fixed; 32,768 GT after it a group with no step, or one, without an outcome is REFORMING or ABORTED by its POLICY, the step
having ended as an abort; 65,536 GT after it a group with no such step that re-forms with a set that holds this device is
ACTIVE with the members left, the next generation and its steps numbered from 0, and one without such a set is ABORTED. -/
def Obligations.GroupAborts : Prop :=
  (∀ (g : GroupId) (s : State), (s.group g.val).state = .active → (s.group g.val).fixed = false →
     (∀ (step : Nat) (t : CollStep), s.collStep g.val step = some t → t.open_ = true →
       (t.issueTick.toNat + (s.group g.val).timeout ≤ s.now → (s.group g.val).detection = none →
         ∃ u : State, exec (.collTimeout g step) s = .next u ∧
           (u.group g.val).detection = some (1, s.tick.now, BitVec.ofNat 32 (s.rankIn g.val)) ∧
           u.out = .flood g 1 s.tick.now (BitVec.ofNat 32 (s.rankIn g.val)) :: s.out ∧
           u = { s with groups := u.groups, out := u.out }) ∧
       (s.now < t.issueTick.toNat + (s.group g.val).timeout → exec (.collTimeout g step) s = .next s)) ∧
     (∀ (code : BitVec 8) (tick : Word) (rank : BitVec 32),
       ((s.group g.val).detection = none ∨ (∃ d, (s.group g.val).detection = some d ∧ detectBefore (code, tick, rank) d = true)) →
       exec (.abortFloodReceive g code tick rank) s =
         .next ((s.updGroup g.val fun x => { x with detection := some (code, tick, rank) }).emit (.flood g code tick rank))) ∧
     (∀ (code : BitVec 8) (tick : Word) (rank : BitVec 32) (d : BitVec 8 × Word × BitVec 32),
       (s.group g.val).detection = some d → detectBefore (code, tick, rank) d = false →
       exec (.abortFloodReceive g code tick rank) s = .next s)) ∧
  (∀ (g : GroupId) (s : State),
     (∀ d, (s.group g.val).detection = some d → (s.group g.val).fixed = false → d.2.1.toNat + 16384 ≤ s.now →
       exec (.abortFix g) s = .next (s.updGroup g.val fun x =>
         { x with fixed := true, abortCode := d.1, abortTick := d.2.1, abortRank := d.2.2 })) ∧
     (∀ d, (s.group g.val).detection = some d → s.now < d.2.1.toNat + 16384 → exec (.abortFix g) s = .next s) ∧
     ((s.group g.val).fixed = true → (s.group g.val).abortTick.toNat + 32768 ≤ s.now →
       (∀ t ∈ (s.group g.val).steps, t.open_ = false) →
       exec (.collAbortSettle g) s = .next (s.updGroup g.val fun x =>
         { x with state := if x.reforms then .reforming else .aborted, detection := none, fixed := false
                  aborts := x.aborts + 1, early := [] })) ∧
     (∀ t, (s.group g.val).fixed = true → (s.group g.val).abortTick.toNat + 32768 ≤ s.now →
       (s.group g.val).steps = [t] → t.open_ = true →
       exec (.collAbortSettle g) s = .next ((s.abortStep g.val t (s.group g.val).abortCode.toNat (s.group g.val).abortTick
         (s.group g.val).abortRank).updGroup g.val fun x =>
           { x with state := if x.reforms then .reforming else .aborted, detection := none, fixed := false
                    aborts := x.aborts + 1, early := [] })) ∧
     ((s.group g.val).state = .reforming → s.now < (s.group g.val).abortTick.toNat + 65536 →
       ∀ members, exec (.groupReform g members) s = .next s) ∧
     (∀ l, (s.group g.val).state = .reforming → (s.group g.val).abortTick.toNat + 65536 ≤ s.now →
       s.topo.selfAddr ∈ l → s.topo.selfAddr ∈ (s.group g.val).members → (∀ t ∈ (s.group g.val).steps, t.open_ = false) →
       ∃ u : State, exec (.groupReform g (some l)) s = .next u ∧ (u.group g.val).state = .active ∧
         (u.group g.val).members = (s.group g.val).members.filter l.contains ∧
         (u.group g.val).generation = (s.group g.val).generation + 1 ∧ (u.group g.val).nextStep = 0 ∧
         (u.group g.val).steps = [] ∧ u = s.updGroup g.val fun _ => u.group g.val) ∧
     (∀ members : Option (List (BitVec 16)), (s.group g.val).state = .reforming →
       (s.group g.val).abortTick.toNat + 65536 ≤ s.now → (∀ l, members = some l → s.topo.selfAddr ∉ l) →
       (∀ t ∈ (s.group g.val).steps, t.open_ = false) →
       exec (.groupReform g members) s = .next (s.updGroup g.val fun x => { x with state := .aborted })))

/-- Grouped work. GCLAIM, where it issues with a header and no GCLAIM waits for the roster on a lower core in its slot. Of a
READY roster the core gets its first claimable tile in four registers and the tile leaves the list; with its own list and
the common one empty it gets DONE, all ones, and is noted; else, and of a roster that is not READY, the stream waits. With
no roster there the walk starts, its tiles are placed, and the stream waits; a broken table faults the context, and so do
a core outside the mask, a ninth roster and a base register above S12. GCLAIM_RESULT tests the waiting claim of the core's
slot in the same way. ROSTER_READY, in a Quill slot of the context, makes the roster READY; ROSTER_RELEASE consumes each
entry's release count once; else either changes nothing. -/
def Obligations.GroupedWork : Prop :=
  ∀ (s : State),
    (∀ (k : CoreId) (n sd : SReg) (key : Nat), s.issues k key (.gclaim k n sd) → s.recordThere k key n →
      let c := keyCtx key
      let h := s.offsetIn k key n
      let uid := ((s.core k.val).stream key).uid
      let head := parseHead (s.recordIn k key n)
      let waits := fun (t : State) => ((t.core k.val).stream key).status = .waitClaim h sd ∧
        ((t.core k.val).stream key).pc = ((s.core k.val).stream key).pc ∧
        ((t.core k.val).stream key).sregs = ((s.core k.val).stream key).sregs
      (12 < sd.val → exec (.gclaim k n sd) s = .next (s.ctxFault c)) ∧
      (∀ r : Roster, sd.val ≤ 12 → s.roster c h = some r →
        (bit r.mask.toNat k.val = false → exec (.gclaim k n sd) s = .next (s.ctxFault c)) ∧
        (bit r.mask.toNat k.val = true → (∀ j < k.val, s.claimer c h j = none) →
          let s' := s.putRoster c h (r.usedBy uid)
          (r.ready = true → ∀ t, r.claimable k = some t →
            exec (.gclaim k n sd) s = .next ((s'.updStream k.val key fun st =>
              { ((((st.setS sd.val (BitVec.ofNat 64 t.entry)).setS (sd.val + 1)
                  (BitVec.ofNat 64 (t.row % 2 ^ 32 + t.rows * 2 ^ 32))).setS (sd.val + 2)
                  (BitVec.ofNat 64 (t.col % 2 ^ 32 + t.cols * 2 ^ 32))).setS (sd.val + 3) (BitVec.ofNat 64 t.pos)) with
                status := .running }.advance).settleRoster c h { r.usedBy uid with tiles := r.tiles.filter (· != t) })) ∧
          (r.ready = true → r.claimable k = none → r.doneFor k = true → ∃ r' : Roster,
            exec (.gclaim k n sd) s = .next ((s'.updStream k.val key fun st =>
              { (st.setS sd.val 0xFFFFFFFF) with status := .running }.advance).settleRoster c h r') ∧
            k.val ∈ r'.doneCores ∧ r'.tiles = r.tiles ∧ r'.releasedEntries = r.releasedEntries) ∧
          (r.ready = false ∨ (r.claimable k = none ∧ r.doneFor k = false) →
            ∃ t : State, exec (.gclaim k n sd) s = .next t ∧ waits t ∧ t.ctxs = s'.ctxs ∧ t.sramMem = s.sramMem))) ∧
      (sd.val ≤ 12 → s.roster c h = none →
        (bit head.mask k.val = false ∨ 8 ≤ (s.ctx c).rosters.length ∨ s.walk c k.val uid h head = none →
          exec (.gclaim k n sd) s = .next (s.ctxFault c)) ∧
        (bit head.mask k.val = true → (s.ctx c).rosters.length < 8 → (s.walk c k.val uid h head).isSome = true →
          ∃ (t : State) (r : Roster), exec (.gclaim k n sd) s = .next t ∧ waits t ∧ t.roster c h = some r ∧
            r.ready = false ∧ r.tiles.length ≤ head.capacity ∧ r.users = [uid] ∧ r.mask = BitVec.ofNat 32 head.mask ∧
            r.releaseSems.length = head.entries))) ∧
    (∀ (k : CoreId) (sd : SReg) (key header : Nat) (r : Roster),
      let c := keyCtx key
      (∀ j < k.val, s.claimer c header j = none) → s.claimer c header k.val = some (key, sd) → s.roster c header = some r →
      (r.ready = true → ∀ t, r.claimable k = some t →
        exec (.gclaimResult k) s = .next ((s.updStream k.val key fun st =>
          { (st.setClaim sd.val t) with status := .running }.advance).settleRoster c header
            { r with tiles := r.tiles.filter (· != t) })) ∧
      (r.ready = false ∨ (r.claimable k = none ∧ r.doneFor k = false) → exec (.gclaimResult k) s = .next s)) ∧
    (∀ (c : CtxId) (header : Nat) (r : Roster), s.roster c.val header = some r →
      (r.ready = false → s.quillRuns c.val = true →
        exec (.rosterReady c header) s = .next (s.settleRoster c.val header { r with ready := true })) ∧
      (r.ready = true ∨ s.quillRuns c.val = false → exec (.rosterReady c header) s = .next s)) ∧
    (∀ (c : CtxId) (header entry : Nat) (r : Roster) (sem : BitVec 16), s.roster c.val header = some r →
      r.releaseSems[entry]? = some sem →
      ((s.ctx c.val).life.state = .live → r.releasedEntries.contains entry = false → 0 < s.sem c.val sem.toNat →
        exec (.rosterRelease c header entry) s =
          .next ((s.setSem c.val sem.toNat (s.sem c.val sem.toNat - 1)).settleRoster c.val header
            { r with releasedEntries := entry :: r.releasedEntries })) ∧
      ((s.ctx c.val).life.state ≠ .live ∨ r.releasedEntries.contains entry = true ∨ s.sem c.val sem.toNat = 0 →
        exec (.rosterRelease c header entry) s = .next s))

/-- DESCRIPTOR_TAKE takes the descriptor at HEAD of an enabled ring that is not empty and may give one up in the tick, of a
context that accepts commands, while a completion slot is certain to be free, the host is there and the device is no
mirroring secondary: HEAD goes up by one and the command joins the context's with the next number, and of ring 2 the step
record of its serving step. An ABORT aims at the only command with its CMD_ID. A fetch that fails, a descriptor that R213
or R799 refuses, URGENT where it is not allowed and a DMA of unlike formats fault the context; a LAUNCH or DMA of no cores,
or a DMA of an empty tensor, is terminal at once with OK; any other command stays. Where the descriptor may not be taken
nothing changes. -/
def Obligations.DescriptorsTaken : Prop :=
  ∀ (c : CtxId) (r : RingId) (s : State),
    let y := s.ring c.val r.val
    let ready := y.enable = true ∧ y.head ≠ y.tail ∧ y.mayTake s.tick.now = true ∧ s.accepting c.val = true ∧
      s.slotFree c.val r.val = true ∧ s.pcie.linkUp = true ∧ ¬(s.pair.role = 2 ∧ s.pair.state = 1) ∧ s.safety.stopped = false
    (ready → exec (.descriptorTake c r none) s = .next (s.ctxFault c.val)) ∧
    (∀ fetched, ¬ready → exec (.descriptorTake c r fetched) s = .next s) ∧
    (∀ b : Bytes, ready →
      let posted := (s.ctx c.val).serving.posted
      let x := { parseCmd b (s.ctx c.val).nextUid r s.tick.now with
        step := if r.val = 2 then posted.head?.map (·.1) else none
        picojoule := if r.val = 2 then (posted.head?.map fun e => e.2 * s.cfgNum 0x3010 9).getD 0 else 0 }
      let bad := s.badDescriptor b = true ∨ s.urgentOk c.val x = false ∨ s.mixedDma c.val x = true
      let done := ((x.type = 1 ∨ x.type = 4) ∧ x.mask = 0) ∨ s.emptyDma c.val x = true
      ∃ t : State, (t.ctx c.val).cmds.map (fun y => { y with target := none }) =
          ((s.ctx c.val).cmds ++ [x]).map (fun y => { y with target := none }) ∧
        ((∀ y ∈ (s.ctx c.val).cmds, y.type ≠ 6) → x.type ≠ 6 → (t.ctx c.val).cmds = (s.ctx c.val).cmds ++ [x]) ∧
        (∀ y ∈ (s.ctx c.val).cmds, x.type = 6 → y.uid ≠ x.uid → y.cmdId.toNat = x.arg 0 → y.acceptTick.toNat ≤ s.now →
          (∀ z ∈ (s.ctx c.val).cmds, z.cmdId.toNat = x.arg 0 → z = y) →
          ∃ z ∈ (t.ctx c.val).cmds, z.uid = x.uid ∧ z.type = 6 ∧ z.target = some y.uid) ∧
        (t.ctx c.val).nextUid = (s.ctx c.val).nextUid + 1 ∧
        (t.ring c.val r.val).head = y.head + 1 ∧ (t.ring c.val r.val).tail = y.tail ∧ (t.ctx c.val).life = (s.ctx c.val).life ∧
        (r.val = 2 → (t.ctx c.val).serving.posted = posted.drop 1) ∧
        t.sramMem = s.sramMem ∧ t.hbmMem = s.hbmMem ∧ t.cores = s.cores ∧
        (bad → exec (.descriptorTake c r (some b)) s = .next (t.ctxFault c.val)) ∧
        (¬ bad → done → exec (.descriptorTake c r (some b)) s = .next (t.finishCmd c.val x 0)) ∧
        (¬ bad → ¬ done → exec (.descriptorTake c r (some b)) s = .next t))

/-- COMMAND_START of a taken command other than an ABORT, of a LIVE context, whose turn in its ring it is and with no earlier
deferred command. URGENT where it is not allowed faults the context. A command without a tag starts; a tag that the balance
covers is debited; a tag above the balance defers the command and counts a deferral; a tag no balance can cover faults the
context. A LAUNCH is armed with its place in the order of arming, unless its tick is less than 8 ticks ahead: then it is
terminal with TIMEOUT, or HOLDOVER_REFUSED where its tick has come as an agreed launch in a state that refuses it. Any
other command stays as it is. -/
def Obligations.CommandsStart : Prop :=
  ∀ (c : CtxId) (uid : Nat) (s : State) (x : Cmd), s.cmd c.val uid = some x →
    let turn := x.phase = .accepted ∧ x.type ≠ 6 ∧ (s.ctx c.val).life.state = .live ∧ s.ringReady c.val x = true ∧
      ∀ y ∈ (s.ctx c.val).cmds, y.phase = .deferred → y.before x = false
    (¬ turn → exec (.commandStart c uid) s = .next s) ∧
    (turn → s.urgentOk c.val x = false → exec (.commandStart c uid) s = .next (s.ctxFault c.val)) ∧
    (turn → s.urgentOk c.val x = true →
      (x.type ≠ 1 → (x.type ≠ 4 ∨ c.val = 0) → ∃ t : State, exec (.commandStart c uid) s = .next t ∧
        t.cmd c.val uid = some { x with phase := .started } ∧
        t = s.updCmd c.val uid fun y => { y with phase := .started }) ∧
      (c.val ≠ 0 → (x.type = 1 ∨ x.type = 4) → s.balanceCap c.val < x.tag →
        exec (.commandStart c uid) s = .next (s.ctxFault c.val)) ∧
      (c.val ≠ 0 → (x.type = 1 ∨ x.type = 4) → x.tag ≤ s.balanceCap c.val → x.tag ≠ 0 →
        (s.ctx c.val).energy.balance < x.tag →
        ∃ t : State, exec (.commandStart c uid) s = .next t ∧ t.cmd c.val uid = some { x with phase := .deferred } ∧
          (t.ctx c.val).energy = { (s.ctx c.val).energy with deferrals := (s.ctx c.val).energy.deferrals + 1 } ∧
          t = { s with ctxs := t.ctxs, energy := { s.energy with windowDeferred := true } }) ∧
      (c.val ≠ 0 → x.type = 4 → x.tag ≤ s.balanceCap c.val → (x.tag = 0 ∨ x.tag ≤ (s.ctx c.val).energy.balance) →
        ∃ t : State, exec (.commandStart c uid) s = .next t ∧
          t.cmd c.val uid = some { x with phase := .started, debited := true } ∧
          (t.ctx c.val).energy = { (s.ctx c.val).energy with balance := (s.ctx c.val).energy.balance - x.tag } ∧
          t = { s with ctxs := t.ctxs, energy := { s.energy with windowDebits := s.energy.windowDebits + x.tag } }) ∧
      (x.type = 1 → (c.val ≠ 0 → x.tag ≤ s.balanceCap c.val ∧ (x.tag = 0 ∨ x.tag ≤ (s.ctx c.val).energy.balance)) →
        let d := decide (c.val ≠ 0)
        let started := if d then s.debit c.val x else s
        let z := if d then { x with debited := true } else x
        ((x.launchTick = 0 ∨ s.now + 8 ≤ x.launchTick.toNat) →
          ∃ t : State, exec (.commandStart c uid) s = .next t ∧
            t.cmd c.val uid = some { z with phase := .armed, armOrder := (s.ctx c.val).armed } ∧
            (t.ctx c.val).armed = (s.ctx c.val).armed + 1 ∧ t = { started with ctxs := t.ctxs } ∧
            (t.ctx c.val).energy.balance = (s.ctx c.val).energy.balance - (if d then (x.tag : Int) else 0)) ∧
        (x.launchTick ≠ 0 → x.launchTick.toNat < s.now + 8 → ¬(x.agreed = true ∧ x.launchTick.toNat ≤ s.now ∧ s.tick.agrees = false) →
          exec (.commandStart c uid) s = .next (started.finishCmd c.val z ({ z with late := true, refused := false }).status)) ∧
        (x.launchTick ≠ 0 → x.agreed = true → x.launchTick.toNat ≤ s.now → s.tick.agrees = false →
          exec (.commandStart c uid) s = .next (started.finishCmd c.val z ({ z with late := true, refused := true }).status))))

/-- LAUNCH runs an armed launch without a tick, LAUNCH_START one whose tick has come, once the changes of the tick unit that
are due have been made; of a LIVE context, in the turn of its ring, and LAUNCH_START behind launches for the same tick on
the same cores that were armed before. On every core of the mask the stream takes the nonzero arguments in s8 to s15, zero
elsewhere, the entry address and the launch's tick, and nothing else changes. An agreed launch in a state of the tick unit
that refuses it is terminal. A launch that is not due, or with a stream still in use, waits. -/
def Obligations.LaunchesRun : Prop :=
  ∀ (c : CtxId) (uid : Nat) (s : State) (x : Cmd), s.cmd c.val uid = some x →
    let turn := x.type = 1 ∧ x.phase = .armed ∧ (s.ctx c.val).life.state = .live ∧ s.launchTurn c.val x = true
    let run : Instr → State → Prop := fun i u =>
      ((x.agreed = false ∨ u.tick.agrees = true) → (∀ k ∈ x.cores, ((s.core k).stream (x.key c.val)).free = true) →
        ∃ t : State, exec i s = .next t ∧ t.cmd c.val uid = some { x with phase := .running } ∧
          (∀ k ∈ x.cores, let st := (t.core k).stream (x.key c.val)
            st.status = .running ∧ st.pc = x.entry ∧ st.uid = x.uid ∧ st.launchTick = x.launchTick ∧ st.agreed = x.agreed ∧
            (∀ n, st.s n = if 8 ≤ n ∧ n < 16 then BitVec.ofNat 64 (x.arg (n - 8)) else 0) ∧ st.vregs = [] ∧ st.tiles = [] ∧
            st.loops = [] ∧ st.liveV = []) ∧
          (∀ k, k ∉ x.cores → t.core k = s.core k) ∧
          (∀ k key, key ≠ x.key c.val → (t.core k).stream key = (s.core k).stream key) ∧
          (∀ k, (t.core k).units = (s.core k).units ∧ (t.core k).cur = (s.core k).cur) ∧
          t = { u with cores := t.cores, ctxs := t.ctxs } ∧
          ∀ d, d ≠ c.val → t.ctx d = s.ctx d) ∧
      (x.agreed = true → u.tick.agrees = false →
        exec i s = .next (u.finishCmd c.val x ({ x with refused := true }).status)) ∧
      ((x.agreed = false ∨ u.tick.agrees = true) → (∃ k ∈ x.cores, ((s.core k).stream (x.key c.val)).free = false) →
        exec i s = .next u)
    (turn → x.launchTick = 0 → run (.launch c uid) s) ∧
    (turn → x.launchTick ≠ 0 → x.launchTick.toNat ≤ s.now → s.armedBefore c.val x = false →
      run (.launchStart c uid) (s.updTick TickUnit.settle)) ∧
    (¬ turn ∨ x.launchTick ≠ 0 → exec (.launch c uid) s = .next s) ∧
    (¬ turn ∨ x.launchTick = 0 ∨ s.now < x.launchTick.toNat ∨ s.armedBefore c.val x = true →
      exec (.launchStart c uid) s = .next s)

/-- The effects of a started command that no ABORT stops, of a LIVE context. DESC_CREATE makes the lowest free descriptor of the record it reads, or answers
0xFFFF and the reason in bits 31 to 16; DESC_DESTROY removes one; SIGNAL adds to a semaphore; FENCE is done once no
earlier command of its ring is left; DIST_SET writes or clears a distribution record, or answers its code; DMA of an
empty tensor is done at once, of unlike formats faults (the model's choice, log entry 55), and otherwise takes the
context's place in the tensor engine of its core in a slot of the context, while that is free. A record outside the SRAM
share, an absent descriptor and a semaphore that does not exist fault the context. -/
def Obligations.CommandEffects : Prop :=
  ∀ (c : CtxId) (uid : Nat) (s : State) (x : Cmd), s.cmd c.val uid = some x → x.phase = .started →
    (s.ctx c.val).life.state = .live → s.doomed c.val uid = false →
    (x.type = 2 →
      (s.inShare c.val 0 (x.arg 0) 64 = false → exec (.descCreate c uid) s = .next (s.ctxFault c.val)) ∧
      (s.inShare c.val 0 (x.arg 0) 64 = true →
        let d := parseDesc (s.sramShare c.val (s.cmdCore x).val (x.arg 0) 64)
        (s.descReason c.val d = 0 → ∃ (i : Nat) (t : State), exec (.descCreate c uid) s = .next t ∧
          t.desc c.val i = some d ∧ i < s.quota c.val ∧ s.desc c.val i = none ∧ (∀ j < i, s.desc c.val j ≠ none) ∧
          (∀ j, j ≠ i → t.desc c.val j = s.desc c.val j) ∧
          t.cmd c.val uid = some { x with phase := .finished, result := BitVec.ofNat 32 i } ∧
          t.cores = s.cores ∧ t.sramMem = s.sramMem ∧ t.hbmMem = s.hbmMem) ∧
        (s.descReason c.val d ≠ 0 → exec (.descCreate c uid) s =
          .next (s.updCmd c.val uid fun y => { y with phase := .finished
                                                      result := BitVec.ofNat 32 (0xFFFF + 65536 * s.descReason c.val d) })))) ∧
    (x.type = 3 →
      (s.desc c.val (x.arg 0) = none → exec (.descDestroy c uid) s = .next (s.ctxFault c.val)) ∧
      (s.desc c.val (x.arg 0) ≠ none → ∃ t : State, exec (.descDestroy c uid) s = .next t ∧
        t.cmd c.val uid = some { x with phase := .finished, result := 0 } ∧
        (t.ctx c.val).descs = (s.ctx c.val).descs.del (x.arg 0) ∧ t.cores = s.cores ∧ t.sramMem = s.sramMem)) ∧
    (x.type = 5 →
      (16384 ≤ x.arg 0 → exec (.signal c uid) s = .next (s.ctxFault c.val)) ∧
      (x.arg 0 < 16384 → s.sem c.val (x.arg 0) + x.arg 1 ≤ 0xFFFFFFFF →
        ∃ t : State, exec (.signal c uid) s = .next t ∧ t.cmd c.val uid = some { x with phase := .finished, result := 0 } ∧
          t.sem c.val (x.arg 0) = s.sem c.val (x.arg 0) + x.arg 1 ∧ t.cores = s.cores)) ∧
    (x.type = 7 →
      ((∀ y ∈ (s.ctx c.val).cmds, y.ring = x.ring → uid ≤ y.uid) → exec (.fence c uid) s =
        .next (s.updCmd c.val uid fun y => { y with phase := .finished, result := 0 })) ∧
      ((∃ y ∈ (s.ctx c.val).cmds, y.ring = x.ring ∧ y.uid < uid) → exec (.fence c uid) s = .next s)) ∧
    (x.type = 8 →
      (s.inShare c.val 0 (x.arg 0) 64 = false → exec (.distSet c uid) s = .next (s.ctxFault c.val)) ∧
      (s.inShare c.val 0 (x.arg 0) 64 = true →
        let b := s.sramShare c.val (s.cmdCore x).val (x.arg 0) 64
        ∃ t : State, exec (.distSet c uid) s = .next t ∧
          t.cmd c.val uid = some { x with phase := .finished, result := BitVec.ofNat 32 (s.distReason c.val b (x.arg 1)) } ∧
          (s.distReason c.val b (x.arg 1) ≠ 0 → (t.ctx c.val).dists = (s.ctx c.val).dists) ∧
          (s.distReason c.val b (x.arg 1) = 0 → (t.ctx c.val).dists =
            if field b 0 1 = 0xFF then (s.ctx c.val).dists.del (x.arg 1)
            else (s.ctx c.val).dists.put (x.arg 1) (some (parseDist b))) ∧ t.cores = s.cores ∧ t.sramMem = s.sramMem)) ∧
    (x.type = 4 →
      ((s.desc c.val (x.arg 0) = none ∨ s.desc c.val (x.arg 1) = none) →
        exec (.dmaCommand c uid) s = .next (s.ctxFault c.val)) ∧
      (∀ a b : Desc, s.desc c.val (x.arg 0) = some a → s.desc c.val (x.arg 1) = some b →
        (a.format ≠ b.format → exec (.dmaCommand c uid) s = .next (s.ctxFault c.val)) ∧
        (a.format = b.format → (a.empty = true ∨ b.empty = true) → exec (.dmaCommand c uid) s =
          .next (s.updCmd c.val uid fun y => { y with phase := .finished, result := 0 })) ∧
        (∀ key, a.format = b.format → a.empty = false → b.empty = false → (s.core (s.cmdCore x).val).cur = some key →
          keyCtx key = c.val → (s.core (s.cmdCore x).val).units.get none (unitKey c.val tensorUnit) = none →
          (s.core (s.cmdCore x).val).blocked (2 * c.val) = false → s.safety.stopped = false →
          ∃ t : State, exec (.dmaCommand c uid) s = .next t ∧ t.cmd c.val uid = some { x with phase := .running } ∧
            ((t.core (s.cmdCore x).val).units.get none (unitKey c.val tensorUnit)).isSome = true ∧
            (t.core (s.cmdCore x).val).dmas.length = (s.core (s.cmdCore x).val).dmas.length + 1 ∧
            t.sramMem = s.sramMem ∧ t.hbmMem = s.hbmMem) ∧
        (a.format = b.format → a.empty = false → b.empty = false →
          (s.core (s.cmdCore x).val).units.get none (unitKey c.val tensorUnit) ≠ none → exec (.dmaCommand c uid) s = .next s)))

/-- ABORT of a context that accepts commands, after the tick in which it was taken: with its target not terminal it stops it
and ends it with ABORTED and itself with OK, in order of acceptance; with none it ends itself with ABORT_LATE. At that tick
or before it changes nothing. COMMAND_TERMINAL ends a ready command that no ABORT stops with the status of its conditions,
the earliest of its ring first, and a record whose address translation fails faults the context besides; of another
command nothing changes. With the host there and no pair, and no completion semaphore, the command leaves the context's,
its record stands at the completion ring's tail, which goes up, and a LAUNCH counts in JOBS. The completion record: 32
bytes, CMD_ID at 0, the status at 4, the terminal tick at 8, the result at 16, and zeros. -/
def Obligations.CommandsEnd : Prop :=
  (∀ (c : CtxId) (uid : Nat) (s : State) (x : Cmd), s.cmd c.val uid = some x → s.accepting c.val = true →
     (x.type = 6 → x.acceptTick.toNat < s.now →
       (x.target.bind (s.cmd c.val) = none → exec (.abort c uid) s = .next (s.finishCmd c.val x 1)) ∧
       (∀ y, x.target.bind (s.cmd c.val) = some y →
         (y ∈ (s.ctx c.val).cmds ∧ x.target = some y.uid) ∧
         (y.uid < uid → exec (.abort c uid) s =
           .next (((s.stopCommand c.val y.uid).finishCmd c.val y 2).finishCmd c.val x 0)) ∧
         (uid ≤ y.uid → exec (.abort c uid) s =
           .next (((s.stopCommand c.val y.uid).finishCmd c.val x 0).finishCmd c.val y 2)) ∧
         (∀ k key, keyCtx key = c.val → k < 32 → ((s.core k).stream key).uid = y.uid →
           (((s.stopCommand c.val y.uid).core k).stream key).free = true) ∧
         (∀ k key, ((s.core k).stream key).uid ≠ y.uid →
           ((s.stopCommand c.val y.uid).core k).stream key = (s.core k).stream key))) ∧
     (x.type ≠ 6 ∨ s.now ≤ x.acceptTick.toNat → exec (.abort c uid) s = .next s) ∧
     (s.cmdReady c.val x = true → (∀ y ∈ (s.ctx c.val).cmds, y.ring = x.ring → y.uid < uid → s.cmdReady c.val y = false) →
       s.doomed c.val uid = false →
       exec (.commandTerminal c uid false) s = .next (s.finishCmd c.val x x.status) ∧
       exec (.commandTerminal c uid true) s = .next ((s.terminal c.val x x.status false).1.ctxFault c.val) ∧
       (s.safety.tripped = false → s.silent c.val = false → s.mirrored c.val = false → s.pcie.linkUp = true → x.sem = 0xFFFF →
         ∃ t : State, exec (.commandTerminal c uid false) s = .next t ∧
           t.hostMem = s.hostMem.writeBytes (s.ring c.val x.ring.val).cqSlot
             (completionRecord x.cmdId x.status s.tick.now x.result) ∧
           (t.ring c.val x.ring.val).cqTail = (s.ring c.val x.ring.val).cqTail + 1 ∧
           (t.ctx c.val).cmds = (s.ctx c.val).cmds.filter (fun y => y.uid != uid) ∧
           (t.ctx c.val).life.jobs = (if x.type = 1 then (s.ctx c.val).life.jobs + 1 else (s.ctx c.val).life.jobs) ∧
           t.cores = s.cores ∧ t.sramMem = s.sramMem ∧ t.hbmMem = s.hbmMem)) ∧
     (∀ ats, s.cmdReady c.val x = false ∨ s.doomed c.val uid = true →
       exec (.commandTerminal c uid ats) s = .next s)) ∧
  (∀ (id : BitVec 32) (status : Nat) (tick : Word) (result : BitVec 32), status < 256 →
     let r := completionRecord id status tick result
     r.length = 32 ∧ field r 0 4 = id.toNat ∧ field r 4 1 = status ∧ zeros r 5 3 = true ∧ field r 8 8 = tick.toNat ∧
       field r 16 4 = result.toNat ∧ zeros r 20 12 = true)

/-- A fault of a context that is neither FREE nor already TEARING_DOWN begins its teardown: where the device has not
tripped, the context is TEARING_DOWN with its cause from this tick and has no command, sequence, roster or energy balance
left and its mailbox no request; no tensor memory and no core changes, nor the life, commands and semaphores of another
context. A context that is FREE or TEARING_DOWN is left alone. WAIT_TIMEOUT begins the teardown with cause WAIT_TIMEOUT
when a bounded wait of the context on the core has lasted its timeout, of a context that accepts commands; else nothing
changes. -/
def Obligations.FaultsTearDown : Prop :=
  ∀ (c : CtxId) (s : State),
    (∀ cause, ((s.ctx c.val).life.state = .free ∨ (s.ctx c.val).life.state = .tearingDown) → s.teardown c.val cause = s) ∧
    (∀ cause, (s.ctx c.val).life.state ≠ .free → (s.ctx c.val).life.state ≠ .tearingDown → s.safety.tripped = false →
      let t := s.teardown c.val cause
      (t.ctx c.val).life.state = .tearingDown ∧ (t.ctx c.val).life.cause = cause ∧
        (t.ctx c.val).life.teardownTick = s.tick.now ∧ (t.ctx c.val).cmds = [] ∧ (t.ctx c.val).serving.seqs = [] ∧
        (t.ctx c.val).rosters = [] ∧ (t.ctx c.val).energy.balance = 0 ∧ (t.ctx c.val).host.mbx.busy = false ∧
        t.sramMem = s.sramMem ∧ t.hbmMem = s.hbmMem ∧ t.resMem = s.resMem ∧ t.stageMem = s.stageMem ∧ t.cores = s.cores ∧
        (∀ d : CtxId, d ≠ c → (t.ctx d.val).life = (s.ctx d.val).life ∧ (t.ctx d.val).cmds = (s.ctx d.val).cmds ∧
          (t.ctx d.val).sems = (s.ctx d.val).sems)) ∧
    (∀ k : CoreId,
      let expired := ∃ key ∈ [2 * c.val, 2 * c.val + 1], ((s.core k.val).stream key).status.bounded = true ∧
        s.waitTimeout c.val ≤ s.waitElapsed c.val ((s.core k.val).stream key)
      (s.accepting c.val = true → expired → exec (.waitTimeout k c) s = .next (s.teardown c.val 3)) ∧
      (s.accepting c.val = false ∨ ¬ expired → exec (.waitTimeout k c) s = .next s))

/-- TEARDOWN_STOP ends what a TEARING_DOWN context does on every core, in the Quill and in serving 1,024 ticks after its
teardown began; SCRUB_START turns every unit of its shares to SCRUBBING, with no transaction outstanding or 1,048,576 ticks
after it began, and keeps its slots of the HBM controller for the scrub; TRANSACTION_ABANDON drops at that tick what is
still outstanding, with its trackers. TEARDOWN_FREE frees a context whose scrub has started and that has nothing
outstanding: it holds nothing, and is CREATING again where a CREATE waits or it is re-created by itself after a teardown
that was no DESTROY. CREATE_COMPLETE makes a CREATING context LIVE, or SUSPENDED where a SUSPEND met it, 1,024 ticks later
with no unit of its shares scrubbing. SCRUB_UNIT_DONE leaves a unit that reads zero, of SRAM in every enabled core, and
scrubs no more; a block of HBM only in a data slot of the context being scrubbed. Before their ticks, or without their
conditions, these change nothing. -/
def Obligations.ContextLifetime : Prop :=
  (∀ (c : CtxId) (s : State), (s.ctx c.val).life.state = .tearingDown →
     let l := (s.ctx c.val).life
     (l.stopped = false → l.teardownTick.toNat + 1024 ≤ s.now →
       ∃ t : State, exec (.teardownStop c) s = .next t ∧ (t.ctx c.val).life = { l with stopped := true } ∧
         (∀ k key, keyCtx key = c.val → (t.core k).stream key = {} ∧ (t.core k).cur ≠ some key) ∧
         (∀ k key, keyCtx key ≠ c.val → (t.core k).stream key = (s.core k).stream key) ∧
         (∀ x ∈ t.hbm.xfers, x.ctx = c → x.lines = []) ∧ (∀ x ∈ s.hbm.xfers, x.ctx ≠ c → x ∈ t.hbm.xfers) ∧
         (t.ctx c.val).quill.routes = [] ∧ (t.ctx c.val).quill.todo = [] ∧ (t.ctx c.val).quill.moves = [] ∧
         (t.ctx c.val).quill.bal = [] ∧ (t.ctx c.val).quill.conductor = [] ∧ (t.ctx c.val).serving.build = none ∧
         (∀ d : CtxId, d ≠ c → t.ctx d.val = s.ctx d.val) ∧ t.hbmMem = s.hbmMem ∧ t.sramMem = s.sramMem) ∧
     (s.now < l.teardownTick.toNat + 1024 ∨ l.stopped = true → exec (.teardownStop c) s = .next s) ∧
     (l.stopped = true → l.scrubStarted = false →
       (s.outstanding c.val = false ∨ l.teardownTick.toNat + 1048576 ≤ s.now) →
       ∃ t : State, exec (.scrubStart c) s = .next t ∧
         (t.ctx c.val).life.scrubStarted = true ∧ (t.ctx c.val).life.state = .tearingDown ∧
         (t.ctx c.val).life.scrubSlots = (s.wheel 33).slotsOf c.val ∧
         (∀ e ∈ s.shares c.val, e ∈ (t.ctx c.val).life.former) ∧
         (∀ m base size, (m, base, size) ∈ s.shares c.val → ∀ u, base / unitBytes (spaceMem m) ≤ u →
           u < base / unitBytes (spaceMem m) + size / unitBytes (spaceMem m) →
           inRanges (t.scrubs (spaceMem m)) u = true) ∧
         (∀ m u, inRanges (s.scrubs m) u = true → inRanges (t.scrubs m) u = true) ∧
         t.hbmMem = s.hbmMem ∧ t.sramMem = s.sramMem ∧ t.cores = s.cores) ∧
     (l.stopped = false ∨ l.scrubStarted = true ∨ (s.outstanding c.val = true ∧ s.now < l.teardownTick.toNat + 1048576) →
       exec (.scrubStart c) s = .next s) ∧
     (l.abandoned = false → l.teardownTick.toNat + 1048576 ≤ s.now →
       ∃ t : State, exec (.transactionAbandon c) s = .next t ∧ (t.ctx c.val).life = { l with abandoned := true } ∧
         t.outstanding c.val = false ∧ (∀ x ∈ s.hbm.xfers, x.ctx ≠ c → x ∈ t.hbm.xfers) ∧
         (∀ k, (t.core k).trackers = (s.core k).trackers.filter (fun e => e.1 % 64 != c.val) ∧
           (t.core k).streams = (s.core k).streams) ∧
         t.hbmMem = s.hbmMem ∧ t.sramMem = s.sramMem) ∧
     (s.now < l.teardownTick.toNat + 1048576 ∨ l.abandoned = true → exec (.transactionAbandon c) s = .next s)) ∧
  (∀ (c : CtxId) (s : State),
     let l := (s.ctx c.val).life
     (l.state = .tearingDown → l.scrubStarted = true → s.outstanding c.val = false →
       let again := l.createWaits = true ∨ (s.cfgNum (0x4100 + c.val) 6 = 1 ∧ l.cause ≠ 1)
       ∃ t : State, exec (.teardownFree c) s = .next t ∧ (¬again → (t.ctx c.val).life.state = .free) ∧
         (again → (t.ctx c.val).life.state = .creating ∧ (t.ctx c.val).life.createStart = s.tick.now) ∧
         (t.ctx c.val).life.cause = l.cause ∧ (t.ctx c.val).life.teardownTick = l.teardownTick ∧
         (t.ctx c.val).descs = [] ∧ (t.ctx c.val).dists = [] ∧ (t.ctx c.val).sems = [] ∧ (t.ctx c.val).cmds = [] ∧
         (t.ctx c.val).rosters = [] ∧ (∀ d : CtxId, d ≠ c → d.val ≠ 0 → t.ctx d.val = s.ctx d.val) ∧
         t.cores = s.cores ∧ t.hbmMem = s.hbmMem ∧ t.sramMem = s.sramMem) ∧
     (l.state ≠ .tearingDown ∨ l.scrubStarted = false ∨ s.outstanding c.val = true → exec (.teardownFree c) s = .next s) ∧
     (l.state = .creating → l.createStart.toNat + 1024 ≤ s.now → s.scrubBytes (s.shares c.val) = 0 →
       ∃ t : State, exec (.createComplete c) s = .next t ∧
         (t.ctx c.val).life.state = (if l.suspendOnCreate then .suspended else .live) ∧
         (t.ctx c.val).life.createTick = s.tick.now ∧ (t.ctx c.val).life.suspendOnCreate = false ∧
         (t.ctx c.val).descs = (s.ctx c.val).descs ∧ (t.ctx c.val).sems = (s.ctx c.val).sems ∧
         t.cores = s.cores ∧ t.hbmMem = s.hbmMem ∧ t.sramMem = s.sramMem) ∧
     (l.state ≠ .creating ∨ s.now < l.createStart.toNat + 1024 ∨ 0 < s.scrubBytes (s.shares c.val) →
       exec (.createComplete c) s = .next s) ∧
     (∀ (m : ScrubMem) (unit : Nat), inRanges (s.scrubs m) unit = true → (m = .hbm → s.mayScrub unit = true) →
       ∃ t : State, exec (.scrubUnitDone m unit) s = .next t ∧ inRanges (t.scrubs m) unit = false ∧
         (∀ u, u ≠ unit → inRanges (t.scrubs m) u = inRanges (s.scrubs m) u) ∧
         (m ≠ .sram → ∀ a, t.readMem m a 1 =
           if unit * unitBytes m ≤ a ∧ a < (unit + 1) * unitBytes m then [0] else s.readMem m a 1) ∧
         (m = .sram → ∀ k ∈ s.enabledCores, ∀ i, i < 65536 → t.sramMem.read (k * Config.sramStride + unit * 65536 + i) = 0) ∧
         (m = .sram → ∀ a, (∀ k ∈ s.enabledCores, a < k * Config.sramStride + unit * 65536 ∨
           k * Config.sramStride + unit * 65536 + 65536 ≤ a) → t.sramMem.read a = s.sramMem.read a) ∧
         (∀ n, n ≠ m → ∀ a, t.readMem n a 1 = s.readMem n a 1) ∧ t.ctxs = s.ctxs ∧ t.cores = s.cores) ∧
     (∀ (m : ScrubMem) (unit : Nat), inRanges (s.scrubs m) unit = false ∨ (m = .hbm ∧ s.mayScrub unit = false) →
       exec (.scrubUnitDone m unit) s = .next s))

/-- SLOT_START on a core gives the slot that begins to its owner's stream, to the ready urgent stream where the owner is
YIELDING or the slot SPARE, to the YIELDING context of its rank in a SPARE slot, or to nobody in a withheld slot or one
of no owner. (The stream's data does not wait in the landing buffer and no instruction of it is held here; those go
on at once, by the rules of the landing buffer and the units.) An engine that is no core works for the slot's owner,
or in a SPARE slot for the YIELDING context of its rank. RULING_SWITCH puts the earliest waiting change into force
at the first multiple of both wheels' turns at or after its tick. PREEMPT_SAVE_DONE saves the stopped stream and
RESTORE_DONE brings one back; then the slot's stream goes on. A tick that starts no slot changes nothing. -/
def Obligations.RulingSlots : Prop :=
  (∀ (e : EngineId) (s : State), e.val < 32 → (s.wheel e.val).startsAt s.now = true →
     let b := (s.wheel e.val).at s.now
     let w := (s.wheel e.val)
     let gives : Option Nat → Prop := fun p =>
       (∀ key, p = some key → (∀ i, ((s.core e.val).stream key).status ≠ .held i) ∧
         ∀ x ∈ s.hbm.xfers, x.ctx.val = keyCtx key → x.core = some (Fin.ofNat 32 e.val) → x.landed = []) →
       ∃ t : State, exec (.slotStart e) s = .next t ∧ (t.core e.val).cur = p ∧
         (t.wheel e.val).owner = BitVec.ofNat 8 b ∧
         (∀ key, (t.core e.val).stream key = (s.core e.val).stream key) ∧ (∀ k, k ≠ e.val → t.core k = s.core k) ∧
         (∀ d, (t.ctx d).cmds = (s.ctx d).cmds ∧ (t.ctx d).life = (s.ctx d).life) ∧
         t.hbmMem = s.hbmMem ∧ t.sramMem = s.sramMem ∧ t.hbm = s.hbm
     (b < 64 → (s.yielding b = false ∨ s.urgentReady e.val = none) → s.withheld b e.val = false → gives (some (2 * b))) ∧
     (b < 64 → (s.yielding b = false ∨ s.urgentReady e.val = none) → s.withheld b e.val = true → gives none) ∧
     (∀ u, b < 64 → s.yielding b = true → s.urgentReady e.val = some u → gives (some (2 * u + 1))) ∧
     (∀ u, b = 0x41 → s.urgentReady e.val = some u → gives (some (2 * u + 1))) ∧
     (∀ d, b = 0x41 → s.urgentReady e.val = none → s.spareTo w = some d → (s.ctx d).life.state = .live →
       ((s.core e.val).stream (2 * d)).active = true → gives (some (2 * d))) ∧
     (b = 0x41 → s.urgentReady e.val = none → (∀ d, s.spareTo w = some d → (s.ctx d).life.state ≠ .live ∨
       ((s.core e.val).stream (2 * d)).active = false) → gives none) ∧
     (64 ≤ b → b ≠ 0x41 → gives none) ∧
     (∀ u, s.urgentReady e.val = some u → (s.ctx u).life.state = .live ∧
       ((s.core e.val).stream (2 * u + 1)).active = true ∧
       ∀ v < u, (s.ctx v).life.state ≠ .live ∨ ((s.core e.val).stream (2 * v + 1)).active = false)) ∧
  (∀ (s : State),
     (∀ e : EngineId, 32 ≤ e.val → (s.wheel e.val).startsAt s.now = true →
       let b := (s.wheel e.val).at s.now
       (b ≠ 0x41 → exec (.slotStart e) s = .next (s.updWheel e.val fun w => { w with owner := BitVec.ofNat 8 b })) ∧
       (∀ d, b = 0x41 → s.spareTo (s.wheel e.val) = some d →
         exec (.slotStart e) s = .next (s.updWheel e.val fun w => { w with owner := BitVec.ofNat 8 d })) ∧
       (b = 0x41 → s.spareTo (s.wheel e.val) = none →
         exec (.slotStart e) s = .next (s.updWheel e.val fun w => { w with owner := 0x40 }))) ∧
     (∀ e : EngineId, (s.wheel e.val).startsAt s.now = false → exec (.slotStart e) s = .next s) ∧
     (∀ (e : EngineId) (ch : WheelChange) (rest : List WheelChange), (s.wheel e.val).changes = ch :: rest →
       (ch.from_.toNat ≤ s.now → s.now % (16 * max (s.wheel e.val).len ch.len) = 0 →
         exec (.rulingSwitch e) s = .next (s.updWheel e.val fun w =>
           { w with len := ch.len, table := ch.table, changes := rest })) ∧
       ((s.now < ch.from_.toNat ∨ s.now % (16 * max (s.wheel e.val).len ch.len) ≠ 0) →
         exec (.rulingSwitch e) s = .next s)) ∧
     (∀ e : EngineId, (s.wheel e.val).changes = [] → exec (.rulingSwitch e) s = .next s) ∧
     (∀ (k : CoreId) (w : Switch), (s.core k.val).pendingSwitch true = some w →
       ∃ t : State, exec (.preemptSaveDone k) s = .next (t.tryHeld k.val) ∧ ((t.core k.val).stream w.stream).saved = true ∧
         t = (s.updCore k.val fun x => { x with switches := x.switches.filter (· != w) }).saveStream k.val w.stream) ∧
     (∀ (k : CoreId) (w : Switch), (s.core k.val).pendingSwitch false = some w →
       ((∀ u ∈ ((s.core k.val).stream w.stream).paused, (s.core k.val).units.get none u.1 = none) →
         ∃ t : State, exec (.restoreDone k) s = .next (t.tryHeld k.val) ∧
           ((t.core k.val).stream w.stream).saved = false ∧ ((t.core k.val).stream w.stream).paused = [] ∧
           (t.core k.val).switches = (s.core k.val).switches.filter (· != w) ∧
           (∀ key, key ≠ w.stream → (t.core k.val).stream key = (s.core k.val).stream key) ∧
           t.ctxs = s.ctxs ∧ t.hbmMem = s.hbmMem ∧ t.sramMem = s.sramMem) ∧
       ((∃ u ∈ ((s.core k.val).stream w.stream).paused, (s.core k.val).units.get none u.1 ≠ none) →
         exec (.restoreDone k) s = .next s)) ∧
     (∀ k : CoreId, (s.core k.val).pendingSwitch true = none → exec (.preemptSaveDone k) s = .next s) ∧
     (∀ k : CoreId, (s.core k.val).pendingSwitch false = none → exec (.restoreDone k) s = .next s))

/-- HBM_LINE_ISSUE sends, in a data slot of a ruling slot of its context that no scrub keeps, the lowest line of the
context's earliest transfer whose bank target the slot serves and whose pseudo-channel is free; HBM_REFRESH refreshes one
bank target in the reserved slot. The data slot of position 7 issues nothing. HBM_READ_RETURN takes a line 96 ticks after
its data slot: clean, in a slot of its context or for a hub engine, it retires; outside, it waits in the landing buffer; of
a context that is gone it is discarded and counted; a corrected error in such a slot is counted, an uncorrectable one is
counted and faults the context. Errors in one symbol are corrected, in two symbols detected. HBM_WRITE_RETIRE retires a
written line 64 ticks after its slot, and its bytes are in HBM. Sooner, nothing happens. -/
def Obligations.HbmTransfers : Prop :=
  (∀ (c : CtxId) (s : State),
     (∀ (x : Xfer) (l : Nat), s.hbm.serving c.val = some x → framePos s.now ≠ 7 → s.hbmOwner = some c.val →
       s.hbmIssues c.val x = true → s.hbm.mayStart x s.now = true → x.waiting < x.lines.length → s.safety.stopped = false →
       s.hbm.selfRefresh = false → l ∈ x.lines → lineBank l = bankAt s.now → lineChannel l ∉ s.hbm.usedAt s.tick.now →
       (∀ m ∈ x.lines, lineBank m = bankAt s.now → lineChannel m ∉ s.hbm.usedAt s.tick.now → l ≤ m) →
       let rest := x.lines.filter (· != l)
       exec (.hbmLineIssue c) s = .next { s with hbm := { s.hbm with
         xfers := s.hbm.xfers.map fun z =>
           if z.id = x.id then { x with lines := rest, started := true, flying := x.flying ++ [(l, s.tick.now)] } else z
         slotUsed := lineChannel l :: s.hbm.usedAt s.tick.now, slotTick := s.tick.now
         lastDir := if rest = [] then s.hbm.lastDir.put c.val (some (x.write, s.tick.now)) else s.hbm.lastDir } }) ∧
     (∀ x : Xfer, s.hbm.serving c.val = some x →
       (∀ m ∈ x.lines, lineBank m = bankAt s.now → lineChannel m ∈ s.hbm.usedAt s.tick.now) →
       exec (.hbmLineIssue c) s = .next s) ∧
     ((framePos s.now = 7 ∨ s.hbmOwner ≠ some c.val ∨ s.hbm.serving c.val = none) →
       exec (.hbmLineIssue c) s = .next s) ∧
     (framePos s.now = 7 → s.hbm.selfRefresh = false →
       exec .hbmRefresh s = .next { s with hbm := { s.hbm with
         lastRefresh := some ((7 * (s.now / 8) + 6) % 64, s.tick.now) } }) ∧
     ((framePos s.now ≠ 7 ∨ s.hbm.selfRefresh = true) → exec .hbmRefresh s = .next s)) ∧
  (∀ (id line : Nat) (errors : List SymbolError) (s : State) (x : Xfer) (f : Nat × Word),
     x.flying.find? (fun g => g.1 == line) = some f →
     let y := { x with flying := x.flying.filter fun g => g.1 != line }
     let ecc := eccResult errors
     let away := ∃ k, x.core = some k ∧ s.inSlot k.val x.ctx.val = false
     (s.hbm.xfers.find? (fun z => z.id == id && !z.write) = some x →
       (f.2.toNat + 96 ≤ s.now →
         (ecc = .clean → s.accepting x.ctx.val = true → ¬away →
           exec (.hbmReadReturn id line errors) s = .next (s.retireLines y 1)) ∧
         (ecc = .clean → s.accepting x.ctx.val = true → away →
           exec (.hbmReadReturn id line errors) s = .next { s with hbm := { s.hbm with xfers := s.hbm.xfers.map fun z =>
             if z.id = x.id then { y with landed := x.landed ++ [line] } else z } }) ∧
         (ecc = .corrected → s.accepting x.ctx.val = true → ¬away →
           exec (.hbmReadReturn id line errors) s = .next (State.retireLines
             { s with hbm := { s.hbm with eccCorrected := satAdd s.hbm.eccCorrected 1 } } y 1)) ∧
         (ecc = .uncorrectable → s.accepting x.ctx.val = true → ¬away →
           exec (.hbmReadReturn id line errors) s = .next ((State.retireLines
             { s with hbm := { s.hbm with eccUncorrectable := satAdd s.hbm.eccUncorrectable 1 } }
             { y with poisoned := true } 1).ctxFault x.ctx.val)) ∧
         (ecc = .clean → s.accepting x.ctx.val = false →
           exec (.hbmReadReturn id line errors) s = .next (State.retireLines
             { s with discardedInactive := satAdd s.discardedInactive 1 } y 1))) ∧
       (s.now < f.2.toNat + 96 → exec (.hbmReadReturn id line errors) s = .next s)) ∧
     (s.hbm.xfers.find? (fun z => z.id == id && z.write) = some x →
       (f.2.toNat + 64 ≤ s.now → exec (.hbmWriteRetire id line) s = .next ((s.writeLine x line).retireLines y 1)) ∧
       (∀ a b, f.2.toNat + 64 ≤ s.now → x.effects = [.mem .hbm a b] → 64 * line ≤ a → a + b.length ≤ 64 * line + 64 →
         b ≠ [] → s.ownsShares x.ctx.val = true →
         ∃ t, exec (.hbmWriteRetire id line) s = .next t ∧ t.hbmMem = s.hbmMem.writeBytes a b) ∧
       (s.now < f.2.toNat + 64 → exec (.hbmWriteRetire id line) s = .next s)) ∧
     (y.lines ≠ [] → (s.retireLines y 1).sramMem = s.sramMem ∧ (s.retireLines y 1).hbmMem = s.hbmMem) ∧
     ((∀ e ∈ errors, e.flips = 0) → ecc = .clean) ∧
     (∀ a ∈ errors, a.flips ≠ 0 → (∀ e ∈ errors, e.flips ≠ 0 → e.symbol = a.symbol) → ecc = .corrected) ∧
     (∀ a b, errors = [a, b] → a.flips ≠ 0 → b.flips ≠ 0 → a.symbol ≠ b.symbol → ecc = .uncorrectable))

/-- The tick unit's events. Markers go to every downstream tree link once for each multiple of 1,024 ticks, none from
UNLOCKED. Only a marker from the upstream link counts: one that reports a holdover takes a LOCKED or SLEWING follower into
HOLDOVER with the marker's elapsed time; one that reports another state takes a follower out of a holdover that a marker
began, while its upstream link is UP, into SLEWING with the residual the marker gives, leaves a follower in a holdover that
began with the loss of its own link there, and else renews the residual of a LOCKED or SLEWING one; a secondary takes its
depth from its primary's marker. The residual is the distance of the arrival from the marker's tick edge plus the hop delay.
A follower whose upstream link has been down for 16 ticks enters HOLDOVER, and HOLDOVER_LONG after 6,250,000 ticks. At the
end of each 1,024 ticks a slewing step takes one root cycle from the residual and locks the follower at one root cycle or
less. The root PLL locks to an upstream link that is UP. Where none of this is due, nothing changes. -/
def Obligations.TickUnitEvents : Prop :=
  ∀ (s : State),
    (let m := s.now / 1024 * 1024
     (s.tick.state ≠ 0 → s.tick.markerSent.toNat ≠ m → ∃ t : State, exec .tickMarkerSend s = .next t ∧
        (∀ l ∈ s.tick.downstream, s.markerBytes (controlTick m) ∈ (t.link l.val).control) ∧
        (∀ l : LinkId, l ∉ s.tick.downstream → t.link l.val = s.link l.val) ∧
        t.tick = { s.tick with markerSent := BitVec.ofNat 64 m } ∧ t.ctxs = s.ctxs ∧ t.cores = s.cores) ∧
     ((s.tick.state = 0 ∨ s.tick.markerSent.toNat = m) → exec .tickMarkerSend s = .next s)) ∧
    (∀ (l : LinkId) (m : Marker) (arrival : Nat),
      let r := ((arrival : Int) - (16 * m.tick.toNat + (s.tick.hopDelay.get 0 l.val).toNat)).natAbs * 1024
      let free := m.state = 1 ∨ m.state = 2 ∨ m.state = 5
      let secondary := s.pair.role = 2 ∧ s.pair.state = 1 ∧ l = 8
      let deep := fun t : TickUnit => if secondary then { t with depth := m.depth + 1 } else t
      ((s.tick.upstream ≠ some l ∨ s.tick.state = 0 ∨ s.tick.state = 1) →
        exec (.tickMarkerReceive l m arrival) s = .next s) ∧
      (s.tick.upstream = some l → s.tick.state ≠ 0 → s.tick.state ≠ 1 →
        ((m.state = 3 ∨ m.state = 4) → (s.tick.state = 2 ∨ s.tick.state = 5) → exec (.tickMarkerReceive l m arrival) s =
          .next (s.updTick fun t => { deep t with
            state := 3, holdover := true, elapsed := m.elapsed, downAt := none, byMarker := true })) ∧
        (free → (s.tick.state = 3 ∨ s.tick.state = 4) → s.tick.byMarker = true → (s.link l.val).state = .up →
          exec (.tickMarkerReceive l m arrival) s = .next (s.updTick fun t => { deep t with
            state := 5, residual := r, measured := true, slewTick := s.tick.now, downAt := none, byMarker := false })) ∧
        (free → (s.tick.state = 3 ∨ s.tick.state = 4) → (s.tick.byMarker = false ∨ (s.link l.val).state ≠ .up) →
          exec (.tickMarkerReceive l m arrival) s = .next (s.updTick deep)) ∧
        (free → (s.tick.state = 2 ∨ s.tick.state = 5) → s.tick.measured = true →
          exec (.tickMarkerReceive l m arrival) s = .next (s.updTick fun t => { deep t with residual := r })))) ∧
    (∀ d, s.tick.downAt = some d →
      (d.toNat + 16 ≤ s.now → (s.tick.state = 2 ∨ s.tick.state = 5) → exec .holdoverEntry s =
        .next (s.updTick fun t => { t with
          state := 3, holdover := true, elapsed := 0, downAt := none, byMarker := false })) ∧
      (s.now < d.toNat + 16 → exec .holdoverEntry s = .next s)) ∧
    (s.tick.downAt = none → exec .holdoverEntry s = .next s) ∧
    (s.tick.state = 3 → 6250000 ≤ s.tick.elapsed.toNat →
      exec .holdoverLongEntry s = .next (s.updTick fun t => { t with state := 4 })) ∧
    ((s.tick.state ≠ 3 ∨ s.tick.elapsed.toNat < 6250000) → exec .holdoverLongEntry s = .next s) ∧
    (s.tick.slewTick.toNat + 1024 ≤ s.now →
      (s.tick.state = 5 → s.tick.measured = true → 2 * 1024 < s.tick.residual → exec .slewStep s =
        .next (s.updTick fun t => { t with residual := s.tick.residual - 1024, slewTick := s.tick.now })) ∧
      (s.tick.state = 5 → s.tick.measured = true → s.tick.residual ≤ 2 * 1024 → exec .slewStep s =
        .next (s.updTick fun t => { t with
          residual := s.tick.residual - 1024, slewTick := s.tick.now, state := 2, holdover := false, elapsed := 0 })) ∧
      (s.tick.state = 2 → exec .slewStep s =
        .next (s.updTick fun t => { t with residual := s.tick.residual - 1024, slewTick := s.tick.now }))) ∧
    ((s.now < s.tick.slewTick.toNat + 1024 ∨ (s.tick.state ≠ 2 ∧ (s.tick.state ≠ 5 ∨ s.tick.measured = false))) →
      exec .slewStep s = .next s) ∧
    (∀ l, s.tick.upstream = some l → (s.link l.val).state = .up →
      exec .frequencyLock s = .next (s.updTick fun t => { t with freqLocked := true })) ∧
    (∀ l, s.tick.upstream = some l → (s.link l.val).state ≠ .up → exec .frequencyLock s = .next s) ∧
    (s.tick.upstream = none → exec .frequencyLock s = .next s)

/-- The states of a link. From DOWN an enabled link trains after the ready point, through EQUALISE, ALIGN, with both
sequence series from 0 and the identity block sent, and IDENTITY; none of these goes on after its time, and a state that
lasts its time falls back to DOWN for 625,000 ticks. An identity block whose signature fails is counted in IDENTITY and the
link stays as it is; one that contradicts the wiring leads to MISWIRED; any other is noted and leads from IDENTITY to
DELAY. A link that leaves UP or changes its peer is reported to the lead. Where none of this applies, nothing changes. -/
def Obligations.LinksTrain : Prop :=
  ∀ (l : LinkId) (s : State),
    let k := s.link l.val
    let moved : State → LinkState → State := fun s st => s.updLink l.val fun k => { k with state := st, since := s.tick.now }
    (k.state = .down → s.fw.stage = 2 → s.linkEnabled l.val = true → k.retryAt.toNat ≤ s.now →
      exec (.linkTrainStart l) s = .next (moved s .equalise)) ∧
    ((k.state ≠ .down ∨ s.fw.stage ≠ 2 ∨ s.linkEnabled l.val = false ∨ s.now < k.retryAt.toNat) →
      exec (.linkTrainStart l) s = .next s) ∧
    (k.state = .equalise → s.now ≤ k.since.toNat + 31250000 → exec (.linkEqualised l) s = .next (moved s .align)) ∧
    ((k.state ≠ .equalise ∨ k.since.toNat + 31250000 < s.now) → exec (.linkEqualised l) s = .next s) ∧
    (k.state = .align → s.now ≤ k.since.toNat + 62500 → ∃ t : State, exec (.linkAligned l) s = .next t ∧
      t.link l.val = { k.resetSeries with state := .identity, since := s.tick.now } ∧
      (t.link l.val).txSeq = 0 ∧ (t.link l.val).rxSeq = 0 ∧ (t.link l.val).replayBuf = [] ∧
      t.out = .idBlock l (s.identityBlock l.val) :: s.out ∧ (∀ m, m ≠ l.val → t.link m = s.link m) ∧
      { t with links := s.links, out := s.out } = s) ∧
    ((k.state ≠ .align ∨ k.since.toNat + 62500 < s.now) → exec (.linkAligned l) s = .next s) ∧
    (∀ n, k.state.limit = some n →
      (k.since.toNat + n ≤ s.now → exec (.linkStateTimeout l) s = .next (s.updLink l.val fun k =>
        { k with state := .down, since := s.tick.now, retryAt := s.tick.now + 625000 })) ∧
      (s.now < k.since.toNat + n → exec (.linkStateTimeout l) s = .next s)) ∧
    (k.state.limit = none → exec (.linkStateTimeout l) s = .next s) ∧
    LinkState.limit .equalise = some 31250000 ∧ LinkState.limit .align = some 62500 ∧
    LinkState.limit .identity = some 625000 ∧ LinkState.limit .delay = some 125000 ∧
    (∀ b : IdBlock,
      let noted := fun (u : State) => u.updLink l.val fun k => { k with
        peerAddr := if b.role = 0 then 0xFFFF else b.addr, peerLink := b.sendLink, peerRole := b.role, peerId := some b }
      (k.state = .identity → b.sigOk = false → exec (.identityReceive l b) s =
        .next (s.updLink l.val fun k => { k with idFailures := satAdd k.idFailures 1 })) ∧
      ((k.state = .up ∨ k.state = .quarantined) → b.sigOk = false → exec (.identityReceive l b) s = .next s) ∧
      (k.state = .identity → b.sigOk = true → s.miswired l.val b = false →
        exec (.identityReceive l b) s = .next (moved (noted s) .delay)) ∧
      ((k.state = .identity ∨ k.state = .up ∨ k.state = .quarantined) → b.sigOk = true → s.miswired l.val b = true →
        exec (.identityReceive l b) s = .next (moved (noted s) .miswired).reportLinks ∧
        (((moved (noted s) .miswired).reportLinks).link l.val).state = .miswired ∧
        (s.topo.role ≠ 1 → s.topo.positioned = false → exec (.identityReceive l b) s = .next (moved (noted s) .miswired))) ∧
      ((k.state = .up ∨ k.state = .quarantined) → b.sigOk = true → s.miswired l.val b = false →
        exec (.identityReceive l b) s = .next (noted s).reportLinks ∧
        ((noted s).reportLinks.link l.val).state = k.state ∧
        (s.topo.role ≠ 1 → s.topo.positioned = false → exec (.identityReceive l b) s = .next (noted s))) ∧
      (b.sendLink.toNat ≠ peerLink l.val → s.miswired l.val b = true) ∧
      (k.state ≠ .identity → k.state ≠ .up → k.state ≠ .quarantined → exec (.identityReceive l b) s = .next s))

/-- DELAY_COMPLETE with its 1,024 exchanges notes the hop delay and ends a link's training in UP or QUARANTINED, on an
UP link only where it is the upstream link; a downstream hop waits for the device's own alignment. On an UP upstream link of
a frequency-locked follower the first measurement aligns the count and the phase and any later one starts SLEWING with the
measured offset as residual. A link declared down drops its queue, what it had in flight and both sequence series, counts
the event, starts the 16 ticks to holdover where it was the upstream link, leaves a primary without both pair links
unmirrored, and counts every packet that waited at its port as unroutable in its context. -/
def Obligations.LinksComeUpAndGoDown : Prop :=
  ∀ (l : LinkId) (s : State),
    let k := s.link l.val
    let ready := l ∉ s.tick.downstream ∨ s.tick.aligned = true
    let sameLink := fun (a b : Link) => { a with control := b.control } = b
    (∀ stamps : List Stamps, stamps.length = 1024 → ready →
      let delay := hopDelay stamps
      let offset := hopOffset stamps delay
      let st := s.trainedState l.val
      let noted := s.tick.hopDelay.put l.val (BitVec.ofNat 32 delay)
      let measures := s.tick.upstream = some l ∧ s.tick.state ≠ 1 ∧ s.tick.freqLocked = true
      let measured := fun (t : State) =>
        (s.tick.aligned = true → t.tick.state = 5 ∧ t.tick.residual = offset.natAbs ∧ t.tick.measured = true ∧
          t.tick.now = s.tick.now ∧ t.tick.phase = s.tick.phase ∧ t.tick.slewTick = s.tick.now) ∧
        (s.tick.aligned = false →
          let root : Int := 16384 * s.now + s.tick.phase - offset
          t.tick.state = 2 ∧ t.tick.aligned = true ∧ t.tick.residual = 0 ∧ t.tick.holdover = false ∧
          t.tick.now = BitVec.ofNat 64 (root / 16384).toNat ∧ t.tick.phase = (root % 16384).toNat)
      (k.state = .delay → ∃ t : State, exec (.delayComplete l stamps) s = .next t ∧
        sameLink (t.link l.val) { k with state := st, since := s.tick.now, peerSerial := k.peerId.map (·.serial) } ∧
        (∀ m, m ≠ l.val → sameLink (t.link m) (s.link m)) ∧
        (st = .up ∨ st = .quarantined) ∧ t.tick.hopDelay = noted ∧
        (s.topo.role ≠ 1 → t.topo = if l.val < 8 ∧ st = .up then { s.topo with lastTorusUp := some s.tick.now } else s.topo) ∧
        ((¬measures ∨ st ≠ .up) → { t.tick with hopDelay := s.tick.hopDelay, downstream := s.tick.downstream } = s.tick) ∧
        (measures → st = .up → measured t) ∧
        t.cores = s.cores ∧ t.hbmMem = s.hbmMem ∧ t.sramMem = s.sramMem) ∧
      (k.state = .up → s.tick.upstream = some l → ∃ t : State, exec (.delayComplete l stamps) s = .next t ∧
        t.links = s.links ∧ t.topo = s.topo ∧ t.tick.hopDelay = noted ∧ (measures → measured t) ∧
        (¬measures → t = s.updTick fun t => { t with hopDelay := noted }))) ∧
    (∀ stamps : List Stamps, (stamps.length ≠ 1024 ∨ ¬ready ∨ (k.state ≠ .delay ∧ (k.state ≠ .up ∨ s.tick.upstream ≠ some l))) →
      exec (.delayComplete l stamps) s = .next s) ∧
    (k.state ≠ .down → k.state ≠ .disabled → ∃ t : State, exec (.linkDown l) s = .next t ∧ exec (.blockLockLost l) s = .next t ∧
      sameLink (t.link l.val) { k.resetSeries with
        state := .down, since := s.tick.now, retryAt := s.tick.now, downEvents := satAdd k.downEvents 1
        lastDownTick := s.tick.now, queue := [] } ∧
      (∀ m, m ≠ l.val → sameLink (t.link m) (s.link m)) ∧
      (s.tick.upstream = some l → { t.tick with downstream := s.tick.downstream } =
        { s.tick with downAt := some s.tick.now, freqLocked := false, byMarker := false }) ∧
      (s.tick.upstream ≠ some l → { t.tick with downstream := s.tick.downstream } = s.tick) ∧
      (s.pair.role = 1 → s.pair.state = 1 → (l.val = 8 ∨ (s.link 8).state ≠ .up) → (l.val = 9 ∨ (s.link 9).state ≠ .up) →
        t.pair = { s.pair with state := 3, partnerLostTick := s.tick.now }) ∧
      ((s.pair.role ≠ 1 ∨ s.pair.state ≠ 1 ∨ (l.val ≠ 8 ∧ (s.link 8).state = .up) ∨ (l.val ≠ 9 ∧ (s.link 9).state = .up)) →
        t.pair = s.pair) ∧
      (∀ c, (t.ctx c).unroutable = satAdd (s.ctx c).unroutable ((lostPackets k.queue).countP fun f => f.ctx.val == c)) ∧
      t.cores = s.cores ∧ t.hbmMem = s.hbmMem ∧ t.sramMem = s.sramMem) ∧
    ((k.state = .down ∨ k.state = .disabled) → exec (.linkDown l) s = .next s ∧ exec (.blockLockLost l) s = .next s)

/-- FLIT_SEND sends one flit in a flit time of a link that is UP or QUARANTINED: a control flit or IDLE in a control flit
time, else a NAK that is due, else the next flit to resend, else the flit of the slot's context with the next sequence
number, else IDLE; a replay buffer of 960 flits sends no new one. The flit goes out as two codewords over its even and odd
bytes, and its CREDIT field returns the credits owed for the flit time's context and VC, at most 255. A block that cannot be
decoded puts the receiver into REPLAY_WAIT and owes one NAK; the 65th discarded flit in 1,048,576 flit times takes the link
down. A LINK_ACK that can be decoded frees the named flit and every one before it. A NAK resends every buffered flit from the
named one onward, unless the same replay began less than 512 flit times ago; a flit replayed four times already takes the
link down. Both take the credits their flits return, and a correction is counted. A NAK is repeated after 800 ticks. -/
def Obligations.FlitsSentAndReplayed : Prop :=
  (∀ (l : LinkId) (s : State),
     let k := s.link l.val
     (∀ f, (k.state = .up ∨ k.state = .quarantined) → flitTime s.now = some f →
       let key := 4 * (creditFor l.val f).1 + (creditFor l.val f).2
       let sends := fun (p : State → Flit → Prop) => ∃ (t : State) (x : Flit), exec (.flitSend l) s = .next t ∧ p t x ∧
         t.out = .flit l x (codeword (everyOther (flitWire x))) (codeword (everyOther ((flitWire x).drop 1))) :: s.out ∧
         x.credit = BitVec.ofNat 8 (min 255 (k.owed.get 0 key)) ∧
         (t.link l.val).owed.get 0 key = k.owed.get 0 key - min 255 (k.owed.get 0 key) ∧
         (∀ m, m ≠ l.val → t.link m = s.link m) ∧ { t with links := s.links, out := s.out } = s
       let idle := sends fun t x => x.kind = .idle ∧ x.payload = toLe 2 k.ack ∧ (t.link l.val).txSeq = k.txSeq ∧
         (t.link l.val).replayBuf = k.replayBuf
       (f % 512 = 0 → (k.control = [] ∨ 960 ≤ k.replayBuf.length) → idle) ∧
       (f % 512 = 0 → k.control ≠ [] → k.replayBuf.length < 960 → sends fun t x =>
         x.kind = .control ∧ x.vc = 2 ∧ x.seq = k.txSeq ∧ x.payload = toLe 2 k.ack ++ (takeMessages 248 k.control).1 ∧
         (t.link l.val).control = (takeMessages 248 k.control).2 ∧ (t.link l.val).txSeq = k.txSeq + 1) ∧
       (f % 512 ≠ 0 → k.nakDue = true → sends fun t x => x.kind = .nak ∧ x.seq = k.rxSeq ∧
         (t.link l.val).nakDue = false ∧ (t.link l.val).nakTick = s.tick.now ∧ (t.link l.val).txSeq = k.txSeq) ∧
       (∀ y rest, f % 512 ≠ 0 → k.nakDue = false → k.resend = y :: rest → sends fun t x =>
         x.kind = y.kind ∧ x.seq = y.seq ∧ (y.kind ≠ .control → x.payload = y.payload) ∧
         (y.kind = .control → x.payload.take 2 = toLe 2 k.ack) ∧ (t.link l.val).resend = rest ∧
         (t.link l.val).txSeq = k.txSeq) ∧
       (f % 512 ≠ 0 → k.nakDue = false → k.resend = [] → (960 ≤ k.replayBuf.length ∨ s.slotFlit l.val = none) → idle) ∧
       (∀ y, f % 512 ≠ 0 → k.nakDue = false → k.resend = [] → k.replayBuf.length < 960 → s.slotFlit l.val = some y →
         s.engineOwner (34 + l.val) = some y.ctx.val ∧ s.hasCredit l.val y = true ∧ k.state = .up ∧
         sends fun t x => x.kind = y.kind ∧ x.ctx = y.ctx ∧ x.vc = y.vc ∧ x.payload = y.payload ∧ x.seq = k.txSeq ∧
           (t.link l.val).txSeq = k.txSeq + 1 ∧ (t.link l.val).queue = k.queue.erase y ∧
           (t.link l.val).replayBuf = k.replayBuf ++ [({ y with seq := k.txSeq }, 0)] ∧
           (t.link l.val).credits.get 0 (4 * y.ctx.val + y.vc.toNat) = k.credits.get 0 (4 * y.ctx.val + y.vc.toNat) + 1)) ∧
     ((flitTime s.now = none ∨ (k.state ≠ .up ∧ k.state ≠ .quarantined)) → exec (.flitSend l) s = .next s) ∧
     (∀ seq credit fec, blockFails fec = false →
       (∀ pre x n post, k.replayBuf = pre ++ (x, n) :: post → x.seq = seq → (∀ y ∈ pre, y.1.seq ≠ seq) →
         exec (.linkAckReceive l seq credit fec) s = .next
           (((s.countFec l.val fec).updLink l.val fun k => { k with replayBuf := post }).takeCredits l.val credit)) ∧
       ((∀ y ∈ k.replayBuf, y.1.seq ≠ seq) → exec (.linkAckReceive l seq credit fec) s = .next
         (((s.countFec l.val fec).updLink l.val fun k => k).takeCredits l.val credit)))) ∧
  (∀ (l : LinkId) (s : State),
     let k := s.link l.val
     let recent := s.tick.now :: k.discardTicks.filter fun t => decide (s.now < t.toNat + 1638400)
     let u := s.updLink l.val fun k => { k with replayWait := true, nakDue := k.nakDue || !k.replayWait, discardTicks := recent }
     let failed := fun (i : Instr) =>
       ((k.state = .up ∨ k.state = .quarantined) → recent.length ≤ 64 →
         ∃ t : State, exec i s = .next t ∧ t.link l.val = u.link l.val ∧ (∀ m, m ≠ l.val → t.link m = s.link m) ∧
           { t with links := s.links } = s) ∧
       ((k.state = .up ∨ k.state = .quarantined) → 64 < recent.length →
         ∃ t : State, exec i s = .next (t.declareDown l.val) ∧ (t.link l.val).state = k.state ∧ { t with links := s.links } = s) ∧
       (k.state ≠ .up → k.state ≠ .quarantined → exec i s = .next s)
     failed (.flitError l) ∧
     (∀ seq credit fec, blockFails fec = true → failed (.linkAckReceive l seq credit fec) ∧
       failed (.nakReceive l seq credit fec)) ∧
     (∀ fec : Fec, (blockFails fec = true ↔ 6 < fec.even ∨ 6 < fec.odd) ∧
       (fec.even = 0 → fec.odd = 0 → s.countFec l.val fec = s) ∧
       ((fec.even ≠ 0 ∨ fec.odd ≠ 0) → s.countFec l.val fec =
         s.updLink l.val fun k => { k with fecCorrected := satAdd k.fecCorrected 1 })) ∧
     (k.replayWait = true → k.nakDue = false → k.nakTick.toNat + 800 ≤ s.now →
       exec (.nakRepeat l) s = .next (s.updLink l.val fun k => { k with nakDue := true })) ∧
     ((k.replayWait = false ∨ k.nakDue = true ∨ s.now < k.nakTick.toNat + 800) → exec (.nakRepeat l) s = .next s) ∧
     (∀ seq credit fec, blockFails fec = false → (k.state = .up ∨ k.state = .quarantined) →
       let counted := ((s.countFec l.val fec).updLink l.val fun k => { k with replays := k.replays + 1 }).takeCredits l.val credit
       ((∀ y ∈ k.replayBuf, y.1.seq ≠ seq) → exec (.nakReceive l seq credit fec) s = .next counted) ∧
       (∀ t : Word, k.lastReplay = some (seq, t) → s.now < t.toNat + 800 →
         exec (.nakReceive l seq credit fec) s = .next counted) ∧
       (∀ pre x n post, k.replayBuf = pre ++ (x, n) :: post → x.seq = seq → (∀ y ∈ pre, y.1.seq ≠ seq) →
         (∀ t : Word, k.lastReplay = some (seq, t) → t.toNat + 800 ≤ s.now) →
         ((∃ y ∈ (x, n) :: post, 4 ≤ y.2) → exec (.nakReceive l seq credit fec) s = .next (counted.declareDown l.val)) ∧
         ((∀ y ∈ (x, n) :: post, y.2 < 4) → exec (.nakReceive l seq credit fec) s = .next (counted.updLink l.val fun k => { k with
           replayBuf := pre ++ ((x, n) :: post).map fun y => (y.1, y.2 + 1)
           resend := ((x, n) :: post).map (·.1), lastReplay := some (seq, s.tick.now) })))) ∧
     (∀ seq credit fec, blockFails fec = false → k.state ≠ .up → k.state ≠ .quarantined →
       exec (.nakReceive l seq credit fec) s = .next (s.countFec l.val fec)))

/-- A data flit in order is delivered, moves the expected number on, and frees a place in the receive buffer; out of order it
is discarded. A HEAD for another device, and every BODY after it, waits at the port of the next hop; with no next hop, or
over a link that is not UP, the packet is discarded and counted in its context. A control flit frees what its LINK_ACK
names, and in order its messages are taken one after the other. A block that cannot be decoded is a flit in error. A lead
change of a higher epoch is obeyed and flooded on, any other is not; a new map version is taken and flooded on by every
device but the lead; a tree assignment names a follower's upstream link and depth; the lowest SERIAL is kept and
flooded on. A packet lands for this device only, in a context that accepts commands, and else is counted as discarded; one
that writes puts its bytes into the context's share, in SRAM that of every enabled core (the model's choice, log entry 32),
and credits its semaphore, for HBM once the transfer has written them. -/
def Obligations.FlitsAndPacketsArrive : Prop :=
  (∀ (l : LinkId) (f : Flit) (fec : Fec) (s : State),
    let k := s.link l.val
    let key := 4 * f.ctx.val + f.vc.toNat
    let dst := Config.headerDst (f.payload.take 16)
    (blockFails fec = true → exec (.dataFlitReceive l f fec) s = exec (.flitError l) s ∧
      ∀ msgs, exec (.controlFlitReceive l f fec msgs) s = exec (.flitError l) s) ∧
    (blockFails fec = false → k.state = .up → (f.kind = .head ∨ f.kind = .body) → f.seq = k.rxSeq →
      ∃ t : State, exec (.dataFlitReceive l f fec) s = .next t ∧
      (t.link l.val).rxSeq = k.rxSeq + 1 ∧ (t.link l.val).delivered = true ∧ (t.link l.val).replayWait = false ∧
      (t.link l.val).nakDue = false ∧ (t.link l.val).owed.get 0 key = k.owed.get 0 key + 1 ∧
      t.cores = s.cores ∧ t.hbmMem = s.hbmMem ∧ t.sramMem = s.sramMem ∧ t.out = s.out ∧
      (∀ n, n < 12 → f.kind = .head → s.isMine dst = false → s.nextHop dst.toNat = some n → (s.link n).state = .up →
        (t.link n).queue = (s.link n).queue ++ [{ f with vc := s.hopVc n (some (f.vc.toNat, l.val)) }] ∧
        (t.link l.val).transit.get none key = some (Fin.ofNat 12 n, s.hopVc n (some (f.vc.toNat, l.val))) ∧ t.ctxs = s.ctxs) ∧
      (f.kind = .head → s.isMine dst = false →
        (s.nextHop dst.toNat = none ∨ ∃ n, s.nextHop dst.toNat = some n ∧ (s.link n).state ≠ .up) →
        (t.ctx f.ctx.val).unroutable = satAdd (s.ctx f.ctx.val).unroutable 1 ∧ (t.link l.val).transit.get none key = none ∧
        ∀ m, (t.link m).queue = (s.link m).queue) ∧
      (f.kind = .head → s.isMine dst = true → t.ctxs = s.ctxs ∧ (t.link l.val).transit.get none key = none ∧
        ∀ m, (t.link m).queue = (s.link m).queue) ∧
      (∀ n vc, f.kind = .body → k.transit.get none key = some (n, vc) →
        (t.link n.val).queue = (s.link n.val).queue ++ [{ f with vc := vc }] ∧ t.ctxs = s.ctxs) ∧
      (f.kind = .body → k.transit.get none key = none → t.ctxs = s.ctxs ∧ ∀ m, (t.link m).queue = (s.link m).queue)) ∧
    (blockFails fec = false → k.state = .up → (f.kind = .head ∨ f.kind = .body) → f.seq ≠ k.rxSeq →
      exec (.dataFlitReceive l f fec) s = .next ((s.countFec l.val fec).discardFlit l.val)) ∧
    (blockFails fec = false → (k.state ≠ .up ∨ (f.kind ≠ .head ∧ f.kind ≠ .body)) →
      exec (.dataFlitReceive l f fec) s = .next (s.countFec l.val fec)) ∧
    (∀ msgs, blockFails fec = false → (k.state = .up ∨ k.state = .quarantined) → f.kind = .control →
      (f.seq = k.rxSeq → ∃ u : State, exec (.controlFlitReceive l f fec msgs) s = .next (msgs.foldl State.takeMessage u) ∧
        (u.link l.val).rxSeq = k.rxSeq + 1 ∧ (u.link l.val).replayWait = false ∧
        (u.link l.val).replayBuf = ackBuffer (BitVec.ofNat 10 (field f.payload 0 2)) k.replayBuf ∧
        { u with links := s.links } = s ∧ (∀ m, m ≠ l.val → u.link m = s.link m)) ∧
      (f.seq ≠ k.rxSeq → ∃ u : State, exec (.controlFlitReceive l f fec msgs) s = .next (u.discardFlit l.val) ∧
        (u.link l.val).rxSeq = k.rxSeq ∧ { u with links := s.links } = s ∧
        (u.link l.val).replayBuf = ackBuffer (BitVec.ofNat 10 (field f.payload 0 2)) k.replayBuf)) ∧
    (∀ msgs, blockFails fec = false → ((k.state ≠ .up ∧ k.state ≠ .quarantined) ∨ f.kind ≠ .control) →
      exec (.controlFlitReceive l f fec msgs) s = .next (s.countFec l.val fec))) ∧
  (∀ s : State,
    let flooded := fun (t : State) (b : Bytes) => ∀ l < 12, (s.link l).state = .up → b ∈ (t.link l).control
    (∀ e a, e.toNat ≤ s.topo.leadEpoch.toNat → s.takeMessage (.leadChange e a) = s) ∧
    (∀ e a, s.topo.leadEpoch.toNat < e.toNat → (s.takeMessage (.leadChange e a)).topo.leadEpoch = e ∧
      (s.takeMessage (.leadChange e a)).topo.leadAddr = a ∧ flooded (s.takeMessage (.leadChange e a)) (leadChangeBytes e a)) ∧
    (∀ v es, s.topo.role ≠ 1 → s.topo.mapVersion ≠ v → (s.takeMessage (.mapUpdate v es)).topo.mapVersion = v) ∧
    (∀ v es, (s.topo.role = 1 ∨ s.topo.mapVersion = v) → s.takeMessage (.mapUpdate v es) = s) ∧
    (∀ (up : LinkId) d w,
      (s.topo.role ≠ 1 → d.toNat ≤ 32 → (s.pair.role ≠ 2 ∨ s.pair.state ≠ 1) →
        (s.takeMessage (.upstreamAssign up d w)).tick.upstream = some up ∧
        (s.takeMessage (.upstreamAssign up d w)).tick.depth = d ∧
        (∀ l : LinkId, l ∈ (s.takeMessage (.upstreamAssign up d w)).tick.downstream ↔ w.getLsbD l.val = true) ∧
        (s.takeMessage (.upstreamAssign up d w)).tick.state = s.tick.state ∧
        (s.tick.upstream ≠ some up → (s.takeMessage (.upstreamAssign up d w)).tick.measured = false)) ∧
      ((s.topo.role = 1 ∨ 32 < d.toNat ∨ (s.pair.role = 2 ∧ s.pair.state = 1)) → s.takeMessage (.upstreamAssign up d w) = s)) ∧
    (∀ x : BitVec 128, ((∀ y, s.topo.lowestSerial = some y → x.toNat < y.toNat) →
        (s.takeMessage (.lowestSerial x)).topo.lowestSerial = some x ∧
        flooded (s.takeMessage (.lowestSerial x)) (ctlBytes 3 (toLe 16 x.toNat))) ∧
      (∀ y, s.topo.lowestSerial = some y → y.toNat ≤ x.toNat → s.takeMessage (.lowestSerial x) = s)) ∧
    (∀ r, s.takeMessage (.report r) = if s.topo.role = 1 then s.takeReport r else s.passReport r)) ∧
  (∀ (s : State) (p : Packet),
    let c := p.ctx.val
    (s.isMine p.dst = false → exec (.packetLand p) s = .next s) ∧
    (s.isMine p.dst = true → s.accepting c = false →
      exec (.packetLand p) s = .next { s with discardedInactive := satAdd s.discardedInactive 1 }) ∧
    (s.isMine p.dst = true → s.accepting c = true →
      exec (.packetLand p) s = .next ((s.forwardIn c (.packet p)).landPacket p) ∧
      (∀ space off (sem : BitVec 16), p.use = .write space off sem → s.inShare c space.toNat off p.data.length = true →
        (∀ x ∈ s.hbm.xfers, s.hubOpen c none true x = false ∧ s.hubOpen c none false x = false) →
        sem.toNat < 16384 → s.sem c sem.toNat < 0xFFFFFFFF →
        ∃ t : State, exec (.packetLand p) s = .next t ∧ t.cores = s.cores ∧ t.stageMem = s.stageMem ∧ t.hbmMem = s.hbmMem ∧
          (space = 2 → t.resMem = s.resMem.writeBytes (s.absAddr c 0 2 off) p.data ∧ t.sramMem = s.sramMem) ∧
          (space = 0 → t.resMem = s.resMem ∧ t.sramMem =
            s.enabledCores.foldl (fun m k => m.writeBytes (s.absAddr c k 0 off) p.data) s.sramMem) ∧
          ((space = 0 ∨ space = 2) →
            t.sem c sem.toNat = s.sem c sem.toNat + 1) ∧
          (space = 1 → p.data ≠ [] → t.resMem = s.resMem ∧ t.sramMem = s.sramMem ∧ ∃ x : Xfer,
            t.hbm.xfers = s.hbm.xfers ++ [x] ∧ x.ctx = p.ctx ∧ x.write = true ∧ x.submitted = s.tick.now ∧
            x.lines = linesOf (s.absAddr c 0 1 off) p.data.length ∧
            x.effects = [.mem .hbm (s.absAddr c 0 1 off) p.data, .sem sem 1]))))

/-- On the lead a report gives its device's entry of the map: an admitted device stays admitted while nothing it claims is
wrong and is quarantined otherwise, a departed one is quarantined, a new one is PRESENT in a map that is not locked; a
changed entry raises the map's version, and a changed state or link a new route table that waits. A device whose links have
been down for 65,536 ticks departs. The waiting route table comes into force 65,536 ticks after the change was detected.
Any other device changes nothing. -/
def Obligations.TopologyFollowsReports : Prop :=
  ∀ (s : State),
    (∀ r : Report, s.topo.role = 1 →
      let old := s.mapEntry r.addr.toNat
      let bad := old.conflicts r = true ∨ r.signature ≠ BitVec.ofNat 128 (leNat s.signature) ∨ r.extents ≠ s.topo.extents
      ∃ t : State, exec (.discoveryReport r) s = .next t ∧
        (t.mapEntry r.addr.toNat).linkMask = r.linkMask ∧ (t.mapEntry r.addr.toNat).serial = r.serial ∧
        (old.dev = .admitted → ¬bad → (t.mapEntry r.addr.toNat).dev = .admitted) ∧
        (old.dev = .admitted → bad → (t.mapEntry r.addr.toNat).dev = .quarantined) ∧
        ((old.dev = .quarantined ∨ old.dev = .departed) → (t.mapEntry r.addr.toNat).dev = .quarantined) ∧
        ((old.dev = .absent ∨ old.dev = .present) → ¬bad → s.mapLocked = false → (t.mapEntry r.addr.toNat).dev = .present) ∧
        ((old.dev = .absent ∨ old.dev = .present) → (bad ∨ s.mapLocked = true) →
          (t.mapEntry r.addr.toNat).dev = .quarantined) ∧
        (∀ a, a ≠ r.addr.toNat → t.mapEntry a = s.mapEntry a) ∧
        t.topo.mapVersion = (if old.word = (t.mapEntry r.addr.toNat).word then s.topo.mapVersion else s.topo.mapVersion + 1) ∧
        t.topo.routeMap = s.topo.routeMap ∧
        ((old.linkMask ≠ r.linkMask ∨ old.dev ≠ (t.mapEntry r.addr.toNat).dev) → t.topo.routeChange = some s.tick.now) ∧
        t.ctxs = s.ctxs ∧ t.cores = s.cores ∧ t.hbmMem = s.hbmMem) ∧
    (∀ r, s.topo.role ≠ 1 → exec (.discoveryReport r) s = .next s) ∧
    (∀ (a : BitVec 16) (d : Word), (s.mapEntry a.toNat).downSince = some d →
      (s.topo.role = 1 → d.toNat + 65536 ≤ s.now → (s.mapEntry a.toNat).dev ≠ .absent → (s.mapEntry a.toNat).dev ≠ .departed →
        ∃ t : State, exec (.deviceDepart a) s = .next t ∧ (t.mapEntry a.toNat).dev = .departed ∧
          (t.mapEntry a.toNat).departedAt = some s.tick.now ∧
          (∀ b, b ≠ a.toNat → t.mapEntry b = s.mapEntry b) ∧ t.topo.mapVersion = s.topo.mapVersion + 1 ∧
          t.topo.routeChange = some s.tick.now ∧ t.topo.routeMap = s.topo.routeMap ∧ t.ctxs = s.ctxs ∧ t.cores = s.cores) ∧
      ((s.topo.role ≠ 1 ∨ s.now < d.toNat + 65536 ∨ (s.mapEntry a.toNat).dev = .absent ∨ (s.mapEntry a.toNat).dev = .departed) →
        exec (.deviceDepart a) s = .next s)) ∧
    (∀ a : BitVec 16, (s.mapEntry a.toNat).downSince = none → exec (.deviceDepart a) s = .next s) ∧
    (∀ d, s.topo.routeChange = some d →
      (d.toNat + 65536 ≤ s.now → exec .routeTableSwitch s = .next { s with topo := { s.topo with
        routeMap := s.topo.nextRoutes, routeChange := none, nextRoutes := [] } }) ∧
      (s.now < d.toNat + 65536 → exec .routeTableSwitch s = .next s)) ∧
    (s.topo.routeChange = none → exec .routeTableSwitch s = .next s)

/-- ELECTION_COMPLETE makes the running device with the lowest SERIAL the lead, at address 0 and as master of the tick,
65,536 ticks after its last torus link came up; SOLO_LEAD does so without any torus link 156,250,000 ticks after the
ready point. A device without a position takes the one its positioned peer implies; a different one afterwards
leaves it without. The lead learns an axis's extent from the offer that closes it. Where none of this is due, nothing
changes. -/
def Obligations.PositionsAreTaken : Prop :=
  ∀ (s : State),
    let leads := fun (t : State) => t.topo.positioned = true ∧ t.topo.selfAddr = 0 ∧ t.topo.role = 1 ∧ t.topo.leadAddr = 0 ∧
      t.topo.elected = true ∧ t.topo.extents = 0 ∧ t.tick.state = 1 ∧ t.tick.now = s.tick.now ∧ t.ctxs = s.ctxs
    (∀ d, s.topo.lastTorusUp = some d → s.topo.elected = false → s.topo.positioned = false → s.fw.stage = 2 →
      d.toNat + 65536 ≤ s.now →
      ((∀ x, s.topo.lowestSerial = some x → s.ident.serial.toNat ≤ x.toNat) →
        ∃ t : State, exec .electionComplete s = .next t ∧ leads t) ∧
      (∀ x, s.topo.lowestSerial = some x → x.toNat < s.ident.serial.toNat →
        exec .electionComplete s = .next { s with topo := { s.topo with elected := true } })) ∧
    (∀ d, s.topo.lastTorusUp = some d → s.now < d.toNat + 65536 → exec .electionComplete s = .next s) ∧
    ((s.topo.lastTorusUp = none ∨ s.topo.elected = true ∨ s.topo.positioned = true ∨ s.fw.stage ≠ 2) →
      exec .electionComplete s = .next s) ∧
    (s.fw.stage = 2 → s.topo.positioned = false → s.topo.lastTorusUp = none →
      s.fw.startTick.toNat + 156250000 ≤ s.now → ∃ t : State, exec .soloLead s = .next t ∧ leads t) ∧
    ((s.fw.stage ≠ 2 ∨ s.topo.positioned = true ∨ s.topo.lastTorusUp.isSome = true ∨ s.now < s.fw.startTick.toNat + 156250000) →
      exec .soloLead s = .next s) ∧
    (∀ (l : LinkId) (peer ext : BitVec 16), l.val < 8 → s.fw.stage = 2 → (s.link l.val).state = .up →
      s.topo.positionFailed = false →
      let a := impliedAddr ext.toNat l.val peer.toNat
      (s.topo.role ≠ 1 → s.topo.positioned = false → ∃ t : State, exec (.positionAssign l peer ext) s = .next t ∧
        t.topo = { s.topo with positioned := true, selfAddr := BitVec.ofNat 16 a, extents := ext,
                               role := if s.cfgNum 0x9010 2 = a then 2 else 3 } ∧ t.tick = s.tick ∧ t.ctxs = s.ctxs) ∧
      (s.topo.role ≠ 1 → s.topo.positioned = true → s.topo.selfAddr.toNat = a →
        exec (.positionAssign l peer ext) s = .next { s with topo := { s.topo with extents := ext } }) ∧
      (s.topo.role ≠ 1 → s.topo.positioned = true → s.topo.selfAddr.toNat ≠ a → exec (.positionAssign l peer ext) s =
        .next { s with topo := { s.topo with positioned := false, positionFailed := true, role := 0 } }) ∧
      (s.topo.role = 1 → l.val % 2 = 0 → (∀ b < 4, b ≠ l.val / 2 → coordOf peer.toNat b = 0) →
        exec (.positionAssign l peer ext) s = .next { s with topo := { s.topo with
          extents := BitVec.ofNat 16 (withCoord s.topo.extents.toNat (l.val / 2) (coordOf peer.toNat (l.val / 2))) } }) ∧
      (s.topo.role = 1 → (l.val % 2 = 1 ∨ ∃ b < 4, b ≠ l.val / 2 ∧ coordOf peer.toNat b ≠ 0) →
        exec (.positionAssign l peer ext) s = .next s)) ∧
    (∀ (l : LinkId) (peer ext : BitVec 16), (8 ≤ l.val ∨ s.fw.stage ≠ 2 ∨ (s.link l.val).state ≠ .up ∨
      s.topo.positionFailed = true) → exec (.positionAssign l peer ext) s = .next s)

/-- The lead sends a beat on its downstream tree links every 65,536 ticks; a beat of no lower epoch from a link that is
UP is obeyed, noted and relayed; a standby without a beat for 262,144 ticks takes the lead with the next epoch and
becomes master of the tick. A primary sends a pair beat every 1,024 ticks on each pair link that is UP; the
secondary notes it, and has lost its partner after 16,384 ticks without one; the primary has lost its when both pair links
are down. Where none of this is due, nothing changes. -/
def Obligations.BeatsAndTakeover : Prop :=
  ∀ (s : State),
    (s.topo.role = 1 → s.topo.beatSent.toNat + 65536 ≤ s.now → ∃ t : State, exec .leadBeatSend s = .next t ∧
      (∀ l ∈ s.tick.downstream, leadBeatBytes s.topo.leadEpoch s.topo.mapVersion ∈ (t.link l.val).control) ∧
      t.topo = { s.topo with beatSent := s.tick.now } ∧ t.tick = s.tick ∧ t.ctxs = s.ctxs) ∧
    ((s.topo.role ≠ 1 ∨ s.now < s.topo.beatSent.toNat + 65536) → exec .leadBeatSend s = .next s) ∧
    (∀ (l : LinkId) e a v,
      (((s.link l.val).state ≠ .up ∨ e.toNat < s.topo.leadEpoch.toNat) → exec (.leadBeatReceive l e a v) s = .next s) ∧
      ((s.link l.val).state = .up → s.topo.leadEpoch.toNat ≤ e.toNat → s.topo.role ≠ 1 →
        ∃ t : State, exec (.leadBeatReceive l e a v) s = .next t ∧ t.topo.leadEpoch = e ∧ t.topo.lastBeat = s.tick.now ∧
          t.topo.mapVersion = v ∧ (s.topo.leadEpoch.toNat < e.toNat → t.topo.leadAddr = a) ∧ t.topo.role = s.topo.role ∧
          (∀ d ∈ s.tick.downstream, leadBeatBytes e v ∈ (t.link d.val).control) ∧ t.cores = s.cores) ∧
      ((s.link l.val).state = .up → s.topo.leadEpoch.toNat < e.toNat → s.topo.role = 1 →
        ∃ t : State, exec (.leadBeatReceive l e a v) s = .next t ∧ t.topo.role = 3 ∧ t.topo.leadEpoch = e ∧
          t.topo.leadAddr = a ∧ t.tick.state = 5 ∧ t.tick.measured = false ∧ t.tick.now = s.tick.now) ∧
      (s.topo.leadEpoch = e → s.topo.role = 1 → exec (.leadBeatReceive l e a v) s = .next s)) ∧
    (s.topo.positioned = true → s.topo.role ≠ 1 → s.cfgNum 0x9010 2 = s.topo.selfAddr.toNat →
      s.topo.lastBeat.toNat + 262144 ≤ s.now → ∃ t : State, exec .standbyTakeover s = .next t ∧ t.topo.role = 1 ∧
        t.topo.leadEpoch = s.topo.leadEpoch + 1 ∧ t.topo.leadAddr = s.topo.selfAddr ∧ t.topo.leadChangeTick = s.tick.now ∧
        t.tick.state = 1 ∧ t.tick.now = s.tick.now ∧ t.ctxs = s.ctxs ∧ t.cores = s.cores ∧
        (∀ l < 12, (s.link l).state = .up → leadChangeBytes (s.topo.leadEpoch + 1) s.topo.selfAddr ∈ (t.link l).control)) ∧
    ((s.topo.positioned = false ∨ s.topo.role = 1 ∨ s.cfgNum 0x9010 2 ≠ s.topo.selfAddr.toNat ∨
      s.now < s.topo.lastBeat.toNat + 262144) → exec .standbyTakeover s = .next s) ∧
    (s.pair.role = 1 → s.pair.state = 1 → s.pair.beatSent.toNat + 1024 ≤ s.now →
      exec .pairBeatSend s = .next { s with
        pair := { s.pair with beatSent := s.tick.now }
        out := (if (s.link 9).state = .up then [.pairBeat 9] else []) ++
          (if (s.link 8).state = .up then [.pairBeat 8] else []) ++ s.out }) ∧
    ((s.pair.role ≠ 1 ∨ s.pair.state ≠ 1 ∨ s.now < s.pair.beatSent.toNat + 1024) → exec .pairBeatSend s = .next s) ∧
    (∀ l : LinkId, s.pair.role = 2 → (l = 8 ∨ l = 9) → (s.link l.val).state = .up →
      exec (.pairBeatReceive l) s = .next { s with pair := { s.pair with lastBeat := s.tick.now } }) ∧
    (∀ l : LinkId, (s.pair.role ≠ 2 ∨ (l ≠ 8 ∧ l ≠ 9) ∨ (s.link l.val).state ≠ .up) →
      exec (.pairBeatReceive l) s = .next s) ∧
    (s.pair.state = 1 → s.pair.role = 2 → s.pair.lastBeat.toNat + 16384 ≤ s.now →
      ∃ t : State, exec .partnerLost s = .next t ∧ t.pair.state = 3 ∧ t.pair.partnerLostTick = s.tick.now ∧
        (t.pair.primaryWasLead = true ↔ s.topo.positioned = true ∧ s.topo.leadAddr = (s.link 8).peerAddr) ∧
        t.pair.forwarded = s.pair.forwarded ∧ t.pair.heldRecords = s.pair.heldRecords ∧ t = { s with pair := t.pair }) ∧
    (s.pair.state = 1 → s.pair.role = 1 → (s.link 8).state ≠ .up → (s.link 9).state ≠ .up →
      exec .partnerLost s = .next { s with pair := { s.pair with state := 3, partnerLostTick := s.tick.now } }) ∧
    ((s.pair.state ≠ 1 ∨ (s.pair.role = 2 ∧ s.now < s.pair.lastBeat.toNat + 16384) ∨
      (s.pair.role ≠ 2 ∧ (s.pair.role ≠ 1 ∨ (s.link 8).state = .up ∨ (s.link 9).state = .up))) → exec .partnerLost s = .next s)

/-- A mirroring secondary keeps a forwarded input that comes at least 1,024 ticks before it is due and applies it PAIR_LAG
ticks after its stamp; a later one is a LAG_OVERRUN. It compares each digest with that of its own copy: the same digest and
the terminal tick PAIR_LAG later agree, any other is a divergence, which stops its contexts; the primary learns of it. A
comparison in the tick of the partner's loss still counts. PROMOTION, in a tick after the map marks the primary DEPARTED,
and PROMOTE, outside any torus, promote a secondary that lost its partner. Where none of this applies, nothing
changes. -/
def Obligations.PairMirrors : Prop :=
  ∀ (s : State),
    let lag := s.cfgNum 0x9020 2
    (∀ stamp i,
      (s.pair.role = 2 → s.pair.state = 1 → s.now + 1024 ≤ stamp.toNat + lag → exec (.forwardedInputReceive stamp i) s =
        .next { s with pair := { s.pair with forwarded := s.pair.forwarded ++ [(stamp, i)] } }) ∧
      (s.pair.role = 2 → s.pair.state = 1 → stamp.toNat + lag < s.now + 1024 → exec (.forwardedInputReceive stamp i) s =
        .next { s with pair := { s.pair with state := 4 } }) ∧
      ((s.pair.role ≠ 2 ∨ s.pair.state ≠ 1) → exec (.forwardedInputReceive stamp i) s = .next s)) ∧
    (∀ stamp i rest, s.pair.forwarded = (stamp, i) :: rest →
      let u : State := { s with pair := { s.pair with forwarded := rest } }
      let ready := s.pair.role = 2 ∧ (s.pair.state = 1 ∨ s.pair.state = 3) ∧ stamp.toNat + lag ≤ s.now
      (ready → exec .forwardedInputApply s = .next (u.applyInput i)) ∧
      (∀ c r b, ready → i = .descriptor c r b →
        ∃ v : State, exec .forwardedInputApply s = .next (v.acceptDescriptor c r b) ∧
          v = u.updRing c.val r.val fun y => { y with tail := if y.head = y.tail then y.tail + 1 else y.tail }) ∧
      (∀ c off b, ready → i = .bar2Write c off b → exec .forwardedInputApply s = .next (u.bar2Write c off b)) ∧
      (∀ c off v, ready → i = .regWrite c off v → exec .forwardedInputApply s = .next (u.registerWrite c off v)) ∧
      (∀ c b, ready → i = .request c b → exec .forwardedInputApply s = .next (u.updCtx c.val fun x =>
        { x with serving := { x.serving with handed := x.serving.handed ++ [b] } })) ∧
      (∀ p, ready → i = .packet p → s.accepting p.ctx.val = true → exec .forwardedInputApply s = .next (u.landPacket p)) ∧
      (∀ p, ready → i = .packet p → s.accepting p.ctx.val = false → exec .forwardedInputApply s = .next u) ∧
      (∀ c, ready → i = .flr c → exec .forwardedInputApply s = .next ((u.teardown c.val 4).resetBar0 c.val)) ∧
      (¬ready → exec .forwardedInputApply s = .next s)) ∧
    (s.pair.forwarded = [] → exec .forwardedInputApply s = .next s) ∧
    (s.pair.role = 2 → s.pair.state = 1 → exec .lagOverrun s = .next { s with pair := { s.pair with state := 4 } }) ∧
    ((s.pair.role ≠ 2 ∨ s.pair.state ≠ 1) → exec .lagOverrun s = .next s) ∧
    (∀ c id digest terminal own, (s.pair.state = 1 ∨ (s.pair.state = 3 ∧ s.pair.partnerLostTick = s.tick.now)) →
      s.pair.role = 2 → s.pair.digests.find? (fun d => d.1 == c && d.2.1 == id) = some own →
      (own.2.2.1 = digest → own.2.2.2.toNat = terminal.toNat + lag →
        exec (.digestCompare c id digest terminal) s =
          .next { s with pair := { s.pair with digests := s.pair.digests.erase own } }) ∧
      ((own.2.2.1 ≠ digest ∨ own.2.2.2.toNat ≠ terminal.toNat + lag) →
        ∃ t : State, exec (.digestCompare c id digest terminal) s = .next t ∧ t.pair.state = 2 ∧
          t.pair.divergeTick = s.tick.now ∧ t.pair.divergeCtx = c ∧ t.pair.divergeCmd = id ∧
          (∀ d : CtxId, d ≠ 0 → ((s.ctx d.val).life.state = .live ∨ (s.ctx d.val).life.state = .suspended) →
            (t.ctx d.val).life.state = .suspended ∧ d.val ∈ t.pair.suspended) ∧
          (∀ vector addr b at_, (c, vector, addr, b, at_) ∈ s.pair.heldRecords → field b 0 4 = id.toNat →
            (c, vector, addr, b.take 4 ++ [0x0C] ++ b.drop 5, at_) ∈ t.pair.heldRecords))) ∧
    (∀ c id digest terminal, s.pair.role = 2 → s.pair.digests.find? (fun d => d.1 == c && d.2.1 == id) = none →
      exec (.digestCompare c id digest terminal) s = .next s) ∧
    (∀ c id digest terminal, (s.pair.state = 1 ∨ (s.pair.state = 3 ∧ s.pair.partnerLostTick = s.tick.now)) →
      s.pair.role = 1 → exec (.digestCompare c id digest terminal) s =
        .next { s with pair := { s.pair with state := 2, divergeTick := s.tick.now, divergeCtx := c, divergeCmd := id } }) ∧
    (∀ c id digest terminal, s.pair.state ≠ 1 → (s.pair.state ≠ 3 ∨ s.pair.partnerLostTick ≠ s.tick.now) →
      exec (.digestCompare c id digest terminal) s = .next s) ∧
    (let promoted := fun (t : State) => t.pair.state = 5 ∧ t.pair.promoteTick = s.tick.now ∧ t.pair.forwarded = [] ∧
        t.pair.digests = [] ∧ t.pair.heldRecords = [] ∧
        (s.pair.primaryWasLead = true → t.topo.role = 1 ∧ t.topo.leadEpoch = s.topo.leadEpoch + 1 ∧ t.tick.state = 1) ∧
        (s.pair.primaryWasLead = false → t.topo = s.topo)
     (∀ d : Word, s.pair.role = 2 → s.pair.state = 3 →
        (s.mapEntry (s.link 8).peerAddr.toNat).departedAt = some d → d.toNat < s.now →
        (s.pair.primaryWasLead = false ∨ s.topo.lastBeat.toNat + 262144 < s.now) →
        ∃ t : State, exec .promotion s = .next t ∧ promoted t) ∧
     (s.pair.role = 2 → s.pair.state = 3 → s.topo.lastTorusUp = none → ∃ t : State, exec .promote s = .next t ∧ promoted t)) ∧
    ((s.pair.role ≠ 2 ∨ s.pair.state ≠ 3) → exec .promotion s = .next s ∧ exec .promote s = .next s) ∧
    (((s.mapEntry (s.link 8).peerAddr.toNat).departedAt = none ∨
      (s.pair.primaryWasLead = true ∧ s.now ≤ s.topo.lastBeat.toNat + 262144)) → exec .promotion s = .next s) ∧
    (s.topo.lastTorusUp ≠ none → exec .promote s = .next s)

/-- STEP_BUILD consumes one count of STEP_SEM and builds a step with the next number; with no count, or a build in
progress, it waits; with no request and no ACTIVE sequence the step is empty; a request that breaks its rules faults
the context. A JOIN takes the lowest FREE entry of the sequence table or is refused, a LEAVE frees its entry. A mirroring
secondary consumes the records its primary handed it. STEP_POST, once the build's hub cycles can be over in a tick of the
context, chooses the step's command, and posts it on ring 2 when the ring has room. A write of CTX_SEQ_REQ_TAIL that
the ring holds is taken. -/
def Obligations.ServingSteps : Prop :=
  ∀ (c : CtxId) (s : State),
    let conf := s.serveConf c.val
    let v := (s.ctx c.val).serving
    let sem := confSub conf 4
    let enabled := s.cfgNum (0xD100 + c.val) 3 = 1 ∧ (s.ctx c.val).life.state = .live ∧ v.build = none
    let secondary := s.pair.role = 2 ∧ s.pair.state = 1
    (¬enabled → exec (.stepBuild c) s = .next s) ∧
    (enabled → 16384 ≤ sem → exec (.stepBuild c) s = .next (s.ctxFault c.val)) ∧
    (enabled → sem < 16384 → s.sem c.val sem = 0 → exec (.stepBuild c) s = .next s) ∧
    (enabled → sem < 16384 → 0 < s.sem c.val sem → (¬secondary → v.reqTail = v.reqHead) → (secondary → v.handed = []) →
      s.activeSeqs c.val = [] →
      ∃ t : State, exec (.stepBuild c) s = .next t ∧ t.sem c.val sem = s.sem c.val sem - 1 ∧
        (t.ctx c.val).serving = { v with step := v.step + 1, build := some (
          { step := v.step, openTick := s.tick.now, cycles := 32, conf := conf } : StepBuild) } ∧
        (v.lastRecord = none → t.hbm = s.hbm) ∧ t.hbmMem = s.hbmMem ∧ t.sramMem = s.sramMem ∧ t.cores = s.cores) ∧
    (enabled → sem < 16384 → 0 < s.sem c.val sem → ¬secondary → v.reqTail = v.reqHead + 1 → v.lastRecord = none →
      badRequest (s.hbmShare c.val (confSub conf 5 + 64 * (v.reqHead.toNat % confSub conf 6)) 64) = true →
      ∃ t : State, exec (.stepBuild c) s = .next (t.ctxFault c.val) ∧ t.sem c.val sem = s.sem c.val sem - 1) ∧
    (∀ (a : BuildAcc) (step : Nat) (cf : List Nat), a.fault = false →
      let w := (a.s.ctx c.val).serving
      let b := if a.s.pair.role = 2 ∧ a.s.pair.state = 1 then w.handed.headD []
        else a.s.hbmShare c.val (confSub cf 5 + 64 * (w.reqHead.toNat % confSub cf 6)) 64
      let z := a.consume c.val step cf
      let w' := { w with reqHead := w.reqHead + 1, handed := w.handed.drop 1 }
      (badRequest b = true → z.fault = true) ∧
      (∀ i, badRequest b = false → field b 0 1 = 1 → a.s.freeSeq c.val = some i →
        z.fault = false ∧ z.joins = a.joins + 1 ∧ z.leaves = a.leaves ∧ z.refused = a.refused ∧ z.joined = i :: a.joined ∧
        (let e : SeqEntry :=
          { active := true, seqId := BitVec.ofNat 32 (field b 4 4), position := BitVec.ofNat 32 (field b 8 4)
            kvDesc := BitVec.ofNat 16 (field b 12 2), bitmapPtr := field b 16 8, joinStep := step, joinTick := a.s.tick.now }
         (z.s.ctx c.val).serving = { w' with seqs := w.seqs.put i e })) ∧
      (badRequest b = false → field b 0 1 = 1 → a.s.freeSeq c.val = none →
        z.fault = false ∧ z.refused = a.refused + 1 ∧ z.joins = a.joins ∧
        (z.s.ctx c.val).serving = { w' with refused := satAdd w.refused 1 }) ∧
      (badRequest b = false → field b 0 1 = 2 → field b 24 4 < a.s.cfgNum (0xD100 + c.val) 2 →
        (w.entry (field b 24 4)).active = true →
        z.fault = false ∧ z.leaves = a.leaves + 1 ∧ z.joins = a.joins ∧
        (z.s.ctx c.val).serving = { w' with seqs := w.seqs.del (field b 24 4) }) ∧
      (badRequest b = false → field b 0 1 = 2 →
        (a.s.cfgNum (0xD100 + c.val) 2 ≤ field b 24 4 ∨ (w.entry (field b 24 4)).active = false) → z.fault = true)) ∧
    (∀ b d, v.build = some b → (s.ctx c.val).life.state = .live → b.descriptor = some d →
      (s.ringRoom c.val 2 = true → ∃ t : State, exec (.stepPost c) s = .next t ∧
        (t.ctx c.val).serving = { v with build := none, posted := v.posted ++ [(b.record, b.cycles)] } ∧
        (s.silent c.val = false → (t.ring c.val 2).tail = (s.ring c.val 2).tail + 1) ∧
        (s.silent c.val = false → s.pcie.linkUp = true → t.hostMem = s.hostMem.writeBytes
          ((s.ring c.val 2).base.toNat + 64 * ((s.ring c.val 2).tail.toNat % (s.ring c.val 2).entries)) d) ∧
        t.cores = s.cores ∧ t.sramMem = s.sramMem ∧ t.hbmMem = s.hbmMem) ∧
      (s.ringRoom c.val 2 = false → exec (.stepPost c) s = .next s)) ∧
    (∀ b, v.build = some b → (s.ctx c.val).life.state = .live → b.descriptor = none →
      (s.buildOver c.val b = false → exec (.stepPost c) s = .next s) ∧
      (s.buildOver c.val b = true →
        let u := (s.finishBuild c.val b).trace .build
        ∃ d : Bytes, (u.ctx c.val).serving.build = some { b with descriptor := some d } ∧
          (∃ t : State, exec (.stepPost c) s = .next t ∧ (u.ringRoom c.val 2 = false → t = u) ∧
            (u.ringRoom c.val 2 = true → (t.ctx c.val).serving.build = none)) ∧
          (let f := confSub b.conf
           f 14 = 0 → d = (s.hbmShare c.val (f 8) 64).take 8 ++ toLe 8 (max (f 13 % 2 ^ 64) (s.now + f 12)) ++
             slice (s.hbmShare c.val (f 8) 64) 16 40 ++ toLe 4 b.step ++ slice (s.hbmShare c.val (f 8) 64) 60 4))) ∧
    ((v.build = none ∨ (s.ctx c.val).life.state ≠ .live) → exec (.stepPost c) s = .next s) ∧
    (∀ x : BitVec 32, s.pcie.linkUp = true → s.fw.stage = 2 → ¬secondary →
      let u := s.forwardIn c.val (.regWrite c 0x1000 x)
      ((x - v.reqHead).toNat ≤ s.cfgNum (0xD100 + c.val) 6 → exec (.ctxSeqReqTail c x) s =
        .next (u.updCtx c.val fun y => { y with serving := { y.serving with reqTail := x } })) ∧
      (s.cfgNum (0xD100 + c.val) 6 < (x - v.reqHead).toNat → exec (.ctxSeqReqTail c x) s = .next u)) ∧
    (∀ x : BitVec 32, (s.pcie.linkUp = false ∨ s.fw.stage ≠ 2 ∨ secondary) →
      exec (.ctxSeqReqTail c x) s = .next s)

/-- The host's registers. A doorbell moves the tail of an enabled ring, or raises a ring notice where the ring would
overflow; behind a BAR2 write of the function that is not in HBM, or behind a doorbell that waits, it waits. Ring control
enables a ring with its indexes at 0 and disables an empty one; the completion head moves up to the tail. A register read
answers the register at its offset (the operand of COUNTER_LO_READ is any offset: the model's choice, log entry 83); that
of a counter's low half latches the high half, which its own read answers within 128 ticks. A BAR2 access of a function whose
context accepts commands, inside its share, is a transfer of its context: a write of its bytes, or a read that answers them;
outside the share it is an unsupported request, a poisoned write is dropped and reported, and in TRIPPED the device aborts
it. A register write acts by its offset; an unaligned one, or one beyond the BAR, is reported. -/
def Obligations.HostRegistersAndBars : Prop :=
  (∀ (c : CtxId) (s : State), s.pcie.linkUp = true → s.fw.stage = 2 →
     ¬(s.pair.role = 2 ∧ s.pair.state = 1) →
     (∀ (r : RingId) (v : BitVec 32),
       let y := s.ring c.val r.val
       let u := s.forwardIn c.val (.regWrite c (256 * r.val + 12) v)
       let opened := y.enable = true ∧ s.accepting c.val = true ∧ s.enginePosts c.val r.val = false ∧ s.safety.tripped = false
       let waits := s.postedWrites c.val = true ∨ (s.ctx c.val).host.doorbells ≠ []
       (waits → exec (.ringDoorbell c r v) s = .next (u.updHost c.val fun h => { h with doorbells := h.doorbells ++ [(r, v)] })) ∧
       (¬waits → opened → (v - y.tail).toNat ≤ y.entries → (v - y.head).toNat ≤ y.entries →
         exec (.ringDoorbell c r v) s = .next (u.updRing c.val r.val fun y => { y with tail := v })) ∧
       (¬waits → opened → (y.entries < (v - y.tail).toNat ∨ y.entries < (v - y.head).toNat) →
         ∃ t : State, exec (.ringDoorbell c r v) s = .next t ∧ (t.ring c.val r.val).fulls = satAdd y.fulls 1 ∧
           (t.ring c.val r.val).tail = y.tail ∧ (s.slotFree c.val r.val = true → s.silent c.val = false →
             t.hostMem = s.hostMem.writeBytes y.cqSlot (completionRecord 0xFFFFFFFF 8 s.tick.now v) ∧
             (t.ring c.val r.val).cqTail = y.cqTail + 1)) ∧
       (¬waits → ¬opened → exec (.ringDoorbell c r v) s = .next u)) ∧
     (∀ (r : RingId) (log2 : BitVec 4),
       let y := s.ring c.val r.val
       let u := fun on => s.forwardIn c.val (.regWrite c (256 * r.val + 8) (BitVec.ofNat 32 (b2n on + 2 * log2.toNat)))
       (y.enable = false → 4 ≤ log2.toNat → log2.toNat ≤ 12 → exec (.ringEnable c r true log2) s =
         .next ((u true).updRing c.val r.val fun y =>
           { y with log2 := log2, enable := true, tail := 0, head := 0, cqHead := 0, cqTail := 0 })) ∧
       (y.enable = false → ¬(4 ≤ log2.toNat ∧ log2.toNat ≤ 12) → exec (.ringEnable c r true log2) s =
         .next ((u true).updRing c.val r.val fun y => { y with enable := true, tail := 0, head := 0, cqHead := 0, cqTail := 0 })) ∧
       (y.enable = true → s.openCount c.val r.val = 0 → exec (.ringEnable c r false log2) s =
         .next ((u false).updRing c.val r.val fun y => { y with enable := false })) ∧
       (y.enable = true → s.openCount c.val r.val ≠ 0 → exec (.ringEnable c r false log2) s = .next (u false)) ∧
       (y.enable = true → exec (.ringEnable c r true log2) s = .next (u true)) ∧
       (y.enable = false → 4 ≤ log2.toNat → log2.toNat ≤ 12 → exec (.ringEnable c r false log2) s =
         .next ((u false).updRing c.val r.val fun y => { y with log2 := log2 }))) ∧
     (∀ (r : RingId) (v : BitVec 32),
       let y := s.ring c.val r.val
       let u := s.forwardIn c.val (.regWrite c (256 * r.val + 0x20) v)
       ((v - y.cqHead).toNat ≤ (y.cqTail - y.cqHead).toNat → exec (.cqHeadWrite c r v) s =
         .next (u.updRing c.val r.val fun y => { y with cqHead := v })) ∧
       ((y.cqTail - y.cqHead).toNat < (v - y.cqHead).toNat → exec (.cqHeadWrite c r v) s = .next u))) ∧
  (∀ (c : CtxId) (s : State), s.pcie.linkUp = true →
     let reads := fun (off : Nat) (x : BitVec 32) => exec (.counterLoRead c off) s = .next (s.emit (.regRead c x))
     let h := (s.ctx c.val).host
     (∀ off, (off % 4 ≠ 0 ∨ (if c = 0 then 0x4000000 else 0x100000) ≤ off) →
       exec (.counterLoRead c off) s = .next ((s.emit (.aer c 1)).emit (.unsupported c))) ∧
     (∀ off, off % 4 = 0 → off < 0x100000 → s.fw.stage ≠ 2 → reads off (BitVec.ofNat 32 (resetRead off))) ∧
     (s.fw.stage = 2 →
       exec (.counterLoRead c 0x2000) s = .next ((s.updHost c.val fun h =>
         { h with tickLatch := some (s.tick.now.extractLsb' 32 32, s.tick.now) }).emit
           (.regRead c (s.tick.now.extractLsb' 0 32))) ∧
       (∀ v t, h.tickLatch = some (v, t) → s.now ≤ t.toNat + 128 → reads 0x2004 v) ∧
       ((∀ v t, h.tickLatch = some (v, t) → t.toNat + 128 < s.now) → reads 0x2004 (s.tick.now.extractLsb' 32 32)) ∧
       reads 0x2008 (BitVec.ofNat 32 (s.tick.state.toNat + 8 * b2n s.tick.holdover)) ∧
       (∀ r : RingId, reads (256 * r.val + 12) (BitVec.ofNat 32 (s.ring c.val r.val).tail.toNat) ∧
         reads (256 * r.val + 16) (BitVec.ofNat 32 (s.ring c.val r.val).head.toNat) ∧
         reads (256 * r.val + 0x24) (BitVec.ofNat 32 (s.ring c.val r.val).cqTail.toNat)) ∧
       (∀ off, off % 4 = 0 → 0x12000 ≤ off → off < 0x13000 →
         reads off (BitVec.ofNat 32 (leNat (h.mbx.reply.readBytes (off - 0x12000) 4)))) ∧
       reads 0x10000 0 ∧
       (c = 0 → exec (.counterLoRead c 0x100014) s = .next ((s.updHost 0 fun h =>
         { h with lossLatch := some (s.pcie.hostLossTick.extractLsb' 32 32, s.tick.now) }).emit
           (.regRead 0 (s.pcie.hostLossTick.extractLsb' 0 32)))))) ∧
  (∀ (c : CtxId) (s : State), (s.pcie.linkUp = false ∨ s.fw.stage ≠ 2 ∨ (s.pair.role = 2 ∧ s.pair.state = 1)) →
     (∀ r v, exec (.ringDoorbell c r v) s = .next s ∧ exec (.cqHeadWrite c r v) s = .next s) ∧
     (∀ r on log2, exec (.ringEnable c r on log2) s = .next s)) ∧
  (∀ (f : CtxId) (s : State), s.pcie.linkUp = false →
     (∀ off, exec (.counterLoRead f off) s = .next s) ∧ (∀ off v, exec (.registerWrite f off v) s = .next s) ∧
     (∀ off w n p, exec (.bar2Access f off w n p) s = .next s)) ∧
  (∀ (f : CtxId) (s : State), s.pcie.linkUp = true →
     (∀ (offset n : Nat) (w : Option Bytes) (poisoned : Bool), s.safety.tripped = true →
       exec (.bar2Access f offset w n poisoned) s = .next (s.emit (.completerAbort f))) ∧
     (∀ (offset n : Nat) (b : Bytes), s.safety.tripped = false →
       let off := (if f = 0 then s.pcie.bar2Window.toNat else 0) + offset
       let a := s.absAddr f.val 0 1 off
       (∀ p, (s.accepting f.val = false ∨ s.inShare f.val 1 off b.length = false) →
         exec (.bar2Access f offset (some b) n p) s = .next (s.emit (.aer f 1))) ∧
       (∀ p, (s.accepting f.val = false ∨ s.inShare f.val 1 off n = false) →
         exec (.bar2Access f offset none n p) s = .next ((s.emit (.aer f 1)).emit (.unsupported f))) ∧
       (s.accepting f.val = true → s.inShare f.val 1 off b.length = true →
         exec (.bar2Access f offset (some b) n true) s = .next (s.emit (.aer f 2))) ∧
       (s.accepting f.val = true → s.inShare f.val 1 off b.length = true → b ≠ [] →
         ∃ (t : State) (x : Xfer), exec (.bar2Access f offset (some b) n false) s = .next t ∧
           t.hbm = { s.hbm with xfers := s.hbm.xfers ++ [x], nextXfer := s.hbm.nextXfer + 1 } ∧ x.write = true ∧ x.ctx = f ∧
           x.core = none ∧ x.effects = [.mem .hbm a b] ∧
           (∀ l, l ∈ x.lines ↔ a / 64 ≤ l ∧ l ≤ (a + b.length - 1) / 64) ∧ t.hbmMem = s.hbmMem ∧ t.ctxs = s.ctxs) ∧
       (∀ p, s.accepting f.val = true → s.inShare f.val 1 off n = true → 0 < n →
         ∃ (t : State) (x : Xfer), exec (.bar2Access f offset none n p) s = .next t ∧
           t = { s with hbm := { s.hbm with xfers := s.hbm.xfers ++ [x], nextXfer := s.hbm.nextXfer + 1 } } ∧
           x.write = false ∧ x.ctx = f ∧ x.core = none ∧ x.effects = [.bar2 f a n] ∧
           (∀ l, l ∈ x.lines ↔ a / 64 ≤ l ∧ l ≤ (a + n - 1) / 64))) ∧
     (s.fw.stage = 2 →
       (∀ (off : Nat) (v : BitVec 32), (off % 4 ≠ 0 ∨ (if f = 0 then 0x4000000 else 0x100000) ≤ off) →
         exec (.registerWrite f off v) s = .next (s.emit (.aer f 1))) ∧
       (¬(s.pair.role = 2 ∧ s.pair.state = 1) →
         (∀ (off : Nat) (v : BitVec 32), off % 4 = 0 → 0x2000 ≤ off → off < (if f = 0 then 0x4000000 else 0x100000) →
           exec (.registerWrite f off v) s = .next (s.registerWrite f off v)) ∧
         (∀ (off : Nat) (v : BitVec 32), off % 4 = 0 → off < 0x2000 →
           exec (.registerWrite f off v) s = .next ((s.forwardIn f.val (.regWrite f off v)).registerWrite f off v)) ∧
         (∀ v : BitVec 32, ∃ t : State, exec (.registerWrite f 0x3000 v) s = .next t ∧
           (t.ctx f.val).host.intStatus = (s.ctx f.val).host.intStatus &&&
             ~~~(BitVec.ofNat 11 (v.toNat % 2 ^ (if f = 0 then 11 else 8))) ∧
           (t.ctx f.val).host.rings = (s.ctx f.val).host.rings ∧ t.out = s.out ∧ t.cores = s.cores) ∧
         (∀ (off : Nat) (v : BitVec 32), off % 4 = 0 → 0x11000 ≤ off → off < 0x12000 →
           exec (.registerWrite f off v) s = .next (s.updHost f.val fun h =>
             { h with mbx := { h.mbx with request := h.mbx.request.writeBytes (off - 0x11000) (toLe 4 v.toNat) } })) ∧
         (∀ (r : RingId) (v : BitVec 32), (s.ring f.val r.val).enable = false →
           ∃ t : State, exec (.registerWrite f (256 * r.val + 4) v) s = .next t ∧
             t.ring f.val r.val = { (s.ring f.val r.val) with
               base := BitVec.ofNat 64 ((s.ring f.val r.val).base.toNat % 2 ^ 32 + v.toNat * 2 ^ 32) } ∧ t.cores = s.cores) ∧
         (∀ (r : RingId) (v : BitVec 32), (s.ring f.val r.val).enable = true →
           ∃ t : State, exec (.registerWrite f (256 * r.val + 4) v) s = .next t ∧ t.ctxs = s.ctxs ∧ t.cores = s.cores))))

/-- A VF's FLR tears its context down with cause FLR and resets its BAR0; a PF FLR ends the commands of context 0 with
ABORTED and resets the PF's; the loss of the host takes the link down, counts, and does both for every tenant that
is there. PERST deasserted lets the interface train, and the link comes up at a rate and width of its kind; VF
control is ignored and logged while TENANCY_LOCK is 1. -/
def Obligations.HostResetsAndLoss : Prop :=
  ∀ (s : State),
    (∀ c : CtxId, c ≠ 0 → s.pcie.linkUp = true → s.safety.tripped = false → ∃ t : State, exec (.vfFlr c) s = .next t ∧
      (t.ctx c.val).host = {} ∧
      ((s.ctx c.val).life.state ≠ .free → (s.ctx c.val).life.state ≠ .tearingDown →
        (t.ctx c.val).life.state = .tearingDown ∧ (t.ctx c.val).life.cause = 4 ∧
        (t.ctx c.val).life.teardownTick = s.tick.now ∧ (t.ctx c.val).cmds = []) ∧
      (((s.ctx c.val).life.state = .free ∨ (s.ctx c.val).life.state = .tearingDown) →
        (t.ctx c.val).life = (s.ctx c.val).life) ∧ t.cores = s.cores ∧ t.sramMem = s.sramMem) ∧
    (∀ c : CtxId, (c = 0 ∨ s.pcie.linkUp = false) → exec (.vfFlr c) s = .next s) ∧
    (s.pcie.linkUp = true → s.safety.tripped = false → ∃ t : State, exec .pfFlr s = .next t ∧ (t.ctx 0).host = {} ∧
      (t.ctx 0).cmds = [] ∧ t.pcie = { s.pcie with bar2Window := 0 } ∧
      (∀ c : CtxId, c ≠ 0 → (t.ctx c.val).life = (s.ctx c.val).life ∧ (t.ctx c.val).cmds = (s.ctx c.val).cmds)) ∧
    (s.pcie.linkUp = false → exec .pfFlr s = .next s) ∧
    (s.pcie.linkUp = true → ∃ t : State, exec (.hostLoss .dll) s = .next t ∧
      t.pcie = { s.pcie with linkUp := false, rate := 0, width := 0, flit := false,
                             hostLossCount := satAdd s.pcie.hostLossCount 1, hostLossTick := s.tick.now, bar2Window := 0 } ∧
      (¬(s.pair.role = 2 ∧ s.pair.state = 1) → ∀ c : CtxId, c ≠ 0 →
        ((s.ctx c.val).life.state = .creating ∨ (s.ctx c.val).life.state = .live ∨ (s.ctx c.val).life.state = .suspended) →
        (t.ctx c.val).life.state = .tearingDown ∧ (t.ctx c.val).life.cause = 4) ∧
      (s.pair.role = 2 → s.pair.state = 1 → ∀ c : CtxId, c ≠ 0 → (t.ctx c.val).life = (s.ctx c.val).life) ∧
      (t.ctx 0).host = {}) ∧
    (s.pins.por = true → s.pcie.perst = false → ∃ t : State, exec (.hostLoss .perst) s = .next t ∧
      t.pcie.perst = true ∧ t.pcie.linkUp = false ∧ t.pcie.hostLossCount = satAdd s.pcie.hostLossCount 1 ∧
      t.pcie.hostLossTick = s.tick.now) ∧
    (s.pcie.linkUp = false → exec (.hostLoss .dll) s = .next s) ∧
    ((s.pcie.perst = true ∨ s.pins.por = false) → exec (.hostLoss .perst) s = .next s) ∧
    (s.cfgNum 0x8000 3 = 1 → exec .perstDeassert s =
      .next { s with pcie := { s.pcie with perst := false, numVfs := 63, vfEnable := true } }) ∧
    (s.cfgNum 0x8000 3 ≠ 1 → s.pcie.perst = true → exec .perstDeassert s =
      .next { s with pcie := { s.pcie with perst := false, numVfs := 0, vfEnable := false } }) ∧
    (s.cfgNum 0x8000 3 ≠ 1 → s.pcie.perst = false → exec .perstDeassert s = .next s) ∧
    (∀ rate width flit, 1 ≤ rate.toNat → rate.toNat ≤ 6 → width.toNat ∈ [1, 2, 4, 8, 16] → (rate.toNat = 6 → flit = true) →
      s.pins.por = true → s.pcie.perst = false → ∃ t : State, exec (.pcieLinkUp rate width flit) s = .next t ∧
        t.pcie = { s.pcie with linkUp := true, rate := rate, width := width, flit := flit } ∧ t.ctxs = s.ctxs ∧ t.cores = s.cores) ∧
    (∀ (rate : BitVec 4) (width : BitVec 5) flit, (s.pins.por = false ∨ s.pcie.perst = true ∨ rate.toNat = 0 ∨
      6 < rate.toNat ∨ width.toNat ∉ [1, 2, 4, 8, 16] ∨ (rate.toNat = 6 ∧ flit = false)) → exec (.pcieLinkUp rate width flit) s = .next s) ∧
    (∀ n e, s.pcie.linkUp = true → s.cfgNum 0x8000 3 ≠ 1 →
      exec (.sriovControlWrite n e) s = .next { s with pcie := { s.pcie with numVfs := n, vfEnable := e } }) ∧
    (∀ n e, s.pcie.linkUp = true → s.cfgNum 0x8000 3 = 1 → ∃ t : State, exec (.sriovControlWrite n e) s = .next t ∧
      t = { s with fw := t.fw, out := t.out } ∧
      (s.cfgNum 0x7020 4 ≤ 2 → t.fw.logSeq = s.fw.logSeq + 1)) ∧
    (∀ n e, s.pcie.linkUp = false → exec (.sriovControlWrite n e) s = .next s)

/-- A request of the PF mailbox or a datagram of the management port is served by its OP. A datagram whose form or tag fails
is counted and nothing else happens; the same request again is answered with the kept reply, an older one with a stale
status; both change nothing else. READ and SNAP_READ change nothing, a WRITE with an item that fails changes no value, and a
WRITE of one staged item puts it into the draft, unless a WRITE of the same tick by a later path has written it; SNAPSHOT on
the operator's path copies one entry whole into the snapshot buffer, of which SNAP_READ answers a part. Before the ready
point nothing is served. (Serving a request may pass a firmware trace point: the model's choice, log entry 86.) -/
def Obligations.DictionaryRequests : Prop :=
  ∀ (s : State) (op : Nat) (i : ReqSource → Instr),
    (op, i) ∈ ([(1, .read), (2, .write), (3, .snapshot), (4, .snapRead)] : List (Nat × (ReqSource → Instr))) →
    (∀ src, s.fw.stage ≠ 2 → exec (i src) s = .next s) ∧
    (s.fw.stage = 2 →
      let m := (s.ctx 0).host.mbx
      let q := parseRequest m.taken true
      let v := s.serveRequest .h q 4072
      (m.busy = true → m.ready = none → q.op = op → exec (i .pf) s = .next ((v.s.trace (.request op)).updHost 0 fun h =>
        { h with mbx := { h.mbx with ready := some (replyBytes q v.status v.items v.body, s.tick.now) } })) ∧
      ((m.busy = false ∨ m.ready ≠ none ∨ (q.op ≠ op ∧ 1 ≤ q.op ∧ q.op ≤ 4)) → exec (i .pf) s = .next s)) ∧
    (∀ d : Bytes, s.fw.stage = 2 → field d 3 1 = op →
      let n := field d 16 2
      let slot := field d 5 1
      let wellFormed := 40 ≤ d.length ∧ field d 0 2 = 0x4744 ∧ field d 2 1 = 1 ∧ n ≤ 1408 ∧ d.length = 40 + n ∧ slot ≤ 3
      let q := parseRequest d false
      let last := s.mgmt.lastSeq.get 0 slot
      ((¬wellFormed ∨ s.mgmt.keys.get none slot = none) → exec (i (.gdp d)) s =
        .next { s with mgmt := { s.mgmt with formFails := s.mgmt.formFails + 1 } }) ∧
      (∀ key, wellFormed → s.mgmt.keys.get none slot = some key →
        let tag := (Sha.hmac256 key (d.take (24 + n))).take 16
        (tag ≠ d.drop (24 + n) → exec (i (.gdp d)) s = .next { s with mgmt := { s.mgmt with
          authFails := s.mgmt.authFails.put slot (s.mgmt.authFails.get 0 slot + 1) } }) ∧
        (tag = d.drop (24 + n) → last.toNat < q.seq →
          let v := s.serveRequest .o q 1408
          let u := v.s.trace (.request op)
          let r := sealReply key (replyBytes q v.status v.items v.body)
          exec (i (.gdp d)) s = .next (State.emit { u with mgmt := { u.mgmt with
            lastSeq := u.mgmt.lastSeq.put slot (BitVec.ofNat 64 q.seq)
            kept := u.mgmt.kept.put slot (some (d, r)) } } (.gdp r))) ∧
        (∀ r, tag = d.drop (24 + n) → q.seq = last.toNat → s.mgmt.kept.get none slot = some (d, r) →
          exec (i (.gdp d)) s = .next (s.emit (.gdp r))) ∧
        (tag = d.drop (24 + n) → q.seq ≤ last.toNat →
          (q.seq = last.toNat → ∀ r, s.mgmt.kept.get none slot ≠ some (d, r)) →
          exec (i (.gdp d)) s = .next (s.emit (.gdp (sealReply key (replyBytes q 7 0 (toLe 8 last.toNat)))))))) ∧
    (∀ d : Bytes, field d 3 1 ≠ op → 1 ≤ field d 3 1 → field d 3 1 ≤ 4 → exec (i (.gdp d)) s = .next s) ∧
    (∀ k, s.trace k = { s with fw := (s.trace k).fw, out := (s.trace k).out }) ∧
    (∀ (p : Path) (q : Request) (limit : Nat),
      (q.bad = true → s.serveRequest p q limit = { s := s, status := 6, items := 0, body := [] }) ∧
      (q.bad = false → (q.op = 1 → s.serveRequest p q limit = s.serveRead p q limit) ∧
        (q.op = 2 → s.serveRequest p q limit = s.serveWrite p q) ∧ (q.op = 3 → s.serveRequest p q limit = s.serveSnapshot p q) ∧
        (q.op = 4 → s.serveRequest p q limit = s.serveSnapRead p q)) ∧
      (s.serveRead p q limit).s = s ∧ (s.serveSnapRead p q).s = s ∧
      (parseWrites q.body q.items 0 = none → (s.serveWrite p q).s = s ∧ (s.serveWrite p q).status = 6) ∧
      (∀ l, parseWrites q.body q.items 0 = some l →
        let v := s.serveWrite p q
        ((∃ x ∈ s.writeStatuses p s.sets.draft l, x ≠ 0) →
          v.status ≠ 0 ∧ v.s.cfg = s.cfg ∧ v.s.sets = s.sets ∧ v.s.ctxs = s.ctxs ∧ v.s.flash = s.flash ∧ v.s.pair = s.pair) ∧
        (∀ x, l = [x] → s.writeStatuses p s.sets.draft l = [0] →
          ((entryOf x.key).elim false (·.staged) = true → x.key ≠ ekey 0x2000 6 → s.mgmt.wroteTick ≠ s.tick.now →
            v.status = 0 ∧ v.s.sets.draft = Items.stage s.sets.draft (itemOf x) ∧ v.s.cfg = s.cfg ∧ v.s.ctxs = s.ctxs) ∧
          (actsAtOnce x.key = false → s.mgmt.wroteTick = s.tick.now → p.rank < s.mgmt.wroteBy.get 0 x.key →
            v.status = 0 ∧ v.s.sets = s.sets ∧ v.s.cfg = s.cfg ∧ v.s.ctxs = s.ctxs)))) ∧
    (∀ (q : Request) (e : Entry) (acc : Access), q.items = 1 → q.body.length = 4 → field q.body 3 1 = 0 →
      s.reach .o (ekey (field q.body 0 2) (field q.body 2 1)) = some (e, acc) →
      let v := s.serveSnapshot .o q
      v.status = 0 ∧ v.s = { s with mgmt := { s.mgmt with
        snap := some (s.sampleValue 0 e (ekey (field q.body 0 2) (field q.body 2 1)) acc, s.tick.now) } }) ∧
    (∀ (q : Request) (b : Bytes) (at_ : Word), q.items = 1 → q.body.length = 8 → field q.body 6 2 = 0 →
      s.mgmt.snap = some (b, at_) → field q.body 0 4 + field q.body 4 2 ≤ b.length → field q.body 4 2 ≤ 1376 →
      (s.serveSnapRead .o q).status = 0 ∧ (s.serveSnapRead .o q).body = toLe 8 at_.toNat ++ toLe 4 (field q.body 4 2) ++
        [0, 0, 0, 0] ++ pad4 (slice b (field q.body 0 4) (field q.body 4 2)))

/-- MBX_RING takes a request that does not find the mailbox busy; a tenant's is served at r + 1,024 and shows at r +
62,500, and not before the tick after a copy into the share has ended, when its reply is written, MBX_BUSY cleared and
MBX_DONE set. FLAGS_CLEAR clears the flags of its mask,
OOB_CLEAR the count and its flag, GOV_CLEAR the flag GOVERNED. -/
def Obligations.MailboxesAndClears : Prop :=
  ∀ (c : CtxId) (s : State),
    let m := (s.ctx c.val).host.mbx
    let st := (s.ctx c.val).life.state
    let heard := s.pcie.linkUp = true ∧ s.fw.stage = 2 ∧ ¬(s.pair.role = 2 ∧ s.pair.state = 1)
    (heard → m.busy = false → s.safety.tripped = false → (c = 0 ∨ (st ≠ .free ∧ st ≠ .creating)) →
      exec (.mbxRing c) s = .next (s.updHost c.val fun h => { h with mbx :=
        { m with busy := true, taken := m.request.readBytes 0 4096, ringTick := s.tick.now, ready := none } })) ∧
    ((¬heard ∨ m.busy = true ∨ s.safety.tripped = true ∨ (c ≠ 0 ∧ (st = .free ∨ st = .creating))) →
      exec (.mbxRing c) s = .next s) ∧
    (c ≠ 0 → m.busy = true → m.ready = none → m.ringTick.toNat + 1024 ≤ s.now →
      let q := parseRequest m.taken true
      let v := s.serveRequest (.t c.val) q 4072
      exec (.mbxTService c) s = .next ((v.s.trace (.request q.op)).updHost c.val fun h => { h with mbx := { h.mbx with
        ready := some (replyBytes q v.status v.items v.body, m.ringTick + 62500) } })) ∧
    ((c = 0 ∨ m.busy = false ∨ m.ready ≠ none ∨ s.now < m.ringTick.toNat + 1024) →
      exec (.mbxTService c) s = .next s) ∧
    (∀ r t0, m.ready = some (r, t0) → m.busy = true → t0.toNat ≤ s.now → m.copying = false →
      (∀ u, m.copied = some u → u.toNat < s.now) → ∃ t : State, exec (.mbxReply c) s = .next t ∧
      (t.ctx c.val).host.mbx =
        { m with busy := false, done := true, ready := none, copied := none, taken := [], reply := m.reply.writeBytes 0 r } ∧
      (s.silent c.val = false → (t.ctx c.val).host.intStatus = (s.ctx c.val).host.intStatus ||| 1) ∧
      t.cfg = s.cfg ∧ t.sets = s.sets ∧ t.cores = s.cores) ∧
    (∀ r t0, m.ready = some (r, t0) → (m.busy = false ∨ s.now < t0.toNat ∨ m.copying = true ∨
      ∃ u, m.copied = some u ∧ s.now ≤ u.toNat) → exec (.mbxReply c) s = .next s) ∧
    (m.ready = none → exec (.mbxReply c) s = .next s) ∧
    (∀ mask : BitVec 16, exec (.flagsClear c mask) s = .next (s.updCtx c.val fun x => { x with flags := x.flags &&& ~~~mask })) ∧
    exec (.oobClear c) s = .next (s.updCtx c.val fun x => { x with oobCount := 0, flags := x.flags &&& ~~~Flag.oob }) ∧
    exec (.govClear c) s = .next (s.updCtx c.val fun x => { x with energy := { x.energy with governed := false } })

/-- FLASH_WRITE writes its bytes into the slot that did not start, after the erase of a 64-KiB block that it begins, and
holds the flash busy until it is done (the end of a flash write may pass a firmware trace point: the model's choice, log
entry 86); one that breaks the rules writes nothing. FUSE_PROGRAM programs one bit of
the rollback floor, whose value reads after the last one, or revokes the next key slot. -/
def Obligations.FlashAndFuses : Prop :=
  ∀ (s : State),
    (∀ (offset : Nat) (data : Bytes), s.memOk = true → s.fw.stage = 2 → s.flashWriteOk offset data = true →
      let a := 0x100000 + (1 - s.fw.bootSlot) * ((s.ident.flash.mib - 1) * 1048576 / 2) + offset
      ∃ t : State, exec (.flashWrite offset data) s = .next t ∧ t.flash.readBytes a data.length = data ∧
        t.fw = { s.fw with flashBusy := true } ∧
        (∀ b, (b < a ∨ a + max data.length 65536 ≤ b) → t.flash.read b = s.flash.read b) ∧
        (∀ b, offset % 65536 = 0 → a + data.length ≤ b → b < a + 65536 → t.flash.read b = 0xFF) ∧
        (∀ b, offset % 65536 ≠ 0 → a + data.length ≤ b → t.flash.read b = s.flash.read b) ∧
        t = { s with flash := t.flash, fw := t.fw }) ∧
    (∀ (offset : Nat) (data : Bytes), (s.fw.stage ≠ 2 ∨ s.flashWriteOk offset data = false) →
      exec (.flashWrite offset data) s = .next s) ∧
    (∀ offset data, s.flashWriteOk offset data = true → offset % 256 = 0 ∧ data.length % 256 = 0 ∧ 256 ≤ data.length ∧
      data.length ≤ 1024 ∧ offset + data.length ≤ (s.ident.flash.mib - 1) * 1048576 / 2 ∧ s.fw.flashBusy = false) ∧
    (s.fw.flashBusy = true →
      exec .flashWriteDone s = .next (State.trace { s with fw := { s.fw with flashBusy := false } } .flash)) ∧
    (s.fw.flashBusy = false → exec .flashWriteDone s = .next s) ∧
    (s.safety.blown + 1 < s.safety.rollbackTarget →
      exec .fuseProgram s = .next { s with safety := { s.safety with blown := s.safety.blown + 1 } }) ∧
    (s.safety.blown + 1 = s.safety.rollbackTarget → exec .fuseProgram s = .next { s with safety := { s.safety with
      blown := s.safety.rollbackTarget, rollback := s.safety.rollbackTarget } }) ∧
    (s.safety.rollbackTarget ≤ s.safety.blown →
      (s.safety.revokePending = [] → exec .fuseProgram s = .next s) ∧
      (∀ k rest, s.safety.revokePending = k :: rest → k ∉ s.safety.revoked → exec .fuseProgram s = .next { s with
        safety := { s.safety with revokePending := rest, revoked := k :: s.safety.revoked } }) ∧
      (∀ k rest, s.safety.revokePending = k :: rest → k ∈ s.safety.revoked → exec .fuseProgram s = .next { s with
        safety := { s.safety with revokePending := rest } }))

/-- A configuration command that CMD accepts, one in a tick, and none but ABORT while one is in service or a group commit
holds the draft: CHECK, COMMIT of the device alone and REVERT are in service until their check is done; a COMMIT of the
group runs on the lead, which sends the PREPARE, and fails on any other device; DISCARD empties the draft; ABORT drops a set
that has not activated. A check that fails ends with status 9, its reason and its entry; a CHECK that passes leaves a draft
CHECKED, a COMMIT that passes makes its draft the pending set, a REVERT the differences from the previous set. A command
that CMD does not accept changes nothing. (The end of a check may pass a firmware trace point: the model's choice, log
entry 86.) -/
def Obligations.ConfigurationCommands : Prop :=
  ∀ (s : State),
    let n := { s.sets with commitId := s.sets.commitId + 1, cmdTick := some s.tick.now }
    let serve := fun (k : CfgCmd) (d : DraftState) => { n with
      service := some k, serviceDone := false, serviceTick := s.tick.now, serviceActTick := s.sets.actTick, draftState := d }
    let ends := fun (t : State) (status reason entry : Nat) => t.sets.status = status ∧ t.sets.checkReason = reason ∧
      t.sets.checkEntry = entry ∧ t.sets.terminalTick = s.tick.now ∧ t.cfg = s.cfg ∧ t.cores = s.cores
    (s.cmdAllowed 1 = true → exec .check s = .next { s with sets := serve .check .checking }) ∧
    (s.cmdAllowed 2 = true → s.sets.groupScope = false →
      exec .commit s = .next { s with sets := serve .commit .committing }) ∧
    (s.cmdAllowed 2 = true → s.sets.groupScope = true →
      (s.topo.role ≠ 1 → ∃ (t : State) (r e : Nat), exec .commit s = .next t ∧ ends t 9 r e ∧ (r = 14 ∨ r = 16)) ∧
      (s.topo.role = 1 → s.sets.actTick = 0 → s.now + 786432 < 2 ^ 64 → ∃ t : State, exec .commit s = .next t ∧
        t.sets.groupActTick = some (s.tick.now + 786432) ∧ t.sets.participants = s.participants ∧
        t.sets.service = some .commit ∧ t.cfg = s.cfg ∧ t.cores = s.cores ∧
        .prepare (s.sets.commitId + 1) (s.tick.now + 786432) s.topo.leadEpoch ∈ t.out)) ∧
    (∀ k, s.cmdAllowed k = true ↔ s.fw.stage = 2 ∧ s.sets.cmdTick ≠ some s.tick.now ∧
      (k = 5 ∨ (s.sets.service = none ∧ s.sets.draftState ≠ .prepared))) ∧
    (s.cmdAllowed 3 = true → exec .revert s = .next { s with sets := serve .revert s.sets.draftState }) ∧
    (s.cmdAllowed 4 = true → ∃ t : State, exec .discard s = .next t ∧ ends t 0 0 0 ∧ t.sets.draft = [] ∧
      t.sets.draftState = .empty ∧ t.sets.commitId = s.sets.commitId + 1 ∧ t.sets.pending = s.sets.pending) ∧
    (s.cmdAllowed 5 = true → s.sets.groupActTick = none →
      (s.sets.pending = none → ∃ t : State, exec .configAbort s = .next t ∧ ends t 1 0 0 ∧ t.sets.draft = s.sets.draft) ∧
      (∀ p, s.sets.pending = some p → (p.group = true ∨ p.actTick.toNat ≤ s.now) →
        ∃ t : State, exec .configAbort s = .next t ∧ ends t 1 0 0 ∧ t.sets.pending = some p) ∧
      (∀ p, s.sets.pending = some p → p.group = false → s.now < p.actTick.toNat →
        ∃ t : State, exec .configAbort s = .next t ∧ ends t 0 0 0 ∧ t.sets.pending = none ∧ t.sets.service = none ∧
          t.sets.draft = s.sets.draft)) ∧
    (s.cmdAllowed 5 = true → s.sets.groupActTick ≠ none → ∃ t : State, exec .configAbort s = .next t ∧ ends t 0 0 0 ∧
      t.sets.groupActTick = none ∧ t.sets.service = none ∧ t.out.head? = some (.decision none)) ∧
    ((s.cmdAllowed 1 = false → exec .check s = .next s) ∧ (s.cmdAllowed 2 = false → exec .commit s = .next s) ∧
      (s.cmdAllowed 3 = false → exec .revert s = .next s) ∧ (s.cmdAllowed 4 = false → exec .discard s = .next s) ∧
      (s.cmdAllowed 5 = false → exec .configAbort s = .next s)) ∧
    ((s.sets.serviceDone = true ∨ s.sets.service = none) → exec .checkDone s = .next s) ∧
    (s.sets.serviceDone = false → s.sets.service = some .check →
      (∀ f, s.checkSet s.sets.draft [] = some f → ∃ t : State, exec .checkDone s = .next t ∧ ends t 9 f.1 f.2 ∧
        t.sets.service = none ∧ t.sets.draft = s.sets.draft) ∧
      (s.checkSet s.sets.draft [] = none → ∃ t : State, exec .checkDone s = .next t ∧ ends t 0 0 0 ∧ t.sets.service = none ∧
        t.sets.draft = s.sets.draft ∧ (s.sets.draft ≠ [] → t.sets.draftState = .checked))) ∧
    (s.sets.serviceDone = false → s.sets.service = some .commit → s.sets.serviceActTick = 0 →
      (∀ f, s.checkSet s.sets.draft s.pendingFailure = some f → ∃ t : State, exec .checkDone s = .next t ∧ ends t 9 f.1 f.2 ∧
        t.sets.service = none ∧ t.sets.draft = s.sets.draft ∧ t.sets.pending = s.sets.pending) ∧
      (s.checkSet s.sets.draft s.pendingFailure = none → exec .checkDone s = .next (State.trace { s with sets := { s.sets with
        serviceDone := true, draft := [], draftState := .empty
        pending := some { items := s.sets.draft, actTick := BitVec.ofNat 64 (s.now + 1024), commitId := s.sets.commitId } } }
          .check))) ∧
    (s.sets.serviceDone = false → s.sets.service = some .commit → s.sets.serviceActTick ≠ 0 →
      s.now + 1024 ≤ s.sets.serviceActTick.toNat → s.checkSet s.sets.draft s.pendingFailure = none →
      exec .checkDone s = .next (State.trace { s with sets := { s.sets with
        serviceDone := true, draft := [], draftState := .empty
        pending := some { items := s.sets.draft, actTick := s.sets.serviceActTick, commitId := s.sets.commitId } } } .check)) ∧
    (s.sets.serviceDone = false → s.sets.service = some .commit → s.sets.serviceActTick ≠ 0 →
      s.sets.serviceActTick.toNat < s.now + 1024 → ∃ (t : State) (r e : Nat), exec .checkDone s = .next t ∧ ends t 9 r e ∧
        t.sets.service = none ∧ t.sets.draft = s.sets.draft ∧ t.sets.pending = s.sets.pending) ∧
    (s.sets.serviceDone = false → s.sets.service = some .revert →
      (s.sets.previous = none → ∃ (t : State) (r e : Nat), exec .checkDone s = .next t ∧ ends t 9 r e ∧
        t.sets.service = none ∧ t.sets.pending = s.sets.pending) ∧
      (∀ old f, s.sets.previous = some old → s.sets.serviceActTick = 0 →
        s.checkSet (revertItems s.cfg old) s.pendingFailure = some f → ∃ t : State, exec .checkDone s = .next t ∧
          ends t 9 f.1 f.2 ∧ t.sets.service = none ∧ t.sets.pending = s.sets.pending) ∧
      (∀ old, s.sets.previous = some old → s.sets.serviceActTick = 0 → s.checkSet (revertItems s.cfg old) s.pendingFailure = none →
        exec .checkDone s = .next (State.trace { s with sets := { s.sets with
          serviceDone := true
          pending := some { items := revertItems s.cfg old, actTick := BitVec.ofNat 64 (s.now + 1024)
                            commitId := s.sets.commitId } } } .check)))

/-- A group commit. A participant that obeys the PREPARE, once, checks its draft and answers READY with its version, or a VETO
with its reason, or VETO 20 where its tick unit is in no state of R686, and floods the PREPARE on; a vote is passed on to the
lead; the lead collects one vote of each
participant and decides COMMIT, with a version above every one voted, at the last READY; it decides ABORT at the
first VETO, or with a VETO 17 for the lowest participant that is missing 65,536 ticks before the activation. The
decision makes a prepared draft pending, or discards it; a participant without one by ACT_TICK − 16,384 discards it.
The decision is flooded on. A pending set takes effect at its tick unless a trip came first, but not on a mirroring secondary;
one with REBOOT 1 starts the ROM. Where none of this applies, nothing changes. -/
def Obligations.GroupCommitsAndActivation : Prop :=
  ∀ (s : State),
    (∀ (id : BitVec 32) (act : Word) (epoch : BitVec 32),
      let u : State := { s with sets := { s.sets with preparedEpoch := some epoch, preparedTick := act, preparedId := id } }
      let known := s.sets.preparedEpoch = some epoch ∧ s.sets.preparedId = id
      let answers := fun (w : State) (v : Vote) => exec (.prepareReceive id act epoch) s =
        .next (((w.emit (.vote v)).passVote s.topo.selfAddr v).sendPrepare id act epoch)
      ((s.topo.role = 1 ∨ epoch.toNat < s.topo.leadEpoch.toNat ∨ known) → exec (.prepareReceive id act epoch) s = .next s) ∧
      (s.topo.role ≠ 1 → s.topo.leadEpoch.toNat ≤ epoch.toNat → ¬known →
        (∀ f, u.checkSet s.sets.draft s.pendingFailure = some f →
          answers { u with sets := { u.sets with checkReason := f.1, checkEntry := f.2 } } (.veto f.1)) ∧
        (u.checkSet s.sets.draft s.pendingFailure = none → (s.tick.state = 1 ∨ s.tick.state = 2 ∨ s.tick.state = 3) →
          answers { u with sets := { u.sets with draftState := .prepared } } (.ready s.sets.activeVersion)) ∧
        (u.checkSet s.sets.draft s.pendingFailure = none → ¬(s.tick.state = 1 ∨ s.tick.state = 2 ∨ s.tick.state = 3) →
          answers { u with sets := { u.sets with draftState := .prepared, checkReason := 20 } } (.veto 20)))) ∧
    (∀ (a : BitVec 16) (v : Vote),
      let counts := s.sets.groupActTick.isSome = true ∧ a ∈ s.sets.participants ∧ ∀ x ∈ s.sets.votes, x.1 ≠ a
      (s.topo.role = 1 → counts →
        exec (.voteReceive a v) s = .next { s with sets := { s.sets with votes := s.sets.votes ++ [(a, v)] } }) ∧
      (s.topo.role = 1 → ¬counts → exec (.voteReceive a v) s = .next s) ∧
      (∀ l, s.topo.role ≠ 1 → s.tick.upstream = some l →
        exec (.voteReceive a v) s = .next (s.queueControl l.val (voteBytes a v))) ∧
      (s.topo.role ≠ 1 → s.tick.upstream = none → exec (.voteReceive a v) s = .next s)) ∧
    (let decides := fun (t : State) (status : Nat) (d : Option (BitVec 32)) => t.sets.status = status ∧
        t.sets.terminalTick = s.tick.now ∧ t.sets.groupActTick = none ∧ t.sets.service = none ∧
        t.out.head? = some (.decision d) ∧ t.cfg = s.cfg ∧ t.cores = s.cores
     (∀ act, s.sets.groupActTick = some act → (∀ x ∈ s.sets.votes, ∃ w, x.2 = .ready w) →
        (∀ a ∈ s.sets.participants, ∃ x ∈ s.sets.votes, x.1 = a) →
        ∃ t : State, exec .commitDecide s = .next t ∧ decides t 0 (some (BitVec.ofNat 32 (maxVersion s.sets.votes + 1))) ∧
          (∀ a w, (a, Vote.ready w) ∈ s.sets.votes → w.toNat ≤ maxVersion s.sets.votes)) ∧
     (∀ act pre a r post, s.sets.groupActTick = some act → s.sets.votes = pre ++ (a, .veto r) :: post →
        (∀ x ∈ pre, ∃ w, x.2 = .ready w) → ∃ t : State, exec .commitDecide s = .next t ∧ decides t 0x0A none ∧
          t.sets.vetoAddr = a ∧ t.sets.checkReason = r) ∧
     (∀ act, s.sets.groupActTick = some act → (∀ x ∈ s.sets.votes, ∃ w, x.2 = .ready w) →
        (∃ a ∈ s.sets.participants, ∀ x ∈ s.sets.votes, x.1 ≠ a) →
        (s.now + 65536 < act.toNat → exec .commitDecide s = .next s) ∧
        (act.toNat ≤ s.now + 65536 → ∃ t : State, exec .commitDecide s = .next t ∧ decides t 0x0A none ∧
          t.sets.checkReason = 17 ∧ t.sets.vetoAddr ∈ s.sets.participants ∧
          (∀ a ∈ s.sets.participants, (∀ x ∈ s.sets.votes, x.1 ≠ a) → t.sets.vetoAddr.toNat ≤ a.toNat)))) ∧
    (s.sets.groupActTick = none → exec .commitDecide s = .next s) ∧
    (let taken := fun (t : State) => t.sets.draft = [] ∧ t.sets.draftState = .empty ∧ t.sets.preparedEpoch = none ∧
        t.sets.terminalTick = s.tick.now ∧ t.cfg = s.cfg ∧ t.cores = s.cores
     (∀ v, s.sets.groupActTick = none → s.sets.preparedEpoch ≠ none → s.sets.draftState = .prepared →
        ∃ t : State, exec (.decisionReceive (some v)) s = .next t ∧ taken t ∧ t.out.head? = some (.decision (some v)) ∧ t.sets.status = 0 ∧ t.sets.pending = some
          { items := s.sets.draft, actTick := s.sets.preparedTick, commitId := s.sets.preparedId, version := some v, group := true }) ∧
     (s.sets.groupActTick = none → s.sets.preparedEpoch ≠ none →
        ∃ t : State, exec (.decisionReceive none) s = .next t ∧ taken t ∧ t.out.head? = some (.decision none) ∧ t.sets.status = 0x0A ∧
          t.sets.checkReason = s.sets.checkReason ∧ t.sets.pending = s.sets.pending) ∧
     (s.sets.groupActTick = none → s.sets.draftState = .prepared → s.sets.preparedEpoch ≠ none →
        s.sets.preparedTick.toNat ≤ s.now + 16384 → ∃ t : State, exec .noDecision s = .next t ∧ taken t ∧
          t.sets.status = 0x0A ∧ t.sets.checkReason = 18 ∧ t.sets.pending = s.sets.pending)) ∧
    (∀ v, (s.sets.groupActTick ≠ none ∨ s.sets.preparedEpoch = none) → exec (.decisionReceive v) s = .next s) ∧
    ((s.sets.groupActTick ≠ none ∨ s.sets.draftState ≠ .prepared ∨ s.now + 16384 < s.sets.preparedTick.toNat) →
      exec .noDecision s = .next s) ∧
    (∀ p, s.sets.pending = some p →
      let secondary := s.pair.role = 2 ∧ s.pair.state = 1
      (p.actTick.toNat ≤ s.now → s.tripHolds p.actTick.toNat = false → ¬secondary → Items.num p.items 0x7010 4 = some 1 →
        ∃ t : State, exec .setActivation s = .next t ∧ t.fw.stage = 1 ∧ t.ident.bootCount = s.ident.bootCount + 1 ∧
          t.sets.pending = none ∧ t.pending = s.pending) ∧
      (p.actTick.toNat ≤ s.now → s.tripHolds p.actTick.toNat = false → ¬secondary → Items.num p.items 0x7010 4 ≠ some 1 →
        ∃ t : State, exec .setActivation s = .next t ∧ t.sets.pending = none ∧
          t.sets.activeVersion = p.version.getD (s.sets.activeVersion + 1) ∧ t.sets.previous = some s.cfg ∧
          t.sets.previousVersion = s.sets.activeVersion ∧ t.sets.lastActTick = s.tick.now ∧
          t.cfg = (s.withItems p.items).cfg) ∧
      ((s.now < p.actTick.toNat ∨ s.tripHolds p.actTick.toNat = true ∨ secondary) → exec .setActivation s = .next s)) ∧
    (s.sets.pending = none → exec .setActivation s = .next s)

/-- An energy window starts: the measured energy is reconciled, the new values come into force, and with no deferred
command every context with an account has its refill, to its largest balance. A thermal sample sets and clears the
warning and, at the limit, a trip condition; so does the fourth sample in a row of a rail outside its limits, and
the partition's watchdog; TRIP_ASSERT makes the device TRIPPED with the cause and tick of the sample, TRIP_STOP
stops its engines and puts HBM into self-refresh. While POR_N is low a rail's sample is noted and compared with nothing, and
nothing else of this changes anything. -/
def Obligations.EnergyAndTrips : Prop :=
  ∀ (s : State),
    (∀ measured, s.now % s.cfgNum 0x3000 4 = 0 → s.energy.windowStart ≠ s.tick.now → s.tick.rootLocked = true →
      (∀ c x, x ∈ (s.ctx c).cmds → x.phase ≠ .deferred) →
      let u := (s.reconcile measured).latchShares
      ∃ t : State, exec (.energyWindowStart measured) s = .next t ∧ t.energy.measured = measured ∧
        t.energy.reconError = s.reconAfter measured ∧ t.energy.scale = (s.scaleAfter (s.reconAfter measured)).1 ∧
        t.energy.capW = s.cfgNum 0x3000 1 ∧ t.energy.windowGt = s.cfgNum 0x3000 4 ∧ t.energy.carry = s.cfgNum 0x3000 5 ∧
        t.energy.windowStart = s.tick.now ∧ t.energy.windowDebits = 0 ∧ t.energy.windowDeferred = false ∧
        (∀ c : CtxId, s.refilled c.val = true → (t.ctx c.val).energy = { (s.ctx c.val).energy with
          refill := u.refillOf c.val, balance := min ((s.ctx c.val).energy.balance + u.refillOf c.val) (u.balanceCap c.val) }) ∧
        (∀ c : CtxId, s.refilled c.val = false → (t.ctx c.val).energy = (s.ctx c.val).energy) ∧
        (∀ c, (t.ctx c).cmds = (s.ctx c).cmds ∧ (t.ctx c).life = (s.ctx c).life) ∧ t.cores = s.cores) ∧
    (∀ measured, (s.now % s.cfgNum 0x3000 4 ≠ 0 ∨ s.energy.windowStart = s.tick.now ∨ s.tick.rootLocked = false) →
      exec (.energyWindowStart measured) s = .next s) ∧
    (let pends := fun (t : State) (cause : Nat) => t.safety.tripPending = some (cause, s.tick.now) ∧
        t.safety.tripped = false ∧ t.ctxs = s.ctxs ∧ t.cores = s.cores
     (∀ mC : Int, s.pins.por = true → ∃ t : State, exec (.thermalSample mC) s = .next t ∧ t.energy.junctionMc = mC ∧
        (95000 ≤ mC → t.energy.thermalWarn = true) ∧ (90000 ≤ mC → t.energy.coolSince = none) ∧
        (90000 ≤ mC → s.energy.thermalWarn = true → t.energy.thermalWarn = true) ∧
        (mC < 90000 → s.energy.coolSince = none → t.energy.coolSince = some s.tick.now) ∧
        (∀ d, mC < 90000 → s.energy.coolSince = some d → 65536 ≤ (s.tick.now - d).toNat → t.energy.thermalWarn = false) ∧
        (mC < (BitVec.ofNat 32 (s.cfgNum 0x8000 1)).toInt → t.safety = s.safety) ∧
        ((BitVec.ofNat 32 (s.cfgNum 0x8000 1)).toInt ≤ mC → s.safety.tripped = false → s.safety.tripPending = none →
          pends t 1)) ∧
     (∀ (r : Fin 16) (mV : BitVec 16), s.pins.por = true → ∃ t : State, exec (.railSample r mV) s = .next t ∧
        t.safety.railMv = s.safety.railMv.put r.val mV ∧
        (s.railOut r.val mV.toNat = false → t.safety.railBad.get 0 r.val = 0 ∧ t.safety.tripPending = s.safety.tripPending) ∧
        (s.railOut r.val mV.toNat = true → t.safety.railBad.get 0 r.val = s.safety.railBad.get 0 r.val + 1) ∧
        (s.railOut r.val mV.toNat = true → s.safety.railBad.get 0 r.val < 3 → t.safety.tripPending = s.safety.tripPending) ∧
        (s.railOut r.val mV.toNat = true → 3 ≤ s.safety.railBad.get 0 r.val → s.safety.tripped = false →
          s.safety.tripPending = none → pends t 2)) ∧
     (s.pins.por = true → s.safety.tripped = false → s.safety.tripPending = none →
        ∃ t : State, exec .partitionWatchdog s = .next t ∧ pends t 3 ∧ t.energy = s.energy)) ∧
    (s.pins.por = false → exec .partitionWatchdog s = .next s ∧ (∀ mC, exec (.thermalSample mC) s = .next s) ∧
      ∀ (r : Fin 16) mV, exec (.railSample r mV) s = .next { s with safety := { s.safety with
        railMv := s.safety.railMv.put r.val mV, railBad := s.safety.railBad.put r.val 0 } }) ∧
    ((s.safety.tripped = true ∨ s.safety.tripPending ≠ none) → exec .partitionWatchdog s = .next s) ∧
    (∀ cause d, s.safety.tripPending = some (cause, d) → ∃ t : State, exec .tripAssert s = .next t ∧
      t.safety = { s.safety with tripPending := none, tripped := true, tripCause := cause, tripTick := d } ∧
      t.pins = { s.pins with tripN := true } ∧ Output.aer 0 3 ∈ t.out ∧
      (s.silent 0 = false → (t.ctx 0).host.intStatus = (s.ctx 0).host.intStatus ||| ((1 : BitVec 11) <<< 10)) ∧
      t.cores = s.cores ∧ t.hbmMem = s.hbmMem) ∧
    (s.safety.tripPending = none → exec .tripAssert s = .next s) ∧
    (s.safety.tripped = true → s.safety.stopped = false → ∃ t : State, exec .tripStop s = .next t ∧
      t.safety = { s.safety with stopped := true } ∧ t.hbm = { s.hbm with selfRefresh := true } ∧
      (s.cfgNum 0x7020 4 ≤ 4 → t.fw.logSeq = s.fw.logSeq + 1) ∧ t.ctxs = s.ctxs ∧ t.cores = s.cores) ∧
    ((s.safety.tripped = false ∨ s.safety.stopped = true) → exec .tripStop s = .next s)

/-- Attestation, the keys of IDE, the management port and the I²C target. The measurement blocks
1 to 4 hold the digests of the ROM and the firmware, the versions and the numerics signature; every SPDM answer carries a signature; a failed IDE check makes its stream Insecure, a key
ends that; the port answers discovery and echo and takes a DHCP address while IPV4_ENABLE is 1; an I²C read answers
bytes of the map from the pointer, and only the first byte of a write is taken. (The form of the answers of SPDM and
of the port is the model's, log entries 12 and 42.) -/
def Obligations.AttestationAndPorts : Prop :=
  ∀ (s : State),
    (let answers := fun (i : Instr) (b : Bytes) =>
        exec i s = .next (s.emit (.spdm (b ++ slice (Config.ecdsaSign b) 0 96)))
     let all := (List.range 6).flatMap fun i => s.measureBlock (i + 1)
     (s.pcie.linkUp = true →
        answers (.getMeasurements 0) [6] ∧ answers (.getMeasurements 0xFF) all ∧
        (∀ i : BitVec 8, i ≠ 0 → i.toNat ≤ 6 → answers (.getMeasurements i)
          (toLe 1 i.toNat ++ toLe 2 (s.measurement i.toNat).length ++ s.measurement i.toNat)) ∧
        (∀ i : BitVec 8, i ≠ 0xFF → 6 < i.toNat → answers (.getMeasurements i) []) ∧
        (∀ nonce, answers (.challenge nonce) (nonce ++ all)) ∧
        (∀ peer, exec (.keyExchange peer) s = .next (State.emit
          { s with pcie := { s.pcie with spdmSession := some (Config.spdmSessionKey peer) } }
          (.spdm (peer ++ slice (Config.ecdsaSign peer) 0 96)))))) ∧
    (s.measurement 1 = slice Config.romDigest 0 48 ∧ s.measurement 2 = slice s.fw.fwDigest 0 48 ∧ s.measurement 3 = toLe 4 s.fw.securityVersion ++ toLe 4 s.safety.rollback ∧ s.measurement 4 = s.signature) ∧
    (s.pcie.linkUp = false → (∀ i, exec (.getMeasurements i) s = .next s) ∧ (∀ n, exec (.challenge n) s = .next s) ∧
      (∀ p, exec (.keyExchange p) s = .next s)) ∧
    (∀ st : Fin 4, ∃ t : State, exec (.ideCheckFail st) s = .next t ∧ st.val ∈ t.pcie.ideInsecure ∧
      (∀ x, x ≠ st.val → (x ∈ t.pcie.ideInsecure ↔ x ∈ s.pcie.ideInsecure)) ∧
      t = { s with pcie := { s.pcie with ideInsecure := t.pcie.ideInsecure } }) ∧
    (∀ (st : Fin 4) key, s.pcie.linkUp = true → s.pcie.spdmSession ≠ none → ∃ t : State, exec (.ideKm st key) s = .next t ∧
      t.pcie.ideKeys.get none st.val = some key ∧ st.val ∉ t.pcie.ideInsecure ∧
      (∀ x, x ≠ st.val → (x ∈ t.pcie.ideInsecure ↔ x ∈ s.pcie.ideInsecure) ∧ t.pcie.ideKeys.get none x = s.pcie.ideKeys.get none x)) ∧
    (∀ (st : Fin 4) key, (s.pcie.linkUp = false ∨ s.pcie.spdmSession = none) → exec (.ideKm st key) s = .next s) ∧
    (s.fw.stage = 2 →
      (∀ src, exec (.neighbourDiscovery src) s = .next (s.emit (.net (src ++ [136] ++ s.portAddress)))) ∧
      (∀ src b, exec (.icmpv6Echo src b) s = .next (s.emit (.net (src ++ [129] ++ b)))) ∧
      (∀ a, s.cfgNum 0x1040 3 = 1 → exec (.dhcpv4 a) s = .next { s with mgmt := { s.mgmt with ipv4 := a } }) ∧
      (∀ a, s.cfgNum 0x1040 3 ≠ 1 → exec (.dhcpv4 a) s = .next s)) ∧
    (s.fw.stage ≠ 2 → (∀ src, exec (.neighbourDiscovery src) s = .next s) ∧ (∀ src b, exec (.icmpv6Echo src b) s = .next s) ∧
      (∀ a, exec (.dhcpv4 a) s = .next s)) ∧
    (∀ n : Nat, ∃ b : Bytes, exec (.i2cRead n) s = .next (State.emit
        { s with pins := { s.pins with i2cPointer := s.pins.i2cPointer + BitVec.ofNat 8 n } } (.i2c b)) ∧ b.length = n ∧
      ∀ i, i < n → b.getD i 0 = s.i2cByte ((s.pins.i2cPointer.toNat + i) % 256)) ∧
    (s.i2cByte 0 = 0x5A ∧ s.i2cByte 3 = BitVec.ofNat 8 (s.fw.stage % 4 + 4 * b2n s.fw.bootFailed +
      8 * b2n s.safety.tripped + 16 * b2n s.energy.thermalWarn)) ∧
    exec (.i2cWrite []) s = .next s ∧
    (∀ p, exec (.i2cWrite [p]) s = .next { s with pins := { s.pins with i2cPointer := p } }) ∧
    (∀ p q rest, exec (.i2cWrite (p :: q :: rest)) s = .next (State.emit
      { s with pins := { s.pins with i2cPointer := p } } (.i2cNack (rest.length + 1))))

/-- The TAP instructions. BYPASS, IDCODE and SAMPLE/PRELOAD act at any time; EXTEST, CLAMP, HIGHZ, EXTEST_PULSE and
EXTEST_TRAIN act while POR_N is low and are BYPASS otherwise. What a capture of the pins holds is free (log entry
14). Once VDD_IO18 is within range, while POR_N is low and no test mode of the TAP is selected, the 1V8 outputs XSPI_CS# and
XSPI_RST# are high and all others float; before that all float. -/
def Obligations.BoundaryScan : Prop :=
  ∀ (s : State),
    let set := fun (reg mode : Nat) => { s with pins := { s.pins with tapReg := reg, testMode := mode } }
    let capture := fun (t : State) => State.emit
      { t with pins := { t.pins with captures := t.pins.captures + 1 } } (.tap (Config.pinSample t.pins.captures))
    let bypass := (set 0 0).emit (.tap [0])
    exec .bypass s = .next bypass ∧
    exec .idcode s = .next ((set 1 0).emit (.tap (toLe 4 (if s.ident.steppingB0 then 0x1A512B4F else 0x0A512B4F)))) ∧
    (∀ cells, ∃ t : State, exec (.samplePreload cells) s = .next t ∧ t.pins = { s.pins with
      tapReg := 2, testMode := 0, captures := s.pins.captures + 1, cells := cells } ∧
      t.out = .tap (Config.pinSample s.pins.captures) :: s.out ∧ t = { s with pins := t.pins, out := t.out }) ∧
    (s.pins.por = true → exec .extest s = .next bypass ∧ exec .clamp s = .next bypass ∧ exec .highz s = .next bypass ∧
      exec .extestPulse s = .next bypass ∧ exec .extestTrain s = .next bypass) ∧
    (s.pins.por = false → exec .extest s = .next (capture (set 3 1)) ∧ exec .clamp s = .next (set 4 2) ∧
      exec .highz s = .next (set 5 3) ∧ exec .extestPulse s = .next (capture (set 6 4)) ∧
      exec .extestTrain s = .next (capture (set 7 5))) ∧
    ((s.safety.railMv.get 0 14).toNat < 1710 → ∀ p, s.drives p = .floating) ∧
    (1710 ≤ (s.safety.railMv.get 0 14).toNat → (s.safety.railMv.get 0 14).toNat ≤ 1890 → s.pins.por = false →
      s.pins.testMode = 0 → s.drives .xspiCs = .high ∧ s.drives .xspiRst = .high ∧
        ∀ p, p ≠ .xspiCs → p ≠ .xspiRst → s.drives p = .floating)

/-- Power-on. POR_RESET leaves the state of reset but for the flash, the fuses, the device's identity and its board;
POR_RISE samples the straps and starts the ROM; the root PLL's lock starts the tick from 0; the ROM starts the
preferred slot, or the other one, or stops in boot failure; a start that is not ready in time is a failure of its
slot; the ready point runs the firmware. After the ready point HBM is trained once all stacks have trained; a stack
that fails is noted and keeps it untrained. After training the power-on scrub leaves every unit of HBM that was
SCRUBBING zero and none SCRUBBING. -/
def Obligations.PowerOnAndHbm : Prop :=
  (∀ (s : State),
     (∃ t : State, exec .porReset s = .next t ∧ t.tick = {} ∧ t.ctxs = [] ∧ t.cores = [] ∧ t.wheels = [] ∧ t.links = [] ∧
       t.topo = {} ∧ t.groups = [] ∧ t.cfg = [] ∧ t.sets = {} ∧ t.fw = {} ∧ t.energy = {} ∧ t.hbm = {} ∧ t.pair = {} ∧
       t.sramMem = [] ∧ t.hbmMem = [] ∧ t.resMem = [] ∧ t.stageMem = [] ∧ t.ctlMem = [] ∧ t.scrubSram = [(0, 624)] ∧ t.scrubHbm = [(0, 147456)] ∧ t.scrubRes = [(0, 768)] ∧
       t.scrubStage = [(0, 1536)] ∧ t.flash = s.flash ∧
       t.ident = { s.ident with bootCount := s.ident.bootCount + 1 } ∧ t.safety.tripped = false ∧ t.safety.stopped = false ∧
       t.safety.tripPending = none ∧ t.safety.rollback = s.safety.blown ∧ t.safety.blown = s.safety.blown ∧
       t.safety.fwKeys = s.safety.fwKeys ∧ t.safety.revoked = s.safety.revoked ∧ t.pins.por = false ∧
       t.mgmt.keys.get none 0 = s.mgmt.keys.get none 0 ∧ (∀ k, k ≠ 0 → t.mgmt.keys.get none k = none)) ∧
     (∀ a oct, s.pins.por = false → ∃ t : State, exec (.porRise a oct) s = .next t ∧ t.fw.stage = 1 ∧
       t.pins = { s.pins with por := true, i2cAddr := a, xspiOctal := oct, testMode := 0 } ∧ t = { s with fw := t.fw, pins := t.pins, out := t.out }) ∧
     (∀ a oct, s.pins.por = true → exec (.porRise a oct) s = .next s) ∧
     (s.pins.por = true → s.tick.rootLocked = false → exec .rootPllLock s =
       .next { s with tick := { s.tick with rootLocked := true, now := 0, state := 0 } }) ∧
     ((s.pins.por = false ∨ s.tick.rootLocked = true) → exec .rootPllLock s = .next s) ∧
     (s.fw.stage = 1 → s.fw.started = false → s.fw.bootFailed = false →
       let pref := s.bootBlock.preferred % 2
       (s.bootBlock.trial ≠ 1 → pref ∉ s.fw.watchdogFailed → s.slotStep pref = 0 →
         ∃ t : State, exec .romVerifyDone s = .next t ∧ t.fw.started = true ∧ t.fw.bootSlot = pref ∧ t.fw.bootCause = 0 ∧
           t.fw.startedAt = s.tick.now ∧ t.fw.fwVersion = BitVec.ofNat 32 (field (s.imageHeader pref) 8 4) ∧
           t.fw.fwDigest = s.imageDigest pref ∧ t.ctlMem = s.ctlMem.writeBytes 0 (s.imageBody pref) ∧
           t = { s with fw := t.fw, ctlMem := t.ctlMem }) ∧
       (s.bootBlock.trial ≠ 1 → pref ∉ s.fw.watchdogFailed → s.slotStep pref ≠ 0 → (1 - pref) ∉ s.fw.watchdogFailed →
         (s.slotStep (1 - pref) = 0 → ∃ t : State, exec .romVerifyDone s = .next t ∧ t.fw.started = true ∧
           t.fw.bootSlot = 1 - pref ∧ t.fw.bootCause = 2 ∧
           t.ctlMem = s.ctlMem.writeBytes 0 (s.imageBody (1 - pref))) ∧
         (s.slotStep (1 - pref) ≠ 0 → ∃ t : State, exec .romVerifyDone s = .next t ∧ t.fw.started = false ∧
           t.fw.bootFailed = true ∧ t.flash = s.flash))) ∧
     ((s.fw.stage ≠ 1 ∨ s.fw.started = true ∨ s.fw.bootFailed = true) → exec .romVerifyDone s = .next s) ∧
     (s.fw.stage = 1 → s.fw.started = true → s.fw.startedAt.toNat + 1250000000 ≤ s.now → exec .bootWatchdog s =
       .next { s with fw := { s.fw with started := false, watchdogFailed := s.fw.bootSlot :: s.fw.watchdogFailed } }) ∧
     ((s.fw.stage ≠ 1 ∨ s.fw.started = false ∨ s.now < s.fw.startedAt.toNat + 1250000000) → exec .bootWatchdog s = .next s) ∧
     (s.fw.stage = 1 → s.fw.started = true → ∃ t : State, exec .readyPoint s = .next t ∧ t.fw.stage = 2 ∧
       t.fw.startTick = s.tick.now ∧ t.fw.bootSlot = s.fw.bootSlot ∧
       t = { s with fw := t.fw, out := t.out }) ∧
     ((s.fw.stage ≠ 1 ∨ s.fw.started = false) → exec .readyPoint s = .next s)) ∧
  (∀ (s : State),
     (s.fw.stage = 2 → s.hbm.trained = false → s.hbm.failedStacks = [] → ∃ t : State, exec (.hbmTrainDone none) s = .next t ∧
       t.hbm = { s.hbm with trained := true } ∧ t = { s with hbm := t.hbm, fw := t.fw, out := t.out }) ∧
     (∀ k, s.fw.stage = 2 → s.hbm.trained = false → ∃ t : State, exec (.hbmTrainDone (some k)) s = .next t ∧
       t.hbm = { s.hbm with failedStacks := k.val :: s.hbm.failedStacks } ∧ t = { s with hbm := t.hbm, fw := t.fw, out := t.out }) ∧
     (∀ f, (s.fw.stage ≠ 2 ∨ s.hbm.trained = true) → exec (.hbmTrainDone f) s = .next s) ∧
     (s.hbm.failedStacks ≠ [] → exec (.hbmTrainDone none) s = .next s) ∧
     (s.hbm.trained = true → s.hbm.scrubbed = false → ∃ t : State, exec .powerOnScrubDone s = .next t ∧ t.scrubHbm = [] ∧
       t.hbm = { s.hbm with scrubbed := true } ∧
       (∀ a, inRanges s.scrubHbm (a / 2097152) = true → t.hbmMem.read a = 0) ∧
       (∀ a, inRanges s.scrubHbm (a / 2097152) = false → t.hbmMem.read a = s.hbmMem.read a) ∧
       t.sramMem = s.sramMem ∧ t.scrubSram = s.scrubSram ∧ t.ctxs = s.ctxs ∧ t.cores = s.cores) ∧
     ((s.hbm.trained = false ∨ s.hbm.scrubbed = true) → exec .powerOnScrubDone s = .next s))

/-- Every memory of the state that reset leaves is in canonical form. -/
def Obligations.ResetMemoryIsCanonical : Prop :=
 State.reset.memOk = true ∧ State.reset.pending = [] ∧
  State.reset.safety.tripped = false ∧ State.reset.pins.por = false ∧ State.reset.fw.stage = 0 ∧ State.reset.tick.state = 0 ∧
  State.reset.scrubHbm = [(0, 147456)]

/-- Every step, whatever its command, keeps every memory in canonical form. -/
def Obligations.StepsKeepMemoryCanonical : Prop :=
  ∀ s t : State, s.memOk = true → step s = .next t → t.memOk = true

/-- A step takes exactly the command at the front: it adds none to the queue and reorders none; the device's serial
number never changes. -/
def Obligations.StepsTakeOneCommand : Prop :=
  ∀ s t : State, step s = .next t → t.pending = s.pending.drop 1 ∧ t.ident.serial = s.ident.serial

/-- A TRIPPED device stays TRIPPED under every step whose command is no POR_RESET, and only a met trip condition that is
asserted makes a device TRIPPED. -/
def Obligations.TrippedUntilPowerOn : Prop :=
  ∀ s t : State, step s = .next t →
    (s.safety.tripped = true → s.pending.head? ≠ some .porReset → t.safety.tripped = true) ∧
    (s.safety.tripped = false → t.safety.tripped = true → s.pending.head? = some .tripAssert ∧ s.safety.tripPending.isSome = true)

/-- No engine forms an address outside its context's share. A write of a hub engine changes no byte at once: it submits to
the HBM controller bytes of the context's share alone, at the offset it names, and a written line changes only bytes that
its transfer's writes name, in that line, while the context owns its shares. A write into an SRAM share changes bytes of
that share in that core alone. A later read of the context finds what it wrote; a write that would leave the share, or of a
context that does not own its shares, writes nothing. -/
def Obligations.SharesAreIsolated : Prop :=
  ∀ (s : State) (c : CtxId) (k off : Nat) (b : Bytes) (uid : Option Nat),
    let hub := s.putHbm c.val off b uid
    let core := s.putSram c.val k off b
    let base := s.shareBase c.val 1
    (hub.hbmMem = s.hbmMem ∧ hub.sramMem = s.sramMem ∧ hub.resMem = s.resMem ∧ hub.stageMem = s.stageMem) ∧
    (∀ x ∈ hub.hbm.xfers, ∀ a d, .mem .hbm a d ∈ x.effects → (∃ y ∈ s.hbm.xfers, y.ctx = x.ctx ∧ .mem .hbm a d ∈ y.effects) ∨
      (x.ctx = c ∧ d = b ∧ a = base + off ∧ a + d.length ≤ base + s.shareSize c.val 1)) ∧
    (∀ (x : Xfer) (l a : Nat), (s.writeLine x l).hbmMem.read a ≠ s.hbmMem.read a → s.ownsShares x.ctx.val = true ∧
      a / 64 = l ∧ ∃ w d, .mem .hbm w d ∈ x.effects ∧ w ≤ a ∧ a < w + d.length) ∧
    (∀ a, core.sramMem.read a ≠ s.sramMem.read a →
      k * Config.sramStride + s.shareBase c.val 0 ≤ a ∧ a < k * Config.sramStride + s.shareBase c.val 0 + s.shareSize c.val 0) ∧
    core.hbmMem = s.hbmMem ∧
    (off + b.length ≤ s.shareSize c.val 1 → s.ownsShares c.val = true →
      (∀ x ∈ s.hbm.xfers, s.hubOpen c.val uid true x = false) → hub.hbmShare c.val off b.length = b) ∧
    (s.memOk = true → off + b.length ≤ s.shareSize c.val 0 → s.ownsShares c.val = true → core.sramShare c.val k off b.length = b) ∧
    ((s.shareSize c.val 1 < off + b.length ∨ s.ownsShares c.val = false) → hub = s) ∧
    ((s.shareSize c.val 0 < off + b.length ∨ s.ownsShares c.val = false) → core = s)

/-- The mailbox doorbell and its reply: MBX_RING is ignored while MBX_BUSY is 1, and on a VF whose context is FREE or
CREATING; the reply area is written and, in the same step, MBX_BUSY cleared, MBX_DONE set and the mailbox interrupt
(vector 0) raised. -/
def Obligations.MailboxRingAndReply : Prop :=
  ∀ (c : CtxId) (s : State),
    ((s.ctx c.val).host.mbx.busy = true → exec (.mbxRing c) s = .next s) ∧
    (c ≠ 0 → ((s.ctx c.val).life.state = .free ∨ (s.ctx c.val).life.state = .creating) → exec (.mbxRing c) s = .next s) ∧
    (∀ reply at_, (s.ctx c.val).host.mbx.ready = some (reply, at_) → (s.ctx c.val).host.mbx.busy = true → at_.toNat ≤ s.now →
      (s.ctx c.val).host.mbx.copying = false → (∀ u, (s.ctx c.val).host.mbx.copied = some u → u.toNat < s.now) →
      s.silent c.val = false → ∃ t : State, exec (.mbxReply c) s = .next t ∧
        (t.ctx c.val).host.mbx.reply = (s.ctx c.val).host.mbx.reply.writeBytes 0 reply ∧
        (t.ctx c.val).host.mbx.busy = false ∧ (t.ctx c.val).host.mbx.done = true ∧
        bit (t.ctx c.val).host.intStatus.toNat 0 = true)

/-- EXTEST, EXTEST_PULSE, EXTEST_TRAIN, CLAMP and HIGHZ put their test mode into force while POR_N is low and act as
BYPASS while it is high; IDCODE reads the code of the stepping; an I²C write sets the pointer from its first byte,
and every later byte is NACKed and changes nothing else. -/
def Obligations.TapModesAndPointerWrites : Prop :=
  ∀ (s : State),
    (s.pins.por = true → ∀ i ∈ [Instr.extest, .extestPulse, .extestTrain, .clamp, .highz], exec i s = exec .bypass s) ∧
    (s.pins.por = false → ∀ x ∈ [(Instr.extest, 1), (.clamp, 2), (.highz, 3), (.extestPulse, 4), (.extestTrain, 5)],
      ∃ t : State, exec x.1 s = .next t ∧ t.pins.testMode = x.2) ∧
    (∃ t : State, exec .idcode s = .next t ∧
      t.out = .tap (toLe 4 (if s.ident.steppingB0 then 0x1A512B4F else 0x0A512B4F)) :: s.out) ∧
    (∀ p rest, ∃ t : State, exec (.i2cWrite (p :: rest)) s = .next t ∧ t.pins = { s.pins with i2cPointer := p } ∧
      t.out = (if rest = [] then [] else [.i2cNack rest.length]) ++ s.out ∧ t = { s with pins := t.pins, out := t.out })

/-- A write of CTX_SEQ_REQ_TAIL that would make TAIL − HEAD exceed REQ_ENTRIES keeps the register's value; a write of v
to CTX_CQ_HEAD is ignored when v − CQ_HEAD exceeds CQ_TAIL − CQ_HEAD. -/
def Obligations.IndexWritesOutOfRange : Prop :=
  ∀ (c : CtxId) (v : BitVec 32) (s : State),
    (s.cfgNum (0xD100 + c.val) 6 < (v - (s.ctx c.val).serving.reqHead).toNat →
      ∃ t : State, exec (.ctxSeqReqTail c v) s = .next t ∧ t.ctxs = s.ctxs) ∧
    (∀ r : RingId, ((s.ring c.val r.val).cqTail - (s.ring c.val r.val).cqHead).toNat < (v - (s.ring c.val r.val).cqHead).toNat →
      ∃ t : State, exec (.cqHeadWrite c r v) s = .next t ∧ t.ctxs = s.ctxs)

/-- A READ with 0 items returns only its sample tick; a WRITE with 0 items returns OK and its apply tick, and changes
nothing. -/
def Obligations.EmptyRequests : Prop :=
  ∀ (s : State) (p : Path) (q : Request) (limit : Nat), q.items = 0 → q.body = [] → 8 ≤ limit →
    (s.serveRead p q limit).status = 0 ∧ (s.serveRead p q limit).body = toLe 8 s.now ∧ (s.serveRead p q limit).s = s ∧
    (s.serveWrite p q).status = 0 ∧ (s.serveWrite p q).body = toLe 8 s.now ∧ (s.serveWrite p q).s = s
end

