-- ==== Sys2Proof/Laws/Keeps.lean ====
section
/-! SUPPORT. What every operation on the state and every command's meaning keeps: the waiting commands, TRIPPED and the
serial number as they are, and every memory in canonical form. One lemma for each operation; power-on and the trip, which
change TRIPPED, have their own. -/

set_option linter.all false

namespace Sys2Proof.Machine

/-- The waiting commands, TRIPPED and the serial number: what a power-on, a trip or the queue alone changes. -/
def State.latch (s : State) : List Instr × Bool × BitVec 128 := (s.pending, s.safety.tripped, s.ident.serial)

/-- Parts of a state keep what state o has. -/
def KeepsParts (o : State) (hbm sram res stage ctl flash host : Memory) (pending : List Instr) (tripped : Bool)
    (serial : BitVec 128) : Prop :=
  (pending, tripped, serial) = o.latch ∧
    (o.memOk = true → (hbm.wf && sram.wf && res.wf && stage.wf && ctl.wf && flash.wf && host.wf) = true)

/-- State s has the latch of o, and its memories are in canonical form if those of o are. -/
def Keeps (o s : State) : Prop :=
  KeepsParts o s.hbmMem s.sramMem s.resMem s.stageMem s.ctlMem s.flash s.hostMem s.pending s.safety.tripped s.ident.serial

/-- The state an outcome carries, if it carries one, keeps what o has. -/
def OutKeeps (o : State) : Result → Prop
  | .next t => Keeps o t
  | _ => True

theorem Keeps.refl (s : State) : Keeps s s := ⟨rfl, id⟩

theorem Keeps.latch {o s : State} (h : Keeps o s) : s.latch = o.latch := h.1

theorem Keeps.memOk {o s : State} (h : Keeps o s) (k : o.memOk = true) : s.memOk = true := h.2 k

theorem Keeps.trans {o s t : State} (h : Keeps o s) (k : Keeps s t) : Keeps o t :=
  ⟨k.1.trans h.1, fun m => k.2 (h.2 m)⟩

theorem Keeps.tripped {o s : State} (h : Keeps o s) : s.safety.tripped = o.safety.tripped := congrArg (fun p => p.2.1) h.1

theorem outKeeps_next (o t : State) (h : Keeps o t) : OutKeeps o (.next t) := h

theorem Keeps.parts (o s : State) (h : Keeps o s) : KeepsParts o s.hbmMem s.sramMem s.resMem s.stageMem s.ctlMem s.flash
    s.hostMem s.pending s.safety.tripped s.ident.serial := h

theorem KeepsParts.withFlash {o : State} {a b c d e f f' g : Memory} {p : List Instr} {t : Bool} {n : BitVec 128}
    (h : KeepsParts o a b c d e f g p t n) (w : f.wf = true → f'.wf = true) : KeepsParts o a b c d e f' g p t n := by
  refine ⟨h.1, fun m => ?_⟩
  have k := h.2 m
  simp only [Bool.and_eq_true] at k ⊢
  exact ⟨⟨k.1.1, w k.1.2⟩, k.2⟩

theorem KeepsParts.withCtl {o : State} {a b c d e e' f g : Memory} {p : List Instr} {t : Bool} {n : BitVec 128}
    (h : KeepsParts o a b c d e f g p t n) (w : e.wf = true → e'.wf = true) : KeepsParts o a b c d e' f g p t n := by
  refine ⟨h.1, fun m => ?_⟩
  have k := h.2 m
  simp only [Bool.and_eq_true] at k ⊢
  exact ⟨⟨⟨k.1.1.1, w k.1.1.2⟩, k.1.2⟩, k.2⟩

theorem Keeps_mk (o : State) (x0 : Ident) (x1 : TickUnit) (x2 : SMap Ctx) (x3 : SMap Core) (x4 : SMap Wheel) (x5 : Hbm) (x6 : Memory) (x7 : Memory) (x8 : Memory) (x9 : Memory) (x10 : Memory) (x11 : Memory) (x12 : Memory) (x13 : List (Nat × Nat)) (x14 : List (Nat × Nat)) (x15 : List (Nat × Nat)) (x16 : List (Nat × Nat)) (x17 : SMap Link) (x18 : Topo) (x19 : SMap Group) (x20 : SMap DVal) (x21 : CfgSets) (x22 : Mgmt) (x23 : Firmware) (x24 : Energy) (x25 : Safety) (x26 : Pair) (x27 : Pcie) (x28 : Pins) (x29 : BitVec 64) (x30 : List Output) (x31 : List Instr) :
    Keeps o (State.mk x0 x1 x2 x3 x4 x5 x6 x7 x8 x9 x10 x11 x12 x13 x14 x15 x16 x17 x18 x19 x20 x21 x22 x23 x24 x25 x26 x27 x28 x29 x30 x31) =
      KeepsParts o x6 x7 x8 x9 x10 x11 x12 x31 x25.tripped x0.serial := congrArg id rfl

theorem foldl_keeps {α : Type} (o : State) (g : State → α → State) (l : List α) (s : State) (hs : Keeps o s)
    (h : ∀ s x, Keeps o s → Keeps o (g s x)) : Keeps o (l.foldl g s) := by
  induction l generalizing s with
  | nil => exact hs
  | cons x t ih => exact ih _ (h _ _ hs)


theorem State.updCtx_keeps (base : State) (s : State) (c : Nat) (f : Ctx → Ctx)
    (hk : Keeps base s) :
    Keeps base (State.updCtx s c f) := by
  unfold State.updCtx
  try dsimp only
  repeat' with_reducible first | assumption | apply foldl_keeps | (simp only [Keeps_mk]; refine Keeps.parts _ _ ?_) | split | intro _ | dsimp only

theorem State.updCore_keeps (base : State) (s : State) (k : Nat) (f : Core → Core)
    (hk : Keeps base s) :
    Keeps base (State.updCore s k f) := by
  unfold State.updCore
  try dsimp only
  repeat' with_reducible first | assumption | apply foldl_keeps | (simp only [Keeps_mk]; refine Keeps.parts _ _ ?_) | split | intro _ | dsimp only

theorem State.updStream_keeps (base : State) (s : State) (k : Nat) (key : Nat) (f : Machine.Stream → Machine.Stream)
    (hk : Keeps base s) :
    Keeps base (State.updStream s k key f) := by
  unfold State.updStream
  try dsimp only
  repeat' with_reducible first | assumption | apply State.updCore_keeps | apply foldl_keeps | (simp only [Keeps_mk]; refine Keeps.parts _ _ ?_) | split | intro _ | dsimp only

theorem State.updLink_keeps (base : State) (s : State) (l : Nat) (f : Link → Link)
    (hk : Keeps base s) :
    Keeps base (State.updLink s l f) := by
  unfold State.updLink
  try dsimp only
  repeat' with_reducible first | assumption | apply foldl_keeps | (simp only [Keeps_mk]; refine Keeps.parts _ _ ?_) | split | intro _ | dsimp only

theorem State.updGroup_keeps (base : State) (s : State) (g : Nat) (f : Group → Group)
    (hk : Keeps base s) :
    Keeps base (State.updGroup s g f) := by
  unfold State.updGroup
  try dsimp only
  repeat' with_reducible first | assumption | apply foldl_keeps | (simp only [Keeps_mk]; refine Keeps.parts _ _ ?_) | split | intro _ | dsimp only

theorem State.updTick_keeps (base : State) (s : State) (f : TickUnit → TickUnit)
    (hk : Keeps base s) :
    Keeps base (State.updTick s f) := by
  unfold State.updTick
  try dsimp only
  repeat' with_reducible first | assumption | apply foldl_keeps | (simp only [Keeps_mk]; refine Keeps.parts _ _ ?_) | split | intro _ | dsimp only

theorem State.updWheel_keeps (base : State) (s : State) (e : Nat) (f : Wheel → Wheel)
    (hk : Keeps base s) :
    Keeps base (State.updWheel s e f) := by
  unfold State.updWheel
  try dsimp only
  repeat' with_reducible first | assumption | apply foldl_keeps | (simp only [Keeps_mk]; refine Keeps.parts _ _ ?_) | split | intro _ | dsimp only

theorem State.updQuill_keeps (base : State) (s : State) (c : Nat) (f : CtxQuill → CtxQuill)
    (hk : Keeps base s) :
    Keeps base (State.updQuill s c f) := by
  unfold State.updQuill
  try dsimp only
  repeat' with_reducible first | assumption | apply State.updCtx_keeps | apply foldl_keeps | (simp only [Keeps_mk]; refine Keeps.parts _ _ ?_) | split | intro _ | dsimp only

theorem State.updLife_keeps (base : State) (s : State) (c : Nat) (f : Life → Life)
    (hk : Keeps base s) :
    Keeps base (State.updLife s c f) := by
  unfold State.updLife
  try dsimp only
  repeat' with_reducible first | assumption | apply State.updCtx_keeps | apply foldl_keeps | (simp only [Keeps_mk]; refine Keeps.parts _ _ ?_) | split | intro _ | dsimp only

theorem State.updHost_keeps (base : State) (s : State) (c : Nat) (f : HostFn → HostFn)
    (hk : Keeps base s) :
    Keeps base (State.updHost s c f) := by
  unfold State.updHost
  try dsimp only
  repeat' with_reducible first | assumption | apply State.updCtx_keeps | apply foldl_keeps | (simp only [Keeps_mk]; refine Keeps.parts _ _ ?_) | split | intro _ | dsimp only

theorem State.updCmd_keeps (base : State) (s : State) (c : Nat) (uid : Nat) (f : Cmd → Cmd)
    (hk : Keeps base s) :
    Keeps base (State.updCmd s c uid f) := by
  unfold State.updCmd
  try dsimp only
  repeat' with_reducible first | assumption | apply State.updCtx_keeps | apply foldl_keeps | (simp only [Keeps_mk]; refine Keeps.parts _ _ ?_) | split | intro _ | dsimp only

theorem State.emit_keeps (base : State) (s : State) (o : Output)
    (hk : Keeps base s) :
    Keeps base (State.emit s o) := by
  unfold State.emit
  try dsimp only
  repeat' with_reducible first | assumption | apply foldl_keeps | (simp only [Keeps_mk]; refine Keeps.parts _ _ ?_) | split | intro _ | dsimp only

theorem State.raiseQueue_keeps (base : State) (s : State) (q : QueueId) (cap : Nat) (before : Nat) (after : Nat)
    (hk : Keeps base s) :
    Keeps base (State.raiseQueue s q cap before after) := by
  unfold State.raiseQueue
  try dsimp only
  repeat' with_reducible first | assumption | apply State.emit_keeps | apply foldl_keeps | (simp only [Keeps_mk]; refine Keeps.parts _ _ ?_) | split | intro _ | dsimp only

theorem State.updRing_keeps (base : State) (s : State) (c : Nat) (r : Nat) (f : Ring → Ring)
    (hk : Keeps base s) :
    Keeps base (State.updRing s c r f) := by
  unfold State.updRing
  try dsimp only
  repeat' with_reducible first | assumption | apply State.raiseQueue_keeps | apply State.updHost_keeps | apply foldl_keeps | (simp only [Keeps_mk]; refine Keeps.parts _ _ ?_) | split | intro _ | dsimp only

theorem State.writeMem_keeps (base s : State) (m : ScrubMem) (a : Nat) (b : Bytes) (hk : Keeps base s) :
    Keeps base (s.writeMem m a b) := by
  refine ⟨by rw [← hk.latch]; cases m <;> rfl, fun k => ?_⟩
  have w := hk.memOk k
  unfold State.memOk at w
  simp only [Bool.and_eq_true] at w ⊢
  cases m <;> simp [State.writeMem, w, Memory.writeBytes_wf]

theorem State.zeroMem_keeps (base s : State) (m : ScrubMem) (a n : Nat) (hk : Keeps base s) :
    Keeps base (s.zeroMem m a n) := by
  refine ⟨by rw [← hk.latch]; cases m <;> rfl, fun k => ?_⟩
  have w := hk.memOk k
  unfold State.memOk at w
  simp only [Bool.and_eq_true] at w ⊢
  cases m <;> simp [State.zeroMem, w, Memory.zero_wf]

theorem State.putSram_keeps (base : State) (s : State) (c : Nat) (k : Nat) (off : Nat) (b : Bytes)
    (hk : Keeps base s) :
    Keeps base (State.putSram s c k off b) := by
  unfold State.putSram
  try dsimp only
  repeat' with_reducible first | assumption | apply State.writeMem_keeps | apply foldl_keeps | (simp only [Keeps_mk]; refine Keeps.parts _ _ ?_) | split | intro _ | dsimp only

theorem State.addXfer_keeps (base : State) (s : State) (x : Xfer)
    (hk : Keeps base s) :
    Keeps base (State.addXfer s x) := by
  unfold State.addXfer
  try dsimp only
  repeat' with_reducible first | assumption | apply foldl_keeps | (simp only [Keeps_mk]; refine Keeps.parts _ _ ?_) | split | intro _ | dsimp only

theorem State.hubMove_keeps (base : State) (s : State) (c : Nat) (uid : Option Nat) (write : Bool) (lines : List Nat) (effects : List Effect)
    (hk : Keeps base s) :
    Keeps base (State.hubMove s c uid write lines effects) := by
  unfold State.hubMove
  try dsimp only
  repeat' with_reducible first | assumption | apply State.addXfer_keeps | apply foldl_keeps | (simp only [Keeps_mk]; refine Keeps.parts _ _ ?_) | split | intro _ | dsimp only

theorem State.hubPut_keeps (base : State) (s : State) (c : Nat) (uid : Option Nat) (m : ScrubMem) (a : Nat) (b : Bytes)
    (hk : Keeps base s) :
    Keeps base (State.hubPut s c uid m a b) := by
  unfold State.hubPut
  try dsimp only
  repeat' with_reducible first | assumption | apply State.hubMove_keeps | apply State.writeMem_keeps | apply foldl_keeps | (simp only [Keeps_mk]; refine Keeps.parts _ _ ?_) | split | intro _ | dsimp only

theorem State.putHbm_keeps (base : State) (s : State) (c : Nat) (off : Nat) (b : Bytes) (uid : optParam (Option Nat) none)
    (hk : Keeps base s) :
    Keeps base (State.putHbm s c off b uid) := by
  unfold State.putHbm
  try dsimp only
  repeat' with_reducible first | assumption | apply State.hubPut_keeps | apply foldl_keeps | (simp only [Keeps_mk]; refine Keeps.parts _ _ ?_) | split | intro _ | dsimp only

theorem State.setScrubs_keeps (base : State) (s : State) (m : ScrubMem) (l : List (Nat × Nat))
    (hk : Keeps base s) :
    Keeps base (State.setScrubs s m l) := by
  unfold State.setScrubs
  try dsimp only
  repeat' with_reducible first | assumption | apply foldl_keeps | (simp only [Keeps_mk]; refine Keeps.parts _ _ ?_) | split | intro _ | dsimp only

theorem State.raiseFlags_keeps (base : State) (s : State) (c : Nat) (f : BitVec 16)
    (hk : Keeps base s) :
    Keeps base (State.raiseFlags s c f) := by
  unfold State.raiseFlags
  try dsimp only
  repeat' with_reducible first | assumption | apply State.updCtx_keeps | apply foldl_keeps | (simp only [Keeps_mk]; refine Keeps.parts _ _ ?_) | split | intro _ | dsimp only

theorem State.countOob_keeps (base : State) (s : State) (c : Nat) (n : Nat)
    (hk : Keeps base s) :
    Keeps base (State.countOob s c n) := by
  unfold State.countOob
  try dsimp only
  repeat' with_reducible first | assumption | apply State.raiseFlags_keeps | apply State.updCtx_keeps | apply foldl_keeps | (simp only [Keeps_mk]; refine Keeps.parts _ _ ?_) | split | intro _ | dsimp only

theorem State.raise_keeps (base : State) (s : State) (f : Nat) (v : Nat)
    (hk : Keeps base s) :
    Keeps base (State.raise s f v) := by
  unfold State.raise
  try dsimp only
  repeat' with_reducible first | assumption | apply State.updHost_keeps | apply State.emit_keeps | apply foldl_keeps | (simp only [Keeps_mk]; refine Keeps.parts _ _ ?_) | split | intro _ | dsimp only

theorem State.hostWrite_keeps (base s : State) (addr : Nat) (b : Bytes) (hk : Keeps base s) :
    Keeps base (s.hostWrite addr b) := by
  unfold State.hostWrite
  split
  · refine ⟨hk.1, fun m => ?_⟩
    have w := hk.memOk m
    unfold State.memOk at w
    simp only [Bool.and_eq_true] at w ⊢
    simp [State.emit, w, Memory.writeBytes_wf]
  · exact hk

theorem State.raiseStateChange_keeps (base : State) (s : State) (c : Nat)
    (hk : Keeps base s) :
    Keeps base (State.raiseStateChange s c) := by
  unfold State.raiseStateChange
  try dsimp only
  repeat' with_reducible first | assumption | apply State.raise_keeps | apply foldl_keeps | (simp only [Keeps_mk]; refine Keeps.parts _ _ ?_) | split | intro _ | dsimp only

theorem State.forwardIn_keeps (base : State) (s : State) (c : Nat) (i : FwdInput)
    (hk : Keeps base s) :
    Keeps base (State.forwardIn s c i) := by
  unfold State.forwardIn
  try dsimp only
  repeat' with_reducible first | assumption | apply State.emit_keeps | apply foldl_keeps | (simp only [Keeps_mk]; refine Keeps.parts _ _ ?_) | split | intro _ | dsimp only

theorem State.logEvent_keeps (base : State) (s : State) (severity : Nat) (source : Nat) (code : Nat) (args : List Nat)
    (hk : Keeps base s) :
    Keeps base (State.logEvent s severity source code args) := by
  unfold State.logEvent
  try dsimp only
  repeat' with_reducible first | assumption | apply State.raiseQueue_keeps | apply foldl_keeps | (simp only [Keeps_mk]; refine Keeps.parts _ _ ?_) | split | intro _ | dsimp only

theorem State.pushLog_keeps (base : State) (s : State)
    (hk : Keeps base s) :
    Keeps base (State.pushLog s) := by
  unfold State.pushLog
  try dsimp only
  repeat' with_reducible first | assumption | apply State.raiseQueue_keeps | apply foldl_keeps | (simp only [Keeps_mk]; refine Keeps.parts _ _ ?_) | split | intro _ | dsimp only

theorem State.trace_keeps (base : State) (s : State) (k : Service)
    (hk : Keeps base s) :
    Keeps base (State.trace s k) := by
  unfold State.trace
  try dsimp only
  repeat' with_reducible first | assumption | apply State.logEvent_keeps | apply foldl_keeps | (simp only [Keeps_mk]; refine Keeps.parts _ _ ?_) | split | intro _ | dsimp only

theorem State.setSem_keeps (base : State) (s : State) (c : Nat) (n : Nat) (v : Nat)
    (hk : Keeps base s) :
    Keeps base (State.setSem s c n v) := by
  unfold State.setSem
  try dsimp only
  repeat' with_reducible first | assumption | apply State.updCtx_keeps | apply foldl_keeps | (simp only [Keeps_mk]; refine Keeps.parts _ _ ?_) | split | intro _ | dsimp only

theorem State.addSem_keeps (base : State) (s : State) (c : Nat) (n : Nat) (amount : Nat)
    (hk : Keeps base s) :
    Keeps base ((State.addSem s c n amount).1) := by
  unfold State.addSem
  try dsimp only
  repeat' with_reducible first | assumption | apply State.setSem_keeps | apply foldl_keeps | (simp only [Keeps_mk]; refine Keeps.parts _ _ ?_) | split | intro _ | dsimp only

theorem State.addSem_elim (base : State) {s : State} {c : Nat} {n : Nat} {amount : Nat} {t : State} {y : Bool}
    (e : State.addSem s c n amount = (t, y)) (hk : Keeps base s) : Keeps base t := by
  have k := State.addSem_keeps base s c n amount hk
  rw [e] at k
  exact k

theorem State.detect_keeps (base : State) (s : State) (g : Nat) (code : BitVec 8)
    (hk : Keeps base s) :
    Keeps base (State.detect s g code) := by
  unfold State.detect
  try dsimp only
  repeat' with_reducible first | assumption | apply State.updGroup_keeps | apply State.emit_keeps | apply foldl_keeps | (simp only [Keeps_mk]; refine Keeps.parts _ _ ?_) | split | intro _ | dsimp only

theorem State.detectAll_keeps (base : State) (s : State) (code : BitVec 8) (p : CollStep → Bool)
    (hk : Keeps base s) :
    Keeps base (State.detectAll s code p) := by
  unfold State.detectAll
  try dsimp only
  repeat' with_reducible first | assumption | apply State.detect_keeps | apply foldl_keeps | (simp only [Keeps_mk]; refine Keeps.parts _ _ ?_) | split | intro _ | dsimp only

theorem State.trueUp_keeps (base : State) (s : State) (c : Nat) (x : Cmd)
    (hk : Keeps base s) :
    Keeps base (State.trueUp s c x) := by
  unfold State.trueUp
  try dsimp only
  repeat' with_reducible first | assumption | apply State.updCtx_keeps | apply foldl_keeps | (simp only [Keeps_mk]; refine Keeps.parts _ _ ?_) | split | intro _ | dsimp only

theorem State.writeRecord_keeps (base : State) (s : State) (c : Nat) (r : Nat) (rec' : Bytes) (vector : Nat)
    (hk : Keeps base s) :
    Keeps base (State.writeRecord s c r rec' vector) := by
  unfold State.writeRecord
  try dsimp only
  repeat' with_reducible first | assumption | apply State.hostWrite_keeps | apply State.raise_keeps | apply State.updRing_keeps | apply foldl_keeps | (simp only [Keeps_mk]; refine Keeps.parts _ _ ?_) | split | intro _ | dsimp only

theorem State.sendDigest_keeps (base : State) (s : State) (c : Nat) (x : Cmd) (status : Nat)
    (hk : Keeps base s) :
    Keeps base (State.sendDigest s c x status) := by
  unfold State.sendDigest
  try dsimp only
  repeat' with_reducible first | assumption | apply State.putHbm_keeps | apply State.emit_keeps | apply foldl_keeps | (simp only [Keeps_mk]; refine Keeps.parts _ _ ?_) | split | intro _ | dsimp only

theorem State.terminal_keeps (base : State) (s : State) (c : Nat) (x : Cmd) (status : Nat) (written : optParam Bool true)
    (hk : Keeps base s) :
    Keeps base ((State.terminal s c x status written).1) := by
  unfold State.terminal
  try dsimp only
  repeat' with_reducible first | assumption | apply State.updCtx_keeps | apply State.trueUp_keeps | apply State.sendDigest_keeps | apply State.writeRecord_keeps | apply State.addSem_keeps | refine State.addSem_elim _ (by assumption) ?_ | apply foldl_keeps | (simp only [Keeps_mk]; refine Keeps.parts _ _ ?_) | split | intro _ | dsimp only

theorem State.terminal_elim (base : State) {s : State} {c : Nat} {x : Cmd} {status : Nat} {written : optParam Bool true} {t : State} {y : Bool}
    (e : State.terminal s c x status written = (t, y)) (hk : Keeps base s) : Keeps base t := by
  have k := State.terminal_keeps base s c x status written hk
  rw [e] at k
  exact k

theorem State.teardown_keeps (base : State) (s : State) (c : Nat) (cause : Nat)
    (hk : Keeps base s) :
    Keeps base (State.teardown s c cause) := by
  unfold State.teardown
  try dsimp only
  repeat' with_reducible first | assumption | apply State.updCtx_keeps | apply State.terminal_keeps | apply State.detectAll_keeps | apply State.raiseStateChange_keeps | refine State.terminal_elim _ (by assumption) ?_ | apply foldl_keeps | (simp only [Keeps_mk]; refine Keeps.parts _ _ ?_) | split | intro _ | dsimp only

theorem State.ctxFault_keeps (base : State) (s : State) (c : Nat)
    (hk : Keeps base s) :
    Keeps base (State.ctxFault s c) := by
  unfold State.ctxFault
  try dsimp only
  repeat' with_reducible first | assumption | apply State.teardown_keeps | apply foldl_keeps | (simp only [Keeps_mk]; refine Keeps.parts _ _ ?_) | split | intro _ | dsimp only

theorem State.signalSem_keeps (base : State) (s : State) (c : Nat) (n : Nat) (amount : Nat)
    (hk : Keeps base s) :
    Keeps base (State.signalSem s c n amount) := by
  unfold State.signalSem
  try dsimp only
  repeat' with_reducible first | assumption | apply State.addSem_keeps | apply State.ctxFault_keeps | refine State.addSem_elim _ (by assumption) ?_ | apply foldl_keeps | (simp only [Keeps_mk]; refine Keeps.parts _ _ ?_) | split | intro _ | dsimp only

theorem State.finishCmd_keeps (base : State) (s : State) (c : Nat) (x : Cmd) (status : Nat)
    (hk : Keeps base s) :
    Keeps base (State.finishCmd s c x status) := by
  unfold State.finishCmd
  try dsimp only
  repeat' with_reducible first | assumption | apply State.terminal_keeps | apply State.ctxFault_keeps | refine State.terminal_elim _ (by assumption) ?_ | apply foldl_keeps | (simp only [Keeps_mk]; refine Keeps.parts _ _ ?_) | split | intro _ | dsimp only

theorem State.putResult_keeps (base : State) (s : State) (k : Nat) (key : Nat) (uid : Nat) (f : Machine.Stream → Machine.Stream)
    (hk : Keeps base s) :
    Keeps base (State.putResult s k key uid f) := by
  unfold State.putResult
  try dsimp only
  repeat' with_reducible first | assumption | apply State.updStream_keeps | apply foldl_keeps | (simp only [Keeps_mk]; refine Keeps.parts _ _ ?_) | split | intro _ | dsimp only

theorem State.apply_keeps (base : State) (s : State) (k : Nat) (key : Nat) (uid : Nat) (e : Effect)
    (hk : Keeps base s) :
    Keeps base (State.apply s k key uid e) := by
  unfold State.apply
  try dsimp only
  repeat' with_reducible first | assumption | apply State.writeMem_keeps | apply State.raiseFlags_keeps | apply State.putResult_keeps | apply State.countOob_keeps | apply State.updCmd_keeps | apply State.signalSem_keeps | apply State.emit_keeps | apply State.updQuill_keeps | apply State.raiseQueue_keeps | apply State.updGroup_keeps | apply State.raise_keeps | apply State.updHost_keeps | apply foldl_keeps | (simp only [Keeps_mk]; refine Keeps.parts _ _ ?_) | split | intro _ | dsimp only

theorem State.applyAll_keeps (base : State) (s : State) (k : Nat) (op : InFlight)
    (hk : Keeps base s) :
    Keeps base (State.applyAll s k op) := by
  unfold State.applyAll
  try dsimp only
  repeat' with_reducible first | assumption | apply State.apply_keeps | apply foldl_keeps | (simp only [Keeps_mk]; refine Keeps.parts _ _ ?_) | split | intro _ | dsimp only

theorem State.hubDone_keeps (base : State) (s : State) (c : Nat) (uid : Option Nat) (l : List Effect)
    (hk : Keeps base s) :
    Keeps base (State.hubDone s c uid l) := by
  unfold State.hubDone
  try dsimp only
  repeat' with_reducible first | assumption | apply State.apply_keeps | apply foldl_keeps | (simp only [Keeps_mk]; refine Keeps.parts _ _ ?_) | split | intro _ | dsimp only

theorem State.meter_keeps (base : State) (s : State) (c : Nat) (uid : Nat) (pj : Nat)
    (hk : Keeps base s) :
    Keeps base (State.meter s c uid pj) := by
  unfold State.meter
  try dsimp only
  repeat' with_reducible first | assumption | apply State.updCmd_keeps | apply foldl_keeps | (simp only [Keeps_mk]; refine Keeps.parts _ _ ?_) | split | intro _ | dsimp only

theorem State.digestOutput_keeps (base : State) (s : State) (c : Nat) (uid : Nat) (kind : Nat) (dest : Nat) (off : Nat) (b : Bytes)
    (hk : Keeps base s) :
    Keeps base (State.digestOutput s c uid kind dest off b) := by
  unfold State.digestOutput
  try dsimp only
  repeat' with_reducible first | assumption | apply State.updCmd_keeps | apply foldl_keeps | (simp only [Keeps_mk]; refine Keeps.parts _ _ ?_) | split | intro _ | dsimp only

theorem State.postOn_keeps (base : State) (s : State) (c : Nat) (r : Nat) (desc : Bytes)
    (hk : Keeps base s) :
    Keeps base (State.postOn s c r desc) := by
  unfold State.postOn
  try dsimp only
  repeat' with_reducible first | assumption | apply State.updRing_keeps | apply State.hostWrite_keeps | apply foldl_keeps | (simp only [Keeps_mk]; refine Keeps.parts _ _ ?_) | split | intro _ | dsimp only

theorem State.conductStep_keeps (base : State) (s : State) (c : Nat) (o : CondOp)
    (hk : Keeps base s) :
    Keeps base (State.conductStep s c o) := by
  unfold State.conductStep
  try dsimp only
  repeat' with_reducible first | assumption | apply State.putSram_keeps | apply State.postOn_keeps | apply State.ctxFault_keeps | apply foldl_keeps | (simp only [Keeps_mk]; refine Keeps.parts _ _ ?_) | split | intro _ | dsimp only

theorem State.conduct_keeps (base : State) (c : Nat) (l : List CondOp) (s : State) (hk : Keeps base s) :
    Keeps base (s.conduct c l) := by
  induction l generalizing s with
  | nil => exact State.updQuill_keeps base _ _ _ hk
  | cons o r ih =>
    unfold State.conduct
    repeat' with_reducible first | assumption | apply ih | apply State.conductStep_keeps | apply State.updQuill_keeps | split

theorem State.runConductor_keeps (base : State) (s : State) (c : Nat)
    (hk : Keeps base s) :
    Keeps base (State.runConductor s c) := by
  unfold State.runConductor
  try dsimp only
  repeat' with_reducible first | assumption | apply State.conduct_keeps | apply foldl_keeps | (simp only [Keeps_mk]; refine Keeps.parts _ _ ?_) | split | intro _ | dsimp only

theorem onIssue_keeps (base : State) (k : CoreId) (i : Instr) (s : State) (f : Nat → Machine.Stream → State)
    (hk : Keeps base s) (hf : ∀ x0 x1, Keeps base (f x0 x1)) :
    Keeps base (onIssue k i s f) := by
  unfold onIssue
  try dsimp only
  repeat' with_reducible first | assumption | apply hf | apply foldl_keeps | (simp only [Keeps_mk]; refine Keeps.parts _ _ ?_) | split | intro _ | dsimp only

theorem State.submit_keeps (base : State) (s : State) (c : CtxId) (core : Option CoreId) (write : Bool) (lines : List Nat) (waiting : Nat) (effects : List Effect)
    (hk : Keeps base s) :
    Keeps base ((State.submit s c core write lines waiting effects).1) := by
  unfold State.submit
  try dsimp only
  repeat' with_reducible first | assumption | apply State.addXfer_keeps | apply foldl_keeps | (simp only [Keeps_mk]; refine Keeps.parts _ _ ?_) | split | intro _ | dsimp only

theorem State.submit_elim (base : State) {s : State} {c : CtxId} {core : Option CoreId} {write : Bool} {lines : List Nat} {waiting : Nat} {effects : List Effect} {t : State} {y : List Nat}
    (e : State.submit s c core write lines waiting effects = (t, y)) (hk : Keeps base s) : Keeps base t := by
  have k := State.submit_keeps base s c core write lines waiting effects hk
  rw [e] at k
  exact k

theorem State.launchOp_keeps (base : State) (s : State) (k : CoreId) (key : Nat) (st : Machine.Stream) (op : UnitOp)
    (hk : Keeps base s) :
    Keeps base ((State.launchOp s k key st op).1) := by
  unfold State.launchOp
  try dsimp only
  repeat' with_reducible first | assumption | apply State.updCore_keeps | apply State.submit_keeps | refine State.submit_elim _ (by assumption) ?_ | apply foldl_keeps | (simp only [Keeps_mk]; refine Keeps.parts _ _ ?_) | split | intro _ | dsimp only

theorem State.launchOp_elim (base : State) {s : State} {k : CoreId} {key : Nat} {st : Machine.Stream} {op : UnitOp} {t : State} {y : InFlight}
    (e : State.launchOp s k key st op = (t, y)) (hk : Keeps base s) : Keeps base t := by
  have k := State.launchOp_keeps base s k key st op hk
  rw [e] at k
  exact k

theorem State.placeUnit_keeps (base : State) (s : State) (k : CoreId) (u : Nat) (key : Nat) (st : Machine.Stream) (op : UnitOp)
    (hk : Keeps base s) :
    Keeps base (State.placeUnit s k u key st op) := by
  unfold State.placeUnit
  try dsimp only
  repeat' with_reducible first | assumption | apply State.launchOp_keeps | apply State.updCore_keeps | refine State.launchOp_elim _ (by assumption) ?_ | apply foldl_keeps | (simp only [Keeps_mk]; refine Keeps.parts _ _ ?_) | split | intro _ | dsimp only

theorem issueUnit_keeps (base : State) (k : CoreId) (u : Nat) (srcs : List VReg) (i : Instr) (s : State) (f : Nat → Machine.Stream → Option UnitOp)
    (hk : Keeps base s) :
    Keeps base (issueUnit k u srcs i s f) := by
  unfold issueUnit
  try dsimp only
  repeat' with_reducible first | assumption | apply onIssue_keeps | apply State.updStream_keeps | apply State.ctxFault_keeps | apply State.placeUnit_keeps | apply foldl_keeps | (simp only [Keeps_mk]; refine Keeps.parts _ _ ?_) | split | intro _ | dsimp only

theorem execTloadv_keeps (base : State) (k : CoreId) (vd : VReg) (desc : BitVec 16) (org : SReg) (high : Option SReg) (s : State)
    (hk : Keeps base s) :
    OutKeeps base (execTloadv k vd desc org high s) := by
  unfold execTloadv
  refine outKeeps_next _ _ ?_
  try dsimp only
  repeat' with_reducible first | assumption | apply issueUnit_keeps | apply foldl_keeps | (simp only [Keeps_mk]; refine Keeps.parts _ _ ?_) | split | intro _ | dsimp only

theorem execTstorev_keeps (base : State) (k : CoreId) (vs : VReg) (desc : BitVec 16) (org : SReg) (high : Option SReg) (round : BitVec 2) (s : State)
    (hk : Keeps base s) :
    OutKeeps base (execTstorev k vs desc org high round s) := by
  unfold execTstorev
  refine outKeeps_next _ _ ?_
  try dsimp only
  repeat' with_reducible first | assumption | apply issueUnit_keeps | apply foldl_keeps | (simp only [Keeps_mk]; refine Keeps.parts _ _ ?_) | split | intro _ | dsimp only

theorem execDma_keeps (base : State) (k : CoreId) (src : BitVec 16) (dst : BitVec 16) (sem : BitVec 16) (s : State)
    (hk : Keeps base s) :
    OutKeeps base (execDma k src dst sem s) := by
  unfold execDma
  refine outKeeps_next _ _ ?_
  try dsimp only
  repeat' with_reducible first | assumption | apply onIssue_keeps | apply State.updStream_keeps | apply State.ctxFault_keeps | apply State.signalSem_keeps | apply State.launchOp_keeps | apply State.updCore_keeps | refine State.launchOp_elim _ (by assumption) ?_ | apply foldl_keeps | (simp only [Keeps_mk]; refine Keeps.parts _ _ ?_) | split | intro _ | dsimp only

theorem State.freeTracker_keeps (base : State) (s : State) (k : Nat) (c : Nat) (n : Nat)
    (hk : Keeps base s) :
    Keeps base (State.freeTracker s k c n) := by
  unfold State.freeTracker
  try dsimp only
  repeat' with_reducible first | assumption | apply State.updCore_keeps | apply foldl_keeps | (simp only [Keeps_mk]; refine Keeps.parts _ _ ?_) | split | intro _ | dsimp only

theorem execDmaRetire_keeps (base : State) (k : CoreId) (s : State)
    (hk : Keeps base s) :
    OutKeeps base (execDmaRetire k s) := by
  unfold execDmaRetire
  refine outKeeps_next _ _ ?_
  try dsimp only
  repeat' with_reducible first | assumption | apply State.updCore_keeps | apply State.applyAll_keeps | apply State.meter_keeps | apply State.freeTracker_keeps | apply foldl_keeps | (simp only [Keeps_mk]; refine Keeps.parts _ _ ?_) | split | intro _ | dsimp only

theorem execAtomaddXa_keeps (base : State) (k : CoreId) (vs : VReg) (desc : BitVec 16) (org : SReg) (high : Option SReg) (s : State)
    (hk : Keeps base s) :
    OutKeeps base (execAtomaddXa k vs desc org high s) := by
  unfold execAtomaddXa
  refine outKeeps_next _ _ ?_
  try dsimp only
  repeat' with_reducible first | assumption | apply issueUnit_keeps | apply foldl_keeps | (simp only [Keeps_mk]; refine Keeps.parts _ _ ?_) | split | intro _ | dsimp only

theorem execAtomaddF32_keeps (base : State) (k : CoreId) (vs : VReg) (desc : BitVec 16) (org : SReg) (high : Option SReg) (s : State)
    (hk : Keeps base s) :
    OutKeeps base (execAtomaddF32 k vs desc org high s) := by
  unfold execAtomaddF32
  refine outKeeps_next _ _ ?_
  try dsimp only
  repeat' with_reducible first | assumption | apply issueUnit_keeps | apply foldl_keeps | (simp only [Keeps_mk]; refine Keeps.parts _ _ ?_) | split | intro _ | dsimp only

theorem State.acceptDescriptor_keeps (base : State) (s : State) (c : CtxId) (r : RingId) (b : Bytes)
    (hk : Keeps base s) :
    Keeps base (State.acceptDescriptor s c r b) := by
  unfold State.acceptDescriptor
  try dsimp only
  repeat' with_reducible first | assumption | apply State.updCtx_keeps | apply State.updRing_keeps | apply State.forwardIn_keeps | apply State.ctxFault_keeps | apply State.finishCmd_keeps | apply foldl_keeps | (simp only [Keeps_mk]; refine Keeps.parts _ _ ?_) | split | intro _ | dsimp only

theorem execDescriptorTake_keeps (base : State) (c : CtxId) (r : RingId) (fetched : Option Bytes) (s : State)
    (hk : Keeps base s) :
    OutKeeps base (execDescriptorTake c r fetched s) := by
  unfold execDescriptorTake
  refine outKeeps_next _ _ ?_
  try dsimp only
  repeat' with_reducible first | assumption | apply State.ctxFault_keeps | apply State.acceptDescriptor_keeps | apply foldl_keeps | (simp only [Keeps_mk]; refine Keeps.parts _ _ ?_) | split | intro _ | dsimp only

theorem State.startNow_keeps (base : State) (s : State) (c : Nat) (x : Cmd) (deferred : Bool)
    (hk : Keeps base s) :
    Keeps base (State.startNow s c x deferred) := by
  unfold State.startNow
  try dsimp only
  repeat' with_reducible first | assumption | apply State.updCmd_keeps | apply State.finishCmd_keeps | apply State.updCtx_keeps | apply foldl_keeps | (simp only [Keeps_mk]; refine Keeps.parts _ _ ?_) | split | intro _ | dsimp only

theorem State.debit_keeps (base : State) (s : State) (c : Nat) (x : Cmd)
    (hk : Keeps base s) :
    Keeps base (State.debit s c x) := by
  unfold State.debit
  try dsimp only
  repeat' with_reducible first | assumption | apply State.updCmd_keeps | apply State.updCtx_keeps | apply foldl_keeps | (simp only [Keeps_mk]; refine Keeps.parts _ _ ?_) | split | intro _ | dsimp only

theorem execCommandStart_keeps (base : State) (c : CtxId) (uid : Nat) (s : State)
    (hk : Keeps base s) :
    OutKeeps base (execCommandStart c uid s) := by
  unfold execCommandStart
  refine outKeeps_next _ _ ?_
  try dsimp only
  repeat' with_reducible first | assumption | apply State.ctxFault_keeps | apply State.updCmd_keeps | apply State.updCtx_keeps | apply State.startNow_keeps | apply State.debit_keeps | apply foldl_keeps | (simp only [Keeps_mk]; refine Keeps.parts _ _ ?_) | split | intro _ | dsimp only

theorem State.launchRun_keeps (base : State) (s : State) (c : Nat) (x : Cmd)
    (hk : Keeps base s) :
    Keeps base (State.launchRun s c x) := by
  unfold State.launchRun
  try dsimp only
  repeat' with_reducible first | assumption | apply State.finishCmd_keeps | apply State.updStream_keeps | apply State.updCmd_keeps | apply foldl_keeps | (simp only [Keeps_mk]; refine Keeps.parts _ _ ?_) | split | intro _ | dsimp only

theorem execLaunch_keeps (base : State) (c : CtxId) (uid : Nat) (s : State)
    (hk : Keeps base s) :
    OutKeeps base (execLaunch c uid s) := by
  unfold execLaunch
  refine outKeeps_next _ _ ?_
  try dsimp only
  repeat' with_reducible first | assumption | apply State.launchRun_keeps | apply foldl_keeps | (simp only [Keeps_mk]; refine Keeps.parts _ _ ?_) | split | intro _ | dsimp only

theorem execLaunchStart_keeps (base : State) (c : CtxId) (uid : Nat) (s : State)
    (hk : Keeps base s) :
    OutKeeps base (execLaunchStart c uid s) := by
  unfold execLaunchStart
  refine outKeeps_next _ _ ?_
  try dsimp only
  repeat' with_reducible first | assumption | apply State.launchRun_keeps | apply State.updTick_keeps | apply foldl_keeps | (simp only [Keeps_mk]; refine Keeps.parts _ _ ?_) | split | intro _ | dsimp only

theorem onCommand_keeps (base : State) (c : CtxId) (uid : Nat) (type : Nat) (s : State) (f : Cmd → State)
    (hk : Keeps base s) (hf : ∀ x0, Keeps base (f x0)) :
    Keeps base (onCommand c uid type s f) := by
  unfold onCommand
  try dsimp only
  repeat' with_reducible first | assumption | apply hf | apply foldl_keeps | (simp only [Keeps_mk]; refine Keeps.parts _ _ ?_) | split | intro _ | dsimp only

theorem State.doneCmd_keeps (base : State) (s : State) (c : Nat) (uid : Nat) (result : Nat)
    (hk : Keeps base s) :
    Keeps base (State.doneCmd s c uid result) := by
  unfold State.doneCmd
  try dsimp only
  repeat' with_reducible first | assumption | apply State.updCmd_keeps | apply foldl_keeps | (simp only [Keeps_mk]; refine Keeps.parts _ _ ?_) | split | intro _ | dsimp only

theorem execDescCreate_keeps (base : State) (c : CtxId) (uid : Nat) (s : State)
    (hk : Keeps base s) :
    OutKeeps base (execDescCreate c uid s) := by
  unfold execDescCreate
  refine outKeeps_next _ _ ?_
  try dsimp only
  repeat' with_reducible first | assumption | apply onCommand_keeps | apply State.ctxFault_keeps | apply State.doneCmd_keeps | apply State.updCtx_keeps | apply foldl_keeps | (simp only [Keeps_mk]; refine Keeps.parts _ _ ?_) | split | intro _ | dsimp only

theorem execDescDestroy_keeps (base : State) (c : CtxId) (uid : Nat) (s : State)
    (hk : Keeps base s) :
    OutKeeps base (execDescDestroy c uid s) := by
  unfold execDescDestroy
  refine outKeeps_next _ _ ?_
  try dsimp only
  repeat' with_reducible first | assumption | apply onCommand_keeps | apply State.ctxFault_keeps | apply State.doneCmd_keeps | apply State.updCtx_keeps | apply foldl_keeps | (simp only [Keeps_mk]; refine Keeps.parts _ _ ?_) | split | intro _ | dsimp only

theorem execDmaCommand_keeps (base : State) (c : CtxId) (uid : Nat) (s : State)
    (hk : Keeps base s) :
    OutKeeps base (execDmaCommand c uid s) := by
  unfold execDmaCommand
  refine outKeeps_next _ _ ?_
  try dsimp only
  repeat' with_reducible first | assumption | apply onCommand_keeps | apply State.ctxFault_keeps | apply State.doneCmd_keeps | apply State.launchOp_keeps | apply State.updCmd_keeps | apply State.updCore_keeps | refine State.launchOp_elim _ (by assumption) ?_ | apply foldl_keeps | (simp only [Keeps_mk]; refine Keeps.parts _ _ ?_) | split | intro _ | dsimp only

theorem execSignal_keeps (base : State) (c : CtxId) (uid : Nat) (s : State)
    (hk : Keeps base s) :
    OutKeeps base (execSignal c uid s) := by
  unfold execSignal
  refine outKeeps_next _ _ ?_
  try dsimp only
  repeat' with_reducible first | assumption | apply onCommand_keeps | apply State.ctxFault_keeps | apply State.signalSem_keeps | apply State.doneCmd_keeps | apply foldl_keeps | (simp only [Keeps_mk]; refine Keeps.parts _ _ ?_) | split | intro _ | dsimp only

theorem execFence_keeps (base : State) (c : CtxId) (uid : Nat) (s : State)
    (hk : Keeps base s) :
    OutKeeps base (execFence c uid s) := by
  unfold execFence
  refine outKeeps_next _ _ ?_
  try dsimp only
  repeat' with_reducible first | assumption | apply onCommand_keeps | apply State.doneCmd_keeps | apply foldl_keeps | (simp only [Keeps_mk]; refine Keeps.parts _ _ ?_) | split | intro _ | dsimp only

theorem execDistSet_keeps (base : State) (c : CtxId) (uid : Nat) (s : State)
    (hk : Keeps base s) :
    OutKeeps base (execDistSet c uid s) := by
  unfold execDistSet
  refine outKeeps_next _ _ ?_
  try dsimp only
  repeat' with_reducible first | assumption | apply onCommand_keeps | apply State.ctxFault_keeps | apply State.updCtx_keeps | apply State.doneCmd_keeps | apply foldl_keeps | (simp only [Keeps_mk]; refine Keeps.parts _ _ ?_) | split | intro _ | dsimp only

theorem State.stopCommand_keeps (base : State) (s : State) (c : Nat) (uid : Nat)
    (hk : Keeps base s) :
    Keeps base (State.stopCommand s c uid) := by
  unfold State.stopCommand
  try dsimp only
  repeat' with_reducible first | assumption | apply State.updCore_keeps | apply State.updCtx_keeps | apply foldl_keeps | (simp only [Keeps_mk]; refine Keeps.parts _ _ ?_) | split | intro _ | dsimp only

theorem execAbort_keeps (base : State) (c : CtxId) (uid : Nat) (s : State)
    (hk : Keeps base s) :
    OutKeeps base (execAbort c uid s) := by
  unfold execAbort
  refine outKeeps_next _ _ ?_
  try dsimp only
  repeat' with_reducible first | assumption | apply State.finishCmd_keeps | apply State.stopCommand_keeps | apply foldl_keeps | (simp only [Keeps_mk]; refine Keeps.parts _ _ ?_) | split | intro _ | dsimp only

theorem execCommandTerminal_keeps (base : State) (c : CtxId) (uid : Nat) (ats : Bool) (s : State)
    (hk : Keeps base s) :
    OutKeeps base (execCommandTerminal c uid ats s) := by
  unfold execCommandTerminal
  refine outKeeps_next _ _ ?_
  try dsimp only
  repeat' with_reducible first | assumption | apply State.ctxFault_keeps | apply State.terminal_keeps | apply State.finishCmd_keeps | refine State.terminal_elim _ (by assumption) ?_ | apply foldl_keeps | (simp only [Keeps_mk]; refine Keeps.parts _ _ ?_) | split | intro _ | dsimp only

theorem State.govern_keeps (base : State) (s : State) (c : Nat)
    (hk : Keeps base s) :
    Keeps base (State.govern s c) := by
  unfold State.govern
  try dsimp only
  repeat' with_reducible first | assumption | apply State.updCtx_keeps | apply foldl_keeps | (simp only [Keeps_mk]; refine Keeps.parts _ _ ?_) | split | intro _ | dsimp only

theorem State.assignSlot_keeps (base : State) (s : State) (k : Nat)
    (hk : Keeps base s) :
    Keeps base (State.assignSlot s k) := by
  unfold State.assignSlot
  try dsimp only
  repeat' with_reducible first | assumption | apply State.updCore_keeps | apply foldl_keeps | (simp only [Keeps_mk]; refine Keeps.parts _ _ ?_) | split | intro _ | dsimp only

theorem State.saveStream_keeps (base : State) (s : State) (k : Nat) (key : Nat)
    (hk : Keeps base s) :
    Keeps base (State.saveStream s k key) := by
  unfold State.saveStream
  try dsimp only
  repeat' with_reducible first | assumption | apply State.applyAll_keeps | apply State.meter_keeps | apply State.updCore_keeps | apply foldl_keeps | (simp only [Keeps_mk]; refine Keeps.parts _ _ ?_) | split | intro _ | dsimp only

theorem State.restoreStream_keeps (base : State) (s : State) (k : Nat) (key : Nat)
    (hk : Keeps base s) :
    Keeps base (State.restoreStream s k key) := by
  unfold State.restoreStream
  try dsimp only
  repeat' with_reducible first | assumption | apply State.updCore_keeps | apply foldl_keeps | (simp only [Keeps_mk]; refine Keeps.parts _ _ ?_) | split | intro _ | dsimp only

theorem stepStream_keeps (base : State) (k : CoreId) (i : Instr) (s : State) (f : Machine.Stream → Machine.Stream)
    (hk : Keeps base s) :
    Keeps base (stepStream k i s f) := by
  unfold stepStream
  try dsimp only
  repeat' with_reducible first | assumption | apply onIssue_keeps | apply State.updStream_keeps | apply foldl_keeps | (simp only [Keeps_mk]; refine Keeps.parts _ _ ?_) | split | intro _ | dsimp only

theorem execLoop_keeps (base : State) (k : CoreId) (n : SReg) (count : BitVec 16) (offset : BitVec 16) (s : State)
    (hk : Keeps base s) :
    OutKeeps base (execLoop k n count offset s) := by
  unfold execLoop
  refine outKeeps_next _ _ ?_
  try dsimp only
  repeat' with_reducible first | assumption | apply onIssue_keeps | apply State.updStream_keeps | apply State.ctxFault_keeps | apply foldl_keeps | (simp only [Keeps_mk]; refine Keeps.parts _ _ ?_) | split | intro _ | dsimp only

theorem execBranch_keeps (base : State) (k : CoreId) (cond : BranchCond) (n : SReg) (offset : BitVec 16) (s : State)
    (hk : Keeps base s) :
    OutKeeps base (execBranch k cond n offset s) := by
  unfold execBranch
  refine outKeeps_next _ _ ?_
  try dsimp only
  repeat' with_reducible first | assumption | apply onIssue_keeps | apply State.ctxFault_keeps | apply State.updStream_keeps | apply foldl_keeps | (simp only [Keeps_mk]; refine Keeps.parts _ _ ?_) | split | intro _ | dsimp only

theorem execWaitsem_keeps (base : State) (k : CoreId) (sem : BitVec 16) (n : BitVec 16) (s : State)
    (hk : Keeps base s) :
    OutKeeps base (execWaitsem k sem n s) := by
  unfold execWaitsem
  refine outKeeps_next _ _ ?_
  try dsimp only
  repeat' with_reducible first | assumption | apply onIssue_keeps | apply State.ctxFault_keeps | apply State.updStream_keeps | apply State.setSem_keeps | apply foldl_keeps | (simp only [Keeps_mk]; refine Keeps.parts _ _ ?_) | split | intro _ | dsimp only

theorem execWaitsemRelease_keeps (base : State) (c : CtxId) (sem : BitVec 16) (s : State)
    (hk : Keeps base s) :
    OutKeeps base (execWaitsemRelease c sem s) := by
  unfold execWaitsemRelease
  refine outKeeps_next _ _ ?_
  try dsimp only
  repeat' with_reducible first | assumption | apply State.updStream_keeps | apply State.setSem_keeps | apply foldl_keeps | (simp only [Keeps_mk]; refine Keeps.parts _ _ ?_) | split | intro _ | dsimp only

theorem execSigsem_keeps (base : State) (k : CoreId) (sem : BitVec 16) (n : BitVec 16) (s : State)
    (hk : Keeps base s) :
    OutKeeps base (execSigsem k sem n s) := by
  unfold execSigsem
  refine outKeeps_next _ _ ?_
  try dsimp only
  repeat' with_reducible first | assumption | apply onIssue_keeps | apply State.ctxFault_keeps | apply State.signalSem_keeps | apply State.updStream_keeps | apply foldl_keeps | (simp only [Keeps_mk]; refine Keeps.parts _ _ ?_) | split | intro _ | dsimp only

theorem execWaittick_keeps (base : State) (k : CoreId) (n : SReg) (s : State)
    (hk : Keeps base s) :
    OutKeeps base (execWaittick k n s) := by
  unfold execWaittick
  refine outKeeps_next _ _ ?_
  try dsimp only
  repeat' with_reducible first | assumption | apply onIssue_keeps | apply State.updStream_keeps | apply foldl_keeps | (simp only [Keeps_mk]; refine Keeps.parts _ _ ?_) | split | intro _ | dsimp only

theorem execWaittickRelease_keeps (base : State) (k : CoreId) (s : State)
    (hk : Keeps base s) :
    OutKeeps base (execWaittickRelease k s) := by
  unfold execWaittickRelease
  refine outKeeps_next _ _ ?_
  try dsimp only
  repeat' with_reducible first | assumption | apply State.updStream_keeps | apply foldl_keeps | (simp only [Keeps_mk]; refine Keeps.parts _ _ ?_) | split | intro _ | dsimp only

theorem execSets_keeps (base : State) (k : CoreId) (n : SReg) (imm : BitVec 32) (s : State)
    (hk : Keeps base s) :
    OutKeeps base (execSets k n imm s) := by
  unfold execSets
  refine outKeeps_next _ _ ?_
  try dsimp only
  repeat' with_reducible first | assumption | apply stepStream_keeps | apply foldl_keeps | (simp only [Keeps_mk]; refine Keeps.parts _ _ ?_) | split | intro _ | dsimp only

theorem execAdds_keeps (base : State) (k : CoreId) (n : SReg) (imm : BitVec 32) (s : State)
    (hk : Keeps base s) :
    OutKeeps base (execAdds k n imm s) := by
  unfold execAdds
  refine outKeeps_next _ _ ?_
  try dsimp only
  repeat' with_reducible first | assumption | apply stepStream_keeps | apply foldl_keeps | (simp only [Keeps_mk]; refine Keeps.parts _ _ ?_) | split | intro _ | dsimp only

theorem execEndProgram_keeps (base : State) (k : CoreId) (s : State)
    (hk : Keeps base s) :
    OutKeeps base (execEndProgram k s) := by
  unfold execEndProgram
  refine outKeeps_next _ _ ?_
  try dsimp only
  repeat' with_reducible first | assumption | apply onIssue_keeps | apply State.updStream_keeps | apply State.assignSlot_keeps | apply foldl_keeps | (simp only [Keeps_mk]; refine Keeps.parts _ _ ?_) | split | intro _ | dsimp only

theorem execUndefinedOpcode_keeps (base : State) (k : CoreId) (s : State)
    (hk : Keeps base s) :
    OutKeeps base (execUndefinedOpcode k s) := by
  unfold execUndefinedOpcode
  refine outKeeps_next _ _ ?_
  try dsimp only
  repeat' with_reducible first | assumption | apply onIssue_keeps | apply State.ctxFault_keeps | apply foldl_keeps | (simp only [Keeps_mk]; refine Keeps.parts _ _ ?_) | split | intro _ | dsimp only

theorem execMma_keeps (base : State) (k : CoreId) (array : ArrayId) (a : BitVec 16) (b : BitVec 16) (org : SReg) (sk : SReg) (clear : Bool) (ta : Bool) (tb : Bool) (s : State)
    (hk : Keeps base s) :
    OutKeeps base (execMma k array a b org sk clear ta tb s) := by
  unfold execMma
  refine outKeeps_next _ _ ?_
  try dsimp only
  repeat' with_reducible first | assumption | apply issueUnit_keeps | apply foldl_keeps | (simp only [Keeps_mk]; refine Keeps.parts _ _ ?_) | split | intro _ | dsimp only

theorem execXspill_keeps (base : State) (k : CoreId) (array : ArrayId) (desc : BitVec 16) (org : SReg) (high : Option SReg) (release : Bool) (s : State)
    (hk : Keeps base s) :
    OutKeeps base (execXspill k array desc org high release s) := by
  unfold execXspill
  refine outKeeps_next _ _ ?_
  try dsimp only
  repeat' with_reducible first | assumption | apply issueUnit_keeps | apply foldl_keeps | (simp only [Keeps_mk]; refine Keeps.parts _ _ ?_) | split | intro _ | dsimp only

theorem execXfill_keeps (base : State) (k : CoreId) (array : ArrayId) (desc : BitVec 16) (org : SReg) (high : Option SReg) (s : State)
    (hk : Keeps base s) :
    OutKeeps base (execXfill k array desc org high s) := by
  unfold execXfill
  refine outKeeps_next _ _ ?_
  try dsimp only
  repeat' with_reducible first | assumption | apply issueUnit_keeps | apply foldl_keeps | (simp only [Keeps_mk]; refine Keeps.parts _ _ ?_) | split | intro _ | dsimp only

theorem execXout_keeps (base : State) (k : CoreId) (array : ArrayId) (desc : BitVec 16) (org : SReg) (high : Option SReg) (round : BitVec 2) (s : State)
    (hk : Keeps base s) :
    OutKeeps base (execXout k array desc org high round s) := by
  unfold execXout
  refine outKeeps_next _ _ ?_
  try dsimp only
  repeat' with_reducible first | assumption | apply issueUnit_keeps | apply foldl_keeps | (simp only [Keeps_mk]; refine Keeps.parts _ _ ?_) | split | intro _ | dsimp only

theorem execVop_keeps (base : State) (k : CoreId) (op : VopOp) (vd : VReg) (vs : VReg) (vt : VReg) (s : State)
    (hk : Keeps base s) :
    OutKeeps base (execVop k op vd vs vt s) := by
  unfold execVop
  refine outKeeps_next _ _ ?_
  try dsimp only
  repeat' with_reducible first | assumption | apply issueUnit_keeps | apply foldl_keeps | (simp only [Keeps_mk]; refine Keeps.parts _ _ ?_) | split | intro _ | dsimp only

theorem execSfu_keeps (base : State) (k : CoreId) (slot : GlyphSlot) (vd : VReg) (vs : VReg) (vt : VReg) (s : State)
    (hk : Keeps base s) :
    OutKeeps base (execSfu k slot vd vs vt s) := by
  unfold execSfu
  refine outKeeps_next _ _ ?_
  try dsimp only
  repeat' with_reducible first | assumption | apply issueUnit_keeps | apply foldl_keeps | (simp only [Keeps_mk]; refine Keeps.parts _ _ ?_) | split | intro _ | dsimp only

theorem execSoftmax_keeps (base : State) (k : CoreId) (src : BitVec 16) (dst : BitVec 16) (scratch : BitVec 16) (org : SReg) (round : BitVec 2) (s : State)
    (hk : Keeps base s) :
    OutKeeps base (execSoftmax k src dst scratch org round s) := by
  unfold execSoftmax
  refine outKeeps_next _ _ ?_
  try dsimp only
  repeat' with_reducible first | assumption | apply issueUnit_keeps | apply foldl_keeps | (simp only [Keeps_mk]; refine Keeps.parts _ _ ?_) | split | intro _ | dsimp only

theorem execNorm_keeps (base : State) (k : CoreId) (stable : Bool) (src : BitVec 16) (vd : VReg) (org : SReg) (sr : SReg) (s : State)
    (hk : Keeps base s) :
    OutKeeps base (execNorm k stable src vd org sr s) := by
  unfold execNorm
  refine outKeeps_next _ _ ?_
  try dsimp only
  repeat' with_reducible first | assumption | apply issueUnit_keeps | apply foldl_keeps | (simp only [Keeps_mk]; refine Keeps.parts _ _ ?_) | split | intro _ | dsimp only

theorem execStipple_keeps (base : State) (k : CoreId) (vd : VReg) (sn : SReg) (stReg : SReg) (s : State)
    (hk : Keeps base s) :
    OutKeeps base (execStipple k vd sn stReg s) := by
  unfold execStipple
  refine outKeeps_next _ _ ?_
  try dsimp only
  repeat' with_reducible first | assumption | apply issueUnit_keeps | apply foldl_keeps | (simp only [Keeps_mk]; refine Keeps.parts _ _ ?_) | split | intro _ | dsimp only

theorem resultState_keeps (base s : State) (r : Result) (hk : Keeps base s) (k : OutKeeps base r) :
    Keeps base (resultState s r) := by
  cases r
  · exact k
  · exact hk
  · exact hk

theorem issueAgain_keeps (base : State) (i : Instr) (s : State)
    (hk : Keeps base s) :
    Keeps base (issueAgain i s) := by
  unfold issueAgain
  try dsimp only
  repeat' with_reducible first | assumption | apply resultState_keeps | apply execTloadv_keeps | apply execTstorev_keeps | apply execDma_keeps | apply execAtomaddXa_keeps | apply execAtomaddF32_keeps | apply execMma_keeps | apply execXspill_keeps | apply execXfill_keeps | apply execXout_keeps | apply execVop_keeps | apply execSfu_keeps | apply execSoftmax_keeps | apply execNorm_keeps | apply execStipple_keeps | apply foldl_keeps | (simp only [Keeps_mk]; refine Keeps.parts _ _ ?_) | split | intro _ | dsimp only

theorem State.tryHeld_keeps (base : State) (s : State) (k : Nat)
    (hk : Keeps base s) :
    Keeps base (State.tryHeld s k) := by
  unfold State.tryHeld
  try dsimp only
  repeat' with_reducible first | assumption | apply State.updStream_keeps | apply issueAgain_keeps | apply foldl_keeps | (simp only [Keeps_mk]; refine Keeps.parts _ _ ?_) | split | intro _ | dsimp only

theorem execUnitFree_keeps (base : State) (k : CoreId) (unit : Fin 11) (s : State)
    (hk : Keeps base s) :
    OutKeeps base (execUnitFree k unit s) := by
  unfold execUnitFree
  refine outKeeps_next _ _ ?_
  try dsimp only
  repeat' with_reducible first | assumption | apply State.updCore_keeps | apply State.applyAll_keeps | apply State.meter_keeps | apply State.freeTracker_keeps | apply State.tryHeld_keeps | apply foldl_keeps | (simp only [Keeps_mk]; refine Keeps.parts _ _ ?_) | split | intro _ | dsimp only

theorem execTrackerWaitEnd_keeps (base : State) (k : CoreId) (s : State)
    (hk : Keeps base s) :
    OutKeeps base (execTrackerWaitEnd k s) := by
  unfold execTrackerWaitEnd
  refine outKeeps_next _ _ ?_
  try dsimp only
  repeat' with_reducible first | assumption | apply State.updCore_keeps | apply foldl_keeps | (simp only [Keeps_mk]; refine Keeps.parts _ _ ?_) | split | intro _ | dsimp only

theorem execHbmLineIssue_keeps (base : State) (c : CtxId) (s : State)
    (hk : Keeps base s) :
    OutKeeps base (execHbmLineIssue c s) := by
  unfold execHbmLineIssue
  refine outKeeps_next _ _ ?_
  try dsimp only
  repeat' with_reducible first | assumption | apply foldl_keeps | (simp only [Keeps_mk]; refine Keeps.parts _ _ ?_) | split | intro _ | dsimp only

theorem execHbmRefresh_keeps (base : State) (s : State)
    (hk : Keeps base s) :
    OutKeeps base (execHbmRefresh s) := by
  unfold execHbmRefresh
  refine outKeeps_next _ _ ?_
  try dsimp only
  repeat' with_reducible first | assumption | apply foldl_keeps | (simp only [Keeps_mk]; refine Keeps.parts _ _ ?_) | split | intro _ | dsimp only

theorem State.writeLine_keeps (base : State) (s : State) (x : Xfer) (l : Nat)
    (hk : Keeps base s) :
    Keeps base (State.writeLine s x l) := by
  unfold State.writeLine
  try dsimp only
  repeat' with_reducible first | assumption | apply State.writeMem_keeps | apply foldl_keeps | (simp only [Keeps_mk]; refine Keeps.parts _ _ ?_) | split | intro _ | dsimp only

theorem State.finishXfer_keeps (base : State) (s : State) (x : Xfer)
    (hk : Keeps base s) :
    Keeps base (State.finishXfer s x) := by
  unfold State.finishXfer
  try dsimp only
  repeat' with_reducible first | assumption | apply State.emit_keeps | apply State.apply_keeps | apply foldl_keeps | (simp only [Keeps_mk]; refine Keeps.parts _ _ ?_) | split | intro _ | dsimp only

theorem State.retireLines_keeps (base : State) (s : State) (x : Xfer) (n : Nat)
    (hk : Keeps base s) :
    Keeps base (State.retireLines s x n) := by
  unfold State.retireLines
  try dsimp only
  repeat' with_reducible first | assumption | apply State.freeTracker_keeps | apply State.finishXfer_keeps | apply foldl_keeps | (simp only [Keeps_mk]; refine Keeps.parts _ _ ?_) | split | intro _ | dsimp only

theorem execHbmReadReturn_keeps (base : State) (xfer : Nat) (line : Nat) (errors : List SymbolError) (s : State)
    (hk : Keeps base s) :
    OutKeeps base (execHbmReadReturn xfer line errors s) := by
  unfold execHbmReadReturn
  refine outKeeps_next _ _ ?_
  try dsimp only
  repeat' with_reducible first | assumption | apply State.retireLines_keeps | apply State.ctxFault_keeps | apply foldl_keeps | (simp only [Keeps_mk]; refine Keeps.parts _ _ ?_) | split | intro _ | dsimp only

theorem execHbmWriteRetire_keeps (base : State) (xfer : Nat) (line : Nat) (s : State)
    (hk : Keeps base s) :
    OutKeeps base (execHbmWriteRetire xfer line s) := by
  unfold execHbmWriteRetire
  refine outKeeps_next _ _ ?_
  try dsimp only
  repeat' with_reducible first | assumption | apply State.retireLines_keeps | apply State.writeLine_keeps | apply foldl_keeps | (simp only [Keeps_mk]; refine Keeps.parts _ _ ?_) | split | intro _ | dsimp only

theorem State.writeLanded_keeps (base : State) (s : State) (k : Nat) (c : Nat)
    (hk : Keeps base s) :
    Keeps base (State.writeLanded s k c) := by
  unfold State.writeLanded
  try dsimp only
  repeat' with_reducible first | assumption | apply State.retireLines_keeps | apply foldl_keeps | (simp only [Keeps_mk]; refine Keeps.parts _ _ ?_) | split | intro _ | dsimp only

theorem execWaitTimeout_keeps (base : State) (k : CoreId) (c : CtxId) (s : State)
    (hk : Keeps base s) :
    OutKeeps base (execWaitTimeout k c s) := by
  unfold execWaitTimeout
  refine outKeeps_next _ _ ?_
  try dsimp only
  repeat' with_reducible first | assumption | apply State.teardown_keeps | apply foldl_keeps | (simp only [Keeps_mk]; refine Keeps.parts _ _ ?_) | split | intro _ | dsimp only

theorem State.startCreate_keeps (base : State) (s : State) (c : Nat)
    (hk : Keeps base s) :
    Keeps base (State.startCreate s c) := by
  unfold State.startCreate
  try dsimp only
  repeat' with_reducible first | assumption | apply State.raiseStateChange_keeps | apply State.updCtx_keeps | apply foldl_keeps | (simp only [Keeps_mk]; refine Keeps.parts _ _ ?_) | split | intro _ | dsimp only

theorem execCreateComplete_keeps (base : State) (c : CtxId) (s : State)
    (hk : Keeps base s) :
    OutKeeps base (execCreateComplete c s) := by
  unfold execCreateComplete
  refine outKeeps_next _ _ ?_
  try dsimp only
  repeat' with_reducible first | assumption | apply State.raiseStateChange_keeps | apply State.updLife_keeps | apply foldl_keeps | (simp only [Keeps_mk]; refine Keeps.parts _ _ ?_) | split | intro _ | dsimp only

theorem execTeardownStop_keeps (base : State) (c : CtxId) (s : State)
    (hk : Keeps base s) :
    OutKeeps base (execTeardownStop c s) := by
  unfold execTeardownStop
  refine outKeeps_next _ _ ?_
  try dsimp only
  repeat' with_reducible first | assumption | apply State.updCtx_keeps | apply foldl_keeps | (simp only [Keeps_mk]; refine Keeps.parts _ _ ?_) | split | intro _ | dsimp only

theorem State.scrubShares_keeps (base : State) (s : State) (l : List (Nat × Nat × Nat))
    (hk : Keeps base s) :
    Keeps base (State.scrubShares s l) := by
  unfold State.scrubShares
  try dsimp only
  repeat' with_reducible first | assumption | apply State.setScrubs_keeps | apply foldl_keeps | (simp only [Keeps_mk]; refine Keeps.parts _ _ ?_) | split | intro _ | dsimp only

theorem execScrubStart_keeps (base : State) (c : CtxId) (s : State)
    (hk : Keeps base s) :
    OutKeeps base (execScrubStart c s) := by
  unfold execScrubStart
  refine outKeeps_next _ _ ?_
  try dsimp only
  repeat' with_reducible first | assumption | apply State.updLife_keeps | apply State.scrubShares_keeps | apply foldl_keeps | (simp only [Keeps_mk]; refine Keeps.parts _ _ ?_) | split | intro _ | dsimp only

theorem execTransactionAbandon_keeps (base : State) (c : CtxId) (s : State)
    (hk : Keeps base s) :
    OutKeeps base (execTransactionAbandon c s) := by
  unfold execTransactionAbandon
  refine outKeeps_next _ _ ?_
  try dsimp only
  repeat' with_reducible first | assumption | apply State.updLife_keeps | apply foldl_keeps | (simp only [Keeps_mk]; refine Keeps.parts _ _ ?_) | split | intro _ | dsimp only

theorem State.keepStaged_keeps (base : State) (s : State) (c : Nat)
    (hk : Keeps base s) :
    Keeps base (State.keepStaged s c) := by
  unfold State.keepStaged
  try dsimp only
  repeat' with_reducible first | assumption | apply foldl_keeps | (simp only [Keeps_mk]; refine Keeps.parts _ _ ?_) | split | intro _ | dsimp only

theorem execTeardownFree_keeps (base : State) (c : CtxId) (s : State)
    (hk : Keeps base s) :
    OutKeeps base (execTeardownFree c s) := by
  unfold execTeardownFree
  refine outKeeps_next _ _ ?_
  try dsimp only
  repeat' with_reducible first | assumption | apply State.updCtx_keeps | apply State.raiseStateChange_keeps | apply State.keepStaged_keeps | apply State.startCreate_keeps | apply foldl_keeps | (simp only [Keeps_mk]; refine Keeps.parts _ _ ?_) | split | intro _ | dsimp only

theorem execScrubUnitDone_keeps (base : State) (m : ScrubMem) (unit : Nat) (s : State)
    (hk : Keeps base s) :
    OutKeeps base (execScrubUnitDone m unit s) := by
  unfold execScrubUnitDone
  refine outKeeps_next _ _ ?_
  try dsimp only
  repeat' with_reducible first | assumption | apply State.zeroMem_keeps | apply State.setScrubs_keeps | apply foldl_keeps | (simp only [Keeps_mk]; refine Keeps.parts _ _ ?_) | split | intro _ | dsimp only

theorem State.suspend_keeps (base : State) (s : State) (c : Nat)
    (hk : Keeps base s) :
    Keeps base (State.suspend s c) := by
  unfold State.suspend
  try dsimp only
  repeat' with_reducible first | assumption | apply State.updLife_keeps | apply State.saveStream_keeps | apply State.raiseStateChange_keeps | apply foldl_keeps | (simp only [Keeps_mk]; refine Keeps.parts _ _ ?_) | split | intro _ | dsimp only

theorem State.resume_keeps (base : State) (s : State) (c : Nat)
    (hk : Keeps base s) :
    Keeps base (State.resume s c) := by
  unfold State.resume
  try dsimp only
  repeat' with_reducible first | assumption | apply State.updLife_keeps | apply State.raiseStateChange_keeps | apply State.assignSlot_keeps | apply foldl_keeps | (simp only [Keeps_mk]; refine Keeps.parts _ _ ?_) | split | intro _ | dsimp only

theorem State.wakeCore_keeps (base : State) (s : State) (k : Nat)
    (hk : Keeps base s) :
    Keeps base (State.wakeCore s k) := by
  unfold State.wakeCore
  try dsimp only
  repeat' with_reducible first | assumption | apply State.updCore_keeps | apply foldl_keeps | (simp only [Keeps_mk]; refine Keeps.parts _ _ ?_) | split | intro _ | dsimp only

theorem execSlotStart_keeps (base : State) (e : EngineId) (s : State)
    (hk : Keeps base s) :
    OutKeeps base (execSlotStart e s) := by
  unfold execSlotStart
  refine outKeeps_next _ _ ?_
  try dsimp only
  repeat' with_reducible first | assumption | apply State.updWheel_keeps | apply State.wakeCore_keeps | apply State.govern_keeps | apply State.assignSlot_keeps | apply State.writeLanded_keeps | apply State.tryHeld_keeps | apply foldl_keeps | (simp only [Keeps_mk]; refine Keeps.parts _ _ ?_) | split | intro _ | dsimp only

theorem execPreemptSaveDone_keeps (base : State) (k : CoreId) (s : State)
    (hk : Keeps base s) :
    OutKeeps base (execPreemptSaveDone k s) := by
  unfold execPreemptSaveDone
  refine outKeeps_next _ _ ?_
  try dsimp only
  repeat' with_reducible first | assumption | apply State.updCore_keeps | apply State.tryHeld_keeps | apply State.saveStream_keeps | apply foldl_keeps | (simp only [Keeps_mk]; refine Keeps.parts _ _ ?_) | split | intro _ | dsimp only

theorem execRestoreDone_keeps (base : State) (k : CoreId) (s : State)
    (hk : Keeps base s) :
    OutKeeps base (execRestoreDone k s) := by
  unfold execRestoreDone
  refine outKeeps_next _ _ ?_
  try dsimp only
  repeat' with_reducible first | assumption | apply State.updCore_keeps | apply State.tryHeld_keeps | apply State.restoreStream_keeps | apply foldl_keeps | (simp only [Keeps_mk]; refine Keeps.parts _ _ ?_) | split | intro _ | dsimp only

theorem execRulingSwitch_keeps (base : State) (e : EngineId) (s : State)
    (hk : Keeps base s) :
    OutKeeps base (execRulingSwitch e s) := by
  unfold execRulingSwitch
  refine outKeeps_next _ _ ?_
  try dsimp only
  repeat' with_reducible first | assumption | apply State.updWheel_keeps | apply foldl_keeps | (simp only [Keeps_mk]; refine Keeps.parts _ _ ?_) | split | intro _ | dsimp only

theorem State.ringNotice_keeps (base : State) (s : State) (c : Nat) (r : Nat) (v : BitVec 32)
    (hk : Keeps base s) :
    Keeps base (State.ringNotice s c r v) := by
  unfold State.ringNotice
  try dsimp only
  repeat' with_reducible first | assumption | apply State.updRing_keeps | apply State.writeRecord_keeps | apply foldl_keeps | (simp only [Keeps_mk]; refine Keeps.parts _ _ ?_) | split | intro _ | dsimp only

theorem State.doorbell_keeps (base : State) (s : State) (c : CtxId) (r : RingId) (v : BitVec 32)
    (hk : Keeps base s) :
    Keeps base (State.doorbell s c r v) := by
  unfold State.doorbell
  try dsimp only
  repeat' with_reducible first | assumption | apply State.ringNotice_keeps | apply State.updRing_keeps | apply foldl_keeps | (simp only [Keeps_mk]; refine Keeps.parts _ _ ?_) | split | intro _ | dsimp only

theorem State.ringBell_keeps (base : State) (s : State) (c : CtxId) (r : RingId) (v : BitVec 32)
    (hk : Keeps base s) :
    Keeps base (State.ringBell s c r v) := by
  unfold State.ringBell
  try dsimp only
  repeat' with_reducible first | assumption | apply State.updHost_keeps | apply State.doorbell_keeps | apply foldl_keeps | (simp only [Keeps_mk]; refine Keeps.parts _ _ ?_) | split | intro _ | dsimp only

theorem State.settleBells_keeps (base : State) (s : State) (c : Nat)
    (hk : Keeps base s) :
    Keeps base (State.settleBells s c) := by
  unfold State.settleBells
  try dsimp only
  repeat' with_reducible first | assumption | apply State.doorbell_keeps | apply State.updHost_keeps | apply foldl_keeps | (simp only [Keeps_mk]; refine Keeps.parts _ _ ?_) | split | intro _ | dsimp only

theorem execRingDoorbell_keeps (base : State) (c : CtxId) (r : RingId) (v : BitVec 32) (s : State)
    (hk : Keeps base s) :
    OutKeeps base (execRingDoorbell c r v s) := by
  unfold execRingDoorbell
  refine outKeeps_next _ _ ?_
  try dsimp only
  repeat' with_reducible first | assumption | apply State.ringBell_keeps | apply State.forwardIn_keeps | apply foldl_keeps | (simp only [Keeps_mk]; refine Keeps.parts _ _ ?_) | split | intro _ | dsimp only

theorem State.ringControl_keeps (base : State) (s : State) (c : CtxId) (r : RingId) (enable : Bool) (log2 : BitVec 4)
    (hk : Keeps base s) :
    Keeps base (State.ringControl s c r enable log2) := by
  unfold State.ringControl
  try dsimp only
  repeat' with_reducible first | assumption | apply State.updRing_keeps | apply foldl_keeps | (simp only [Keeps_mk]; refine Keeps.parts _ _ ?_) | split | intro _ | dsimp only

theorem execRingEnable_keeps (base : State) (c : CtxId) (r : RingId) (enable : Bool) (log2 : BitVec 4) (s : State)
    (hk : Keeps base s) :
    OutKeeps base (execRingEnable c r enable log2 s) := by
  unfold execRingEnable
  refine outKeeps_next _ _ ?_
  try dsimp only
  repeat' with_reducible first | assumption | apply State.ringControl_keeps | apply State.forwardIn_keeps | apply foldl_keeps | (simp only [Keeps_mk]; refine Keeps.parts _ _ ?_) | split | intro _ | dsimp only

theorem State.cqHead_keeps (base : State) (s : State) (c : CtxId) (r : RingId) (v : BitVec 32)
    (hk : Keeps base s) :
    Keeps base (State.cqHead s c r v) := by
  unfold State.cqHead
  try dsimp only
  repeat' with_reducible first | assumption | apply State.updRing_keeps | apply foldl_keeps | (simp only [Keeps_mk]; refine Keeps.parts _ _ ?_) | split | intro _ | dsimp only

theorem execCqHeadWrite_keeps (base : State) (c : CtxId) (r : RingId) (v : BitVec 32) (s : State)
    (hk : Keeps base s) :
    OutKeeps base (execCqHeadWrite c r v s) := by
  unfold execCqHeadWrite
  refine outKeeps_next _ _ ?_
  try dsimp only
  repeat' with_reducible first | assumption | apply State.cqHead_keeps | apply State.forwardIn_keeps | apply foldl_keeps | (simp only [Keeps_mk]; refine Keeps.parts _ _ ?_) | split | intro _ | dsimp only

theorem State.bar2Write_keeps (base : State) (s : State) (f : CtxId) (off : Nat) (b : Bytes)
    (hk : Keeps base s) :
    Keeps base (State.bar2Write s f off b) := by
  unfold State.bar2Write
  try dsimp only
  repeat' with_reducible first | assumption | apply State.addXfer_keeps | apply foldl_keeps | (simp only [Keeps_mk]; refine Keeps.parts _ _ ?_) | split | intro _ | dsimp only

theorem execBar2Access_keeps (base : State) (f : CtxId) (offset : Nat) (write : Option Bytes) (length : Nat) (poisoned : Bool) (s : State)
    (hk : Keeps base s) :
    OutKeeps base (execBar2Access f offset write length poisoned s) := by
  unfold execBar2Access
  refine outKeeps_next _ _ ?_
  try dsimp only
  repeat' with_reducible first | assumption | apply State.emit_keeps | apply State.bar2Write_keeps | apply State.forwardIn_keeps | apply State.addXfer_keeps | apply foldl_keeps | (simp only [Keeps_mk]; refine Keeps.parts _ _ ?_) | split | intro _ | dsimp only

theorem State.mbxRing_keeps (base : State) (s : State) (f : Nat)
    (hk : Keeps base s) :
    Keeps base (State.mbxRing s f) := by
  unfold State.mbxRing
  try dsimp only
  repeat' with_reducible first | assumption | apply State.updHost_keeps | apply foldl_keeps | (simp only [Keeps_mk]; refine Keeps.parts _ _ ?_) | split | intro _ | dsimp only

theorem execMbxRing_keeps (base : State) (f : CtxId) (s : State)
    (hk : Keeps base s) :
    OutKeeps base (execMbxRing f s) := by
  unfold execMbxRing
  refine outKeeps_next _ _ ?_
  try dsimp only
  repeat' with_reducible first | assumption | apply State.mbxRing_keeps | apply foldl_keeps | (simp only [Keeps_mk]; refine Keeps.parts _ _ ?_) | split | intro _ | dsimp only

theorem State.seqReqTail_keeps (base : State) (s : State) (c : Nat) (v : BitVec 32)
    (hk : Keeps base s) :
    Keeps base (State.seqReqTail s c v) := by
  unfold State.seqReqTail
  try dsimp only
  repeat' with_reducible first | assumption | apply State.updCtx_keeps | apply foldl_keeps | (simp only [Keeps_mk]; refine Keeps.parts _ _ ?_) | split | intro _ | dsimp only

theorem execCtxSeqReqTail_keeps (base : State) (c : CtxId) (v : BitVec 32) (s : State)
    (hk : Keeps base s) :
    OutKeeps base (execCtxSeqReqTail c v s) := by
  unfold execCtxSeqReqTail
  refine outKeeps_next _ _ ?_
  try dsimp only
  repeat' with_reducible first | assumption | apply State.seqReqTail_keeps | apply State.forwardIn_keeps | apply foldl_keeps | (simp only [Keeps_mk]; refine Keeps.parts _ _ ?_) | split | intro _ | dsimp only

theorem State.ringRegister_keeps (base : State) (s : State) (c : CtxId) (r : RingId) (off : Nat) (v : BitVec 32)
    (hk : Keeps base s) :
    Keeps base (State.ringRegister s c r off v) := by
  unfold State.ringRegister
  try dsimp only
  repeat' with_reducible first | assumption | apply State.updRing_keeps | apply State.ringControl_keeps | apply State.ringBell_keeps | apply State.cqHead_keeps | apply foldl_keeps | (simp only [Keeps_mk]; refine Keeps.parts _ _ ?_) | split | intro _ | dsimp only

theorem State.registerWrite_keeps (base : State) (s : State) (f : CtxId) (off : Nat) (v : BitVec 32)
    (hk : Keeps base s) :
    Keeps base (State.registerWrite s f off v) := by
  unfold State.registerWrite
  try dsimp only
  repeat' with_reducible first | assumption | apply State.ringRegister_keeps | apply State.seqReqTail_keeps | apply State.updHost_keeps | apply State.mbxRing_keeps | apply foldl_keeps | (simp only [Keeps_mk]; refine Keeps.parts _ _ ?_) | split | intro _ | dsimp only

theorem execRegisterWrite_keeps (base : State) (f : CtxId) (offset : Nat) (value : BitVec 32) (s : State)
    (hk : Keeps base s) :
    OutKeeps base (execRegisterWrite f offset value s) := by
  unfold execRegisterWrite
  refine outKeeps_next _ _ ?_
  try dsimp only
  repeat' with_reducible first | assumption | apply State.emit_keeps | apply State.forwardIn_keeps | apply State.registerWrite_keeps | apply foldl_keeps | (simp only [Keeps_mk]; refine Keeps.parts _ _ ?_) | split | intro _ | dsimp only

theorem State.latchHalf_keeps (base : State) (s : State) (f : CtxId) (off : Nat)
    (hk : Keeps base s) :
    Keeps base (State.latchHalf s f off) := by
  unfold State.latchHalf
  try dsimp only
  repeat' with_reducible first | assumption | apply State.updHost_keeps | apply foldl_keeps | (simp only [Keeps_mk]; refine Keeps.parts _ _ ?_) | split | intro _ | dsimp only

theorem execCounterLoRead_keeps (base : State) (f : CtxId) (offset : Nat) (s : State)
    (hk : Keeps base s) :
    OutKeeps base (execCounterLoRead f offset s) := by
  unfold execCounterLoRead
  refine outKeeps_next _ _ ?_
  try dsimp only
  repeat' with_reducible first | assumption | apply State.emit_keeps | apply State.latchHalf_keeps | apply foldl_keeps | (simp only [Keeps_mk]; refine Keeps.parts _ _ ?_) | split | intro _ | dsimp only

theorem State.resetBar0_keeps (base : State) (s : State) (f : Nat)
    (hk : Keeps base s) :
    Keeps base (State.resetBar0 s f) := by
  unfold State.resetBar0
  try dsimp only
  repeat' with_reducible first | assumption | apply State.updCtx_keeps | apply foldl_keeps | (simp only [Keeps_mk]; refine Keeps.parts _ _ ?_) | split | intro _ | dsimp only

theorem State.vfFlr_keeps (base : State) (s : State) (c : Nat)
    (hk : Keeps base s) :
    Keeps base (State.vfFlr s c) := by
  unfold State.vfFlr
  try dsimp only
  repeat' with_reducible first | assumption | apply State.resetBar0_keeps | apply State.teardown_keeps | apply foldl_keeps | (simp only [Keeps_mk]; refine Keeps.parts _ _ ?_) | split | intro _ | dsimp only

theorem execVfFlr_keeps (base : State) (c : CtxId) (s : State)
    (hk : Keeps base s) :
    OutKeeps base (execVfFlr c s) := by
  unfold execVfFlr
  refine outKeeps_next _ _ ?_
  try dsimp only
  repeat' with_reducible first | assumption | apply State.vfFlr_keeps | apply State.forwardIn_keeps | apply foldl_keeps | (simp only [Keeps_mk]; refine Keeps.parts _ _ ?_) | split | intro _ | dsimp only

theorem State.pfReset_keeps (base : State) (s : State)
    (hk : Keeps base s) :
    Keeps base (State.pfReset s) := by
  unfold State.pfReset
  try dsimp only
  repeat' with_reducible first | assumption | apply State.finishCmd_keeps | apply State.stopCommand_keeps | apply State.resetBar0_keeps | apply foldl_keeps | (simp only [Keeps_mk]; refine Keeps.parts _ _ ?_) | split | intro _ | dsimp only

theorem execPfFlr_keeps (base : State) (s : State)
    (hk : Keeps base s) :
    OutKeeps base (execPfFlr s) := by
  unfold execPfFlr
  refine outKeeps_next _ _ ?_
  try dsimp only
  repeat' with_reducible first | assumption | apply State.pfReset_keeps | apply foldl_keeps | (simp only [Keeps_mk]; refine Keeps.parts _ _ ?_) | split | intro _ | dsimp only

theorem State.loseTenants_keeps (base : State) (s : State)
    (hk : Keeps base s) :
    Keeps base (State.loseTenants s) := by
  unfold State.loseTenants
  try dsimp only
  repeat' with_reducible first | assumption | apply State.vfFlr_keeps | apply foldl_keeps | (simp only [Keeps_mk]; refine Keeps.parts _ _ ?_) | split | intro _ | dsimp only

theorem execHostLoss_keeps (base : State) (kind : HostLossKind) (s : State)
    (hk : Keeps base s) :
    OutKeeps base (execHostLoss kind s) := by
  unfold execHostLoss
  refine outKeeps_next _ _ ?_
  try dsimp only
  repeat' with_reducible first | assumption | apply State.emit_keeps | apply State.loseTenants_keeps | apply State.logEvent_keeps | apply State.pfReset_keeps | apply foldl_keeps | (simp only [Keeps_mk]; refine Keeps.parts _ _ ?_) | split | intro _ | dsimp only

theorem execPerstDeassert_keeps (base : State) (s : State)
    (hk : Keeps base s) :
    OutKeeps base (execPerstDeassert s) := by
  unfold execPerstDeassert
  refine outKeeps_next _ _ ?_
  try dsimp only
  repeat' with_reducible first | assumption | apply foldl_keeps | (simp only [Keeps_mk]; refine Keeps.parts _ _ ?_) | split | intro _ | dsimp only

theorem execPcieLinkUp_keeps (base : State) (rate : BitVec 4) (width : BitVec 5) (flit : Bool) (s : State)
    (hk : Keeps base s) :
    OutKeeps base (execPcieLinkUp rate width flit s) := by
  unfold execPcieLinkUp
  refine outKeeps_next _ _ ?_
  try dsimp only
  repeat' with_reducible first | assumption | apply State.logEvent_keeps | apply foldl_keeps | (simp only [Keeps_mk]; refine Keeps.parts _ _ ?_) | split | intro _ | dsimp only

theorem execSriovControlWrite_keeps (base : State) (numVfs : BitVec 16) (vfEnable : Bool) (s : State)
    (hk : Keeps base s) :
    OutKeeps base (execSriovControlWrite numVfs vfEnable s) := by
  unfold execSriovControlWrite
  refine outKeeps_next _ _ ?_
  try dsimp only
  repeat' with_reducible first | assumption | apply State.logEvent_keeps | apply foldl_keeps | (simp only [Keeps_mk]; refine Keeps.parts _ _ ?_) | split | intro _ | dsimp only

theorem execIdeCheckFail_keeps (base : State) (stream : Fin 4) (s : State)
    (hk : Keeps base s) :
    OutKeeps base (execIdeCheckFail stream s) := by
  unfold execIdeCheckFail
  refine outKeeps_next _ _ ?_
  try dsimp only
  repeat' with_reducible first | assumption | apply foldl_keeps | (simp only [Keeps_mk]; refine Keeps.parts _ _ ?_) | split | intro _ | dsimp only

theorem BuildAcc.consume_keeps (base : State) (a : BuildAcc) (c : Nat) (step : Nat) (conf : List Nat)
    (ha0 : Keeps base a.s) :
    Keeps base ((BuildAcc.consume a c step conf).s) := by
  unfold BuildAcc.consume
  try dsimp only
  repeat' with_reducible first | assumption | apply State.forwardIn_keeps | apply State.updCtx_keeps | apply State.putHbm_keeps | apply foldl_keeps | (simp only [Keeps_mk]; refine Keeps.parts _ _ ?_) | split | intro _ | dsimp only

theorem BuildAcc.consumeAll_keeps (base : State) (a : BuildAcc) (c step : Nat) (conf : List Nat) (n : Nat)
    (hk : Keeps base a.s) : Keeps base (a.consumeAll c step conf n).s := by
  induction n generalizing a with
  | zero => exact hk
  | succ n ih => exact ih _ (BuildAcc.consume_keeps base a c step conf hk)

theorem State.hubWrite_keeps (base : State) (s : State) (c : Nat) (d : Desc) (co : List Nat) (v : Nat)
    (hk : Keeps base s) :
    Keeps base (State.hubWrite s c d co v) := by
  unfold State.hubWrite
  try dsimp only
  repeat' with_reducible first | assumption | apply State.hubPut_keeps | apply State.countOob_keeps | apply foldl_keeps | (simp only [Keeps_mk]; refine Keeps.parts _ _ ?_) | split | intro _ | dsimp only

theorem State.hubWriteTo_keeps (base : State) (s : State) (c : Nat) (i : Nat) (co : List Nat) (v : Nat)
    (hk : Keeps base s) :
    Keeps base (State.hubWriteTo s c i co v) := by
  unfold State.hubWriteTo
  try dsimp only
  repeat' with_reducible first | assumption | apply State.hubWrite_keeps | apply foldl_keeps | (simp only [Keeps_mk]; refine Keeps.parts _ _ ?_) | split | intro _ | dsimp only

theorem State.workToken_keeps (base : State) (s : State) (c : Nat) (conf : List Nat) (t : Nat) (i : Nat)
    (hk : Keeps base s) :
    Keeps base (State.workToken s c conf t i) := by
  unfold State.workToken
  try dsimp only
  repeat' with_reducible first | assumption | apply State.hubWriteTo_keeps | apply State.putHbm_keeps | apply foldl_keeps | (simp only [Keeps_mk]; refine Keeps.parts _ _ ?_) | split | intro _ | dsimp only

theorem State.workList_keeps (base : State) (c : Nat) (conf : List Nat) (t : Nat) (l : List Nat) (s : State) (hk : Keeps base s) :
    Keeps base (s.workList c conf t l) := by
  induction l generalizing s t with
  | nil => exact hk
  | cons i r ih =>
    unfold State.workList
    exact ih _ _ (State.workToken_keeps base _ _ _ _ _ hk)

theorem State.closeStep_keeps (base : State) (s : State) (c : Nat)
    (hk : Keeps base s) :
    Keeps base (State.closeStep s c) := by
  unfold State.closeStep
  try dsimp only
  repeat' with_reducible first | assumption | apply State.putHbm_keeps | apply foldl_keeps | (simp only [Keeps_mk]; refine Keeps.parts _ _ ?_) | split | intro _ | dsimp only

theorem execStepBuild_keeps (base : State) (c : CtxId) (s : State)
    (hk : Keeps base s) :
    OutKeeps base (execStepBuild c s) := by
  unfold execStepBuild
  refine outKeeps_next _ _ ?_
  try dsimp only
  repeat' with_reducible first | assumption | apply State.ctxFault_keeps | apply State.setSem_keeps | apply State.closeStep_keeps | apply BuildAcc.consumeAll_keeps | apply State.updCtx_keeps | apply State.workList_keeps | apply foldl_keeps | (simp only [Keeps_mk]; refine Keeps.parts _ _ ?_) | split | intro _ | dsimp only

theorem State.finishBuild_keeps (base : State) (s : State) (c : Nat) (b : StepBuild)
    (hk : Keeps base s) :
    Keeps base (State.finishBuild s c b) := by
  unfold State.finishBuild
  try dsimp only
  repeat' with_reducible first | assumption | apply State.putHbm_keeps | apply State.updCtx_keeps | apply foldl_keeps | (simp only [Keeps_mk]; refine Keeps.parts _ _ ?_) | split | intro _ | dsimp only

theorem execStepPost_keeps (base : State) (c : CtxId) (s : State)
    (hk : Keeps base s) :
    OutKeeps base (execStepPost c s) := by
  unfold execStepPost
  refine outKeeps_next _ _ ?_
  try dsimp only
  repeat' with_reducible first | assumption | apply State.trace_keeps | apply State.finishBuild_keeps | apply State.updCtx_keeps | apply State.postOn_keeps | apply foldl_keeps | (simp only [Keeps_mk]; refine Keeps.parts _ _ ?_) | split | intro _ | dsimp only

theorem State.queuePacket_keeps (base : State) (s : State) (uid : Nat) (p : Packet)
    (hk : Keeps base s) :
    Keeps base (State.queuePacket s uid p) := by
  unfold State.queuePacket
  try dsimp only
  repeat' with_reducible first | assumption | apply State.updCtx_keeps | apply State.meter_keeps | apply State.emit_keeps | apply State.updLink_keeps | apply foldl_keeps | (simp only [Keeps_mk]; refine Keeps.parts _ _ ?_) | split | intro _ | dsimp only

theorem State.sendPacket_keeps (base : State) (s : State) (uid : Nat) (p : Packet)
    (hk : Keeps base s) :
    Keeps base (State.sendPacket s uid p) := by
  unfold State.sendPacket
  try dsimp only
  repeat' with_reducible first | assumption | apply State.digestOutput_keeps | apply State.emit_keeps | apply State.queuePacket_keeps | apply foldl_keeps | (simp only [Keeps_mk]; refine Keeps.parts _ _ ?_) | split | intro _ | dsimp only

theorem State.meterHub_keeps (base : State) (s : State) (c : Nat) (uid : Nat) (cycles : Nat)
    (hk : Keeps base s) :
    Keeps base (State.meterHub s c uid cycles) := by
  unfold State.meterHub
  try dsimp only
  repeat' with_reducible first | assumption | apply State.meter_keeps | apply foldl_keeps | (simp only [Keeps_mk]; refine Keeps.parts _ _ ?_) | split | intro _ | dsimp only

theorem onRecord_keeps (base : State) (k : CoreId) (n : SReg) (i : Instr) (s : State) (f : Nat → Machine.Stream → Nat → Bytes → State)
    (hk : Keeps base s) (hf : ∀ x0 x1 x2 x3, Keeps base (f x0 x1 x2 x3)) :
    Keeps base (onRecord k n i s f) := by
  unfold onRecord
  try dsimp only
  repeat' with_reducible first | assumption | apply hf | apply onIssue_keeps | apply State.ctxFault_keeps | apply foldl_keeps | (simp only [Keeps_mk]; refine Keeps.parts _ _ ?_) | split | intro _ | dsimp only

theorem State.hubTouch_keeps (base : State) (s : State) (c : Nat) (k : Nat) (uid : Nat) (d : Desc) (l : List (List Nat))
    (hk : Keeps base s) :
    Keeps base (State.hubTouch s c k uid d l) := by
  unfold State.hubTouch
  try dsimp only
  repeat' with_reducible first | assumption | apply State.hubMove_keeps | apply State.countOob_keeps | apply foldl_keeps | (simp only [Keeps_mk]; refine Keeps.parts _ _ ?_) | split | intro _ | dsimp only

theorem State.quillWrite_keeps (base : State) (s : State) (c : Nat) (k : Nat) (uid : Nat) (d : Desc) (co : List Nat) (v : Nat)
    (hk : Keeps base s) :
    Keeps base (State.quillWrite s c k uid d co v) := by
  unfold State.quillWrite
  try dsimp only
  repeat' with_reducible first | assumption | apply State.hubPut_keeps | apply State.apply_keeps | apply foldl_keeps | (simp only [Keeps_mk]; refine Keeps.parts _ _ ?_) | split | intro _ | dsimp only

theorem State.quillWriteTo_keeps (base : State) (s : State) (c : Nat) (k : Nat) (uid : Nat) (i : Nat) (co : List Nat) (v : Nat)
    (hk : Keeps base s) :
    Keeps base (State.quillWriteTo s c k uid i co v) := by
  unfold State.quillWriteTo
  try dsimp only
  repeat' with_reducible first | assumption | apply State.quillWrite_keeps | apply foldl_keeps | (simp only [Keeps_mk]; refine Keeps.parts _ _ ?_) | split | intro _ | dsimp only

theorem State.routeTouch_keeps (base : State) (s : State) (c : Nat) (k : Nat) (uid : Nat) (r : RouteRec) (t : Nat)
    (hk : Keeps base s) :
    Keeps base (State.routeTouch s c k uid r t) := by
  unfold State.routeTouch
  try dsimp only
  repeat' with_reducible first | assumption | apply State.hubTouch_keeps | apply foldl_keeps | (simp only [Keeps_mk]; refine Keeps.parts _ _ ?_) | split | intro _ | dsimp only

theorem State.routeToken_keeps (base : State) (s : State) (c : Nat) (k : Nat) (uid : Nat) (r : RouteRec) (bias : List F32) (t : Nat)
    (hk : Keeps base s) :
    Keeps base (State.routeToken s c k uid r bias t) := by
  unfold State.routeToken
  try dsimp only
  repeat' with_reducible first | assumption | apply State.updQuill_keeps | apply State.raiseFlags_keeps | apply State.routeTouch_keeps | apply State.quillWriteTo_keeps | apply foldl_keeps | (simp only [Keeps_mk]; refine Keeps.parts _ _ ?_) | split | intro _ | dsimp only

theorem execRoute_keeps (base : State) (k : CoreId) (n : SReg) (sem : BitVec 16) (s : State)
    (hk : Keeps base s) :
    OutKeeps base (execRoute k n sem s) := by
  unfold execRoute
  refine outKeeps_next _ _ ?_
  try dsimp only
  repeat' with_reducible first | assumption | apply onRecord_keeps | apply State.ctxFault_keeps | apply State.updQuill_keeps | apply State.updStream_keeps | apply foldl_keeps | (simp only [Keeps_mk]; refine Keeps.parts _ _ ?_) | split | intro _ | dsimp only

theorem State.biasTouch_keeps (base : State) (s : State) (c : Nat) (k : Nat) (uid : Nat) (r : RouteRec) (row : Nat)
    (hk : Keeps base s) :
    Keeps base (State.biasTouch s c k uid r row) := by
  unfold State.biasTouch
  try dsimp only
  repeat' with_reducible first | assumption | apply State.hubTouch_keeps | apply foldl_keeps | (simp only [Keeps_mk]; refine Keeps.parts _ _ ?_) | split | intro _ | dsimp only

theorem execRouteDone_keeps (base : State) (c : CtxId) (s : State)
    (hk : Keeps base s) :
    OutKeeps base (execRouteDone c s) := by
  unfold execRouteDone
  refine outKeeps_next _ _ ?_
  try dsimp only
  repeat' with_reducible first | assumption | apply State.updQuill_keeps | apply State.biasTouch_keeps | apply State.routeToken_keeps | apply State.hubDone_keeps | apply State.meterHub_keeps | apply foldl_keeps | (simp only [Keeps_mk]; refine Keeps.parts _ _ ?_) | split | intro _ | dsimp only

theorem execBalReset_keeps (base : State) (k : CoreId) (n : SReg) (sem : BitVec 16) (s : State)
    (hk : Keeps base s) :
    OutKeeps base (execBalReset k n sem s) := by
  unfold execBalReset
  refine outKeeps_next _ _ ?_
  try dsimp only
  repeat' with_reducible first | assumption | apply onRecord_keeps | apply State.ctxFault_keeps | apply State.updQuill_keeps | apply State.updStream_keeps | apply State.signalSem_keeps | apply foldl_keeps | (simp only [Keeps_mk]; refine Keeps.parts _ _ ?_) | split | intro _ | dsimp only

theorem State.putBalRow_keeps (base : State) (s : State) (c : Nat) (b : BalState)
    (hk : Keeps base s) :
    Keeps base (State.putBalRow s c b) := by
  unfold State.putBalRow
  try dsimp only
  repeat' with_reducible first | assumption | apply State.hubPut_keeps | apply State.countOob_keeps | apply foldl_keeps | (simp only [Keeps_mk]; refine Keeps.parts _ _ ?_) | split | intro _ | dsimp only

theorem execBalRowWritten_keeps (base : State) (c : CtxId) (layer : Nat) (s : State)
    (hk : Keeps base s) :
    OutKeeps base (execBalRowWritten c layer s) := by
  unfold execBalRowWritten
  refine outKeeps_next _ _ ?_
  try dsimp only
  repeat' with_reducible first | assumption | apply State.hubDone_keeps | apply State.putBalRow_keeps | apply foldl_keeps | (simp only [Keeps_mk]; refine Keeps.parts _ _ ?_) | split | intro _ | dsimp only

theorem State.balUpdate_keeps (base : State) (s : State) (c : Nat) (r : RouteRec) (totals : List Nat) (launch : Word)
    (hk : Keeps base s) :
    Keeps base (State.balUpdate s c r totals launch) := by
  unfold State.balUpdate
  try dsimp only
  repeat' with_reducible first | assumption | apply State.updQuill_keeps | apply State.putBalRow_keeps | apply foldl_keeps | (simp only [Keeps_mk]; refine Keeps.parts _ _ ?_) | split | intro _ | dsimp only

theorem State.collWrite_keeps (base : State) (s : State) (t : CollStep) (v : CollView) (e : Nat) (value : Nat)
    (hk : Keeps base s) :
    Keeps base (State.collWrite s t v e value) := by
  unfold State.collWrite
  try dsimp only
  repeat' with_reducible first | assumption | apply State.quillWrite_keeps | apply State.raiseFlags_keeps | apply foldl_keeps | (simp only [Keeps_mk]; refine Keeps.parts _ _ ?_) | split | intro _ | dsimp only

theorem State.updStep_keeps (base : State) (s : State) (g : Nat) (number : Nat) (f : CollStep → CollStep)
    (hk : Keeps base s) :
    Keeps base (State.updStep s g number f) := by
  unfold State.updStep
  try dsimp only
  repeat' with_reducible first | assumption | apply State.updGroup_keeps | apply foldl_keeps | (simp only [Keeps_mk]; refine Keeps.parts _ _ ?_) | split | intro _ | dsimp only

theorem State.collApply_keeps (base : State) (s : State) (v : CollView) (o : CollOut)
    (hk : Keeps base s) :
    Keeps base (State.collApply s v o) := by
  unfold State.collApply
  try dsimp only
  repeat' with_reducible first | assumption | apply State.updStep_keeps | apply State.raiseFlags_keeps | apply State.collWrite_keeps | apply State.hubDone_keeps | apply State.sendPacket_keeps | apply foldl_keeps | (simp only [Keeps_mk]; refine Keeps.parts _ _ ?_) | split | intro _ | dsimp only

theorem State.putRecord_keeps (base : State) (s : State) (c : Nat) (k : Nat) (off : Nat) (b : Bytes)
    (hk : Keeps base s) :
    Keeps base (State.putRecord s c k off b) := by
  unfold State.putRecord
  try dsimp only
  repeat' with_reducible first | assumption | apply State.putSram_keeps | apply foldl_keeps | (simp only [Keeps_mk]; refine Keeps.parts _ _ ?_) | split | intro _ | dsimp only

theorem State.collOwn_keeps (base : State) (s : State) (v : CollView) (t : CollStep) (keys : List Nat)
    (hk : Keeps base s) :
    Keeps base (State.collOwn s v t keys) := by
  unfold State.collOwn
  try dsimp only
  repeat' with_reducible first | assumption | apply State.hubTouch_keeps | apply State.collApply_keeps | apply foldl_keeps | (simp only [Keeps_mk]; refine Keeps.parts _ _ ?_) | split | intro _ | dsimp only

theorem State.collGo_keeps (base : State) (s : State) (g : Nat) (number : Nat)
    (hk : Keeps base s) :
    Keeps base (State.collGo s g number) := by
  unfold State.collGo
  try dsimp only
  repeat' with_reducible first | assumption | apply State.collOwn_keeps | apply foldl_keeps | (simp only [Keeps_mk]; refine Keeps.parts _ _ ?_) | split | intro _ | dsimp only

theorem State.keepEarly_keeps (base : State) (s : State) (g : Nat) (p : EarlyPacket)
    (hk : Keeps base s) :
    Keeps base (State.keepEarly s g p) := by
  unfold State.keepEarly
  try dsimp only
  repeat' with_reducible first | assumption | apply State.updGroup_keeps | apply foldl_keeps | (simp only [Keeps_mk]; refine Keeps.parts _ _ ?_) | split | intro _ | dsimp only

theorem State.collDeliver_keeps (base : State) (s : State) (g : Nat) (p : EarlyPacket)
    (hk : Keeps base s) :
    Keeps base (State.collDeliver s g p) := by
  unfold State.collDeliver
  try dsimp only
  repeat' with_reducible first | assumption | apply State.keepEarly_keeps | apply State.detect_keeps | apply State.collApply_keeps | apply foldl_keeps | (simp only [Keeps_mk]; refine Keeps.parts _ _ ?_) | split | intro _ | dsimp only

theorem State.collDrain_keeps (base : State) (s : State) (g : Nat)
    (hk : Keeps base s) :
    Keeps base (State.collDrain s g) := by
  unfold State.collDrain
  try dsimp only
  repeat' with_reducible first | assumption | apply State.collDeliver_keeps | apply State.updGroup_keeps | apply foldl_keeps | (simp only [Keeps_mk]; refine Keeps.parts _ _ ?_) | split | intro _ | dsimp only

theorem State.collLand_keeps (base : State) (s : State) (g : Nat) (p : EarlyPacket)
    (hk : Keeps base s) :
    Keeps base (State.collLand s g p) := by
  unfold State.collLand
  try dsimp only
  repeat' with_reducible first | assumption | apply State.collDrain_keeps | apply State.collGo_keeps | apply State.collDeliver_keeps | apply foldl_keeps | (simp only [Keeps_mk]; refine Keeps.parts _ _ ?_) | split | intro _ | dsimp only

theorem State.startStep_keeps (base : State) (s : State) (t : CollStep)
    (hk : Keeps base s) :
    Keeps base (State.startStep s t) := by
  unfold State.startStep
  try dsimp only
  repeat' with_reducible first | assumption | apply State.updCtx_keeps | apply State.collDrain_keeps | apply State.collGo_keeps | apply State.collOwn_keeps | apply foldl_keeps | (simp only [Keeps_mk]; refine Keeps.parts _ _ ?_) | split | intro _ | dsimp only

theorem State.markAbort_keeps (base : State) (s : State) (c : Nat) (uid : Nat) (code : Nat)
    (hk : Keeps base s) :
    Keeps base (State.markAbort s c uid code) := by
  unfold State.markAbort
  try dsimp only
  repeat' with_reducible first | assumption | apply State.updCmd_keeps | apply foldl_keeps | (simp only [Keeps_mk]; refine Keeps.parts _ _ ?_) | split | intro _ | dsimp only

theorem State.abortStep_keeps (base : State) (s : State) (g : Nat) (t : CollStep) (code : Nat) (tick : Word) (rank : BitVec 32)
    (hk : Keeps base s) :
    Keeps base (State.abortStep s g t code tick rank) := by
  unfold State.abortStep
  try dsimp only
  repeat' with_reducible first | assumption | apply State.updStep_keeps | apply State.updCtx_keeps | apply State.putRecord_keeps | apply State.signalSem_keeps | apply State.markAbort_keeps | apply foldl_keeps | (simp only [Keeps_mk]; refine Keeps.parts _ _ ?_) | split | intro _ | dsimp only

theorem State.startExchange_keeps (base : State) (s : State) (g : Nat) (t : CollStep)
    (hk : Keeps base s) :
    Keeps base (State.startExchange s g t) := by
  unfold State.startExchange
  try dsimp only
  repeat' with_reducible first | assumption | apply State.updStep_keeps | apply State.emit_keeps | apply foldl_keeps | (simp only [Keeps_mk]; refine Keeps.parts _ _ ?_) | split | intro _ | dsimp only

theorem State.joinStep_keeps (base : State) (s : State) (g : Nat) (t : CollStep)
    (hk : Keeps base s) :
    Keeps base (State.joinStep s g t) := by
  unfold State.joinStep
  try dsimp only
  repeat' with_reducible first | assumption | apply State.updGroup_keeps | apply State.putRecord_keeps | apply State.abortStep_keeps | apply State.startExchange_keeps | apply State.ctxFault_keeps | apply State.startStep_keeps | apply foldl_keeps | (simp only [Keeps_mk]; refine Keeps.parts _ _ ?_) | split | intro _ | dsimp only

theorem collIssue_keeps (base : State) (k : CoreId) (n : SReg) (i : Instr) (sem : BitVec 16) (f32 : Bool) (s : State)
    (hk : Keeps base s) :
    Keeps base (collIssue k n i sem f32 s) := by
  unfold collIssue
  try dsimp only
  repeat' with_reducible first | assumption | apply onRecord_keeps | apply State.ctxFault_keeps | apply State.joinStep_keeps | apply State.updStream_keeps | apply foldl_keeps | (simp only [Keeps_mk]; refine Keeps.parts _ _ ?_) | split | intro _ | dsimp only

theorem execColl_keeps (base : State) (k : CoreId) (n : SReg) (sem : BitVec 16) (s : State)
    (hk : Keeps base s) :
    OutKeeps base (execColl k n sem s) := by
  unfold execColl
  refine outKeeps_next _ _ ?_
  try dsimp only
  repeat' with_reducible first | assumption | apply collIssue_keeps | apply foldl_keeps | (simp only [Keeps_mk]; refine Keeps.parts _ _ ?_) | split | intro _ | dsimp only

theorem execCollF32_keeps (base : State) (k : CoreId) (n : SReg) (sem : BitVec 16) (s : State)
    (hk : Keeps base s) :
    OutKeeps base (execCollF32 k n sem s) := by
  unfold execCollF32
  refine outKeeps_next _ _ ?_
  try dsimp only
  repeat' with_reducible first | assumption | apply collIssue_keeps | apply foldl_keeps | (simp only [Keeps_mk]; refine Keeps.parts _ _ ?_) | split | intro _ | dsimp only

theorem execCollAlloc_keeps (base : State) (g : GroupId) (step : Nat) (s : State)
    (hk : Keeps base s) :
    OutKeeps base (execCollAlloc g step s) := by
  unfold execCollAlloc
  refine outKeeps_next _ _ ?_
  try dsimp only
  repeat' with_reducible first | assumption | apply State.startStep_keeps | apply foldl_keeps | (simp only [Keeps_mk]; refine Keeps.parts _ _ ?_) | split | intro _ | dsimp only

theorem execCollStepOk_keeps (base : State) (g : GroupId) (step : Nat) (s : State)
    (hk : Keeps base s) :
    OutKeeps base (execCollStepOk g step s) := by
  unfold execCollStepOk
  refine outKeeps_next _ _ ?_
  try dsimp only
  repeat' with_reducible first | assumption | apply State.updStep_keeps | apply State.updCtx_keeps | apply State.signalSem_keeps | apply State.putRecord_keeps | apply foldl_keeps | (simp only [Keeps_mk]; refine Keeps.parts _ _ ?_) | split | intro _ | dsimp only

theorem execCollTimeout_keeps (base : State) (g : GroupId) (step : Nat) (s : State)
    (hk : Keeps base s) :
    OutKeeps base (execCollTimeout g step s) := by
  unfold execCollTimeout
  refine outKeeps_next _ _ ?_
  try dsimp only
  repeat' with_reducible first | assumption | apply State.detect_keeps | apply foldl_keeps | (simp only [Keeps_mk]; refine Keeps.parts _ _ ?_) | split | intro _ | dsimp only

theorem execAbortFloodReceive_keeps (base : State) (g : GroupId) (code : BitVec 8) (tick : Word) (rank : BitVec 32) (s : State)
    (hk : Keeps base s) :
    OutKeeps base (execAbortFloodReceive g code tick rank s) := by
  unfold execAbortFloodReceive
  refine outKeeps_next _ _ ?_
  try dsimp only
  repeat' with_reducible first | assumption | apply State.emit_keeps | apply State.updGroup_keeps | apply foldl_keeps | (simp only [Keeps_mk]; refine Keeps.parts _ _ ?_) | split | intro _ | dsimp only

theorem execAbortFix_keeps (base : State) (g : GroupId) (s : State)
    (hk : Keeps base s) :
    OutKeeps base (execAbortFix g s) := by
  unfold execAbortFix
  refine outKeeps_next _ _ ?_
  try dsimp only
  repeat' with_reducible first | assumption | apply State.updGroup_keeps | apply foldl_keeps | (simp only [Keeps_mk]; refine Keeps.parts _ _ ?_) | split | intro _ | dsimp only

theorem execCollAbortSettle_keeps (base : State) (g : GroupId) (s : State)
    (hk : Keeps base s) :
    OutKeeps base (execCollAbortSettle g s) := by
  unfold execCollAbortSettle
  refine outKeeps_next _ _ ?_
  try dsimp only
  repeat' with_reducible first | assumption | apply State.abortStep_keeps | apply State.updGroup_keeps | apply foldl_keeps | (simp only [Keeps_mk]; refine Keeps.parts _ _ ?_) | split | intro _ | dsimp only

theorem State.rejoinSteps_keeps (base : State) (s : State) (g : Nat) (waiting : List CollStep)
    (hk : Keeps base s) :
    Keeps base (State.rejoinSteps s g waiting) := by
  unfold State.rejoinSteps
  try dsimp only
  repeat' with_reducible first | assumption | apply State.updQuill_keeps | apply State.joinStep_keeps | apply foldl_keeps | (simp only [Keeps_mk]; refine Keeps.parts _ _ ?_) | split | intro _ | dsimp only

theorem execGroupReform_keeps (base : State) (g : GroupId) (members : Option (List (BitVec 16))) (s : State)
    (hk : Keeps base s) :
    OutKeeps base (execGroupReform g members s) := by
  unfold execGroupReform
  refine outKeeps_next _ _ ?_
  try dsimp only
  repeat' with_reducible first | assumption | apply State.rejoinSteps_keeps | apply State.updGroup_keeps | apply State.abortStep_keeps | apply foldl_keeps | (simp only [Keeps_mk]; refine Keeps.parts _ _ ?_) | split | intro _ | dsimp only

theorem State.updMove_keeps (base : State) (s : State) (c : Nat) (key : Nat) (f : MoveState → MoveState)
    (hk : Keeps base s) :
    Keeps base (State.updMove s c key f) := by
  unfold State.updMove
  try dsimp only
  repeat' with_reducible first | assumption | apply State.updQuill_keeps | apply foldl_keeps | (simp only [Keeps_mk]; refine Keeps.parts _ _ ?_) | split | intro _ | dsimp only

theorem onMove_keeps (base : State) (k : CoreId) (n : SReg) (i : Instr) (s : State) (f : Nat → Machine.Stream → Nat → Bytes → Bytes → State)
    (hk : Keeps base s) (hf : ∀ x0 x1 x2 x3 x4, Keeps base (f x0 x1 x2 x3 x4)) :
    Keeps base (onMove k n i s f) := by
  unfold onMove
  try dsimp only
  repeat' with_reducible first | assumption | apply hf | apply onRecord_keeps | apply State.ctxFault_keeps | apply foldl_keeps | (simp only [Keeps_mk]; refine Keeps.parts _ _ ?_) | split | intro _ | dsimp only

theorem State.beginExchange_keeps (base : State) (s : State) (c : Nat) (key : Nat) (part : Contribution)
    (hk : Keeps base s) :
    Keeps base (State.beginExchange s c key part) := by
  unfold State.beginExchange
  try dsimp only
  repeat' with_reducible first | assumption | apply State.updMove_keeps | apply State.joinStep_keeps | apply foldl_keeps | (simp only [Keeps_mk]; refine Keeps.parts _ _ ?_) | split | intro _ | dsimp only

theorem State.countTouch_keeps (base : State) (s : State) (c : Nat) (k : Nat) (uid : Nat) (m : MoveRec) (r : RouteRec)
    (hk : Keeps base s) :
    Keeps base (State.countTouch s c k uid m r) := by
  unfold State.countTouch
  try dsimp only
  repeat' with_reducible first | assumption | apply State.hubTouch_keeps | apply foldl_keeps | (simp only [Keeps_mk]; refine Keeps.parts _ _ ?_) | split | intro _ | dsimp only

theorem execCount_keeps (base : State) (k : CoreId) (n : SReg) (sem : BitVec 16) (s : State)
    (hk : Keeps base s) :
    OutKeeps base (execCount k n sem s) := by
  unfold execCount
  refine outKeeps_next _ _ ?_
  try dsimp only
  repeat' with_reducible first | assumption | apply onMove_keeps | apply State.updMove_keeps | apply State.ctxFault_keeps | apply State.countTouch_keeps | apply State.updStream_keeps | apply State.updQuill_keeps | apply State.beginExchange_keeps | apply foldl_keeps | (simp only [Keeps_mk]; refine Keeps.parts _ _ ?_) | split | intro _ | dsimp only

theorem State.takeResult_keeps (base : State) (s : State) (c : Nat) (x : MoveState) (parts : List Contribution)
    (hk : Keeps base s) :
    Keeps base (State.takeResult s c x parts) := by
  unfold State.takeResult
  try dsimp only
  repeat' with_reducible first | assumption | apply State.balUpdate_keeps | apply State.updStep_keeps | apply State.ctxFault_keeps | apply State.updMove_keeps | apply State.beginExchange_keeps | apply foldl_keeps | (simp only [Keeps_mk]; refine Keeps.parts _ _ ?_) | split | intro _ | dsimp only

theorem execCountExchangeResult_keeps (base : State) (c : CtxId) (parts : List Contribution) (s : State)
    (hk : Keeps base s) :
    OutKeeps base (execCountExchangeResult c parts s) := by
  unfold execCountExchangeResult
  refine outKeeps_next _ _ ?_
  try dsimp only
  repeat' with_reducible first | assumption | apply State.ctxFault_keeps | apply State.takeResult_keeps | apply foldl_keeps | (simp only [Keeps_mk]; refine Keeps.parts _ _ ?_) | split | intro _ | dsimp only

theorem State.postSummary_keeps (base : State) (s : State) (c : Nat) (r : RouteRec) (x : MoveState)
    (hk : Keeps base s) :
    Keeps base (State.postSummary s c r x) := by
  unfold State.postSummary
  try dsimp only
  repeat' with_reducible first | assumption | apply State.updQuill_keeps | apply State.hubDone_keeps | apply State.putHbm_keeps | apply foldl_keeps | (simp only [Keeps_mk]; refine Keeps.parts _ _ ?_) | split | intro _ | dsimp only

theorem State.conductNow_keeps (base : State) (s : State) (c : Nat)
    (hk : Keeps base s) :
    Keeps base (State.conductNow s c) := by
  unfold State.conductNow
  try dsimp only
  repeat' with_reducible first | assumption | apply State.runConductor_keeps | apply foldl_keeps | (simp only [Keeps_mk]; refine Keeps.parts _ _ ?_) | split | intro _ | dsimp only

theorem State.takeSection_keeps (base : State) (s : State) (c : Nat) (m : MoveRec) (r : RouteRec) (x : MoveState)
    (hk : Keeps base s) :
    Keeps base (State.takeSection s c m r x) := by
  unfold State.takeSection
  try dsimp only
  repeat' with_reducible first | assumption | apply State.hubMove_keeps | apply State.conductNow_keeps | apply State.trace_keeps | apply State.updQuill_keeps | apply foldl_keeps | (simp only [Keeps_mk]; refine Keeps.parts _ _ ?_) | split | intro _ | dsimp only

theorem State.releaseQueue_keeps (base : State) (s : State) (c : Nat) (x : MoveState) (q : Nat)
    (hk : Keeps base s) :
    Keeps base (State.releaseQueue s c x q) := by
  unfold State.releaseQueue
  try dsimp only
  repeat' with_reducible first | assumption | apply State.signalSem_keeps | apply State.updMove_keeps | apply foldl_keeps | (simp only [Keeps_mk]; refine Keeps.parts _ _ ?_) | split | intro _ | dsimp only

theorem State.completeCount_keeps (base : State) (s : State) (c : Nat) (x : MoveState) (spill : List Contribution)
    (hk : Keeps base s) :
    Keeps base (State.completeCount s c x spill) := by
  unfold State.completeCount
  try dsimp only
  repeat' with_reducible first | assumption | apply State.updStep_keeps | apply State.updQuill_keeps | apply State.updMove_keeps | apply State.takeSection_keeps | apply State.postSummary_keeps | apply State.signalSem_keeps | apply State.releaseQueue_keeps | apply foldl_keeps | (simp only [Keeps_mk]; refine Keeps.parts _ _ ?_) | split | intro _ | dsimp only

theorem execCountComplete_keeps (base : State) (c : CtxId) (spill : List Contribution) (s : State)
    (hk : Keeps base s) :
    OutKeeps base (execCountComplete c spill s) := by
  unfold execCountComplete
  refine outKeeps_next _ _ ?_
  try dsimp only
  repeat' with_reducible first | assumption | apply State.ctxFault_keeps | apply State.completeCount_keeps | apply foldl_keeps | (simp only [Keeps_mk]; refine Keeps.parts _ _ ?_) | split | intro _ | dsimp only

theorem State.scatterRow_keeps (base : State) (s : State) (c : Nat) (x : MoveState) (m : MoveRec) (r : RouteRec) (d : Desc) (a : Assign) (row : Nat)
    (hk : Keeps base s) :
    Keeps base (State.scatterRow s c x m r d a row) := by
  unfold State.scatterRow
  try dsimp only
  repeat' with_reducible first | assumption | apply State.sendPacket_keeps | apply foldl_keeps | (simp only [Keeps_mk]; refine Keeps.parts _ _ ?_) | split | intro _ | dsimp only

theorem State.doScatter_keeps (base : State) (s : State) (c : Nat) (t : MoveTodo)
    (hk : Keeps base s) :
    Keeps base (State.doScatter s c t) := by
  unfold State.doScatter
  try dsimp only
  repeat' with_reducible first | assumption | apply State.ctxFault_keeps | apply State.hubTouch_keeps | apply State.meterHub_keeps | apply State.updMove_keeps | apply State.scatterRow_keeps | apply foldl_keeps | (simp only [Keeps_mk]; refine Keeps.parts _ _ ?_) | split | intro _ | dsimp only

theorem State.returnRow_keeps (base : State) (s : State) (c : Nat) (x : MoveState) (out : Desc) (q : Nat) (row : Nat)
    (hk : Keeps base s) :
    Keeps base (State.returnRow s c x out q row) := by
  unfold State.returnRow
  try dsimp only
  repeat' with_reducible first | assumption | apply State.sendPacket_keeps | apply foldl_keeps | (simp only [Keeps_mk]; refine Keeps.parts _ _ ?_) | split | intro _ | dsimp only

theorem State.doReturn_keeps (base : State) (s : State) (c : Nat) (t : MoveTodo)
    (hk : Keeps base s) :
    Keeps base (State.doReturn s c t) := by
  unfold State.doReturn
  try dsimp only
  repeat' with_reducible first | assumption | apply State.updMove_keeps | apply State.returnRow_keeps | apply State.hubTouch_keeps | apply foldl_keeps | (simp only [Keeps_mk]; refine Keeps.parts _ _ ?_) | split | intro _ | dsimp only

theorem State.putRow_keeps (base : State) (s : State) (c : Nat) (k : Nat) (uid : Option Nat) (d : Desc) (co : List Nat) (off : Nat) (b : Bytes)
    (hk : Keeps base s) :
    Keeps base (State.putRow s c k uid d co off b) := by
  unfold State.putRow
  try dsimp only
  repeat' with_reducible first | assumption | apply State.hubPut_keeps | apply State.countOob_keeps | apply foldl_keeps | (simp only [Keeps_mk]; refine Keeps.parts _ _ ?_) | split | intro _ | dsimp only

theorem State.setExitBit_keeps (base : State) (s : State) (c : Nat) (k : Nat) (uid : Nat) (m : MoveRec) (t : Nat)
    (hk : Keeps base s) :
    Keeps base (State.setExitBit s c k uid m t) := by
  unfold State.setExitBit
  try dsimp only
  repeat' with_reducible first | assumption | apply State.putHbm_keeps | apply foldl_keeps | (simp only [Keeps_mk]; refine Keeps.parts _ _ ?_) | split | intro _ | dsimp only

theorem State.exitToken_keeps (base : State) (s : State) (c : Nat) (k : Nat) (uid : Nat) (m : MoveRec) (t : Nat)
    (hk : Keeps base s) :
    Keeps base (State.exitToken s c k uid m t) := by
  unfold State.exitToken
  try dsimp only
  repeat' with_reducible first | assumption | apply State.quillWriteTo_keeps | apply State.setExitBit_keeps | apply State.putRow_keeps | apply State.hubTouch_keeps | apply State.updQuill_keeps | apply foldl_keeps | (simp only [Keeps_mk]; refine Keeps.parts _ _ ?_) | split | intro _ | dsimp only

theorem State.doExit_keeps (base : State) (s : State) (c : Nat) (x : MoveTodo)
    (hk : Keeps base s) :
    Keeps base (State.doExit s c x) := by
  unfold State.doExit
  try dsimp only
  repeat' with_reducible first | assumption | apply State.hubTouch_keeps | apply State.exitToken_keeps | apply State.hubDone_keeps | apply foldl_keeps | (simp only [Keeps_mk]; refine Keeps.parts _ _ ?_) | split | intro _ | dsimp only

theorem State.doMove_keeps (base : State) (s : State) (c : Nat) (t : MoveTodo)
    (hk : Keeps base s) :
    Keeps base (State.doMove s c t) := by
  unfold State.doMove
  try dsimp only
  repeat' with_reducible first | assumption | apply State.doScatter_keeps | apply State.doReturn_keeps | apply State.doExit_keeps | apply foldl_keeps | (simp only [Keeps_mk]; refine Keeps.parts _ _ ?_) | split | intro _ | dsimp only

theorem State.moveNow_keeps (base : State) (s : State) (c : Nat)
    (hk : Keeps base s) :
    Keeps base (State.moveNow s c) := by
  unfold State.moveNow
  try dsimp only
  repeat' with_reducible first | assumption | apply State.doMove_keeps | apply State.updQuill_keeps | apply foldl_keeps | (simp only [Keeps_mk]; refine Keeps.parts _ _ ?_) | split | intro _ | dsimp only

theorem moveIssue_keeps (base : State) (k : CoreId) (n : SReg) (i : Instr) (sem : BitVec 16) (kind : MoveKind) (s : State) (ok : State → Nat → Bytes → Bytes → Bool)
    (hk : Keeps base s) :
    Keeps base (moveIssue k n i sem kind s ok) := by
  unfold moveIssue
  try dsimp only
  repeat' with_reducible first | assumption | apply onMove_keeps | apply State.ctxFault_keeps | apply State.moveNow_keeps | apply State.updQuill_keeps | apply State.updStream_keeps | apply foldl_keeps | (simp only [Keeps_mk]; refine Keeps.parts _ _ ?_) | split | intro _ | dsimp only

theorem execScatter_keeps (base : State) (k : CoreId) (n : SReg) (sem : BitVec 16) (s : State)
    (hk : Keeps base s) :
    OutKeeps base (execScatter k n sem s) := by
  unfold execScatter
  refine outKeeps_next _ _ ?_
  try dsimp only
  repeat' with_reducible first | assumption | apply moveIssue_keeps | apply foldl_keeps | (simp only [Keeps_mk]; refine Keeps.parts _ _ ?_) | split | intro _ | dsimp only

theorem execRet_keeps (base : State) (k : CoreId) (n : SReg) (sem : BitVec 16) (s : State)
    (hk : Keeps base s) :
    OutKeeps base (execRet k n sem s) := by
  unfold execRet
  refine outKeeps_next _ _ ?_
  try dsimp only
  repeat' with_reducible first | assumption | apply moveIssue_keeps | apply foldl_keeps | (simp only [Keeps_mk]; refine Keeps.parts _ _ ?_) | split | intro _ | dsimp only

theorem execExitTest_keeps (base : State) (k : CoreId) (n : SReg) (sem : BitVec 16) (s : State)
    (hk : Keeps base s) :
    OutKeeps base (execExitTest k n sem s) := by
  unfold execExitTest
  refine outKeeps_next _ _ ?_
  try dsimp only
  repeat' with_reducible first | assumption | apply moveIssue_keeps | apply foldl_keeps | (simp only [Keeps_mk]; refine Keeps.parts _ _ ?_) | split | intro _ | dsimp only

theorem execScatterDone_keeps (base : State) (c : CtxId) (s : State)
    (hk : Keeps base s) :
    OutKeeps base (execScatterDone c s) := by
  unfold execScatterDone
  refine outKeeps_next _ _ ?_
  try dsimp only
  repeat' with_reducible first | assumption | apply State.signalSem_keeps | apply State.updMove_keeps | apply foldl_keeps | (simp only [Keeps_mk]; refine Keeps.parts _ _ ?_) | split | intro _ | dsimp only

theorem execReturnDone_keeps (base : State) (c : CtxId) (s : State)
    (hk : Keeps base s) :
    OutKeeps base (execReturnDone c s) := by
  unfold execReturnDone
  refine outKeeps_next _ _ ?_
  try dsimp only
  repeat' with_reducible first | assumption | apply State.signalSem_keeps | apply State.updMove_keeps | apply foldl_keeps | (simp only [Keeps_mk]; refine Keeps.parts _ _ ?_) | split | intro _ | dsimp only

theorem State.landQueueRow_keeps (base : State) (s : State) (c : Nat) (g : Nat) (step : Nat) (queue : Nat) (row : Nat) (off : Nat) (tag : BitVec 64) (fromSelf : Bool) (data : Bytes)
    (hk : Keeps base s) :
    Keeps base (State.landQueueRow s c g step queue row off tag fromSelf data) := by
  unfold State.landQueueRow
  try dsimp only
  repeat' with_reducible first | assumption | apply State.putRow_keeps | apply State.hubDone_keeps | apply foldl_keeps | (simp only [Keeps_mk]; refine Keeps.parts _ _ ?_) | split | intro _ | dsimp only

theorem State.landReturnRow_keeps (base : State) (s : State) (c : Nat) (g : Nat) (step : Nat) (slot : Nat) (token : Nat) (off : Nat) (fromSelf : Bool) (data : Bytes)
    (hk : Keeps base s) :
    Keeps base (State.landReturnRow s c g step slot token off fromSelf data) := by
  unfold State.landReturnRow
  try dsimp only
  repeat' with_reducible first | assumption | apply State.putRow_keeps | apply State.hubDone_keeps | apply foldl_keeps | (simp only [Keeps_mk]; refine Keeps.parts _ _ ?_) | split | intro _ | dsimp only

theorem execQueueRelease_keeps (base : State) (c : CtxId) (queue : Nat) (s : State)
    (hk : Keeps base s) :
    OutKeeps base (execQueueRelease c queue s) := by
  unfold execQueueRelease
  refine outKeeps_next _ _ ?_
  try dsimp only
  repeat' with_reducible first | assumption | apply State.releaseQueue_keeps | apply foldl_keeps | (simp only [Keeps_mk]; refine Keeps.parts _ _ ?_) | split | intro _ | dsimp only

theorem execCombine_keeps (base : State) (k : CoreId) (n : SReg) (sem : BitVec 16) (s : State)
    (hk : Keeps base s) :
    OutKeeps base (execCombine k n sem s) := by
  unfold execCombine
  refine outKeeps_next _ _ ?_
  try dsimp only
  repeat' with_reducible first | assumption | apply onMove_keeps | apply State.ctxFault_keeps | apply State.updMove_keeps | apply State.updStream_keeps | apply foldl_keeps | (simp only [Keeps_mk]; refine Keeps.parts _ _ ?_) | split | intro _ | dsimp only

theorem State.combineTouch_keeps (base : State) (s : State) (c : Nat) (k : Nat) (uid : Nat) (m : MoveRec) (ret : Desc) (kept : List Assign) (t : Nat)
    (hk : Keeps base s) :
    Keeps base (State.combineTouch s c k uid m ret kept t) := by
  unfold State.combineTouch
  try dsimp only
  repeat' with_reducible first | assumption | apply State.hubTouch_keeps | apply foldl_keeps | (simp only [Keeps_mk]; refine Keeps.parts _ _ ?_) | split | intro _ | dsimp only

theorem State.combineRow_keeps (base : State) (s : State) (c : Nat) (x : MoveState) (t : Nat)
    (hk : Keeps base s) :
    Keeps base (State.combineRow s c x t) := by
  unfold State.combineRow
  try dsimp only
  repeat' with_reducible first | assumption | apply State.updMove_keeps | apply State.raiseFlags_keeps | apply State.quillWrite_keeps | apply State.combineTouch_keeps | apply State.hubDone_keeps | apply foldl_keeps | (simp only [Keeps_mk]; refine Keeps.parts _ _ ?_) | split | intro _ | dsimp only

theorem execCombineTokenStart_keeps (base : State) (c : CtxId) (token : Nat) (s : State)
    (hk : Keeps base s) :
    OutKeeps base (execCombineTokenStart c token s) := by
  unfold execCombineTokenStart
  refine outKeeps_next _ _ ?_
  try dsimp only
  repeat' with_reducible first | assumption | apply State.meterHub_keeps | apply State.combineRow_keeps | apply foldl_keeps | (simp only [Keeps_mk]; refine Keeps.parts _ _ ?_) | split | intro _ | dsimp only

theorem execCombineDone_keeps (base : State) (c : CtxId) (s : State)
    (hk : Keeps base s) :
    OutKeeps base (execCombineDone c s) := by
  unfold execCombineDone
  refine outKeeps_next _ _ ?_
  try dsimp only
  repeat' with_reducible first | assumption | apply State.signalSem_keeps | apply State.updMove_keeps | apply foldl_keeps | (simp only [Keeps_mk]; refine Keeps.parts _ _ ?_) | split | intro _ | dsimp only

theorem State.landWrite_keeps (base : State) (s : State) (c : Nat) (space : Nat) (off : Nat) (sem : BitVec 16) (data : Bytes)
    (hk : Keeps base s) :
    Keeps base (State.landWrite s c space off sem data) := by
  unfold State.landWrite
  try dsimp only
  repeat' with_reducible first | assumption | apply State.putSram_keeps | apply State.hubPut_keeps | apply State.hubDone_keeps | apply foldl_keeps | (simp only [Keeps_mk]; refine Keeps.parts _ _ ?_) | split | intro _ | dsimp only

theorem State.landPacket_keeps (base : State) (s : State) (p : Packet)
    (hk : Keeps base s) :
    Keeps base (State.landPacket s p) := by
  unfold State.landPacket
  try dsimp only
  repeat' with_reducible first | assumption | apply State.landQueueRow_keeps | apply State.landReturnRow_keeps | apply State.collLand_keeps | apply State.landWrite_keeps | apply foldl_keeps | (simp only [Keeps_mk]; refine Keeps.parts _ _ ?_) | split | intro _ | dsimp only

theorem execPacketLand_keeps (base : State) (p : Packet) (s : State)
    (hk : Keeps base s) :
    OutKeeps base (execPacketLand p s) := by
  unfold execPacketLand
  refine outKeeps_next _ _ ?_
  try dsimp only
  repeat' with_reducible first | assumption | apply State.landPacket_keeps | apply State.forwardIn_keeps | apply foldl_keeps | (simp only [Keeps_mk]; refine Keeps.parts _ _ ?_) | split | intro _ | dsimp only

theorem State.zeroEntry_keeps (base : State) (s : State) (c : Nat) (k : Nat) (uid : Nat) (e : GEntry)
    (hk : Keeps base s) :
    Keeps base (State.zeroEntry s c k uid e) := by
  unfold State.zeroEntry
  try dsimp only
  repeat' with_reducible first | assumption | apply State.quillWrite_keeps | apply foldl_keeps | (simp only [Keeps_mk]; refine Keeps.parts _ _ ?_) | split | intro _ | dsimp only

theorem State.putRoster_keeps (base : State) (s : State) (c : Nat) (header : Nat) (r : Roster)
    (hk : Keeps base s) :
    Keeps base (State.putRoster s c header r) := by
  unfold State.putRoster
  try dsimp only
  repeat' with_reducible first | assumption | apply State.raiseQueue_keeps | apply State.updCtx_keeps | apply foldl_keeps | (simp only [Keeps_mk]; refine Keeps.parts _ _ ?_) | split | intro _ | dsimp only

theorem State.walk_elim (base : State) {s : State} {c k uid header : Nat} {h : RosterHead} {t : State}
    (e : s.walk c k uid header h = some t) (hk : Keeps base s) : Keeps base t := by
  unfold State.walk at e
  dsimp only at e
  split at e
  · cases e
  · cases e
    apply State.meterHub_keeps
    apply State.putRoster_keeps
    exact foldl_keeps _ _ _ _ hk fun _ _ k => State.zeroEntry_keeps base _ _ _ _ _ k

theorem State.settleRoster_keeps (base : State) (s : State) (c : Nat) (header : Nat) (r : Roster)
    (hk : Keeps base s) :
    Keeps base (State.settleRoster s c header r) := by
  unfold State.settleRoster
  try dsimp only
  repeat' with_reducible first | assumption | apply State.updCtx_keeps | apply State.putRoster_keeps | apply State.signalSem_keeps | apply foldl_keeps | (simp only [Keeps_mk]; refine Keeps.parts _ _ ?_) | split | intro _ | dsimp only

theorem State.claim_keeps (base : State) (s : State) (k : CoreId) (key : Nat) (header : Nat) (sd : SReg)
    (hk : Keeps base s) :
    Keeps base (State.claim s k key header sd) := by
  unfold State.claim
  try dsimp only
  repeat' with_reducible first | assumption | apply State.updStream_keeps | apply State.settleRoster_keeps | apply foldl_keeps | (simp only [Keeps_mk]; refine Keeps.parts _ _ ?_) | split | intro _ | dsimp only

theorem State.claimBelow_keeps (base : State) (s : State) (c : Nat) (header : Nat) (n : Nat)
    (hk : Keeps base s) :
    Keeps base (State.claimBelow s c header n) := by
  unfold State.claimBelow
  try dsimp only
  repeat' with_reducible first | assumption | apply State.claim_keeps | apply foldl_keeps | (simp only [Keeps_mk]; refine Keeps.parts _ _ ?_) | split | intro _ | dsimp only

theorem execGclaim_keeps (base : State) (k : CoreId) (n : SReg) (sd : SReg) (s : State)
    (hk : Keeps base s) :
    OutKeeps base (execGclaim k n sd s) := by
  unfold execGclaim
  refine outKeeps_next _ _ ?_
  try dsimp only
  repeat' with_reducible first | assumption | apply onRecord_keeps | apply State.ctxFault_keeps | apply State.claim_keeps | apply State.claimBelow_keeps | apply State.putRoster_keeps | refine State.walk_elim _ (by assumption) ?_ | apply foldl_keeps | (simp only [Keeps_mk]; refine Keeps.parts _ _ ?_) | split | intro _ | dsimp only

theorem execRosterReady_keeps (base : State) (c : CtxId) (header : Nat) (s : State)
    (hk : Keeps base s) :
    OutKeeps base (execRosterReady c header s) := by
  unfold execRosterReady
  refine outKeeps_next _ _ ?_
  try dsimp only
  repeat' with_reducible first | assumption | apply State.settleRoster_keeps | apply foldl_keeps | (simp only [Keeps_mk]; refine Keeps.parts _ _ ?_) | split | intro _ | dsimp only

theorem execRosterRelease_keeps (base : State) (c : CtxId) (header : Nat) (entry : Nat) (s : State)
    (hk : Keeps base s) :
    OutKeeps base (execRosterRelease c header entry s) := by
  unfold execRosterRelease
  refine outKeeps_next _ _ ?_
  try dsimp only
  repeat' with_reducible first | assumption | apply State.settleRoster_keeps | apply State.setSem_keeps | apply foldl_keeps | (simp only [Keeps_mk]; refine Keeps.parts _ _ ?_) | split | intro _ | dsimp only

theorem execGclaimResult_keeps (base : State) (k : CoreId) (s : State)
    (hk : Keeps base s) :
    OutKeeps base (execGclaimResult k s) := by
  unfold execGclaimResult
  refine outKeeps_next _ _ ?_
  try dsimp only
  repeat' with_reducible first | assumption | apply State.claimBelow_keeps | apply foldl_keeps | (simp only [Keeps_mk]; refine Keeps.parts _ _ ?_) | split | intro _ | dsimp only

theorem State.queueControl_keeps (base : State) (s : State) (l : Nat) (msg : Bytes)
    (hk : Keeps base s) :
    Keeps base (State.queueControl s l msg) := by
  unfold State.queueControl
  try dsimp only
  repeat' with_reducible first | assumption | apply State.updLink_keeps | apply foldl_keeps | (simp only [Keeps_mk]; refine Keeps.parts _ _ ?_) | split | intro _ | dsimp only

theorem execTickMarkerSend_keeps (base : State) (s : State)
    (hk : Keeps base s) :
    OutKeeps base (execTickMarkerSend s) := by
  unfold execTickMarkerSend
  refine outKeeps_next _ _ ?_
  try dsimp only
  repeat' with_reducible first | assumption | apply State.queueControl_keeps | apply State.updTick_keeps | apply foldl_keeps | (simp only [Keeps_mk]; refine Keeps.parts _ _ ?_) | split | intro _ | dsimp only

theorem State.takeMarker_keeps (base : State) (s : State) (l : Nat) (m : Marker) (arrival : Nat)
    (hk : Keeps base s) :
    Keeps base (State.takeMarker s l m arrival) := by
  unfold State.takeMarker
  try dsimp only
  repeat' with_reducible first | assumption | apply State.updTick_keeps | apply foldl_keeps | (simp only [Keeps_mk]; refine Keeps.parts _ _ ?_) | split | intro _ | dsimp only

theorem execTickMarkerReceive_keeps (base : State) (l : LinkId) (m : Marker) (arrival : Nat) (s : State)
    (hk : Keeps base s) :
    OutKeeps base (execTickMarkerReceive l m arrival s) := by
  unfold execTickMarkerReceive
  refine outKeeps_next _ _ ?_
  try dsimp only
  repeat' with_reducible first | assumption | apply State.takeMarker_keeps | apply foldl_keeps | (simp only [Keeps_mk]; refine Keeps.parts _ _ ?_) | split | intro _ | dsimp only

theorem execHoldoverEntry_keeps (base : State) (s : State)
    (hk : Keeps base s) :
    OutKeeps base (execHoldoverEntry s) := by
  unfold execHoldoverEntry
  refine outKeeps_next _ _ ?_
  try dsimp only
  repeat' with_reducible first | assumption | apply State.updTick_keeps | apply foldl_keeps | (simp only [Keeps_mk]; refine Keeps.parts _ _ ?_) | split | intro _ | dsimp only

theorem execHoldoverLongEntry_keeps (base : State) (s : State)
    (hk : Keeps base s) :
    OutKeeps base (execHoldoverLongEntry s) := by
  unfold execHoldoverLongEntry
  refine outKeeps_next _ _ ?_
  try dsimp only
  repeat' with_reducible first | assumption | apply State.updTick_keeps | apply foldl_keeps | (simp only [Keeps_mk]; refine Keeps.parts _ _ ?_) | split | intro _ | dsimp only

theorem execSlewStep_keeps (base : State) (s : State)
    (hk : Keeps base s) :
    OutKeeps base (execSlewStep s) := by
  unfold execSlewStep
  refine outKeeps_next _ _ ?_
  try dsimp only
  repeat' with_reducible first | assumption | apply State.updTick_keeps | apply foldl_keeps | (simp only [Keeps_mk]; refine Keeps.parts _ _ ?_) | split | intro _ | dsimp only

theorem execFrequencyLock_keeps (base : State) (s : State)
    (hk : Keeps base s) :
    OutKeeps base (execFrequencyLock s) := by
  unfold execFrequencyLock
  refine outKeeps_next _ _ ?_
  try dsimp only
  repeat' with_reducible first | assumption | apply State.updTick_keeps | apply foldl_keeps | (simp only [Keeps_mk]; refine Keeps.parts _ _ ?_) | split | intro _ | dsimp only

theorem State.sendIdentity_keeps (base : State) (s : State) (l : Nat)
    (hk : Keeps base s) :
    Keeps base (State.sendIdentity s l) := by
  unfold State.sendIdentity
  try dsimp only
  repeat' with_reducible first | assumption | apply State.emit_keeps | apply foldl_keeps | (simp only [Keeps_mk]; refine Keeps.parts _ _ ?_) | split | intro _ | dsimp only

theorem State.flood_keeps (base : State) (s : State) (msg : Bytes)
    (hk : Keeps base s) :
    Keeps base (State.flood s msg) := by
  unfold State.flood
  try dsimp only
  repeat' with_reducible first | assumption | apply State.queueControl_keeps | apply foldl_keeps | (simp only [Keeps_mk]; refine Keeps.parts _ _ ?_) | split | intro _ | dsimp only

theorem State.chooseTree_keeps (base : State) (s : State)
    (hk : Keeps base s) :
    Keeps base (State.chooseTree s) := by
  unfold State.chooseTree
  try dsimp only
  repeat' with_reducible first | assumption | apply State.updTick_keeps | apply State.flood_keeps | apply foldl_keeps | (simp only [Keeps_mk]; refine Keeps.parts _ _ ?_) | split | intro _ | dsimp only

theorem State.newRoutes_keeps (base : State) (s : State)
    (hk : Keeps base s) :
    Keeps base (State.newRoutes s) := by
  unfold State.newRoutes
  try dsimp only
  repeat' with_reducible first | assumption | apply State.flood_keeps | apply foldl_keeps | (simp only [Keeps_mk]; refine Keeps.parts _ _ ?_) | split | intro _ | dsimp only

theorem State.mapChanged_keeps (base : State) (s : State) (addrs : List Nat)
    (hk : Keeps base s) :
    Keeps base (State.mapChanged s addrs) := by
  unfold State.mapChanged
  try dsimp only
  repeat' with_reducible first | assumption | apply State.flood_keeps | apply foldl_keeps | (simp only [Keeps_mk]; refine Keeps.parts _ _ ?_) | split | intro _ | dsimp only

theorem State.putEntry_keeps (base : State) (s : State) (addr : Nat) (e : MapEntry)
    (hk : Keeps base s) :
    Keeps base (State.putEntry s addr e) := by
  unfold State.putEntry
  try dsimp only
  repeat' with_reducible first | assumption | apply foldl_keeps | (simp only [Keeps_mk]; refine Keeps.parts _ _ ?_) | split | intro _ | dsimp only

theorem State.takeReport_keeps (base : State) (s : State) (r : Report)
    (hk : Keeps base s) :
    Keeps base (State.takeReport s r) := by
  unfold State.takeReport
  try dsimp only
  repeat' with_reducible first | assumption | apply State.putEntry_keeps | apply State.chooseTree_keeps | apply State.mapChanged_keeps | apply State.newRoutes_keeps | apply foldl_keeps | (simp only [Keeps_mk]; refine Keeps.parts _ _ ?_) | split | intro _ | dsimp only

theorem execDiscoveryReport_keeps (base : State) (r : Report) (s : State)
    (hk : Keeps base s) :
    OutKeeps base (execDiscoveryReport r s) := by
  unfold execDiscoveryReport
  refine outKeeps_next _ _ ?_
  try dsimp only
  repeat' with_reducible first | assumption | apply State.takeReport_keeps | apply foldl_keeps | (simp only [Keeps_mk]; refine Keeps.parts _ _ ?_) | split | intro _ | dsimp only

theorem State.passReport_keeps (base : State) (s : State) (r : Report)
    (hk : Keeps base s) :
    Keeps base (State.passReport s r) := by
  unfold State.passReport
  try dsimp only
  repeat' with_reducible first | assumption | apply State.emit_keeps | apply State.queueControl_keeps | apply foldl_keeps | (simp only [Keeps_mk]; refine Keeps.parts _ _ ?_) | split | intro _ | dsimp only

theorem State.reportLinks_keeps (base : State) (s : State)
    (hk : Keeps base s) :
    Keeps base (State.reportLinks s) := by
  unfold State.reportLinks
  try dsimp only
  repeat' with_reducible first | assumption | apply State.takeReport_keeps | apply State.passReport_keeps | apply foldl_keeps | (simp only [Keeps_mk]; refine Keeps.parts _ _ ?_) | split | intro _ | dsimp only

theorem execDeviceDepart_keeps (base : State) (addr : BitVec 16) (s : State)
    (hk : Keeps base s) :
    OutKeeps base (execDeviceDepart addr s) := by
  unfold execDeviceDepart
  refine outKeeps_next _ _ ?_
  try dsimp only
  repeat' with_reducible first | assumption | apply State.newRoutes_keeps | apply State.chooseTree_keeps | apply State.mapChanged_keeps | apply State.putEntry_keeps | apply foldl_keeps | (simp only [Keeps_mk]; refine Keeps.parts _ _ ?_) | split | intro _ | dsimp only

theorem execRouteTableSwitch_keeps (base : State) (s : State)
    (hk : Keeps base s) :
    OutKeeps base (execRouteTableSwitch s) := by
  unfold execRouteTableSwitch
  refine outKeeps_next _ _ ?_
  try dsimp only
  repeat' with_reducible first | assumption | apply foldl_keeps | (simp only [Keeps_mk]; refine Keeps.parts _ _ ?_) | split | intro _ | dsimp only

theorem State.becomeLead_keeps (base : State) (s : State)
    (hk : Keeps base s) :
    Keeps base (State.becomeLead s) := by
  unfold State.becomeLead
  try dsimp only
  repeat' with_reducible first | assumption | apply State.updTick_keeps | apply State.chooseTree_keeps | apply State.mapChanged_keeps | apply State.putEntry_keeps | apply foldl_keeps | (simp only [Keeps_mk]; refine Keeps.parts _ _ ?_) | split | intro _ | dsimp only

theorem State.logPosition_keeps (base : State) (s : State)
    (hk : Keeps base s) :
    Keeps base (State.logPosition s) := by
  unfold State.logPosition
  try dsimp only
  repeat' with_reducible first | assumption | apply State.logEvent_keeps | apply foldl_keeps | (simp only [Keeps_mk]; refine Keeps.parts _ _ ?_) | split | intro _ | dsimp only

theorem execElectionComplete_keeps (base : State) (s : State)
    (hk : Keeps base s) :
    OutKeeps base (execElectionComplete s) := by
  unfold execElectionComplete
  refine outKeeps_next _ _ ?_
  try dsimp only
  repeat' with_reducible first | assumption | apply State.logPosition_keeps | apply State.becomeLead_keeps | apply State.sendIdentity_keeps | apply foldl_keeps | (simp only [Keeps_mk]; refine Keeps.parts _ _ ?_) | split | intro _ | dsimp only

theorem execSoloLead_keeps (base : State) (s : State)
    (hk : Keeps base s) :
    OutKeeps base (execSoloLead s) := by
  unfold execSoloLead
  refine outKeeps_next _ _ ?_
  try dsimp only
  repeat' with_reducible first | assumption | apply State.logPosition_keeps | apply State.becomeLead_keeps | apply foldl_keeps | (simp only [Keeps_mk]; refine Keeps.parts _ _ ?_) | split | intro _ | dsimp only

theorem State.takePosition_keeps (base : State) (s : State) (addr : Nat) (extents : BitVec 16)
    (hk : Keeps base s) :
    Keeps base (State.takePosition s addr extents) := by
  unfold State.takePosition
  try dsimp only
  repeat' with_reducible first | assumption | apply State.logPosition_keeps | apply State.sendIdentity_keeps | apply foldl_keeps | (simp only [Keeps_mk]; refine Keeps.parts _ _ ?_) | split | intro _ | dsimp only

theorem State.closeAxis_keeps (base : State) (s : State) (l : Nat) (peer : Nat)
    (hk : Keeps base s) :
    Keeps base (State.closeAxis s l peer) := by
  unfold State.closeAxis
  try dsimp only
  repeat' with_reducible first | assumption | apply State.logEvent_keeps | apply foldl_keeps | (simp only [Keeps_mk]; refine Keeps.parts _ _ ?_) | split | intro _ | dsimp only

theorem execPositionAssign_keeps (base : State) (l : LinkId) (peerAddr : BitVec 16) (extents : BitVec 16) (s : State)
    (hk : Keeps base s) :
    OutKeeps base (execPositionAssign l peerAddr extents s) := by
  unfold execPositionAssign
  refine outKeeps_next _ _ ?_
  try dsimp only
  repeat' with_reducible first | assumption | apply State.closeAxis_keeps | apply State.takePosition_keeps | apply foldl_keeps | (simp only [Keeps_mk]; refine Keeps.parts _ _ ?_) | split | intro _ | dsimp only

theorem State.yieldLead_keeps (base : State) (s : State)
    (hk : Keeps base s) :
    Keeps base (State.yieldLead s) := by
  unfold State.yieldLead
  try dsimp only
  repeat' with_reducible first | assumption | apply State.updTick_keeps | apply foldl_keeps | (simp only [Keeps_mk]; refine Keeps.parts _ _ ?_) | split | intro _ | dsimp only

theorem State.primaryAlone_keeps (base : State) (s : State)
    (hk : Keeps base s) :
    Keeps base (State.primaryAlone s) := by
  unfold State.primaryAlone
  try dsimp only
  repeat' with_reducible first | assumption | apply foldl_keeps | (simp only [Keeps_mk]; refine Keeps.parts _ _ ?_) | split | intro _ | dsimp only

theorem State.countLost_keeps (base : State) (s : State) (l : List Nat)
    (hk : Keeps base s) :
    Keeps base (State.countLost s l) := by
  unfold State.countLost
  try dsimp only
  repeat' with_reducible first | assumption | apply State.updCtx_keeps | apply foldl_keeps | (simp only [Keeps_mk]; refine Keeps.parts _ _ ?_) | split | intro _ | dsimp only

theorem State.loseRows_keeps (base : State) (s : State) (c : Nat)
    (hk : Keeps base s) :
    Keeps base (State.loseRows s c) := by
  unfold State.loseRows
  try dsimp only
  repeat' with_reducible first | assumption | apply State.updQuill_keeps | apply foldl_keeps | (simp only [Keeps_mk]; refine Keeps.parts _ _ ?_) | split | intro _ | dsimp only

theorem State.declareDown_keeps (base : State) (s : State) (l : Nat)
    (hk : Keeps base s) :
    Keeps base (State.declareDown s l) := by
  unfold State.declareDown
  try dsimp only
  repeat' with_reducible first | assumption | apply State.updLink_keeps | apply State.countLost_keeps | apply State.loseRows_keeps | apply State.updTick_keeps | apply State.detectAll_keeps | apply State.reportLinks_keeps | apply State.primaryAlone_keeps | apply foldl_keeps | (simp only [Keeps_mk]; refine Keeps.parts _ _ ?_) | split | intro _ | dsimp only

theorem execLinkDown_keeps (base : State) (l : LinkId) (s : State)
    (hk : Keeps base s) :
    OutKeeps base (execLinkDown l s) := by
  unfold execLinkDown
  refine outKeeps_next _ _ ?_
  try dsimp only
  repeat' with_reducible first | assumption | apply State.declareDown_keeps | apply foldl_keeps | (simp only [Keeps_mk]; refine Keeps.parts _ _ ?_) | split | intro _ | dsimp only

theorem execBlockLockLost_keeps (base : State) (l : LinkId) (s : State)
    (hk : Keeps base s) :
    OutKeeps base (execBlockLockLost l s) := by
  unfold execBlockLockLost
  refine outKeeps_next _ _ ?_
  try dsimp only
  repeat' with_reducible first | assumption | apply State.declareDown_keeps | apply foldl_keeps | (simp only [Keeps_mk]; refine Keeps.parts _ _ ?_) | split | intro _ | dsimp only

theorem State.enter_keeps (base : State) (s : State) (l : Nat) (st : LinkState)
    (hk : Keeps base s) :
    Keeps base (State.enter s l st) := by
  unfold State.enter
  try dsimp only
  repeat' with_reducible first | assumption | apply State.updLink_keeps | apply foldl_keeps | (simp only [Keeps_mk]; refine Keeps.parts _ _ ?_) | split | intro _ | dsimp only

theorem execLinkTrainStart_keeps (base : State) (l : LinkId) (s : State)
    (hk : Keeps base s) :
    OutKeeps base (execLinkTrainStart l s) := by
  unfold execLinkTrainStart
  refine outKeeps_next _ _ ?_
  try dsimp only
  repeat' with_reducible first | assumption | apply State.enter_keeps | apply foldl_keeps | (simp only [Keeps_mk]; refine Keeps.parts _ _ ?_) | split | intro _ | dsimp only

theorem execLinkEqualised_keeps (base : State) (l : LinkId) (s : State)
    (hk : Keeps base s) :
    OutKeeps base (execLinkEqualised l s) := by
  unfold execLinkEqualised
  refine outKeeps_next _ _ ?_
  try dsimp only
  repeat' with_reducible first | assumption | apply State.enter_keeps | apply foldl_keeps | (simp only [Keeps_mk]; refine Keeps.parts _ _ ?_) | split | intro _ | dsimp only

theorem execLinkAligned_keeps (base : State) (l : LinkId) (s : State)
    (hk : Keeps base s) :
    OutKeeps base (execLinkAligned l s) := by
  unfold execLinkAligned
  refine outKeeps_next _ _ ?_
  try dsimp only
  repeat' with_reducible first | assumption | apply State.sendIdentity_keeps | apply State.enter_keeps | apply State.updLink_keeps | apply foldl_keeps | (simp only [Keeps_mk]; refine Keeps.parts _ _ ?_) | split | intro _ | dsimp only

theorem execLinkStateTimeout_keeps (base : State) (l : LinkId) (s : State)
    (hk : Keeps base s) :
    OutKeeps base (execLinkStateTimeout l s) := by
  unfold execLinkStateTimeout
  refine outKeeps_next _ _ ?_
  try dsimp only
  repeat' with_reducible first | assumption | apply State.updLink_keeps | apply foldl_keeps | (simp only [Keeps_mk]; refine Keeps.parts _ _ ?_) | split | intro _ | dsimp only

theorem execIdentityReceive_keeps (base : State) (l : LinkId) (b : IdBlock) (s : State)
    (hk : Keeps base s) :
    OutKeeps base (execIdentityReceive l b s) := by
  unfold execIdentityReceive
  refine outKeeps_next _ _ ?_
  try dsimp only
  repeat' with_reducible first | assumption | apply State.updLink_keeps | apply State.reportLinks_keeps | apply State.enter_keeps | apply foldl_keeps | (simp only [Keeps_mk]; refine Keeps.parts _ _ ?_) | split | intro _ | dsimp only

theorem State.alignTick_keeps (base : State) (s : State) (offset : Int)
    (hk : Keeps base s) :
    Keeps base (State.alignTick s offset) := by
  unfold State.alignTick
  try dsimp only
  repeat' with_reducible first | assumption | apply State.updTick_keeps | apply State.logEvent_keeps | apply foldl_keeps | (simp only [Keeps_mk]; refine Keeps.parts _ _ ?_) | split | intro _ | dsimp only

theorem State.useDelay_keeps (base : State) (s : State) (l : Nat) (offset : Int)
    (hk : Keeps base s) :
    Keeps base (State.useDelay s l offset) := by
  unfold State.useDelay
  try dsimp only
  repeat' with_reducible first | assumption | apply State.updTick_keeps | apply State.alignTick_keeps | apply foldl_keeps | (simp only [Keeps_mk]; refine Keeps.parts _ _ ?_) | split | intro _ | dsimp only

theorem execDelayComplete_keeps (base : State) (l : LinkId) (stamps : List Stamps) (s : State)
    (hk : Keeps base s) :
    OutKeeps base (execDelayComplete l stamps s) := by
  unfold execDelayComplete
  refine outKeeps_next _ _ ?_
  try dsimp only
  repeat' with_reducible first | assumption | apply State.updTick_keeps | apply State.updLink_keeps | apply State.reportLinks_keeps | apply State.useDelay_keeps | apply foldl_keeps | (simp only [Keeps_mk]; refine Keeps.parts _ _ ?_) | split | intro _ | dsimp only

theorem State.countFec_keeps (base : State) (s : State) (l : Nat) (e : Fec)
    (hk : Keeps base s) :
    Keeps base (State.countFec s l e) := by
  unfold State.countFec
  try dsimp only
  repeat' with_reducible first | assumption | apply State.updLink_keeps | apply foldl_keeps | (simp only [Keeps_mk]; refine Keeps.parts _ _ ?_) | split | intro _ | dsimp only

theorem State.putFlit_keeps (base : State) (s : State) (l : Nat) (f : Nat) (x : Flit)
    (hk : Keeps base s) :
    Keeps base (State.putFlit s l f x) := by
  unfold State.putFlit
  try dsimp only
  repeat' with_reducible first | assumption | apply State.emit_keeps | apply State.updLink_keeps | apply foldl_keeps | (simp only [Keeps_mk]; refine Keeps.parts _ _ ?_) | split | intro _ | dsimp only

theorem State.sendSequenced_keeps (base : State) (s : State) (l : Nat) (f : Nat) (x : Flit)
    (hk : Keeps base s) :
    Keeps base (State.sendSequenced s l f x) := by
  unfold State.sendSequenced
  try dsimp only
  repeat' with_reducible first | assumption | apply State.putFlit_keeps | apply State.updLink_keeps | apply foldl_keeps | (simp only [Keeps_mk]; refine Keeps.parts _ _ ?_) | split | intro _ | dsimp only

theorem State.sendIdle_keeps (base : State) (s : State) (l : Nat) (f : Nat)
    (hk : Keeps base s) :
    Keeps base (State.sendIdle s l f) := by
  unfold State.sendIdle
  try dsimp only
  repeat' with_reducible first | assumption | apply State.putFlit_keeps | apply foldl_keeps | (simp only [Keeps_mk]; refine Keeps.parts _ _ ?_) | split | intro _ | dsimp only

theorem State.sendControl_keeps (base : State) (s : State) (l : Nat) (f : Nat)
    (hk : Keeps base s) :
    Keeps base (State.sendControl s l f) := by
  unfold State.sendControl
  try dsimp only
  repeat' with_reducible first | assumption | apply State.sendIdle_keeps | apply State.sendSequenced_keeps | apply State.updLink_keeps | apply foldl_keeps | (simp only [Keeps_mk]; refine Keeps.parts _ _ ?_) | split | intro _ | dsimp only

theorem State.sendSlotFlit_keeps (base : State) (s : State) (l : Nat) (f : Nat) (x : Flit)
    (hk : Keeps base s) :
    Keeps base (State.sendSlotFlit s l f x) := by
  unfold State.sendSlotFlit
  try dsimp only
  repeat' with_reducible first | assumption | apply State.sendSequenced_keeps | apply State.updLink_keeps | apply foldl_keeps | (simp only [Keeps_mk]; refine Keeps.parts _ _ ?_) | split | intro _ | dsimp only

theorem execFlitSend_keeps (base : State) (l : LinkId) (s : State)
    (hk : Keeps base s) :
    OutKeeps base (execFlitSend l s) := by
  unfold execFlitSend
  refine outKeeps_next _ _ ?_
  try dsimp only
  repeat' with_reducible first | assumption | apply State.sendControl_keeps | apply State.putFlit_keeps | apply State.updLink_keeps | apply State.sendIdle_keeps | apply State.sendSlotFlit_keeps | apply foldl_keeps | (simp only [Keeps_mk]; refine Keeps.parts _ _ ?_) | split | intro _ | dsimp only

theorem State.takeCredits_keeps (base : State) (s : State) (l : Nat) (n : BitVec 8)
    (hk : Keeps base s) :
    Keeps base (State.takeCredits s l n) := by
  unfold State.takeCredits
  try dsimp only
  repeat' with_reducible first | assumption | apply State.updLink_keeps | apply foldl_keeps | (simp only [Keeps_mk]; refine Keeps.parts _ _ ?_) | split | intro _ | dsimp only

theorem State.discardFlit_keeps (base : State) (s : State) (l : Nat)
    (hk : Keeps base s) :
    Keeps base (State.discardFlit s l) := by
  unfold State.discardFlit
  try dsimp only
  repeat' with_reducible first | assumption | apply State.updLink_keeps | apply State.declareDown_keeps | apply foldl_keeps | (simp only [Keeps_mk]; refine Keeps.parts _ _ ?_) | split | intro _ | dsimp only

theorem State.badFlit_keeps (base : State) (s : State) (l : Nat)
    (hk : Keeps base s) :
    Keeps base (State.badFlit s l) := by
  unfold State.badFlit
  try dsimp only
  repeat' with_reducible first | assumption | apply State.discardFlit_keeps | apply State.updLink_keeps | apply foldl_keeps | (simp only [Keeps_mk]; refine Keeps.parts _ _ ?_) | split | intro _ | dsimp only

theorem execFlitError_keeps (base : State) (l : LinkId) (s : State)
    (hk : Keeps base s) :
    OutKeeps base (execFlitError l s) := by
  unfold execFlitError
  refine outKeeps_next _ _ ?_
  try dsimp only
  repeat' with_reducible first | assumption | apply State.badFlit_keeps | apply foldl_keeps | (simp only [Keeps_mk]; refine Keeps.parts _ _ ?_) | split | intro _ | dsimp only

theorem State.onBlock_keeps (base : State) (s : State) (l : Nat) (e : Fec) (f : State → State)
    (hk : Keeps base s) (hf : ∀ x0, Keeps base x0 → Keeps base (f x0)) :
    Keeps base (State.onBlock s l e f) := by
  unfold State.onBlock
  try dsimp only
  repeat' with_reducible first | assumption | apply hf | apply State.badFlit_keeps | apply State.countFec_keeps | apply foldl_keeps | (simp only [Keeps_mk]; refine Keeps.parts _ _ ?_) | split | intro _ | dsimp only

theorem execLinkAckReceive_keeps (base : State) (l : LinkId) (seq : BitVec 10) (credit : BitVec 8) (fec : Fec) (s : State)
    (hk : Keeps base s) :
    OutKeeps base (execLinkAckReceive l seq credit fec s) := by
  unfold execLinkAckReceive
  refine outKeeps_next _ _ ?_
  try dsimp only
  repeat' with_reducible first | assumption | apply State.onBlock_keeps | apply State.takeCredits_keeps | apply State.updLink_keeps | apply foldl_keeps | (simp only [Keeps_mk]; refine Keeps.parts _ _ ?_) | split | intro _ | dsimp only

theorem execNakRepeat_keeps (base : State) (l : LinkId) (s : State)
    (hk : Keeps base s) :
    OutKeeps base (execNakRepeat l s) := by
  unfold execNakRepeat
  refine outKeeps_next _ _ ?_
  try dsimp only
  repeat' with_reducible first | assumption | apply State.updLink_keeps | apply foldl_keeps | (simp only [Keeps_mk]; refine Keeps.parts _ _ ?_) | split | intro _ | dsimp only

theorem execNakReceive_keeps (base : State) (l : LinkId) (seq : BitVec 10) (credit : BitVec 8) (fec : Fec) (s : State)
    (hk : Keeps base s) :
    OutKeeps base (execNakReceive l seq credit fec s) := by
  unfold execNakReceive
  refine outKeeps_next _ _ ?_
  try dsimp only
  repeat' with_reducible first | assumption | apply State.onBlock_keeps | apply State.takeCredits_keeps | apply State.updLink_keeps | apply State.declareDown_keeps | apply foldl_keeps | (simp only [Keeps_mk]; refine Keeps.parts _ _ ?_) | split | intro _ | dsimp only

theorem State.passFlit_keeps (base : State) (s : State) (l : Nat) (f : Flit)
    (hk : Keeps base s) :
    Keeps base (State.passFlit s l f) := by
  unfold State.passFlit
  try dsimp only
  repeat' with_reducible first | assumption | apply State.updLink_keeps | apply State.countLost_keeps | apply foldl_keeps | (simp only [Keeps_mk]; refine Keeps.parts _ _ ?_) | split | intro _ | dsimp only

theorem execDataFlitReceive_keeps (base : State) (l : LinkId) (f : Flit) (fec : Fec) (s : State)
    (hk : Keeps base s) :
    OutKeeps base (execDataFlitReceive l f fec s) := by
  unfold execDataFlitReceive
  refine outKeeps_next _ _ ?_
  try dsimp only
  repeat' with_reducible first | assumption | apply State.onBlock_keeps | apply State.discardFlit_keeps | apply State.passFlit_keeps | apply State.takeCredits_keeps | apply State.updLink_keeps | apply foldl_keeps | (simp only [Keeps_mk]; refine Keeps.parts _ _ ?_) | split | intro _ | dsimp only

theorem State.takeMap_keeps (base : State) (s : State) (version : BitVec 32) (entries : List (BitVec 16 × BitVec 64))
    (hk : Keeps base s) :
    Keeps base (State.takeMap s version entries) := by
  unfold State.takeMap
  try dsimp only
  repeat' with_reducible first | assumption | apply State.putEntry_keeps | apply foldl_keeps | (simp only [Keeps_mk]; refine Keeps.parts _ _ ?_) | split | intro _ | dsimp only

theorem State.relink_keeps (base : State) (s : State)
    (hk : Keeps base s) :
    Keeps base (State.relink s) := by
  unfold State.relink
  try dsimp only
  repeat' with_reducible first | assumption | apply State.enter_keeps | apply State.reportLinks_keeps | apply foldl_keeps | (simp only [Keeps_mk]; refine Keeps.parts _ _ ?_) | split | intro _ | dsimp only

theorem State.cfgTerminal_keeps (base : State) (s : State) (status : Nat) (reason : Nat) (entry : Nat)
    (hk : Keeps base s) :
    Keeps base (State.cfgTerminal s status reason entry) := by
  unfold State.cfgTerminal
  try dsimp only
  repeat' with_reducible first | assumption | apply State.raise_keeps | apply foldl_keeps | (simp only [Keeps_mk]; refine Keeps.parts _ _ ?_) | split | intro _ | dsimp only

theorem State.leadChanged_keeps (base : State) (s : State)
    (hk : Keeps base s) :
    Keeps base (State.leadChanged s) := by
  unfold State.leadChanged
  try dsimp only
  repeat' with_reducible first | assumption | apply State.cfgTerminal_keeps | apply foldl_keeps | (simp only [Keeps_mk]; refine Keeps.parts _ _ ?_) | split | intro _ | dsimp only

theorem State.takeLead_keeps (base : State) (s : State) (epoch : BitVec 32) (addr : BitVec 16)
    (hk : Keeps base s) :
    Keeps base (State.takeLead s epoch addr) := by
  unfold State.takeLead
  try dsimp only
  repeat' with_reducible first | assumption | apply State.yieldLead_keeps | apply State.leadChanged_keeps | apply State.updTick_keeps | apply foldl_keeps | (simp only [Keeps_mk]; refine Keeps.parts _ _ ?_) | split | intro _ | dsimp only

theorem State.relayLead_keeps (base : State) (s : State) (epoch : BitVec 32) (addr : BitVec 16)
    (hk : Keeps base s) :
    Keeps base (State.relayLead s epoch addr) := by
  unfold State.relayLead
  try dsimp only
  repeat' with_reducible first | assumption | apply State.flood_keeps | apply State.takeLead_keeps | apply foldl_keeps | (simp only [Keeps_mk]; refine Keeps.parts _ _ ?_) | split | intro _ | dsimp only

theorem State.takeMessage_keeps (base : State) (s : State) (m : CtlMsg)
    (hk : Keeps base s) :
    Keeps base (State.takeMessage s m) := by
  unfold State.takeMessage
  try dsimp only
  repeat' with_reducible first | assumption | apply State.relink_keeps | apply State.takeMap_keeps | apply State.flood_keeps | apply State.updTick_keeps | apply State.relayLead_keeps | apply State.takeReport_keeps | apply State.passReport_keeps | apply foldl_keeps | (simp only [Keeps_mk]; refine Keeps.parts _ _ ?_) | split | intro _ | dsimp only

theorem execControlFlitReceive_keeps (base : State) (l : LinkId) (f : Flit) (fec : Fec) (msgs : List CtlMsg) (s : State)
    (hk : Keeps base s) :
    OutKeeps base (execControlFlitReceive l f fec msgs s) := by
  unfold execControlFlitReceive
  refine outKeeps_next _ _ ?_
  try dsimp only
  repeat' with_reducible first | assumption | apply State.onBlock_keeps | apply State.updLink_keeps | apply State.discardFlit_keeps | apply State.takeCredits_keeps | apply State.takeMessage_keeps | apply foldl_keeps | (simp only [Keeps_mk]; refine Keeps.parts _ _ ?_) | split | intro _ | dsimp only

theorem execLeadBeatSend_keeps (base : State) (s : State)
    (hk : Keeps base s) :
    OutKeeps base (execLeadBeatSend s) := by
  unfold execLeadBeatSend
  refine outKeeps_next _ _ ?_
  try dsimp only
  repeat' with_reducible first | assumption | apply State.queueControl_keeps | apply foldl_keeps | (simp only [Keeps_mk]; refine Keeps.parts _ _ ?_) | split | intro _ | dsimp only

theorem execLeadBeatReceive_keeps (base : State) (l : LinkId) (epoch : BitVec 32) (lead : BitVec 16) (mapVersion : BitVec 32) (s : State)
    (hk : Keeps base s) :
    OutKeeps base (execLeadBeatReceive l epoch lead mapVersion s) := by
  unfold execLeadBeatReceive
  refine outKeeps_next _ _ ?_
  try dsimp only
  repeat' with_reducible first | assumption | apply State.takeLead_keeps | apply State.queueControl_keeps | apply foldl_keeps | (simp only [Keeps_mk]; refine Keeps.parts _ _ ?_) | split | intro _ | dsimp only

theorem State.takeLeadRole_keeps (base : State) (s : State)
    (hk : Keeps base s) :
    Keeps base (State.takeLeadRole s) := by
  unfold State.takeLeadRole
  try dsimp only
  repeat' with_reducible first | assumption | apply State.flood_keeps | apply State.newRoutes_keeps | apply State.becomeLead_keeps | apply foldl_keeps | (simp only [Keeps_mk]; refine Keeps.parts _ _ ?_) | split | intro _ | dsimp only

theorem execStandbyTakeover_keeps (base : State) (s : State)
    (hk : Keeps base s) :
    OutKeeps base (execStandbyTakeover s) := by
  unfold execStandbyTakeover
  refine outKeeps_next _ _ ?_
  try dsimp only
  repeat' with_reducible first | assumption | apply State.takeLeadRole_keeps | apply foldl_keeps | (simp only [Keeps_mk]; refine Keeps.parts _ _ ?_) | split | intro _ | dsimp only

theorem State.updPair_keeps (base : State) (s : State) (f : Pair → Pair)
    (hk : Keeps base s) :
    Keeps base (State.updPair s f) := by
  unfold State.updPair
  try dsimp only
  repeat' with_reducible first | assumption | apply foldl_keeps | (simp only [Keeps_mk]; refine Keeps.parts _ _ ?_) | split | intro _ | dsimp only

theorem execPairBeatSend_keeps (base : State) (s : State)
    (hk : Keeps base s) :
    OutKeeps base (execPairBeatSend s) := by
  unfold execPairBeatSend
  refine outKeeps_next _ _ ?_
  try dsimp only
  repeat' with_reducible first | assumption | apply State.emit_keeps | apply State.updPair_keeps | apply foldl_keeps | (simp only [Keeps_mk]; refine Keeps.parts _ _ ?_) | split | intro _ | dsimp only

theorem execPairBeatReceive_keeps (base : State) (l : LinkId) (s : State)
    (hk : Keeps base s) :
    OutKeeps base (execPairBeatReceive l s) := by
  unfold execPairBeatReceive
  refine outKeeps_next _ _ ?_
  try dsimp only
  repeat' with_reducible first | assumption | apply State.updPair_keeps | apply foldl_keeps | (simp only [Keeps_mk]; refine Keeps.parts _ _ ?_) | split | intro _ | dsimp only

theorem execPartnerLost_keeps (base : State) (s : State)
    (hk : Keeps base s) :
    OutKeeps base (execPartnerLost s) := by
  unfold execPartnerLost
  refine outKeeps_next _ _ ?_
  try dsimp only
  repeat' with_reducible first | assumption | apply State.updPair_keeps | apply State.primaryAlone_keeps | apply foldl_keeps | (simp only [Keeps_mk]; refine Keeps.parts _ _ ?_) | split | intro _ | dsimp only

theorem execForwardedInputReceive_keeps (base : State) (stamp : Word) (input : FwdInput) (s : State)
    (hk : Keeps base s) :
    OutKeeps base (execForwardedInputReceive stamp input s) := by
  unfold execForwardedInputReceive
  refine outKeeps_next _ _ ?_
  try dsimp only
  repeat' with_reducible first | assumption | apply State.updPair_keeps | apply foldl_keeps | (simp only [Keeps_mk]; refine Keeps.parts _ _ ?_) | split | intro _ | dsimp only

theorem execLagOverrun_keeps (base : State) (s : State)
    (hk : Keeps base s) :
    OutKeeps base (execLagOverrun s) := by
  unfold execLagOverrun
  refine outKeeps_next _ _ ?_
  try dsimp only
  repeat' with_reducible first | assumption | apply State.updPair_keeps | apply foldl_keeps | (simp only [Keeps_mk]; refine Keeps.parts _ _ ?_) | split | intro _ | dsimp only

theorem State.diverge_keeps (base : State) (s : State) (c : CtxId) (cmdId : BitVec 32)
    (hk : Keeps base s) :
    Keeps base (State.diverge s c cmdId) := by
  unfold State.diverge
  try dsimp only
  repeat' with_reducible first | assumption | apply State.updPair_keeps | apply State.suspend_keeps | apply foldl_keeps | (simp only [Keeps_mk]; refine Keeps.parts _ _ ?_) | split | intro _ | dsimp only

theorem execDigestCompare_keeps (base : State) (c : CtxId) (cmdId : BitVec 32) (digest : BitVec 256) (terminal : Word) (s : State)
    (hk : Keeps base s) :
    OutKeeps base (execDigestCompare c cmdId digest terminal s) := by
  unfold execDigestCompare
  refine outKeeps_next _ _ ?_
  try dsimp only
  repeat' with_reducible first | assumption | apply State.diverge_keeps | apply State.updPair_keeps | apply foldl_keeps | (simp only [Keeps_mk]; refine Keeps.parts _ _ ?_) | split | intro _ | dsimp only

theorem State.abortForwarded_keeps (base : State) (s : State) (i : FwdInput)
    (hk : Keeps base s) :
    Keeps base (State.abortForwarded s i) := by
  unfold State.abortForwarded
  try dsimp only
  repeat' with_reducible first | assumption | apply State.updCtx_keeps | apply State.updRing_keeps | apply State.finishCmd_keeps | apply foldl_keeps | (simp only [Keeps_mk]; refine Keeps.parts _ _ ?_) | split | intro _ | dsimp only

theorem State.deliverHeld_keeps (base : State) (s : State) (h : CtxId × Nat × Nat × Bytes × Word)
    (hk : Keeps base s) :
    Keeps base (State.deliverHeld s h) := by
  unfold State.deliverHeld
  try dsimp only
  repeat' with_reducible first | assumption | apply State.raise_keeps | apply State.hostWrite_keeps | apply foldl_keeps | (simp only [Keeps_mk]; refine Keeps.parts _ _ ?_) | split | intro _ | dsimp only

theorem State.promoteNow_keeps (base : State) (s : State)
    (hk : Keeps base s) :
    Keeps base (State.promoteNow s) := by
  unfold State.promoteNow
  try dsimp only
  repeat' with_reducible first | assumption | apply State.finishCmd_keeps | apply State.stopCommand_keeps | apply State.abortForwarded_keeps | apply State.updPair_keeps | apply State.updCtx_keeps | apply State.deliverHeld_keeps | apply State.takeLeadRole_keeps | apply foldl_keeps | (simp only [Keeps_mk]; refine Keeps.parts _ _ ?_) | split | intro _ | dsimp only

theorem execPromotion_keeps (base : State) (s : State)
    (hk : Keeps base s) :
    OutKeeps base (execPromotion s) := by
  unfold execPromotion
  refine outKeeps_next _ _ ?_
  try dsimp only
  repeat' with_reducible first | assumption | apply State.promoteNow_keeps | apply foldl_keeps | (simp only [Keeps_mk]; refine Keeps.parts _ _ ?_) | split | intro _ | dsimp only

theorem State.promote_keeps (base : State) (s : State)
    (hk : Keeps base s) :
    Keeps base (State.promote s) := by
  unfold State.promote
  try dsimp only
  repeat' with_reducible first | assumption | apply State.promoteNow_keeps | apply foldl_keeps | (simp only [Keeps_mk]; refine Keeps.parts _ _ ?_) | split | intro _ | dsimp only

theorem execPromote_keeps (base : State) (s : State)
    (hk : Keeps base s) :
    OutKeeps base (execPromote s) := by
  unfold execPromote
  refine outKeeps_next _ _ ?_
  try dsimp only
  repeat' with_reducible first | assumption | apply State.promote_keeps | apply foldl_keeps | (simp only [Keeps_mk]; refine Keeps.parts _ _ ?_) | split | intro _ | dsimp only

theorem State.writeBoot_keeps (base s : State) (preferred trial tries : Nat) (hk : Keeps base s) :
    Keeps base (s.writeBoot preferred trial tries) := by
  unfold State.writeBoot
  generalize BootBlock.bytes _ = b
  simp only [Keeps_mk]
  exact KeepsParts.withFlash (Keeps.parts _ _ hk) (Memory.writeBytes_wf _ _ _)

theorem State.writeFlash_keeps (base s : State) (offset : Nat) (data : Bytes) (hk : Keeps base s) :
    Keeps base (s.writeFlash offset data) := by
  unfold State.writeFlash
  generalize List.replicate 65536 (0xFF : Byte) = b
  simp only [Keeps_mk]
  refine KeepsParts.withFlash (Keeps.parts _ _ hk) fun w => Memory.writeBytes_wf _ _ _ ?_
  split
  · exact Memory.writeBytes_wf _ _ _ w
  · exact w

theorem execFlashWrite_keeps (base : State) (offset : Nat) (data : Bytes) (s : State)
    (hk : Keeps base s) :
    OutKeeps base (execFlashWrite offset data s) := by
  unfold execFlashWrite
  refine outKeeps_next _ _ ?_
  try dsimp only
  repeat' with_reducible first | assumption | apply State.writeFlash_keeps | apply foldl_keeps | (simp only [Keeps_mk]; refine Keeps.parts _ _ ?_) | split | intro _ | dsimp only

theorem execFlashWriteDone_keeps (base : State) (s : State)
    (hk : Keeps base s) :
    OutKeeps base (execFlashWriteDone s) := by
  unfold execFlashWriteDone
  refine outKeeps_next _ _ ?_
  try dsimp only
  repeat' with_reducible first | assumption | apply State.trace_keeps | apply foldl_keeps | (simp only [Keeps_mk]; refine Keeps.parts _ _ ?_) | split | intro _ | dsimp only

theorem State.romStart_keeps (base : State) (s : State)
    (hk : Keeps base s) :
    Keeps base (State.romStart s) := by
  unfold State.romStart
  try dsimp only
  repeat' with_reducible first | assumption | apply State.logEvent_keeps | apply foldl_keeps | (simp only [Keeps_mk]; refine Keeps.parts _ _ ?_) | split | intro _ | dsimp only

theorem execPorRise_keeps (base : State) (i2cAddr : BitVec 2) (xspiOctal : Bool) (s : State)
    (hk : Keeps base s) :
    OutKeeps base (execPorRise i2cAddr xspiOctal s) := by
  unfold execPorRise
  refine outKeeps_next _ _ ?_
  try dsimp only
  repeat' with_reducible first | assumption | apply State.romStart_keeps | apply foldl_keeps | (simp only [Keeps_mk]; refine Keeps.parts _ _ ?_) | split | intro _ | dsimp only

theorem execRootPllLock_keeps (base : State) (s : State)
    (hk : Keeps base s) :
    OutKeeps base (execRootPllLock s) := by
  unfold execRootPllLock
  refine outKeeps_next _ _ ?_
  try dsimp only
  repeat' with_reducible first | assumption | apply State.updTick_keeps | apply foldl_keeps | (simp only [Keeps_mk]; refine Keeps.parts _ _ ?_) | split | intro _ | dsimp only

theorem State.trySlot_keeps (base : State) (s : State) (slot : Nat)
    (hk : Keeps base s) :
    Keeps base ((State.trySlot s slot).1) := by
  unfold State.trySlot
  try dsimp only
  repeat' with_reducible first | assumption | apply State.logEvent_keeps | apply foldl_keeps | (simp only [Keeps_mk]; refine Keeps.parts _ _ ?_) | split | intro _ | dsimp only

theorem State.trySlot_elim (base : State) {s : State} {slot : Nat} {t : State} {y : Bool}
    (e : State.trySlot s slot = (t, y)) (hk : Keeps base s) : Keeps base t := by
  have k := State.trySlot_keeps base s slot hk
  rw [e] at k
  exact k

theorem State.startImage_keeps (base s : State) (slot cause : Nat) (hk : Keeps base s) :
    Keeps base (s.startImage slot cause) := by
  unfold State.startImage
  generalize State.imageBody _ _ = b
  simp only [Keeps_mk]
  exact KeepsParts.withCtl (Keeps.parts _ _ hk) (Memory.writeBytes_wf _ _ _)

theorem State.fallBack_keeps (base : State) (s : State) (slot : Nat) (cause : Nat)
    (hk : Keeps base s) :
    Keeps base (State.fallBack s slot cause) := by
  unfold State.fallBack
  try dsimp only
  repeat' with_reducible first | assumption | apply State.trySlot_keeps | apply State.startImage_keeps | apply State.writeBoot_keeps | refine State.trySlot_elim _ (by assumption) ?_ | apply foldl_keeps | (simp only [Keeps_mk]; refine Keeps.parts _ _ ?_) | split | intro _ | dsimp only

theorem State.romSelect_keeps (base : State) (s : State)
    (hk : Keeps base s) :
    Keeps base (State.romSelect s) := by
  unfold State.romSelect
  try dsimp only
  repeat' with_reducible first | assumption | apply State.fallBack_keeps | apply State.writeBoot_keeps | apply State.trySlot_keeps | apply State.startImage_keeps | refine State.trySlot_elim _ (by assumption) ?_ | apply foldl_keeps | (simp only [Keeps_mk]; refine Keeps.parts _ _ ?_) | split | intro _ | dsimp only

theorem execRomVerifyDone_keeps (base : State) (s : State)
    (hk : Keeps base s) :
    OutKeeps base (execRomVerifyDone s) := by
  unfold execRomVerifyDone
  refine outKeeps_next _ _ ?_
  try dsimp only
  repeat' with_reducible first | assumption | apply State.romSelect_keeps | apply foldl_keeps | (simp only [Keeps_mk]; refine Keeps.parts _ _ ?_) | split | intro _ | dsimp only

theorem execBootWatchdog_keeps (base : State) (s : State)
    (hk : Keeps base s) :
    OutKeeps base (execBootWatchdog s) := by
  unfold execBootWatchdog
  refine outKeeps_next _ _ ?_
  try dsimp only
  repeat' with_reducible first | assumption | apply foldl_keeps | (simp only [Keeps_mk]; refine Keeps.parts _ _ ?_) | split | intro _ | dsimp only

theorem execReadyPoint_keeps (base : State) (s : State)
    (hk : Keeps base s) :
    OutKeeps base (execReadyPoint s) := by
  unfold execReadyPoint
  refine outKeeps_next _ _ ?_
  try dsimp only
  repeat' with_reducible first | assumption | apply State.logEvent_keeps | apply foldl_keeps | (simp only [Keeps_mk]; refine Keeps.parts _ _ ?_) | split | intro _ | dsimp only

theorem execHbmTrainDone_keeps (base : State) (failed : Option (Fin 8)) (s : State)
    (hk : Keeps base s) :
    OutKeeps base (execHbmTrainDone failed s) := by
  unfold execHbmTrainDone
  refine outKeeps_next _ _ ?_
  try dsimp only
  repeat' with_reducible first | assumption | apply State.logEvent_keeps | apply foldl_keeps | (simp only [Keeps_mk]; refine Keeps.parts _ _ ?_) | split | intro _ | dsimp only

theorem execPowerOnScrubDone_keeps (base : State) (s : State)
    (hk : Keeps base s) :
    OutKeeps base (execPowerOnScrubDone s) := by
  unfold execPowerOnScrubDone
  refine outKeeps_next _ _ ?_
  try dsimp only
  repeat' with_reducible first | assumption | apply State.zeroMem_keeps | apply State.logEvent_keeps | apply foldl_keeps | (simp only [Keeps_mk]; refine Keeps.parts _ _ ?_) | split | intro _ | dsimp only

theorem State.withItems_keeps (base : State) (s : State) (l : Items)
    (hk : Keeps base s) :
    Keeps base (State.withItems s l) := by
  unfold State.withItems
  try dsimp only
  repeat' with_reducible first | assumption | apply foldl_keeps | (simp only [Keeps_mk]; refine Keeps.parts _ _ ?_) | split | intro _ | dsimp only

theorem State.actOn_keeps (base : State) (s : State) (n : Nat) (action : Nat)
    (hk : Keeps base s) :
    Keeps base (State.actOn s n action) := by
  unfold State.actOn
  try dsimp only
  repeat' with_reducible first | assumption | apply State.startCreate_keeps | apply State.updLife_keeps | apply State.teardown_keeps | apply State.suspend_keeps | apply State.resume_keeps | apply foldl_keeps | (simp only [Keeps_mk]; refine Keeps.parts _ _ ?_) | split | intro _ | dsimp only

theorem State.changeWheels_keeps (base : State) (s : State) (l : Items)
    (hk : Keeps base s) :
    Keeps base (State.changeWheels s l) := by
  unfold State.changeWheels
  try dsimp only
  repeat' with_reducible first | assumption | apply State.updWheel_keeps | apply foldl_keeps | (simp only [Keeps_mk]; refine Keeps.parts _ _ ?_) | split | intro _ | dsimp only

theorem State.activateGroup_keeps (base : State) (s : State) (g : Nat)
    (hk : Keeps base s) :
    Keeps base (State.activateGroup s g) := by
  unfold State.activateGroup
  try dsimp only
  repeat' with_reducible first | assumption | apply State.updGroup_keeps | apply foldl_keeps | (simp only [Keeps_mk]; refine Keeps.parts _ _ ?_) | split | intro _ | dsimp only

theorem State.activateGroups_keeps (base : State) (s : State) (l : Items)
    (hk : Keeps base s) :
    Keeps base (State.activateGroups s l) := by
  unfold State.activateGroups
  try dsimp only
  repeat' with_reducible first | assumption | apply State.activateGroup_keeps | apply foldl_keeps | (simp only [Keeps_mk]; refine Keeps.parts _ _ ?_) | split | intro _ | dsimp only

theorem State.leadMap_keeps (base : State) (s : State) (addrs : List Nat)
    (hk : Keeps base s) :
    Keeps base (State.leadMap s addrs) := by
  unfold State.leadMap
  try dsimp only
  repeat' with_reducible first | assumption | apply State.newRoutes_keeps | apply State.chooseTree_keeps | apply State.mapChanged_keeps | apply foldl_keeps | (simp only [Keeps_mk]; refine Keeps.parts _ _ ?_) | split | intro _ | dsimp only

theorem State.lockMap_keeps (base : State) (s : State)
    (hk : Keeps base s) :
    Keeps base (State.lockMap s) := by
  unfold State.lockMap
  try dsimp only
  repeat' with_reducible first | assumption | apply State.putEntry_keeps | apply State.leadMap_keeps | apply foldl_keeps | (simp only [Keeps_mk]; refine Keeps.parts _ _ ?_) | split | intro _ | dsimp only

theorem State.admitOne_keeps (base : State) (s : State) (a : Nat)
    (hk : Keeps base s) :
    Keeps base (State.admitOne s a) := by
  unfold State.admitOne
  try dsimp only
  repeat' with_reducible first | assumption | apply State.leadMap_keeps | apply State.relink_keeps | apply State.putEntry_keeps | apply foldl_keeps | (simp only [Keeps_mk]; refine Keeps.parts _ _ ?_) | split | intro _ | dsimp only

theorem State.enableLinks_keeps (base : State) (s : State) (l : Items)
    (hk : Keeps base s) :
    Keeps base (State.enableLinks s l) := by
  unfold State.enableLinks
  try dsimp only
  repeat' with_reducible first | assumption | apply State.updLink_keeps | apply State.enter_keeps | apply State.declareDown_keeps | apply foldl_keeps | (simp only [Keeps_mk]; refine Keeps.parts _ _ ?_) | split | intro _ | dsimp only

theorem State.appointLead_keeps (base : State) (s : State) (l : Items)
    (hk : Keeps base s) :
    Keeps base (State.appointLead s l) := by
  unfold State.appointLead
  try dsimp only
  repeat' with_reducible first | assumption | apply State.takeLeadRole_keeps | apply State.yieldLead_keeps | apply foldl_keeps | (simp only [Keeps_mk]; refine Keeps.parts _ _ ?_) | split | intro _ | dsimp only

theorem State.setPair_keeps (base : State) (s : State) (l : Items)
    (hk : Keeps base s) :
    Keeps base (State.setPair s l) := by
  unfold State.setPair
  try dsimp only
  repeat' with_reducible first | assumption | apply State.updPair_keeps | apply State.teardown_keeps | apply State.updTick_keeps | apply foldl_keeps | (simp only [Keeps_mk]; refine Keeps.parts _ _ ?_) | split | intro _ | dsimp only

theorem State.setSecure_keeps (base : State) (s : State) (l : Items)
    (hk : Keeps base s) :
    Keeps base (State.setSecure s l) := by
  unfold State.setSecure
  try dsimp only
  repeat' with_reducible first | assumption | apply State.writeBoot_keeps | apply foldl_keeps | (simp only [Keeps_mk]; refine Keeps.parts _ _ ?_) | split | intro _ | dsimp only

theorem State.setPower_keeps (base : State) (s : State) (l : Items)
    (hk : Keeps base s) :
    Keeps base (State.setPower s l) := by
  unfold State.setPower
  try dsimp only
  repeat' with_reducible first | assumption | apply State.updCore_keeps | apply foldl_keeps | (simp only [Keeps_mk]; refine Keeps.parts _ _ ?_) | split | intro _ | dsimp only

theorem State.reboot_keeps (base s : State) (hk : Keeps base s) (ht : base.safety.tripped = false) : Keeps base s.reboot := by
  unfold State.reboot
  apply State.romStart_keeps
  refine ⟨?_, fun m => ?_⟩
  · rw [← hk.latch]
    simp [State.latch, State.powerOn, hk.tripped, ht]
  · have w := hk.memOk m
    unfold State.memOk at w
    simp only [Bool.and_eq_true] at w
    simp [State.powerOn, w, Memory.wf, Memory.wfFrom]
    exact ⟨w.1.2, w.2⟩

theorem State.activateItems_keeps (base : State) (s : State) (l : Items)
    (hk : Keeps base s) (ht : base.safety.tripped = false) :
    Keeps base (State.activateItems s l) := by
  unfold State.activateItems
  try dsimp only
  repeat' with_reducible first | assumption | apply State.withItems_keeps | apply State.actOn_keeps | apply State.activateGroups_keeps | apply State.changeWheels_keeps | apply State.lockMap_keeps | apply State.admitOne_keeps | apply State.setPair_keeps | apply State.appointLead_keeps | apply State.enableLinks_keeps | apply State.setPower_keeps | apply State.setSecure_keeps | apply State.reboot_keeps | apply foldl_keeps | (simp only [Keeps_mk]; refine Keeps.parts _ _ ?_) | split | intro _ | dsimp only

theorem State.newVersion_keeps (base : State) (s : State) (v : BitVec 32) (group : Bool)
    (hk : Keeps base s) :
    Keeps base (State.newVersion s v group) := by
  unfold State.newVersion
  try dsimp only
  repeat' with_reducible first | assumption | apply foldl_keeps | (simp only [Keeps_mk]; refine Keeps.parts _ _ ?_) | split | intro _ | dsimp only

theorem State.activate_keeps (base : State) (s : State) (p : PendingSet)
    (hk : Keeps base s) (ht : base.safety.tripped = false) :
    Keeps base (State.activate s p) := by
  unfold State.activate
  try dsimp only
  repeat' with_reducible first | assumption | apply State.newVersion_keeps | apply State.cfgTerminal_keeps | apply State.emit_keeps | apply State.activateItems_keeps | apply foldl_keeps | (simp only [Keeps_mk]; refine Keeps.parts _ _ ?_) | split | intro _ | dsimp only

theorem execSetActivation_keeps (base : State) (s : State)
    (hk : Keeps base s) (ht : base.safety.tripped = false) :
    OutKeeps base (execSetActivation s) := by
  unfold execSetActivation
  refine outKeeps_next _ _ ?_
  try dsimp only
  repeat' with_reducible first | assumption | apply State.activate_keeps | apply foldl_keeps | (simp only [Keeps_mk]; refine Keeps.parts _ _ ?_) | split | intro _ | dsimp only

theorem execFuseProgram_keeps (base : State) (s : State)
    (hk : Keeps base s) :
    OutKeeps base (execFuseProgram s) := by
  unfold execFuseProgram
  refine outKeeps_next _ _ ?_
  try dsimp only
  repeat' with_reducible first | assumption | apply foldl_keeps | (simp only [Keeps_mk]; refine Keeps.parts _ _ ?_) | split | intro _ | dsimp only

theorem State.newCommand_keeps (base : State) (s : State)
    (hk : Keeps base s) :
    Keeps base (State.newCommand s) := by
  unfold State.newCommand
  try dsimp only
  repeat' with_reducible first | assumption | apply foldl_keeps | (simp only [Keeps_mk]; refine Keeps.parts _ _ ?_) | split | intro _ | dsimp only

theorem State.serve_keeps (base : State) (s : State) (k : CfgCmd) (d : DraftState)
    (hk : Keeps base s) :
    Keeps base (State.serve s k d) := by
  unfold State.serve
  try dsimp only
  repeat' with_reducible first | assumption | apply foldl_keeps | (simp only [Keeps_mk]; refine Keeps.parts _ _ ?_) | split | intro _ | dsimp only

theorem State.cfgDiscard_keeps (base : State) (s : State)
    (hk : Keeps base s) :
    Keeps base (State.cfgDiscard s) := by
  unfold State.cfgDiscard
  try dsimp only
  repeat' with_reducible first | assumption | apply State.cfgTerminal_keeps | apply State.newCommand_keeps | apply foldl_keeps | (simp only [Keeps_mk]; refine Keeps.parts _ _ ?_) | split | intro _ | dsimp only

theorem State.prepareVote_keeps (base : State) (s : State) (id : BitVec 32) (actTick : Word) (epoch : BitVec 32)
    (hk : Keeps base s) :
    Keeps base ((State.prepareVote s id actTick epoch).1) := by
  unfold State.prepareVote
  try dsimp only
  repeat' with_reducible first | assumption | apply foldl_keeps | (simp only [Keeps_mk]; refine Keeps.parts _ _ ?_) | split | intro _ | dsimp only

theorem State.prepareVote_elim (base : State) {s : State} {id : BitVec 32} {actTick : Word} {epoch : BitVec 32} {t : State} {y : Vote}
    (e : State.prepareVote s id actTick epoch = (t, y)) (hk : Keeps base s) : Keeps base t := by
  have k := State.prepareVote_keeps base s id actTick epoch hk
  rw [e] at k
  exact k

theorem State.sendPrepare_keeps (base : State) (s : State) (id : BitVec 32) (act : Word) (epoch : BitVec 32)
    (hk : Keeps base s) :
    Keeps base (State.sendPrepare s id act epoch) := by
  unfold State.sendPrepare
  try dsimp only
  repeat' with_reducible first | assumption | apply State.flood_keeps | apply State.emit_keeps | apply foldl_keeps | (simp only [Keeps_mk]; refine Keeps.parts _ _ ?_) | split | intro _ | dsimp only

theorem State.passVote_keeps (base : State) (s : State) (addr : BitVec 16) (v : Vote)
    (hk : Keeps base s) :
    Keeps base (State.passVote s addr v) := by
  unfold State.passVote
  try dsimp only
  repeat' with_reducible first | assumption | apply State.queueControl_keeps | apply foldl_keeps | (simp only [Keeps_mk]; refine Keeps.parts _ _ ?_) | split | intro _ | dsimp only

theorem State.sendDecision_keeps (base : State) (s : State) (version : Option (BitVec 32))
    (hk : Keeps base s) :
    Keeps base (State.sendDecision s version) := by
  unfold State.sendDecision
  try dsimp only
  repeat' with_reducible first | assumption | apply State.flood_keeps | apply State.emit_keeps | apply foldl_keeps | (simp only [Keeps_mk]; refine Keeps.parts _ _ ?_) | split | intro _ | dsimp only

theorem State.groupCommit_keeps (base : State) (s : State)
    (hk : Keeps base s) :
    Keeps base (State.groupCommit s) := by
  unfold State.groupCommit
  try dsimp only
  repeat' with_reducible first | assumption | apply State.cfgTerminal_keeps | apply State.sendPrepare_keeps | apply State.prepareVote_keeps | refine State.prepareVote_elim _ (by assumption) ?_ | apply foldl_keeps | (simp only [Keeps_mk]; refine Keeps.parts _ _ ?_) | split | intro _ | dsimp only

theorem State.abortCommit_keeps (base : State) (s : State)
    (hk : Keeps base s) :
    Keeps base (State.abortCommit s) := by
  unfold State.abortCommit
  try dsimp only
  repeat' with_reducible first | assumption | apply State.cfgTerminal_keeps | apply foldl_keeps | (simp only [Keeps_mk]; refine Keeps.parts _ _ ?_) | split | intro _ | dsimp only

theorem State.cfgAbort_keeps (base : State) (s : State)
    (hk : Keeps base s) :
    Keeps base (State.cfgAbort s) := by
  unfold State.cfgAbort
  try dsimp only
  repeat' with_reducible first | assumption | apply State.newCommand_keeps | apply State.sendDecision_keeps | apply State.abortCommit_keeps | apply State.cfgTerminal_keeps | apply foldl_keeps | (simp only [Keeps_mk]; refine Keeps.parts _ _ ?_) | split | intro _ | dsimp only

theorem State.runCmd_keeps (base : State) (s : State) (v : Nat)
    (hk : Keeps base s) :
    Keeps base (State.runCmd s v) := by
  unfold State.runCmd
  try dsimp only
  repeat' with_reducible first | assumption | apply State.serve_keeps | apply State.newCommand_keeps | apply State.groupCommit_keeps | apply State.cfgDiscard_keeps | apply State.cfgAbort_keeps | apply foldl_keeps | (simp only [Keeps_mk]; refine Keeps.parts _ _ ?_) | split | intro _ | dsimp only

theorem execCheck_keeps (base : State) (s : State)
    (hk : Keeps base s) :
    OutKeeps base (execCheck s) := by
  unfold execCheck
  refine outKeeps_next _ _ ?_
  try dsimp only
  repeat' with_reducible first | assumption | apply State.runCmd_keeps | apply foldl_keeps | (simp only [Keeps_mk]; refine Keeps.parts _ _ ?_) | split | intro _ | dsimp only

theorem execCommit_keeps (base : State) (s : State)
    (hk : Keeps base s) :
    OutKeeps base (execCommit s) := by
  unfold execCommit
  refine outKeeps_next _ _ ?_
  try dsimp only
  repeat' with_reducible first | assumption | apply State.runCmd_keeps | apply foldl_keeps | (simp only [Keeps_mk]; refine Keeps.parts _ _ ?_) | split | intro _ | dsimp only

theorem execRevert_keeps (base : State) (s : State)
    (hk : Keeps base s) :
    OutKeeps base (execRevert s) := by
  unfold execRevert
  refine outKeeps_next _ _ ?_
  try dsimp only
  repeat' with_reducible first | assumption | apply State.runCmd_keeps | apply foldl_keeps | (simp only [Keeps_mk]; refine Keeps.parts _ _ ?_) | split | intro _ | dsimp only

theorem execDiscard_keeps (base : State) (s : State)
    (hk : Keeps base s) :
    OutKeeps base (execDiscard s) := by
  unfold execDiscard
  refine outKeeps_next _ _ ?_
  try dsimp only
  repeat' with_reducible first | assumption | apply State.runCmd_keeps | apply foldl_keeps | (simp only [Keeps_mk]; refine Keeps.parts _ _ ?_) | split | intro _ | dsimp only

theorem execConfigAbort_keeps (base : State) (s : State)
    (hk : Keeps base s) :
    OutKeeps base (execConfigAbort s) := by
  unfold execConfigAbort
  refine outKeeps_next _ _ ?_
  try dsimp only
  repeat' with_reducible first | assumption | apply State.runCmd_keeps | apply foldl_keeps | (simp only [Keeps_mk]; refine Keeps.parts _ _ ?_) | split | intro _ | dsimp only

theorem State.makePending_keeps (base : State) (s : State) (items : Items) (t : Nat)
    (hk : Keeps base s) :
    Keeps base (State.makePending s items t) := by
  unfold State.makePending
  try dsimp only
  repeat' with_reducible first | assumption | apply foldl_keeps | (simp only [Keeps_mk]; refine Keeps.parts _ _ ?_) | split | intro _ | dsimp only

theorem State.endCheck_keeps (base : State) (s : State) (items : Items) (more : List Failure)
    (hk : Keeps base s) :
    Keeps base (State.endCheck s items more) := by
  unfold State.endCheck
  try dsimp only
  repeat' with_reducible first | assumption | apply State.cfgTerminal_keeps | apply State.makePending_keeps | apply foldl_keeps | (simp only [Keeps_mk]; refine Keeps.parts _ _ ?_) | split | intro _ | dsimp only

theorem State.endService_keeps (base : State) (s : State)
    (hk : Keeps base s) :
    Keeps base (State.endService s) := by
  unfold State.endService
  try dsimp only
  repeat' with_reducible first | assumption | apply State.cfgTerminal_keeps | apply State.endCheck_keeps | apply foldl_keeps | (simp only [Keeps_mk]; refine Keeps.parts _ _ ?_) | split | intro _ | dsimp only

theorem execCheckDone_keeps (base : State) (s : State)
    (hk : Keeps base s) :
    OutKeeps base (execCheckDone s) := by
  unfold execCheckDone
  refine outKeeps_next _ _ ?_
  try dsimp only
  repeat' with_reducible first | assumption | apply State.trace_keeps | apply State.endService_keeps | apply foldl_keeps | (simp only [Keeps_mk]; refine Keeps.parts _ _ ?_) | split | intro _ | dsimp only

theorem execPrepareReceive_keeps (base : State) (commitId : BitVec 32) (actTick : Word) (epoch : BitVec 32) (s : State)
    (hk : Keeps base s) :
    OutKeeps base (execPrepareReceive commitId actTick epoch s) := by
  unfold execPrepareReceive
  refine outKeeps_next _ _ ?_
  try dsimp only
  repeat' with_reducible first | assumption | apply State.prepareVote_keeps | apply State.sendPrepare_keeps | apply State.passVote_keeps | apply State.emit_keeps | refine State.prepareVote_elim _ (by assumption) ?_ | apply foldl_keeps | (simp only [Keeps_mk]; refine Keeps.parts _ _ ?_) | split | intro _ | dsimp only

theorem execVoteReceive_keeps (base : State) (addr : BitVec 16) (v : Vote) (s : State)
    (hk : Keeps base s) :
    OutKeeps base (execVoteReceive addr v s) := by
  unfold execVoteReceive
  refine outKeeps_next _ _ ?_
  try dsimp only
  repeat' with_reducible first | assumption | apply State.passVote_keeps | apply foldl_keeps | (simp only [Keeps_mk]; refine Keeps.parts _ _ ?_) | split | intro _ | dsimp only

theorem State.decided_keeps (base : State) (s : State) (version : Option (BitVec 32))
    (hk : Keeps base s) :
    Keeps base (State.decided s version) := by
  unfold State.decided
  try dsimp only
  repeat' with_reducible first | assumption | apply foldl_keeps | (simp only [Keeps_mk]; refine Keeps.parts _ _ ?_) | split | intro _ | dsimp only

theorem execCommitDecide_keeps (base : State) (s : State)
    (hk : Keeps base s) :
    OutKeeps base (execCommitDecide s) := by
  unfold execCommitDecide
  refine outKeeps_next _ _ ?_
  try dsimp only
  repeat' with_reducible first | assumption | apply State.sendDecision_keeps | apply State.cfgTerminal_keeps | apply State.decided_keeps | apply foldl_keeps | (simp only [Keeps_mk]; refine Keeps.parts _ _ ?_) | split | intro _ | dsimp only

theorem execDecisionReceive_keeps (base : State) (version : Option (BitVec 32)) (s : State)
    (hk : Keeps base s) :
    OutKeeps base (execDecisionReceive version s) := by
  unfold execDecisionReceive
  refine outKeeps_next _ _ ?_
  try dsimp only
  repeat' with_reducible first | assumption | apply State.sendDecision_keeps | apply State.cfgTerminal_keeps | apply State.decided_keeps | apply foldl_keeps | (simp only [Keeps_mk]; refine Keeps.parts _ _ ?_) | split | intro _ | dsimp only

theorem execNoDecision_keeps (base : State) (s : State)
    (hk : Keeps base s) :
    OutKeeps base (execNoDecision s) := by
  unfold execNoDecision
  refine outKeeps_next _ _ ?_
  try dsimp only
  repeat' with_reducible first | assumption | apply State.cfgTerminal_keeps | apply State.decided_keeps | apply foldl_keeps | (simp only [Keeps_mk]; refine Keeps.parts _ _ ?_) | split | intro _ | dsimp only

theorem State.applyInput_keeps (base : State) (s : State) (i : FwdInput)
    (hk : Keeps base s) (ht : base.safety.tripped = false) :
    Keeps base (State.applyInput s i) := by
  unfold State.applyInput
  try dsimp only
  repeat' with_reducible first | assumption | apply State.updRing_keeps | apply State.acceptDescriptor_keeps | apply State.bar2Write_keeps | apply State.registerWrite_keeps | apply State.updCtx_keeps | apply State.activateItems_keeps | apply State.newVersion_keeps | apply State.landPacket_keeps | apply State.vfFlr_keeps | apply State.loseTenants_keeps | apply foldl_keeps | (simp only [Keeps_mk]; refine Keeps.parts _ _ ?_) | split | intro _ | dsimp only

theorem execForwardedInputApply_keeps (base : State) (s : State)
    (hk : Keeps base s) (ht : base.safety.tripped = false) :
    OutKeeps base (execForwardedInputApply s) := by
  unfold execForwardedInputApply
  refine outKeeps_next _ _ ?_
  try dsimp only
  repeat' with_reducible first | assumption | apply State.applyInput_keeps | apply State.updPair_keeps | apply foldl_keeps | (simp only [Keeps_mk]; refine Keeps.parts _ _ ?_) | split | intro _ | dsimp only

theorem State.serveRead_keeps (base : State) (s : State) (p : Path) (q : Request) (limit : Nat)
    (hk : Keeps base s) :
    Keeps base ((State.serveRead s p q limit).s) := by
  unfold State.serveRead
  try dsimp only
  repeat' with_reducible first | assumption | apply foldl_keeps | (simp only [Keeps_mk]; refine Keeps.parts _ _ ?_) | split | intro _ | dsimp only

theorem State.clearFlags_keeps (base : State) (s : State) (c : Nat) (mask : BitVec 16)
    (hk : Keeps base s) :
    Keeps base (State.clearFlags s c mask) := by
  unfold State.clearFlags
  try dsimp only
  repeat' with_reducible first | assumption | apply State.updCtx_keeps | apply foldl_keeps | (simp only [Keeps_mk]; refine Keeps.parts _ _ ?_) | split | intro _ | dsimp only

theorem State.clearOob_keeps (base : State) (s : State) (c : Nat)
    (hk : Keeps base s) :
    Keeps base (State.clearOob s c) := by
  unfold State.clearOob
  try dsimp only
  repeat' with_reducible first | assumption | apply State.updCtx_keeps | apply foldl_keeps | (simp only [Keeps_mk]; refine Keeps.parts _ _ ?_) | split | intro _ | dsimp only

theorem State.clearGov_keeps (base : State) (s : State) (c : Nat)
    (hk : Keeps base s) :
    Keeps base (State.clearGov s c) := by
  unfold State.clearGov
  try dsimp only
  repeat' with_reducible first | assumption | apply State.updCtx_keeps | apply foldl_keeps | (simp only [Keeps_mk]; refine Keeps.parts _ _ ?_) | split | intro _ | dsimp only

theorem execFlagsClear_keeps (base : State) (c : CtxId) (mask : BitVec 16) (s : State)
    (hk : Keeps base s) :
    OutKeeps base (execFlagsClear c mask s) := by
  unfold execFlagsClear
  refine outKeeps_next _ _ ?_
  try dsimp only
  repeat' with_reducible first | assumption | apply State.clearFlags_keeps | apply foldl_keeps | (simp only [Keeps_mk]; refine Keeps.parts _ _ ?_) | split | intro _ | dsimp only

theorem execOobClear_keeps (base : State) (c : CtxId) (s : State)
    (hk : Keeps base s) :
    OutKeeps base (execOobClear c s) := by
  unfold execOobClear
  refine outKeeps_next _ _ ?_
  try dsimp only
  repeat' with_reducible first | assumption | apply State.clearOob_keeps | apply foldl_keeps | (simp only [Keeps_mk]; refine Keeps.parts _ _ ?_) | split | intro _ | dsimp only

theorem execGovClear_keeps (base : State) (c : CtxId) (s : State)
    (hk : Keeps base s) :
    OutKeeps base (execGovClear c s) := by
  unfold execGovClear
  refine outKeeps_next _ _ ?_
  try dsimp only
  repeat' with_reducible first | assumption | apply State.clearGov_keeps | apply foldl_keeps | (simp only [Keeps_mk]; refine Keeps.parts _ _ ?_) | split | intro _ | dsimp only

theorem State.applyWrite_keeps (base : State) (s : State) (i : WriteItem)
    (hk : Keeps base s) :
    Keeps base (State.applyWrite s i) := by
  unfold State.applyWrite
  try dsimp only
  repeat' with_reducible first | assumption | apply State.writeFlash_keeps | apply State.promote_keeps | apply State.clearFlags_keeps | apply State.clearOob_keeps | apply State.clearGov_keeps | apply foldl_keeps | (simp only [Keeps_mk]; refine Keeps.parts _ _ ?_) | split | intro _ | dsimp only

theorem State.beginWrite_keeps (base : State) (s : State) (p : Path) (l : List WriteItem)
    (hk : Keeps base s) :
    Keeps base (State.beginWrite s p l) := by
  unfold State.beginWrite
  try dsimp only
  repeat' with_reducible first | assumption | apply foldl_keeps | (simp only [Keeps_mk]; refine Keeps.parts _ _ ?_) | split | intro _ | dsimp only

theorem State.refuseSafety_keeps (base : State) (s : State) (p : Path) (l : List WriteItem)
    (hk : Keeps base s) :
    Keeps base (State.refuseSafety s p l) := by
  unfold State.refuseSafety
  try dsimp only
  repeat' with_reducible first | assumption | apply State.logEvent_keeps | apply foldl_keeps | (simp only [Keeps_mk]; refine Keeps.parts _ _ ?_) | split | intro _ | dsimp only

theorem State.serveWrite_keeps (base : State) (s : State) (p : Path) (q : Request)
    (hk : Keeps base s) :
    Keeps base ((State.serveWrite s p q).s) := by
  unfold State.serveWrite
  try dsimp only
  repeat' with_reducible first | assumption | apply State.refuseSafety_keeps | apply State.beginWrite_keeps | apply State.applyWrite_keeps | apply State.runCmd_keeps | apply foldl_keeps | (simp only [Keeps_mk]; refine Keeps.parts _ _ ?_) | split | intro _ | dsimp only

theorem State.serveSnapshot_keeps (base : State) (s : State) (p : Path) (q : Request)
    (hk : Keeps base s) :
    Keeps base ((State.serveSnapshot s p q).s) := by
  unfold State.serveSnapshot
  try dsimp only
  repeat' with_reducible first | assumption | apply State.updHost_keeps | apply State.hubDone_keeps | apply State.putHbm_keeps | apply foldl_keeps | (simp only [Keeps_mk]; refine Keeps.parts _ _ ?_) | split | intro _ | dsimp only

theorem State.serveSnapRead_keeps (base : State) (s : State) (p : Path) (q : Request)
    (hk : Keeps base s) :
    Keeps base ((State.serveSnapRead s p q).s) := by
  unfold State.serveSnapRead
  try dsimp only
  repeat' with_reducible first | assumption | apply foldl_keeps | (simp only [Keeps_mk]; refine Keeps.parts _ _ ?_) | split | intro _ | dsimp only

theorem State.serveRequest_keeps (base : State) (s : State) (p : Path) (q : Request) (limit : Nat)
    (hk : Keeps base s) :
    Keeps base ((State.serveRequest s p q limit).s) := by
  unfold State.serveRequest
  try dsimp only
  repeat' with_reducible first | assumption | apply State.serveRead_keeps | apply State.serveWrite_keeps | apply State.serveSnapshot_keeps | apply State.serveSnapRead_keeps | apply foldl_keeps | (simp only [Keeps_mk]; refine Keeps.parts _ _ ?_) | split | intro _ | dsimp only

theorem State.gdpKey_elim (base : State) {s : State} {d : Bytes} {t : State} (e : s.gdpKey d = .inr t) (hk : Keeps base s) :
    Keeps base t := by
  unfold State.gdpKey at e
  dsimp only at e
  split at e
  · cases e
    exact hk
  · split at e
    · cases e
      exact hk
    · split at e
      · cases e
      · cases e
        exact hk

theorem State.gdpReceive_keeps (base : State) (s : State) (d : Bytes)
    (hk : Keeps base s) :
    Keeps base (State.gdpReceive s d) := by
  unfold State.gdpReceive
  try dsimp only
  repeat' with_reducible first | assumption | apply State.serveRequest_keeps | apply State.trace_keeps | apply State.emit_keeps | refine State.gdpKey_elim _ (by assumption) ?_ | apply foldl_keeps | (simp only [Keeps_mk]; refine Keeps.parts _ _ ?_) | split | intro _ | dsimp only

theorem State.servePf_keeps (base : State) (s : State) (op : Nat)
    (hk : Keeps base s) :
    Keeps base (State.servePf s op) := by
  unfold State.servePf
  try dsimp only
  repeat' with_reducible first | assumption | apply State.serveRequest_keeps | apply State.updHost_keeps | apply State.trace_keeps | apply foldl_keeps | (simp only [Keeps_mk]; refine Keeps.parts _ _ ?_) | split | intro _ | dsimp only

theorem State.request_keeps (base : State) (s : State) (op : Nat) (src : ReqSource)
    (hk : Keeps base s) :
    Keeps base (State.request s op src) := by
  unfold State.request
  try dsimp only
  repeat' with_reducible first | assumption | apply State.servePf_keeps | apply State.gdpReceive_keeps | apply foldl_keeps | (simp only [Keeps_mk]; refine Keeps.parts _ _ ?_) | split | intro _ | dsimp only

theorem execRead_keeps (base : State) (src : ReqSource) (s : State)
    (hk : Keeps base s) :
    OutKeeps base (execRead src s) := by
  unfold execRead
  refine outKeeps_next _ _ ?_
  try dsimp only
  repeat' with_reducible first | assumption | apply State.request_keeps | apply foldl_keeps | (simp only [Keeps_mk]; refine Keeps.parts _ _ ?_) | split | intro _ | dsimp only

theorem execWrite_keeps (base : State) (src : ReqSource) (s : State)
    (hk : Keeps base s) :
    OutKeeps base (execWrite src s) := by
  unfold execWrite
  refine outKeeps_next _ _ ?_
  try dsimp only
  repeat' with_reducible first | assumption | apply State.request_keeps | apply foldl_keeps | (simp only [Keeps_mk]; refine Keeps.parts _ _ ?_) | split | intro _ | dsimp only

theorem execSnapshot_keeps (base : State) (src : ReqSource) (s : State)
    (hk : Keeps base s) :
    OutKeeps base (execSnapshot src s) := by
  unfold execSnapshot
  refine outKeeps_next _ _ ?_
  try dsimp only
  repeat' with_reducible first | assumption | apply State.request_keeps | apply foldl_keeps | (simp only [Keeps_mk]; refine Keeps.parts _ _ ?_) | split | intro _ | dsimp only

theorem execSnapRead_keeps (base : State) (src : ReqSource) (s : State)
    (hk : Keeps base s) :
    OutKeeps base (execSnapRead src s) := by
  unfold execSnapRead
  refine outKeeps_next _ _ ?_
  try dsimp only
  repeat' with_reducible first | assumption | apply State.request_keeps | apply foldl_keeps | (simp only [Keeps_mk]; refine Keeps.parts _ _ ?_) | split | intro _ | dsimp only

theorem execMbxTService_keeps (base : State) (c : CtxId) (s : State)
    (hk : Keeps base s) :
    OutKeeps base (execMbxTService c s) := by
  unfold execMbxTService
  refine outKeeps_next _ _ ?_
  try dsimp only
  repeat' with_reducible first | assumption | apply State.serveRequest_keeps | apply State.updHost_keeps | apply State.trace_keeps | apply foldl_keeps | (simp only [Keeps_mk]; refine Keeps.parts _ _ ?_) | split | intro _ | dsimp only

theorem execMbxReply_keeps (base : State) (f : CtxId) (s : State)
    (hk : Keeps base s) :
    OutKeeps base (execMbxReply f s) := by
  unfold execMbxReply
  refine outKeeps_next _ _ ?_
  try dsimp only
  repeat' with_reducible first | assumption | apply State.raise_keeps | apply State.updHost_keeps | apply foldl_keeps | (simp only [Keeps_mk]; refine Keeps.parts _ _ ?_) | split | intro _ | dsimp only

theorem State.reconcile_keeps (base : State) (s : State) (m : Nat)
    (hk : Keeps base s) :
    Keeps base (State.reconcile s m) := by
  unfold State.reconcile
  try dsimp only
  repeat' with_reducible first | assumption | apply State.logEvent_keeps | apply foldl_keeps | (simp only [Keeps_mk]; refine Keeps.parts _ _ ?_) | split | intro _ | dsimp only

theorem State.refill_keeps (base : State) (s : State) (n : Nat)
    (hk : Keeps base s) :
    Keeps base (State.refill s n) := by
  unfold State.refill
  try dsimp only
  repeat' with_reducible first | assumption | apply State.updCtx_keeps | apply foldl_keeps | (simp only [Keeps_mk]; refine Keeps.parts _ _ ?_) | split | intro _ | dsimp only

theorem State.latchShares_keeps (base : State) (s : State)
    (hk : Keeps base s) :
    Keeps base (State.latchShares s) := by
  unfold State.latchShares
  try dsimp only
  repeat' with_reducible first | assumption | apply foldl_keeps | (simp only [Keeps_mk]; refine Keeps.parts _ _ ?_) | split | intro _ | dsimp only

theorem State.startDeferred_keeps (base : State) (s : State) (c : Nat) (x : Cmd)
    (hk : Keeps base s) :
    Keeps base (State.startDeferred s c x) := by
  unfold State.startDeferred
  try dsimp only
  repeat' with_reducible first | assumption | apply State.ctxFault_keeps | apply State.startNow_keeps | apply State.debit_keeps | apply foldl_keeps | (simp only [Keeps_mk]; refine Keeps.parts _ _ ?_) | split | intro _ | dsimp only

theorem State.startAllDeferred_keeps (base : State) (s : State)
    (hk : Keeps base s) :
    Keeps base (State.startAllDeferred s) := by
  unfold State.startAllDeferred
  try dsimp only
  repeat' with_reducible first | assumption | apply State.startDeferred_keeps | apply foldl_keeps | (simp only [Keeps_mk]; refine Keeps.parts _ _ ?_) | split | intro _ | dsimp only

theorem execEnergyWindowStart_keeps (base : State) (measured : Nat) (s : State)
    (hk : Keeps base s) :
    OutKeeps base (execEnergyWindowStart measured s) := by
  unfold execEnergyWindowStart
  refine outKeeps_next _ _ ?_
  try dsimp only
  repeat' with_reducible first | assumption | apply State.latchShares_keeps | apply State.reconcile_keeps | apply State.refill_keeps | apply State.startAllDeferred_keeps | apply foldl_keeps | (simp only [Keeps_mk]; refine Keeps.parts _ _ ?_) | split | intro _ | dsimp only

theorem State.trip_keeps (base : State) (s : State) (cause : Nat)
    (hk : Keeps base s) :
    Keeps base (State.trip s cause) := by
  unfold State.trip
  try dsimp only
  repeat' with_reducible first | assumption | apply foldl_keeps | (simp only [Keeps_mk]; refine Keeps.parts _ _ ?_) | split | intro _ | dsimp only

theorem execThermalSample_keeps (base : State) (milliC : Int) (s : State)
    (hk : Keeps base s) :
    OutKeeps base (execThermalSample milliC s) := by
  unfold execThermalSample
  refine outKeeps_next _ _ ?_
  try dsimp only
  repeat' with_reducible first | assumption | apply State.trip_keeps | apply foldl_keeps | (simp only [Keeps_mk]; refine Keeps.parts _ _ ?_) | split | intro _ | dsimp only

theorem execRailSample_keeps (base : State) (rail : Fin 16) (mV : BitVec 16) (s : State)
    (hk : Keeps base s) :
    OutKeeps base (execRailSample rail mV s) := by
  unfold execRailSample
  refine outKeeps_next _ _ ?_
  try dsimp only
  repeat' with_reducible first | assumption | apply State.trip_keeps | apply foldl_keeps | (simp only [Keeps_mk]; refine Keeps.parts _ _ ?_) | split | intro _ | dsimp only

theorem execPartitionWatchdog_keeps (base : State) (s : State)
    (hk : Keeps base s) :
    OutKeeps base (execPartitionWatchdog s) := by
  unfold execPartitionWatchdog
  refine outKeeps_next _ _ ?_
  try dsimp only
  repeat' with_reducible first | assumption | apply State.trip_keeps | apply foldl_keeps | (simp only [Keeps_mk]; refine Keeps.parts _ _ ?_) | split | intro _ | dsimp only

theorem execTripStop_keeps (base : State) (s : State)
    (hk : Keeps base s) :
    OutKeeps base (execTripStop s) := by
  unfold execTripStop
  refine outKeeps_next _ _ ?_
  try dsimp only
  repeat' with_reducible first | assumption | apply State.logEvent_keeps | apply foldl_keeps | (simp only [Keeps_mk]; refine Keeps.parts _ _ ?_) | split | intro _ | dsimp only

theorem State.spdmAnswer_keeps (base : State) (s : State) (b : Bytes)
    (hk : Keeps base s) :
    Keeps base (State.spdmAnswer s b) := by
  unfold State.spdmAnswer
  try dsimp only
  repeat' with_reducible first | assumption | apply State.emit_keeps | apply foldl_keeps | (simp only [Keeps_mk]; refine Keeps.parts _ _ ?_) | split | intro _ | dsimp only

theorem execGetMeasurements_keeps (base : State) (index : BitVec 8) (s : State)
    (hk : Keeps base s) :
    OutKeeps base (execGetMeasurements index s) := by
  unfold execGetMeasurements
  refine outKeeps_next _ _ ?_
  try dsimp only
  repeat' with_reducible first | assumption | apply State.spdmAnswer_keeps | apply foldl_keeps | (simp only [Keeps_mk]; refine Keeps.parts _ _ ?_) | split | intro _ | dsimp only

theorem execChallenge_keeps (base : State) (nonce : Bytes) (s : State)
    (hk : Keeps base s) :
    OutKeeps base (execChallenge nonce s) := by
  unfold execChallenge
  refine outKeeps_next _ _ ?_
  try dsimp only
  repeat' with_reducible first | assumption | apply State.spdmAnswer_keeps | apply foldl_keeps | (simp only [Keeps_mk]; refine Keeps.parts _ _ ?_) | split | intro _ | dsimp only

theorem execKeyExchange_keeps (base : State) (peer : Bytes) (s : State)
    (hk : Keeps base s) :
    OutKeeps base (execKeyExchange peer s) := by
  unfold execKeyExchange
  refine outKeeps_next _ _ ?_
  try dsimp only
  repeat' with_reducible first | assumption | apply State.spdmAnswer_keeps | apply foldl_keeps | (simp only [Keeps_mk]; refine Keeps.parts _ _ ?_) | split | intro _ | dsimp only

theorem execIdeKm_keeps (base : State) (stream : Fin 4) (key : Bytes) (s : State)
    (hk : Keeps base s) :
    OutKeeps base (execIdeKm stream key s) := by
  unfold execIdeKm
  refine outKeeps_next _ _ ?_
  try dsimp only
  repeat' with_reducible first | assumption | apply foldl_keeps | (simp only [Keeps_mk]; refine Keeps.parts _ _ ?_) | split | intro _ | dsimp only

theorem execNeighbourDiscovery_keeps (base : State) (src : Bytes) (s : State)
    (hk : Keeps base s) :
    OutKeeps base (execNeighbourDiscovery src s) := by
  unfold execNeighbourDiscovery
  refine outKeeps_next _ _ ?_
  try dsimp only
  repeat' with_reducible first | assumption | apply State.emit_keeps | apply foldl_keeps | (simp only [Keeps_mk]; refine Keeps.parts _ _ ?_) | split | intro _ | dsimp only

theorem execIcmpv6Echo_keeps (base : State) (src : Bytes) (payload : Bytes) (s : State)
    (hk : Keeps base s) :
    OutKeeps base (execIcmpv6Echo src payload s) := by
  unfold execIcmpv6Echo
  refine outKeeps_next _ _ ?_
  try dsimp only
  repeat' with_reducible first | assumption | apply State.emit_keeps | apply foldl_keeps | (simp only [Keeps_mk]; refine Keeps.parts _ _ ?_) | split | intro _ | dsimp only

theorem execDhcpv4_keeps (base : State) (addr : BitVec 32) (s : State)
    (hk : Keeps base s) :
    OutKeeps base (execDhcpv4 addr s) := by
  unfold execDhcpv4
  refine outKeeps_next _ _ ?_
  try dsimp only
  repeat' with_reducible first | assumption | apply foldl_keeps | (simp only [Keeps_mk]; refine Keeps.parts _ _ ?_) | split | intro _ | dsimp only

theorem execI2cRead_keeps (base : State) (length : Nat) (s : State)
    (hk : Keeps base s) :
    OutKeeps base (execI2cRead length s) := by
  unfold execI2cRead
  refine outKeeps_next _ _ ?_
  try dsimp only
  repeat' with_reducible first | assumption | apply State.emit_keeps | apply foldl_keeps | (simp only [Keeps_mk]; refine Keeps.parts _ _ ?_) | split | intro _ | dsimp only

theorem execI2cWrite_keeps (base : State) (data : Bytes) (s : State)
    (hk : Keeps base s) :
    OutKeeps base (execI2cWrite data s) := by
  unfold execI2cWrite
  refine outKeeps_next _ _ ?_
  try dsimp only
  repeat' with_reducible first | assumption | apply State.emit_keeps | apply foldl_keeps | (simp only [Keeps_mk]; refine Keeps.parts _ _ ?_) | split | intro _ | dsimp only

theorem State.tapSelect_keeps (base : State) (s : State) (reg : Nat) (mode : Nat)
    (hk : Keeps base s) :
    Keeps base (State.tapSelect s reg mode) := by
  unfold State.tapSelect
  try dsimp only
  repeat' with_reducible first | assumption | apply foldl_keeps | (simp only [Keeps_mk]; refine Keeps.parts _ _ ?_) | split | intro _ | dsimp only

theorem State.tapCapture_keeps (base : State) (s : State)
    (hk : Keeps base s) :
    Keeps base (State.tapCapture s) := by
  unfold State.tapCapture
  try dsimp only
  repeat' with_reducible first | assumption | apply State.emit_keeps | apply foldl_keeps | (simp only [Keeps_mk]; refine Keeps.parts _ _ ?_) | split | intro _ | dsimp only

theorem State.tapBypass_keeps (base : State) (s : State)
    (hk : Keeps base s) :
    Keeps base (State.tapBypass s) := by
  unfold State.tapBypass
  try dsimp only
  repeat' with_reducible first | assumption | apply State.emit_keeps | apply State.tapSelect_keeps | apply foldl_keeps | (simp only [Keeps_mk]; refine Keeps.parts _ _ ?_) | split | intro _ | dsimp only

theorem execBypass_keeps (base : State) (s : State)
    (hk : Keeps base s) :
    OutKeeps base (execBypass s) := by
  unfold execBypass
  refine outKeeps_next _ _ ?_
  try dsimp only
  repeat' with_reducible first | assumption | apply State.tapBypass_keeps | apply foldl_keeps | (simp only [Keeps_mk]; refine Keeps.parts _ _ ?_) | split | intro _ | dsimp only

theorem execIdcode_keeps (base : State) (s : State)
    (hk : Keeps base s) :
    OutKeeps base (execIdcode s) := by
  unfold execIdcode
  refine outKeeps_next _ _ ?_
  try dsimp only
  repeat' with_reducible first | assumption | apply State.emit_keeps | apply State.tapSelect_keeps | apply foldl_keeps | (simp only [Keeps_mk]; refine Keeps.parts _ _ ?_) | split | intro _ | dsimp only

theorem execSamplePreload_keeps (base : State) (cells : Bytes) (s : State)
    (hk : Keeps base s) :
    OutKeeps base (execSamplePreload cells s) := by
  unfold execSamplePreload
  refine outKeeps_next _ _ ?_
  try dsimp only
  repeat' with_reducible first | assumption | apply State.tapCapture_keeps | apply State.tapSelect_keeps | apply foldl_keeps | (simp only [Keeps_mk]; refine Keeps.parts _ _ ?_) | split | intro _ | dsimp only

theorem State.tapTest_keeps (base : State) (s : State) (reg : Nat) (mode : Nat) (capture : Bool)
    (hk : Keeps base s) :
    Keeps base (State.tapTest s reg mode capture) := by
  unfold State.tapTest
  try dsimp only
  repeat' with_reducible first | assumption | apply State.tapBypass_keeps | apply State.tapSelect_keeps | apply State.tapCapture_keeps | apply foldl_keeps | (simp only [Keeps_mk]; refine Keeps.parts _ _ ?_) | split | intro _ | dsimp only

theorem execExtest_keeps (base : State) (s : State)
    (hk : Keeps base s) :
    OutKeeps base (execExtest s) := by
  unfold execExtest
  refine outKeeps_next _ _ ?_
  try dsimp only
  repeat' with_reducible first | assumption | apply State.tapTest_keeps | apply foldl_keeps | (simp only [Keeps_mk]; refine Keeps.parts _ _ ?_) | split | intro _ | dsimp only

theorem execClamp_keeps (base : State) (s : State)
    (hk : Keeps base s) :
    OutKeeps base (execClamp s) := by
  unfold execClamp
  refine outKeeps_next _ _ ?_
  try dsimp only
  repeat' with_reducible first | assumption | apply State.tapTest_keeps | apply foldl_keeps | (simp only [Keeps_mk]; refine Keeps.parts _ _ ?_) | split | intro _ | dsimp only

theorem execHighz_keeps (base : State) (s : State)
    (hk : Keeps base s) :
    OutKeeps base (execHighz s) := by
  unfold execHighz
  refine outKeeps_next _ _ ?_
  try dsimp only
  repeat' with_reducible first | assumption | apply State.tapTest_keeps | apply foldl_keeps | (simp only [Keeps_mk]; refine Keeps.parts _ _ ?_) | split | intro _ | dsimp only

theorem execExtestPulse_keeps (base : State) (s : State)
    (hk : Keeps base s) :
    OutKeeps base (execExtestPulse s) := by
  unfold execExtestPulse
  refine outKeeps_next _ _ ?_
  try dsimp only
  repeat' with_reducible first | assumption | apply State.tapTest_keeps | apply foldl_keeps | (simp only [Keeps_mk]; refine Keeps.parts _ _ ?_) | split | intro _ | dsimp only

theorem execExtestTrain_keeps (base : State) (s : State)
    (hk : Keeps base s) :
    OutKeeps base (execExtestTrain s) := by
  unfold execExtestTrain
  refine outKeeps_next _ _ ?_
  try dsimp only
  repeat' with_reducible first | assumption | apply State.tapTest_keeps | apply foldl_keeps | (simp only [Keeps_mk]; refine Keeps.parts _ _ ?_) | split | intro _ | dsimp only

theorem State.retry_keeps (base : State) (s : State)
    (hk : Keeps base s) :
    Keeps base (State.retry s) := by
  unfold State.retry
  try dsimp only
  repeat' with_reducible first | assumption | apply State.moveNow_keeps | apply State.conductNow_keeps | apply State.settleBells_keeps | apply State.pushLog_keeps | apply foldl_keeps | (simp only [Keeps_mk]; refine Keeps.parts _ _ ?_) | split | intro _ | dsimp only

theorem State.idle_keeps (base : State) (s : State)
    (hk : Keeps base s) :
    Keeps base (State.idle s) := by
  unfold State.idle
  try dsimp only
  repeat' with_reducible first | assumption | apply State.retry_keeps | apply foldl_keeps | (simp only [Keeps_mk]; refine Keeps.parts _ _ ?_) | split | intro _ | dsimp only

theorem State.powerOn_latch (s : State) : s.powerOn.latch = (s.pending, false, s.ident.serial) := rfl

theorem State.powerOn_memOk (s : State) (h : s.memOk = true) : s.powerOn.memOk = true := by
  unfold State.memOk at h
  simp only [Bool.and_eq_true] at h
  simp only [State.powerOn, State.memOk, h, Bool.and_eq_true, and_true]
  exact ⟨⟨⟨⟨rfl, rfl⟩, rfl⟩, rfl⟩, rfl⟩

/-- A trip that is due sets TRIPPED; everything else of the latch and every memory stays. -/
theorem execTripAssert_latch (s : State) : ∃ t, execTripAssert s = .next t ∧
    t.latch = (s.pending, s.safety.tripped || s.safety.tripPending.isSome, s.ident.serial) ∧
    (s.memOk = true → t.memOk = true) := by
  unfold execTripAssert
  split
  · rename_i e
    exact ⟨s, rfl, by rw [e, Option.isSome_none, Bool.or_false]; rfl, id⟩
  · rename_i cause tick e
    have k := fun o hk => State.raise_keeps o _ 0 10 (State.emit_keeps o { s with
      safety := { s.safety with tripPending := none, tripped := true, tripCause := cause, tripTick := tick }
      pins := { s.pins with tripN := true } } (.aer 0 AerKind.internalFatal.code) hk)
    refine ⟨_, rfl, ?_, fun m => (k _ (Keeps.refl _)).memOk m⟩
    rw [(k _ (Keeps.refl _)).latch, e, Option.isSome_some, Bool.or_true]
    rfl

end Sys2Proof.Machine
end

