-- ==== Sys2Proof/WellFormed.lean ====
section
/-! DEFINITION. Which commands are well formed: their operands have the form the spec gives them. The meanings do not
rest on it: an ill-formed core instruction faults its context there (R221), and any other ill-formed command does what
the rules say of it. -/

namespace Sys2Proof

/-- A register pair Sn, Sn+1 (R888). -/
def pairForm (n : SReg) : Bool := decide (n.val ≤ 14)

/-- A VOP conversion names a floating or integer format (R177). -/
def vopForm : VopOp → Bool
  | .cvt f => decide (f.toNat ≤ 6)
  | _ => true

/-- Partition units of a memory (R149, R343). -/
def scrubUnits : ScrubMem → Nat
  | .sram => 624
  | .hbm => 147456
  | .reservoir => 768
  | .staging => 1536

/-- The register pairs a command names (R888). -/
def Instr.pairs : Instr → List SReg
  | .loop _ _ _ _ => []
  | .branch _ _ _ _ => []
  | .waitsem _ _ _ => []
  | .waitsemRelease _ _ => []
  | .sigsem _ _ _ => []
  | .waittick _ _ => []
  | .waittickRelease _ => []
  | .sets _ _ _ => []
  | .adds _ _ _ => []
  | .endProgram _ => []
  | .tloadv _ _ _ org high => [org] ++ high.toList
  | .tstorev _ _ _ org high _ => [org] ++ high.toList
  | .dma _ _ _ _ => []
  | .dmaRetire _ => []
  | .atomaddXa _ _ _ org high => [org] ++ high.toList
  | .atomaddF32 _ _ _ org high => [org] ++ high.toList
  | .mma _ _ _ _ org sk _ _ _ => [org] ++ [sk]
  | .xspill _ _ _ org high _ => [org] ++ high.toList
  | .xfill _ _ _ org high => [org] ++ high.toList
  | .xout _ _ _ org high _ => [org] ++ high.toList
  | .vop _ _ _ _ _ => []
  | .sfu _ _ _ _ _ => []
  | .softmax _ _ _ _ org _ => [org]
  | .norm _ _ _ _ org _ => [org]
  | .stipple _ _ sn _ => [sn]
  | .route _ _ _ => []
  | .routeDone _ => []
  | .balReset _ _ _ => []
  | .count _ _ _ => []
  | .countExchangeResult _ _ => []
  | .countComplete _ _ => []
  | .scatter _ _ _ => []
  | .scatterDone _ => []
  | .ret _ _ _ => []
  | .returnDone _ => []
  | .combine _ _ _ => []
  | .combineTokenStart _ _ => []
  | .combineDone _ => []
  | .exitTest _ _ _ => []
  | .queueRelease _ _ => []
  | .coll _ _ _ => []
  | .collF32 _ _ _ => []
  | .collAlloc _ _ => []
  | .collStepOk _ _ => []
  | .collTimeout _ _ => []
  | .abortFloodReceive _ _ _ _ => []
  | .abortFix _ => []
  | .collAbortSettle _ => []
  | .groupReform _ _ => []
  | .gclaim _ _ _ => []
  | .rosterReady _ _ => []
  | .rosterRelease _ _ _ => []
  | .gclaimResult _ => []
  | .launch _ _ => []
  | .descCreate _ _ => []
  | .descDestroy _ _ => []
  | .dmaCommand _ _ => []
  | .signal _ _ => []
  | .abort _ _ => []
  | .fence _ _ => []
  | .distSet _ _ => []
  | .commandStart _ _ => []
  | .launchStart _ _ => []
  | .commandTerminal _ _ _ => []
  | .trackerWaitEnd _ => []
  | .waitTimeout _ _ => []
  | .teardownStop _ => []
  | .scrubStart _ => []
  | .transactionAbandon _ => []
  | .teardownFree _ => []
  | .scrubUnitDone _ _ => []
  | .createComplete _ => []
  | .slotStart _ => []
  | .preemptSaveDone _ => []
  | .restoreDone _ => []
  | .rulingSwitch _ => []
  | .hbmLineIssue _ => []
  | .hbmRefresh => []
  | .hbmReadReturn _ _ _ => []
  | .hbmWriteRetire _ _ => []
  | .tickMarkerSend => []
  | .tickMarkerReceive _ _ _ => []
  | .holdoverEntry => []
  | .holdoverLongEntry => []
  | .slewStep => []
  | .frequencyLock => []
  | .linkTrainStart _ => []
  | .linkEqualised _ => []
  | .linkAligned _ => []
  | .identityReceive _ _ => []
  | .delayComplete _ _ => []
  | .linkStateTimeout _ => []
  | .flitSend _ => []
  | .dataFlitReceive _ _ _ => []
  | .controlFlitReceive _ _ _ _ => []
  | .linkAckReceive _ _ _ _ => []
  | .flitError _ => []
  | .nakReceive _ _ _ _ => []
  | .nakRepeat _ => []
  | .linkDown _ => []
  | .blockLockLost _ => []
  | .packetLand _ => []
  | .discoveryReport _ => []
  | .deviceDepart _ => []
  | .routeTableSwitch => []
  | .electionComplete => []
  | .positionAssign _ _ _ => []
  | .soloLead => []
  | .leadBeatSend => []
  | .leadBeatReceive _ _ _ _ => []
  | .standbyTakeover => []
  | .pairBeatSend => []
  | .partnerLost => []
  | .forwardedInputReceive _ _ => []
  | .forwardedInputApply => []
  | .lagOverrun => []
  | .digestCompare _ _ _ _ => []
  | .promotion => []
  | .promote => []
  | .stepBuild _ => []
  | .stepPost _ => []
  | .ctxSeqReqTail _ _ => []
  | .read _ => []
  | .write _ => []
  | .snapshot _ => []
  | .snapRead _ => []
  | .mbxTService _ => []
  | .mbxReply _ => []
  | .flagsClear _ _ => []
  | .oobClear _ => []
  | .govClear _ => []
  | .flashWrite _ _ => []
  | .flashWriteDone => []
  | .check => []
  | .checkDone => []
  | .commit => []
  | .revert => []
  | .discard => []
  | .configAbort => []
  | .prepareReceive _ _ _ => []
  | .voteReceive _ _ => []
  | .commitDecide => []
  | .decisionReceive _ => []
  | .noDecision => []
  | .setActivation => []
  | .fuseProgram => []
  | .energyWindowStart _ => []
  | .thermalSample _ => []
  | .railSample _ _ => []
  | .tripAssert => []
  | .tripStop => []
  | .partitionWatchdog => []
  | .ringDoorbell _ _ _ => []
  | .ringEnable _ _ _ _ => []
  | .cqHeadWrite _ _ _ => []
  | .descriptorTake _ _ _ => []
  | .counterLoRead _ _ => []
  | .bar2Access _ _ _ _ _ => []
  | .registerWrite _ _ _ => []
  | .vfFlr _ => []
  | .pfFlr => []
  | .hostLoss _ => []
  | .perstDeassert => []
  | .sriovControlWrite _ _ => []
  | .ideCheckFail _ => []
  | .getMeasurements _ => []
  | .challenge _ => []
  | .keyExchange _ => []
  | .ideKm _ _ => []
  | .neighbourDiscovery _ => []
  | .icmpv6Echo _ _ => []
  | .dhcpv4 _ => []
  | .i2cRead _ => []
  | .i2cWrite _ => []
  | .bypass => []
  | .idcode => []
  | .samplePreload _ => []
  | .extest => []
  | .clamp => []
  | .highz => []
  | .extestPulse => []
  | .extestTrain => []
  | .porReset => []
  | .porRise _ _ => []
  | .rootPllLock => []
  | .romVerifyDone => []
  | .bootWatchdog => []
  | .readyPoint => []
  | .hbmTrainDone _ => []
  | .powerOnScrubDone => []
  | .pcieLinkUp _ _ _ => []
  | .mbxRing _ => []
  | .pairBeatReceive _ => []
  | .balRowWritten _ _ => []
  | .unitFree _ _ => []
  | .undefinedOpcode _ => []

/-- The operands of a command have their form: register pairs (R888), rounding modes (R89), branch conditions, signal
counts (R232), and the lengths and ranges of what comes from outside (R37, R211, R447, R448, R712, R783, R788, R791). -/
def Instr.wellFormed : Instr → Bool
  | .loop _ _ _ _ => true
  | .branch _ cond _ _ => decide (cond ≠ .reserved)
  | .waitsem _ _ _ => true
  | .waitsemRelease _ _ => true
  | .sigsem _ _ n => decide (n ≠ 0)
  | .waittick _ _ => true
  | .waittickRelease _ => true
  | .sets _ _ _ => true
  | .adds _ _ _ => true
  | .endProgram _ => true
  | .tloadv _ _ _ org high => pairForm org && high.elim true pairForm
  | .tstorev _ _ _ org high round => pairForm org && high.elim true pairForm && decide (round ≠ 3)
  | .dma _ _ _ _ => true
  | .dmaRetire _ => true
  | .atomaddXa _ _ _ org high => pairForm org && high.elim true pairForm
  | .atomaddF32 _ _ _ org high => pairForm org && high.elim true pairForm
  | .mma _ _ _ _ org sk _ _ _ => pairForm org && pairForm sk
  | .xspill _ _ _ org high _ => pairForm org && high.elim true pairForm
  | .xfill _ _ _ org high => pairForm org && high.elim true pairForm
  | .xout _ _ _ org high round => pairForm org && high.elim true pairForm && decide (round ≠ 3)
  | .vop _ op _ _ _ => vopForm op
  | .sfu _ _ _ _ _ => true
  | .softmax _ _ _ _ org round => pairForm org && decide (round ≠ 3)
  | .norm _ _ _ _ org _ => pairForm org
  | .stipple _ _ sn _ => pairForm sn
  | .route _ _ _ => true
  | .routeDone _ => true
  | .balReset _ _ _ => true
  | .count _ _ _ => true
  | .countExchangeResult _ _ => true
  | .countComplete _ _ => true
  | .scatter _ _ _ => true
  | .scatterDone _ => true
  | .ret _ _ _ => true
  | .returnDone _ => true
  | .combine _ _ _ => true
  | .combineTokenStart _ _ => true
  | .combineDone _ => true
  | .exitTest _ _ _ => true
  | .queueRelease _ _ => true
  | .coll _ _ _ => true
  | .collF32 _ _ _ => true
  | .collAlloc _ _ => true
  | .collStepOk _ _ => true
  | .collTimeout _ _ => true
  | .abortFloodReceive _ _ _ _ => true
  | .abortFix _ => true
  | .collAbortSettle _ => true
  | .groupReform _ _ => true
  | .gclaim _ _ _ => true
  | .rosterReady _ _ => true
  | .rosterRelease _ _ _ => true
  | .gclaimResult _ => true
  | .launch _ _ => true
  | .descCreate _ _ => true
  | .descDestroy _ _ => true
  | .dmaCommand _ _ => true
  | .signal _ _ => true
  | .abort _ _ => true
  | .fence _ _ => true
  | .distSet _ _ => true
  | .commandStart _ _ => true
  | .launchStart _ _ => true
  | .commandTerminal _ _ _ => true
  | .trackerWaitEnd _ => true
  | .waitTimeout _ _ => true
  | .teardownStop _ => true
  | .scrubStart _ => true
  | .transactionAbandon _ => true
  | .teardownFree _ => true
  | .scrubUnitDone m unit => decide (unit < scrubUnits m)
  | .createComplete _ => true
  | .slotStart _ => true
  | .preemptSaveDone _ => true
  | .restoreDone _ => true
  | .rulingSwitch _ => true
  | .hbmLineIssue _ => true
  | .hbmRefresh => true
  | .hbmReadReturn _ _ _ => true
  | .hbmWriteRetire _ _ => true
  | .tickMarkerSend => true
  | .tickMarkerReceive _ _ _ => true
  | .holdoverEntry => true
  | .holdoverLongEntry => true
  | .slewStep => true
  | .frequencyLock => true
  | .linkTrainStart _ => true
  | .linkEqualised _ => true
  | .linkAligned _ => true
  | .identityReceive _ _ => true
  | .delayComplete _ stamps => decide (stamps.length = 1024)
  | .linkStateTimeout _ => true
  | .flitSend _ => true
  | .dataFlitReceive _ f _ => decide (f.payload.length = 250)
  | .controlFlitReceive _ f _ _ => decide (f.payload.length = 250)
  | .linkAckReceive _ _ _ _ => true
  | .flitError _ => true
  | .nakReceive _ _ _ _ => true
  | .nakRepeat _ => true
  | .linkDown _ => true
  | .blockLockLost _ => true
  | .packetLand p => decide (p.data.length ≤ 4096)
  | .discoveryReport _ => true
  | .deviceDepart _ => true
  | .routeTableSwitch => true
  | .electionComplete => true
  | .positionAssign _ _ _ => true
  | .soloLead => true
  | .leadBeatSend => true
  | .leadBeatReceive _ _ _ _ => true
  | .standbyTakeover => true
  | .pairBeatSend => true
  | .partnerLost => true
  | .forwardedInputReceive _ _ => true
  | .forwardedInputApply => true
  | .lagOverrun => true
  | .digestCompare _ _ _ _ => true
  | .promotion => true
  | .promote => true
  | .stepBuild _ => true
  | .stepPost _ => true
  | .ctxSeqReqTail _ _ => true
  | .read _ => true
  | .write _ => true
  | .snapshot _ => true
  | .snapRead _ => true
  | .mbxTService _ => true
  | .mbxReply _ => true
  | .flagsClear _ _ => true
  | .oobClear _ => true
  | .govClear _ => true
  | .flashWrite offset data => decide (offset % 256 = 0) && decide (data.length % 256 = 0) && decide (256 ≤ data.length) && decide (data.length ≤ 1024)
  | .flashWriteDone => true
  | .check => true
  | .checkDone => true
  | .commit => true
  | .revert => true
  | .discard => true
  | .configAbort => true
  | .prepareReceive _ _ _ => true
  | .voteReceive _ _ => true
  | .commitDecide => true
  | .decisionReceive _ => true
  | .noDecision => true
  | .setActivation => true
  | .fuseProgram => true
  | .energyWindowStart _ => true
  | .thermalSample _ => true
  | .railSample _ _ => true
  | .tripAssert => true
  | .tripStop => true
  | .partitionWatchdog => true
  | .ringDoorbell _ _ _ => true
  | .ringEnable _ _ _ log2 => decide (4 ≤ log2.toNat) && decide (log2.toNat ≤ 12)
  | .cqHeadWrite _ _ _ => true
  | .descriptorTake _ _ fetched => fetched.elim true fun b => decide (b.length = 64)
  | .counterLoRead _ _ => true
  | .bar2Access _ _ write_ length _ => write_.elim true fun b => decide (b.length = length)
  | .registerWrite _ offset _ => decide (offset % 4 = 0)
  | .vfFlr _ => true
  | .pfFlr => true
  | .hostLoss _ => true
  | .perstDeassert => true
  | .sriovControlWrite _ _ => true
  | .ideCheckFail _ => true
  | .getMeasurements _ => true
  | .challenge nonce => decide (nonce.length = 32)
  | .keyExchange _ => true
  | .ideKm _ key => decide (key.length = 32)
  | .neighbourDiscovery src => decide (src.length = 16)
  | .icmpv6Echo src _ => decide (src.length = 16)
  | .dhcpv4 _ => true
  | .i2cRead _ => true
  | .i2cWrite data => decide (0 < data.length)
  | .bypass => true
  | .idcode => true
  | .samplePreload _ => true
  | .extest => true
  | .clamp => true
  | .highz => true
  | .extestPulse => true
  | .extestTrain => true
  | .porReset => true
  | .porRise _ _ => true
  | .rootPllLock => true
  | .romVerifyDone => true
  | .bootWatchdog => true
  | .readyPoint => true
  | .hbmTrainDone _ => true
  | .powerOnScrubDone => true
  | .pcieLinkUp rate width _ => decide (1 ≤ rate.toNat) && decide (rate.toNat ≤ 6) && [1, 2, 4, 8, 16].contains width.toNat
  | .mbxRing _ => true
  | .pairBeatReceive _ => true
  | .balRowWritten _ _ => true
  | .unitFree _ _ => true
  | .undefinedOpcode _ => true

end Sys2Proof
end

