-- ==== Sys2Proof/Laws/PerInstr.lean ====
section
/-! SUPPORT. A fact about every command as syntax, one lemma for each constructor: the register pairs that a
well-formed command names exist. -/

namespace Sys2Proof.Laws.Pairs

/-- Every register pair of a well-formed command has its second register (R888). -/
def Statement (i : Instr) : Prop := i.wellFormed = true → ∀ n ∈ i.pairs, n.val + 1 < 16

/-- A register that may begin a pair has a successor (R888). -/
theorem lt_of_pairForm {n : SReg} (h : pairForm n = true) : n.val + 1 < 16 := by
  have := of_decide_eq_true h; omega

/-- The same for an address pair and an optional high pair. -/
theorem lt_of_pairForms {org : SReg} {high : Option SReg} (h : (pairForm org && high.elim true pairForm) = true) :
    ∀ n ∈ [org] ++ high.toList, n.val + 1 < 16 := by
  have ⟨a, b⟩ := (Bool.and_eq_true_iff).mp h
  intro n hn
  cases high with
  | none => obtain rfl : n = org := by simpa using hn
            exact lt_of_pairForm a
  | some x =>
    obtain rfl | rfl : n = org ∨ n = x := by simpa using hn
    · exact lt_of_pairForm a
    · exact lt_of_pairForm b

/-- The same for one pair alone. -/
theorem lt_of_pair {org : SReg} (h : pairForm org = true) : ∀ n ∈ [org], n.val + 1 < 16 := by
  intro n hn
  obtain rfl : n = org := by simpa using hn
  exact lt_of_pairForm h

theorem loop (k_ : CoreId) (n_ : SReg) (count_ : BitVec 16) (offset_ : BitVec 16) :
    Statement (.loop k_ n_ count_ offset_) := by
  intro _ n hn; exact absurd hn List.not_mem_nil

theorem branch (k_ : CoreId) (cond_ : BranchCond) (n_ : SReg) (offset_ : BitVec 16) :
    Statement (.branch k_ cond_ n_ offset_) := by
  intro _ n hn; exact absurd hn List.not_mem_nil

theorem waitsem (k_ : CoreId) (sem_ : BitVec 16) (n_ : BitVec 16) :
    Statement (.waitsem k_ sem_ n_) := by
  intro _ n hn; exact absurd hn List.not_mem_nil

theorem waitsemRelease (c_ : CtxId) (sem_ : BitVec 16) :
    Statement (.waitsemRelease c_ sem_) := by
  intro _ n hn; exact absurd hn List.not_mem_nil

theorem sigsem (k_ : CoreId) (sem_ : BitVec 16) (n_ : BitVec 16) :
    Statement (.sigsem k_ sem_ n_) := by
  intro _ n hn; exact absurd hn List.not_mem_nil

theorem waittick (k_ : CoreId) (n_ : SReg) :
    Statement (.waittick k_ n_) := by
  intro _ n hn; exact absurd hn List.not_mem_nil

theorem waittickRelease (k_ : CoreId) :
    Statement (.waittickRelease k_) := by
  intro _ n hn; exact absurd hn List.not_mem_nil

theorem sets (k_ : CoreId) (n_ : SReg) (imm_ : BitVec 32) :
    Statement (.sets k_ n_ imm_) := by
  intro _ n hn; exact absurd hn List.not_mem_nil

theorem adds (k_ : CoreId) (n_ : SReg) (imm_ : BitVec 32) :
    Statement (.adds k_ n_ imm_) := by
  intro _ n hn; exact absurd hn List.not_mem_nil

theorem endProgram (k_ : CoreId) :
    Statement (.endProgram k_) := by
  intro _ n hn; exact absurd hn List.not_mem_nil

theorem tloadv (k_ : CoreId) (vd_ : VReg) (desc_ : BitVec 16) (org_ : SReg) (high_ : Option SReg) :
    Statement (.tloadv k_ vd_ desc_ org_ high_) :=
  lt_of_pairForms

theorem tstorev (k_ : CoreId) (vs_ : VReg) (desc_ : BitVec 16) (org_ : SReg) (high_ : Option SReg) (round_ : BitVec 2) :
    Statement (.tstorev k_ vs_ desc_ org_ high_ round_) :=
  fun h => lt_of_pairForms (Bool.and_eq_true_iff.mp h).1

theorem dma (k_ : CoreId) (src_ : BitVec 16) (dst_ : BitVec 16) (sem_ : BitVec 16) :
    Statement (.dma k_ src_ dst_ sem_) := by
  intro _ n hn; exact absurd hn List.not_mem_nil

theorem dmaRetire (k_ : CoreId) :
    Statement (.dmaRetire k_) := by
  intro _ n hn; exact absurd hn List.not_mem_nil

theorem atomaddXa (k_ : CoreId) (vs_ : VReg) (desc_ : BitVec 16) (org_ : SReg) (high_ : Option SReg) :
    Statement (.atomaddXa k_ vs_ desc_ org_ high_) :=
  lt_of_pairForms

theorem atomaddF32 (k_ : CoreId) (vs_ : VReg) (desc_ : BitVec 16) (org_ : SReg) (high_ : Option SReg) :
    Statement (.atomaddF32 k_ vs_ desc_ org_ high_) :=
  lt_of_pairForms

theorem mma (k_ : CoreId) (array_ : ArrayId) (a_ : BitVec 16) (b_ : BitVec 16) (org_ : SReg) (sk_ : SReg) (clear_ : Bool) (ta_ : Bool) (tb_ : Bool) :
    Statement (.mma k_ array_ a_ b_ org_ sk_ clear_ ta_ tb_) :=
  fun h => lt_of_pairForms (high := some sk_) h

theorem xspill (k_ : CoreId) (array_ : ArrayId) (desc_ : BitVec 16) (org_ : SReg) (high_ : Option SReg) (release_ : Bool) :
    Statement (.xspill k_ array_ desc_ org_ high_ release_) :=
  lt_of_pairForms

theorem xfill (k_ : CoreId) (array_ : ArrayId) (desc_ : BitVec 16) (org_ : SReg) (high_ : Option SReg) :
    Statement (.xfill k_ array_ desc_ org_ high_) :=
  lt_of_pairForms

theorem xout (k_ : CoreId) (array_ : ArrayId) (desc_ : BitVec 16) (org_ : SReg) (high_ : Option SReg) (round_ : BitVec 2) :
    Statement (.xout k_ array_ desc_ org_ high_ round_) :=
  fun h => lt_of_pairForms (Bool.and_eq_true_iff.mp h).1

theorem vop (k_ : CoreId) (op_ : VopOp) (vd_ : VReg) (vs_ : VReg) (vt_ : VReg) :
    Statement (.vop k_ op_ vd_ vs_ vt_) := by
  intro _ n hn; exact absurd hn List.not_mem_nil

theorem sfu (k_ : CoreId) (slot_ : GlyphSlot) (vd_ : VReg) (vs_ : VReg) (vt_ : VReg) :
    Statement (.sfu k_ slot_ vd_ vs_ vt_) := by
  intro _ n hn; exact absurd hn List.not_mem_nil

theorem softmax (k_ : CoreId) (src_ : BitVec 16) (dst_ : BitVec 16) (scratch_ : BitVec 16) (org_ : SReg) (round_ : BitVec 2) :
    Statement (.softmax k_ src_ dst_ scratch_ org_ round_) :=
  fun h => lt_of_pair (Bool.and_eq_true_iff.mp h).1

theorem norm (k_ : CoreId) (stable_ : Bool) (src_ : BitVec 16) (vd_ : VReg) (org_ : SReg) (sr_ : SReg) :
    Statement (.norm k_ stable_ src_ vd_ org_ sr_) :=
  lt_of_pair

theorem stipple (k_ : CoreId) (vd_ : VReg) (sn_ : SReg) (st_ : SReg) :
    Statement (.stipple k_ vd_ sn_ st_) :=
  lt_of_pair

theorem route (k_ : CoreId) (n_ : SReg) (sem_ : BitVec 16) :
    Statement (.route k_ n_ sem_) := by
  intro _ n hn; exact absurd hn List.not_mem_nil

theorem routeDone (c_ : CtxId) :
    Statement (.routeDone c_) := by
  intro _ n hn; exact absurd hn List.not_mem_nil

theorem balReset (k_ : CoreId) (n_ : SReg) (sem_ : BitVec 16) :
    Statement (.balReset k_ n_ sem_) := by
  intro _ n hn; exact absurd hn List.not_mem_nil

theorem count (k_ : CoreId) (n_ : SReg) (sem_ : BitVec 16) :
    Statement (.count k_ n_ sem_) := by
  intro _ n hn; exact absurd hn List.not_mem_nil

theorem countExchangeResult (c_ : CtxId) (parts_ : List Contribution) :
    Statement (.countExchangeResult c_ parts_) := by
  intro _ n hn; exact absurd hn List.not_mem_nil

theorem countComplete (c_ : CtxId) (spill_ : List Contribution) :
    Statement (.countComplete c_ spill_) := by
  intro _ n hn; exact absurd hn List.not_mem_nil

theorem scatter (k_ : CoreId) (n_ : SReg) (sem_ : BitVec 16) :
    Statement (.scatter k_ n_ sem_) := by
  intro _ n hn; exact absurd hn List.not_mem_nil

theorem scatterDone (c_ : CtxId) :
    Statement (.scatterDone c_) := by
  intro _ n hn; exact absurd hn List.not_mem_nil

theorem ret (k_ : CoreId) (n_ : SReg) (sem_ : BitVec 16) :
    Statement (.ret k_ n_ sem_) := by
  intro _ n hn; exact absurd hn List.not_mem_nil

theorem returnDone (c_ : CtxId) :
    Statement (.returnDone c_) := by
  intro _ n hn; exact absurd hn List.not_mem_nil

theorem combine (k_ : CoreId) (n_ : SReg) (sem_ : BitVec 16) :
    Statement (.combine k_ n_ sem_) := by
  intro _ n hn; exact absurd hn List.not_mem_nil

theorem combineTokenStart (c_ : CtxId) (token_ : Nat) :
    Statement (.combineTokenStart c_ token_) := by
  intro _ n hn; exact absurd hn List.not_mem_nil

theorem combineDone (c_ : CtxId) :
    Statement (.combineDone c_) := by
  intro _ n hn; exact absurd hn List.not_mem_nil

theorem exitTest (k_ : CoreId) (n_ : SReg) (sem_ : BitVec 16) :
    Statement (.exitTest k_ n_ sem_) := by
  intro _ n hn; exact absurd hn List.not_mem_nil

theorem queueRelease (c_ : CtxId) (queue_ : Nat) :
    Statement (.queueRelease c_ queue_) := by
  intro _ n hn; exact absurd hn List.not_mem_nil

theorem coll (k_ : CoreId) (n_ : SReg) (sem_ : BitVec 16) :
    Statement (.coll k_ n_ sem_) := by
  intro _ n hn; exact absurd hn List.not_mem_nil

theorem collF32 (k_ : CoreId) (n_ : SReg) (sem_ : BitVec 16) :
    Statement (.collF32 k_ n_ sem_) := by
  intro _ n hn; exact absurd hn List.not_mem_nil

theorem collAlloc (g_ : GroupId) (step_ : Nat) :
    Statement (.collAlloc g_ step_) := by
  intro _ n hn; exact absurd hn List.not_mem_nil

theorem collStepOk (g_ : GroupId) (step_ : Nat) :
    Statement (.collStepOk g_ step_) := by
  intro _ n hn; exact absurd hn List.not_mem_nil

theorem collTimeout (g_ : GroupId) (step_ : Nat) :
    Statement (.collTimeout g_ step_) := by
  intro _ n hn; exact absurd hn List.not_mem_nil

theorem abortFloodReceive (g_ : GroupId) (code_ : BitVec 8) (tick_ : Word) (rank_ : BitVec 32) :
    Statement (.abortFloodReceive g_ code_ tick_ rank_) := by
  intro _ n hn; exact absurd hn List.not_mem_nil

theorem abortFix (g_ : GroupId) :
    Statement (.abortFix g_) := by
  intro _ n hn; exact absurd hn List.not_mem_nil

theorem collAbortSettle (g_ : GroupId) :
    Statement (.collAbortSettle g_) := by
  intro _ n hn; exact absurd hn List.not_mem_nil

theorem groupReform (g_ : GroupId) (members_ : Option (List (BitVec 16))) :
    Statement (.groupReform g_ members_) := by
  intro _ n hn; exact absurd hn List.not_mem_nil

theorem gclaim (k_ : CoreId) (n_ : SReg) (sd_ : SReg) :
    Statement (.gclaim k_ n_ sd_) := by
  intro _ n hn; exact absurd hn List.not_mem_nil

theorem rosterReady (c_ : CtxId) (header_ : Nat) :
    Statement (.rosterReady c_ header_) := by
  intro _ n hn; exact absurd hn List.not_mem_nil

theorem rosterRelease (c_ : CtxId) (header_ : Nat) (entry_ : Nat) :
    Statement (.rosterRelease c_ header_ entry_) := by
  intro _ n hn; exact absurd hn List.not_mem_nil

theorem gclaimResult (k_ : CoreId) :
    Statement (.gclaimResult k_) := by
  intro _ n hn; exact absurd hn List.not_mem_nil

theorem launch (c_ : CtxId) (uid_ : Nat) :
    Statement (.launch c_ uid_) := by
  intro _ n hn; exact absurd hn List.not_mem_nil

theorem descCreate (c_ : CtxId) (uid_ : Nat) :
    Statement (.descCreate c_ uid_) := by
  intro _ n hn; exact absurd hn List.not_mem_nil

theorem descDestroy (c_ : CtxId) (uid_ : Nat) :
    Statement (.descDestroy c_ uid_) := by
  intro _ n hn; exact absurd hn List.not_mem_nil

theorem dmaCommand (c_ : CtxId) (uid_ : Nat) :
    Statement (.dmaCommand c_ uid_) := by
  intro _ n hn; exact absurd hn List.not_mem_nil

theorem signal (c_ : CtxId) (uid_ : Nat) :
    Statement (.signal c_ uid_) := by
  intro _ n hn; exact absurd hn List.not_mem_nil

theorem abort (c_ : CtxId) (uid_ : Nat) :
    Statement (.abort c_ uid_) := by
  intro _ n hn; exact absurd hn List.not_mem_nil

theorem fence (c_ : CtxId) (uid_ : Nat) :
    Statement (.fence c_ uid_) := by
  intro _ n hn; exact absurd hn List.not_mem_nil

theorem distSet (c_ : CtxId) (uid_ : Nat) :
    Statement (.distSet c_ uid_) := by
  intro _ n hn; exact absurd hn List.not_mem_nil

theorem commandStart (c_ : CtxId) (uid_ : Nat) :
    Statement (.commandStart c_ uid_) := by
  intro _ n hn; exact absurd hn List.not_mem_nil

theorem launchStart (c_ : CtxId) (uid_ : Nat) :
    Statement (.launchStart c_ uid_) := by
  intro _ n hn; exact absurd hn List.not_mem_nil

theorem commandTerminal (c_ : CtxId) (uid_ : Nat) (ats_ : Bool) :
    Statement (.commandTerminal c_ uid_ ats_) := by
  intro _ n hn; exact absurd hn List.not_mem_nil

theorem trackerWaitEnd (k_ : CoreId) :
    Statement (.trackerWaitEnd k_) := by
  intro _ n hn; exact absurd hn List.not_mem_nil

theorem waitTimeout (k_ : CoreId) (c_ : CtxId) :
    Statement (.waitTimeout k_ c_) := by
  intro _ n hn; exact absurd hn List.not_mem_nil

theorem teardownStop (c_ : CtxId) :
    Statement (.teardownStop c_) := by
  intro _ n hn; exact absurd hn List.not_mem_nil

theorem scrubStart (c_ : CtxId) :
    Statement (.scrubStart c_) := by
  intro _ n hn; exact absurd hn List.not_mem_nil

theorem transactionAbandon (c_ : CtxId) :
    Statement (.transactionAbandon c_) := by
  intro _ n hn; exact absurd hn List.not_mem_nil

theorem teardownFree (c_ : CtxId) :
    Statement (.teardownFree c_) := by
  intro _ n hn; exact absurd hn List.not_mem_nil

theorem scrubUnitDone (m_ : ScrubMem) (unit_ : Nat) :
    Statement (.scrubUnitDone m_ unit_) := by
  intro _ n hn; exact absurd hn List.not_mem_nil

theorem createComplete (c_ : CtxId) :
    Statement (.createComplete c_) := by
  intro _ n hn; exact absurd hn List.not_mem_nil

theorem slotStart (e_ : EngineId) :
    Statement (.slotStart e_) := by
  intro _ n hn; exact absurd hn List.not_mem_nil

theorem preemptSaveDone (k_ : CoreId) :
    Statement (.preemptSaveDone k_) := by
  intro _ n hn; exact absurd hn List.not_mem_nil

theorem restoreDone (k_ : CoreId) :
    Statement (.restoreDone k_) := by
  intro _ n hn; exact absurd hn List.not_mem_nil

theorem rulingSwitch (e_ : EngineId) :
    Statement (.rulingSwitch e_) := by
  intro _ n hn; exact absurd hn List.not_mem_nil

theorem hbmLineIssue (c_ : CtxId) :
    Statement (.hbmLineIssue c_) := by
  intro _ n hn; exact absurd hn List.not_mem_nil

theorem hbmRefresh :
    Statement (.hbmRefresh) := by
  intro _ n hn; exact absurd hn List.not_mem_nil

theorem hbmReadReturn (xfer_ : Nat) (line_ : Nat) (errors_ : List SymbolError) :
    Statement (.hbmReadReturn xfer_ line_ errors_) := by
  intro _ n hn; exact absurd hn List.not_mem_nil

theorem hbmWriteRetire (xfer_ : Nat) (line_ : Nat) :
    Statement (.hbmWriteRetire xfer_ line_) := by
  intro _ n hn; exact absurd hn List.not_mem_nil

theorem tickMarkerSend :
    Statement (.tickMarkerSend) := by
  intro _ n hn; exact absurd hn List.not_mem_nil

theorem tickMarkerReceive (l_ : LinkId) (m_ : Marker) (residual_ : Nat) :
    Statement (.tickMarkerReceive l_ m_ residual_) := by
  intro _ n hn; exact absurd hn List.not_mem_nil

theorem holdoverEntry :
    Statement (.holdoverEntry) := by
  intro _ n hn; exact absurd hn List.not_mem_nil

theorem holdoverLongEntry :
    Statement (.holdoverLongEntry) := by
  intro _ n hn; exact absurd hn List.not_mem_nil

theorem slewStep :
    Statement (.slewStep) := by
  intro _ n hn; exact absurd hn List.not_mem_nil

theorem frequencyLock :
    Statement (.frequencyLock) := by
  intro _ n hn; exact absurd hn List.not_mem_nil

theorem linkTrainStart (l_ : LinkId) :
    Statement (.linkTrainStart l_) := by
  intro _ n hn; exact absurd hn List.not_mem_nil

theorem linkEqualised (l_ : LinkId) :
    Statement (.linkEqualised l_) := by
  intro _ n hn; exact absurd hn List.not_mem_nil

theorem linkAligned (l_ : LinkId) :
    Statement (.linkAligned l_) := by
  intro _ n hn; exact absurd hn List.not_mem_nil

theorem identityReceive (l_ : LinkId) (b_ : IdBlock) :
    Statement (.identityReceive l_ b_) := by
  intro _ n hn; exact absurd hn List.not_mem_nil

theorem delayComplete (l_ : LinkId) (stamps_ : List Stamps) :
    Statement (.delayComplete l_ stamps_) := by
  intro _ n hn; exact absurd hn List.not_mem_nil

theorem linkStateTimeout (l_ : LinkId) :
    Statement (.linkStateTimeout l_) := by
  intro _ n hn; exact absurd hn List.not_mem_nil

theorem flitSend (l_ : LinkId) :
    Statement (.flitSend l_) := by
  intro _ n hn; exact absurd hn List.not_mem_nil

theorem dataFlitReceive (l_ : LinkId) (f_ : Flit) (fec_ : Fec) :
    Statement (.dataFlitReceive l_ f_ fec_) := by
  intro _ n hn; exact absurd hn List.not_mem_nil

theorem controlFlitReceive (l_ : LinkId) (f_ : Flit) (fec_ : Fec) (msgs_ : List CtlMsg) :
    Statement (.controlFlitReceive l_ f_ fec_ msgs_) := by
  intro _ n hn; exact absurd hn List.not_mem_nil

theorem linkAckReceive (l_ : LinkId) (seq_ : BitVec 10) (credit_ : BitVec 8) (fec_ : Fec) :
    Statement (.linkAckReceive l_ seq_ credit_ fec_) := by
  intro _ n hn; exact absurd hn List.not_mem_nil

theorem flitError (l_ : LinkId) :
    Statement (.flitError l_) := by
  intro _ n hn; exact absurd hn List.not_mem_nil

theorem nakReceive (l_ : LinkId) (seq_ : BitVec 10) (credit_ : BitVec 8) (fec_ : Fec) :
    Statement (.nakReceive l_ seq_ credit_ fec_) := by
  intro _ n hn; exact absurd hn List.not_mem_nil

theorem nakRepeat (l_ : LinkId) :
    Statement (.nakRepeat l_) := by
  intro _ n hn; exact absurd hn List.not_mem_nil

theorem linkDown (l_ : LinkId) :
    Statement (.linkDown l_) := by
  intro _ n hn; exact absurd hn List.not_mem_nil

theorem blockLockLost (l_ : LinkId) :
    Statement (.blockLockLost l_) := by
  intro _ n hn; exact absurd hn List.not_mem_nil

theorem packetLand (p_ : Packet) :
    Statement (.packetLand p_) := by
  intro _ n hn; exact absurd hn List.not_mem_nil

theorem discoveryReport (r_ : Report) :
    Statement (.discoveryReport r_) := by
  intro _ n hn; exact absurd hn List.not_mem_nil

theorem deviceDepart (addr_ : BitVec 16) :
    Statement (.deviceDepart addr_) := by
  intro _ n hn; exact absurd hn List.not_mem_nil

theorem routeTableSwitch :
    Statement (.routeTableSwitch) := by
  intro _ n hn; exact absurd hn List.not_mem_nil

theorem electionComplete :
    Statement (.electionComplete) := by
  intro _ n hn; exact absurd hn List.not_mem_nil

theorem positionAssign (l_ : LinkId) (peerAddr_ : BitVec 16) (extents_ : BitVec 16) :
    Statement (.positionAssign l_ peerAddr_ extents_) := by
  intro _ n hn; exact absurd hn List.not_mem_nil

theorem soloLead :
    Statement (.soloLead) := by
  intro _ n hn; exact absurd hn List.not_mem_nil

theorem leadBeatSend :
    Statement (.leadBeatSend) := by
  intro _ n hn; exact absurd hn List.not_mem_nil

theorem leadBeatReceive (l_ : LinkId) (epoch_ : BitVec 32) (lead_ : BitVec 16) (mapVersion_ : BitVec 32) :
    Statement (.leadBeatReceive l_ epoch_ lead_ mapVersion_) := by
  intro _ n hn; exact absurd hn List.not_mem_nil

theorem standbyTakeover :
    Statement (.standbyTakeover) := by
  intro _ n hn; exact absurd hn List.not_mem_nil

theorem pairBeatSend :
    Statement (.pairBeatSend) := by
  intro _ n hn; exact absurd hn List.not_mem_nil

theorem partnerLost :
    Statement (.partnerLost) := by
  intro _ n hn; exact absurd hn List.not_mem_nil

theorem forwardedInputReceive (stamp_ : Word) (input_ : FwdInput) :
    Statement (.forwardedInputReceive stamp_ input_) := by
  intro _ n hn; exact absurd hn List.not_mem_nil

theorem forwardedInputApply :
    Statement (.forwardedInputApply) := by
  intro _ n hn; exact absurd hn List.not_mem_nil

theorem lagOverrun :
    Statement (.lagOverrun) := by
  intro _ n hn; exact absurd hn List.not_mem_nil

theorem digestCompare (c_ : CtxId) (cmdId_ : BitVec 32) (digest_ : BitVec 256) (terminal_ : Word) :
    Statement (.digestCompare c_ cmdId_ digest_ terminal_) := by
  intro _ n hn; exact absurd hn List.not_mem_nil

theorem promotion :
    Statement (.promotion) := by
  intro _ n hn; exact absurd hn List.not_mem_nil

theorem promote :
    Statement (.promote) := by
  intro _ n hn; exact absurd hn List.not_mem_nil

theorem stepBuild (c_ : CtxId) :
    Statement (.stepBuild c_) := by
  intro _ n hn; exact absurd hn List.not_mem_nil

theorem stepPost (c_ : CtxId) :
    Statement (.stepPost c_) := by
  intro _ n hn; exact absurd hn List.not_mem_nil

theorem ctxSeqReqTail (c_ : CtxId) (v_ : BitVec 32) :
    Statement (.ctxSeqReqTail c_ v_) := by
  intro _ n hn; exact absurd hn List.not_mem_nil

theorem read (src_ : ReqSource) :
    Statement (.read src_) := by
  intro _ n hn; exact absurd hn List.not_mem_nil

theorem write (src_ : ReqSource) :
    Statement (.write src_) := by
  intro _ n hn; exact absurd hn List.not_mem_nil

theorem snapshot (src_ : ReqSource) :
    Statement (.snapshot src_) := by
  intro _ n hn; exact absurd hn List.not_mem_nil

theorem snapRead (src_ : ReqSource) :
    Statement (.snapRead src_) := by
  intro _ n hn; exact absurd hn List.not_mem_nil

theorem mbxTService (c_ : CtxId) :
    Statement (.mbxTService c_) := by
  intro _ n hn; exact absurd hn List.not_mem_nil

theorem mbxReply (f_ : CtxId) :
    Statement (.mbxReply f_) := by
  intro _ n hn; exact absurd hn List.not_mem_nil

theorem flagsClear (c_ : CtxId) (mask_ : BitVec 16) :
    Statement (.flagsClear c_ mask_) := by
  intro _ n hn; exact absurd hn List.not_mem_nil

theorem oobClear (c_ : CtxId) :
    Statement (.oobClear c_) := by
  intro _ n hn; exact absurd hn List.not_mem_nil

theorem govClear (c_ : CtxId) :
    Statement (.govClear c_) := by
  intro _ n hn; exact absurd hn List.not_mem_nil

theorem flashWrite (offset_ : Nat) (data_ : Bytes) :
    Statement (.flashWrite offset_ data_) := by
  intro _ n hn; exact absurd hn List.not_mem_nil

theorem flashWriteDone :
    Statement (.flashWriteDone) := by
  intro _ n hn; exact absurd hn List.not_mem_nil

theorem check :
    Statement (.check) := by
  intro _ n hn; exact absurd hn List.not_mem_nil

theorem checkDone :
    Statement (.checkDone) := by
  intro _ n hn; exact absurd hn List.not_mem_nil

theorem commit :
    Statement (.commit) := by
  intro _ n hn; exact absurd hn List.not_mem_nil

theorem revert :
    Statement (.revert) := by
  intro _ n hn; exact absurd hn List.not_mem_nil

theorem discard :
    Statement (.discard) := by
  intro _ n hn; exact absurd hn List.not_mem_nil

theorem configAbort :
    Statement (.configAbort) := by
  intro _ n hn; exact absurd hn List.not_mem_nil

theorem prepareReceive (commitId_ : BitVec 32) (actTick_ : Word) (epoch_ : BitVec 32) :
    Statement (.prepareReceive commitId_ actTick_ epoch_) := by
  intro _ n hn; exact absurd hn List.not_mem_nil

theorem voteReceive (addr_ : BitVec 16) (v_ : Vote) :
    Statement (.voteReceive addr_ v_) := by
  intro _ n hn; exact absurd hn List.not_mem_nil

theorem commitDecide :
    Statement (.commitDecide) := by
  intro _ n hn; exact absurd hn List.not_mem_nil

theorem decisionReceive (version_ : Option (BitVec 32)) :
    Statement (.decisionReceive version_) := by
  intro _ n hn; exact absurd hn List.not_mem_nil

theorem noDecision :
    Statement (.noDecision) := by
  intro _ n hn; exact absurd hn List.not_mem_nil

theorem setActivation :
    Statement (.setActivation) := by
  intro _ n hn; exact absurd hn List.not_mem_nil

theorem fuseProgram :
    Statement (.fuseProgram) := by
  intro _ n hn; exact absurd hn List.not_mem_nil

theorem energyWindowStart (measured_ : Nat) :
    Statement (.energyWindowStart measured_) := by
  intro _ n hn; exact absurd hn List.not_mem_nil

theorem thermalSample (milliC_ : Int) :
    Statement (.thermalSample milliC_) := by
  intro _ n hn; exact absurd hn List.not_mem_nil

theorem railSample (rail_ : Fin 16) (mV_ : BitVec 16) :
    Statement (.railSample rail_ mV_) := by
  intro _ n hn; exact absurd hn List.not_mem_nil

theorem tripAssert :
    Statement (.tripAssert) := by
  intro _ n hn; exact absurd hn List.not_mem_nil

theorem tripStop :
    Statement (.tripStop) := by
  intro _ n hn; exact absurd hn List.not_mem_nil

theorem partitionWatchdog :
    Statement (.partitionWatchdog) := by
  intro _ n hn; exact absurd hn List.not_mem_nil

theorem ringDoorbell (c_ : CtxId) (r_ : RingId) (v_ : BitVec 32) :
    Statement (.ringDoorbell c_ r_ v_) := by
  intro _ n hn; exact absurd hn List.not_mem_nil

theorem ringEnable (c_ : CtxId) (r_ : RingId) (enable_ : Bool) (log2_ : BitVec 4) :
    Statement (.ringEnable c_ r_ enable_ log2_) := by
  intro _ n hn; exact absurd hn List.not_mem_nil

theorem cqHeadWrite (c_ : CtxId) (r_ : RingId) (v_ : BitVec 32) :
    Statement (.cqHeadWrite c_ r_ v_) := by
  intro _ n hn; exact absurd hn List.not_mem_nil

theorem descriptorTake (c_ : CtxId) (r_ : RingId) (fetched_ : Option Bytes) :
    Statement (.descriptorTake c_ r_ fetched_) := by
  intro _ n hn; exact absurd hn List.not_mem_nil

theorem counterLoRead (f_ : CtxId) (offset_ : Nat) :
    Statement (.counterLoRead f_ offset_) := by
  intro _ n hn; exact absurd hn List.not_mem_nil

theorem bar2Access (f_ : CtxId) (offset_ : Nat) (write_ : Option Bytes) (length_ : Nat) (poisoned_ : Bool) :
    Statement (.bar2Access f_ offset_ write_ length_ poisoned_) := by
  intro _ n hn; exact absurd hn List.not_mem_nil

theorem registerWrite (f_ : CtxId) (offset_ : Nat) (value_ : BitVec 32) :
    Statement (.registerWrite f_ offset_ value_) := by
  intro _ n hn; exact absurd hn List.not_mem_nil

theorem vfFlr (c_ : CtxId) :
    Statement (.vfFlr c_) := by
  intro _ n hn; exact absurd hn List.not_mem_nil

theorem pfFlr :
    Statement (.pfFlr) := by
  intro _ n hn; exact absurd hn List.not_mem_nil

theorem hostLoss (kind_ : HostLossKind) :
    Statement (.hostLoss kind_) := by
  intro _ n hn; exact absurd hn List.not_mem_nil

theorem perstDeassert :
    Statement (.perstDeassert) := by
  intro _ n hn; exact absurd hn List.not_mem_nil

theorem sriovControlWrite (numVfs_ : BitVec 16) (vfEnable_ : Bool) :
    Statement (.sriovControlWrite numVfs_ vfEnable_) := by
  intro _ n hn; exact absurd hn List.not_mem_nil

theorem ideCheckFail (stream_ : Fin 4) :
    Statement (.ideCheckFail stream_) := by
  intro _ n hn; exact absurd hn List.not_mem_nil

theorem getMeasurements (index_ : BitVec 8) :
    Statement (.getMeasurements index_) := by
  intro _ n hn; exact absurd hn List.not_mem_nil

theorem challenge (nonce_ : Bytes) :
    Statement (.challenge nonce_) := by
  intro _ n hn; exact absurd hn List.not_mem_nil

theorem keyExchange (peer_ : Bytes) :
    Statement (.keyExchange peer_) := by
  intro _ n hn; exact absurd hn List.not_mem_nil

theorem ideKm (stream_ : Fin 4) (key_ : Bytes) :
    Statement (.ideKm stream_ key_) := by
  intro _ n hn; exact absurd hn List.not_mem_nil

theorem neighbourDiscovery (src_ : Bytes) :
    Statement (.neighbourDiscovery src_) := by
  intro _ n hn; exact absurd hn List.not_mem_nil

theorem icmpv6Echo (src_ : Bytes) (payload_ : Bytes) :
    Statement (.icmpv6Echo src_ payload_) := by
  intro _ n hn; exact absurd hn List.not_mem_nil

theorem dhcpv4 (addr_ : BitVec 32) :
    Statement (.dhcpv4 addr_) := by
  intro _ n hn; exact absurd hn List.not_mem_nil

theorem i2cRead (length_ : Nat) :
    Statement (.i2cRead length_) := by
  intro _ n hn; exact absurd hn List.not_mem_nil

theorem i2cWrite (data_ : Bytes) :
    Statement (.i2cWrite data_) := by
  intro _ n hn; exact absurd hn List.not_mem_nil

theorem bypass :
    Statement (.bypass) := by
  intro _ n hn; exact absurd hn List.not_mem_nil

theorem idcode :
    Statement (.idcode) := by
  intro _ n hn; exact absurd hn List.not_mem_nil

theorem samplePreload (cells_ : Bytes) :
    Statement (.samplePreload cells_) := by
  intro _ n hn; exact absurd hn List.not_mem_nil

theorem extest :
    Statement (.extest) := by
  intro _ n hn; exact absurd hn List.not_mem_nil

theorem clamp :
    Statement (.clamp) := by
  intro _ n hn; exact absurd hn List.not_mem_nil

theorem highz :
    Statement (.highz) := by
  intro _ n hn; exact absurd hn List.not_mem_nil

theorem extestPulse :
    Statement (.extestPulse) := by
  intro _ n hn; exact absurd hn List.not_mem_nil

theorem extestTrain :
    Statement (.extestTrain) := by
  intro _ n hn; exact absurd hn List.not_mem_nil

theorem porReset :
    Statement (.porReset) := by
  intro _ n hn; exact absurd hn List.not_mem_nil

theorem porRise (i2cAddr_ : BitVec 2) (xspiOctal_ : Bool) :
    Statement (.porRise i2cAddr_ xspiOctal_) := by
  intro _ n hn; exact absurd hn List.not_mem_nil

theorem rootPllLock :
    Statement (.rootPllLock) := by
  intro _ n hn; exact absurd hn List.not_mem_nil

theorem romVerifyDone :
    Statement (.romVerifyDone) := by
  intro _ n hn; exact absurd hn List.not_mem_nil

theorem bootWatchdog :
    Statement (.bootWatchdog) := by
  intro _ n hn; exact absurd hn List.not_mem_nil

theorem readyPoint :
    Statement (.readyPoint) := by
  intro _ n hn; exact absurd hn List.not_mem_nil

theorem hbmTrainDone (failed_ : Option (Fin 8)) :
    Statement (.hbmTrainDone failed_) := by
  intro _ n hn; exact absurd hn List.not_mem_nil

theorem powerOnScrubDone :
    Statement (.powerOnScrubDone) := by
  intro _ n hn; exact absurd hn List.not_mem_nil

theorem pcieLinkUp (rate_ : BitVec 4) (width_ : BitVec 5) (flit_ : Bool) :
    Statement (.pcieLinkUp rate_ width_ flit_) := by
  intro _ n hn; exact absurd hn List.not_mem_nil

theorem mbxRing (f_ : CtxId) :
    Statement (.mbxRing f_) := by
  intro _ n hn; exact absurd hn List.not_mem_nil

theorem pairBeatReceive (l_ : LinkId) :
    Statement (.pairBeatReceive l_) := by
  intro _ n hn; exact absurd hn List.not_mem_nil

theorem balRowWritten (c_ : CtxId) (layer_ : Nat) :
    Statement (.balRowWritten c_ layer_) := by
  intro _ n hn; exact absurd hn List.not_mem_nil

theorem unitFree (k_ : CoreId) (unit_ : Fin 11) :
    Statement (.unitFree k_ unit_) := by
  intro _ n hn; exact absurd hn List.not_mem_nil

theorem undefinedOpcode (k_ : CoreId) :
    Statement (.undefinedOpcode k_) := by
  intro _ n hn; exact absurd hn List.not_mem_nil

end Sys2Proof.Laws.Pairs
end

