-- ==== Sys2Proof/Tests/Slice0.lean ====
section
/-! SUPPORT. Tests: ill-formed commands are refused, the spec's worked examples come out, and for every statement the
conditions of its clauses are met in small states. -/

set_option linter.all false
set_option Elab.async false

namespace Sys2Proof.Tests

open Sys2Proof Sys2Proof.Machine

/-! ## Ill-formed commands -/

/-- A register pair cannot begin at S15 (R888). -/
theorem test_pair_at_15 : Instr.wellFormed (.tloadv 0 0 0 15 none) = false ∧ Instr.wellFormed (.tloadv 0 0 0 0 (some 15)) = false ∧
    Instr.wellFormed (.tloadv 0 0 0 14 (some 14)) = true ∧ Instr.wellFormed (.stipple 0 0 15 0) = false := by decide

/-- ROUND 3 is reserved (R89). -/
theorem test_round_3 : Instr.wellFormed (.tstorev 0 0 0 0 none 3) = false ∧ Instr.wellFormed (.xout 0 0 0 0 none 3) = false ∧
    Instr.wellFormed (.softmax 0 0 0 0 0 3) = false ∧ Instr.wellFormed (.xout 0 0 0 0 none 2) = true := by decide

/-- A conversion names one of the formats 0 to 6 (R177); SIGSEM signals at least 1 (R232); the branch conditions are
six (R219). -/
theorem test_vop_sigsem_branch : Instr.wellFormed (.vop 0 (.cvt 7) 0 0 0) = false ∧ Instr.wellFormed (.vop 0 (.cvt 6) 0 0 0) = true ∧
    Instr.wellFormed (.sigsem 0 0 0) = false ∧ Instr.wellFormed (.sigsem 0 0 1) = true ∧
    Instr.wellFormed (.branch 0 .reserved 0 0) = false := by decide

/-- Units of a memory, lengths and ranges from outside: the last legal value and the first illegal one. -/
theorem test_outside_forms : Instr.wellFormed (.scrubUnitDone .sram 624) = false ∧ Instr.wellFormed (.scrubUnitDone .sram 623) = true ∧
    Instr.wellFormed (.scrubUnitDone .hbm 147456) = false ∧ Instr.wellFormed (.scrubUnitDone .reservoir 768) = false ∧
    Instr.wellFormed (.scrubUnitDone .staging 1536) = false ∧ Instr.wellFormed (.ringEnable 0 0 true 3) = false ∧
    Instr.wellFormed (.ringEnable 0 0 true 12) = true ∧ Instr.wellFormed (.ringEnable 0 0 true 13) = false ∧
    Instr.wellFormed (.registerWrite 0 2 0) = false ∧ Instr.wellFormed (.flashWrite 0 []) = false ∧
    Instr.wellFormed (.pcieLinkUp 7 16 true) = false ∧ Instr.wellFormed (.pcieLinkUp 6 3 true) = false ∧
    Instr.wellFormed (.delayComplete 0 []) = false ∧ Instr.wellFormed (.i2cWrite []) = false ∧
    Instr.wellFormed (.descriptorTake 0 0 (some [])) = false ∧ Instr.wellFormed (.bar2Access 0 0 (some []) 4 false) = false ∧
    Instr.wellFormed (.challenge []) = false ∧ Instr.wellFormed (.ideKm 0 []) = false ∧
    Instr.wellFormed (.neighbourDiscovery []) = false ∧ Instr.wellFormed (.icmpv6Echo [] []) = false ∧
    Instr.wellFormed (.dataFlitReceive 0 { kind := .head, vc := 0, ctx := 0, seq := 0, credit := 0, payload := [] } {}) = false := by decide

/-- No row of the table gives bits, so no word spells a command. -/
theorem test_no_words : decodeTableWord 16 0xFFFF = none ∧ State.withFetchWord State.reset 16 0xFFFF = State.reset := by decide

/-! ## The spec's worked examples -/

/-- Chapter 02: one exchange gives a delay of 3,500 root cycles and an offset of 6,400,000. -/
theorem test_hop_measurement : hopDelay [⟨1000000, 7403500, 7404700, 1008200⟩] = 3500 ∧
    hopOffset [⟨1000000, 7403500, 7404700, 1008200⟩] 3500 = 6400000 := by decide

/-- Chapter 03: the four products of the example, entered at anchor −20; the last loses bits. -/
theorem test_example_entry : (({} : XaElem).addAll
      [enterProduct 192 (-20) (Num.ofInt 1 30) (Num.ofInt 1 0), enterProduct 192 (-20) (Num.ofInt 3 (-1)) (Num.ofInt 1 0),
       enterProduct 192 (-20) (Num.ofInt (-1) 30) (Num.ofInt 1 0), enterProduct 192 (-20) (Num.ofInt 5 (-22)) (Num.ofInt 1 0)]) =
    ({ n := 0x180001 }, Flag.ldt) := by decide

/-- Chapter 03: the sum leaves as 0x3FC0_0008 in FP32 with no flag and as 0x3FC0 in BF16 with INX. -/
theorem test_example_leaves : encodeElem 4 .rne false (Num.ofInt 0x180001 (-20)) = (0x3FC00008, 0) ∧
    encodeElem 2 .rne false (Num.ofInt 0x180001 (-20)) = (0x3FC0, Flag.inx) := by decide

/-- Chapter 05: the creation check accepts the example's descriptor: F0 is 9,216 bytes and F1 72 MiB. -/
def exampleDesc : Desc :=
  { tensorId := 0x101, format := 2, rank := 2, space := 1, distIndex := 0xFFFF, base := 0x4000000
    extents := [4608, 8192, 1, 1, 1, 1], strides := [144, 0, 0, 0, 0] }

theorem test_example_reach : exampleDesc.reach 0 = 9216 ∧ exampleDesc.reach 1 = 75497472 := by decide

/-- Chapter 05: row 8,192 is out of bounds and row 8,191 is not. -/
theorem test_example_bounds : exampleDesc.inBounds [127, 8191] = true ∧ exampleDesc.inBounds [0, 8192] = false := by decide

/-- Chapter 06: the tile's halves at anchor −64: 3.25 spills as 13 × 2^62, fills again, and takes −1.125. -/
theorem test_example_spill :
    ({ n := 0x34000000000000000 } : XaElem).spill = toLe 24 (13 * 2 ^ 62) ++ List.replicate 8 0 ∧
    XaElem.unspill (({ n := 0x34000000000000000 } : XaElem).spill) = { n := 0x34000000000000000 } ∧
    (({ n := 0x34000000000000000 } : XaElem).add (.fin (-9 * 2 ^ 61))).1 = { n := 0x22000000000000000 } := by decide

/-- Chapter 06: 2.125 leaves the tile in BF16 as 0x4008 with no flag. -/
theorem test_example_out : ({ format := 2 } : Desc).fromXa .rne 192 (-64) { n := 0x22000000000000000 } = (0x4008, 0) := by decide

/-- Chapter 07: the ranking of the example's adjusted scores, four ties and a NaN among them. -/
theorem test_example_ranks :
    topExperts 2 [(0, 0x3F800000), (1, 0x3F000000), (2, 0x3F800000), (3, 0x3E800000), (4, 0x3F800000), (5, 0), (6, 0x3F000000), (7, 0x3F800000)] = [0, 2] ∧
    topExperts 2 [(0, 0), (1, 0), (2, 0x3E800000), (3, 0), (4, 0xBE800000), (5, 0), (6, 0), (7, 0x3E000000)] = [2, 7] ∧
    topExperts 2 [(0, 0xBF800000), (1, 0x40000000), (2, 0x7FC00000), (3, 0x3F000000), (4, 0x3E800000), (5, 0x3F000000), (6, 0xFF800000), (7, 0x3F200000)] = [1, 7] := by
  decide

/-- Chapter 08: C is 6; expert 2's base on the third device of four is 3 and expert 0's is 7. -/
def exampleParts : List Contribution :=
  [([4, 2, 1, 1], 0), ([3, 2, 2, 1], 4), ([2, 2, 2, 2], 8), ([3, 2, 1, 2], 12)].map fun p =>
    { tokenBase := p.2, tokens := 4, counts := p.1, check := 0 }

theorem test_example_capacity : capacityOf 192 16 2 4 = 6 ∧ exchangeTotals 4 exampleParts = [12, 8, 6, 6] ∧
    exchangeBases 4 8 exampleParts = [7, 4, 3, 2] ∧ exchangeBases 4 12 exampleParts = [9, 6, 5, 4] ∧
    badExchange exampleParts = false := by decide

/-- Chapter 08: g7's assignment to expert 0 takes row 6 and is dropped; g9's to expert 2 takes row 3 and is kept. -/
theorem test_example_rows :
    (firstPass { parseRoute [] with mode := 0 } [4, 2, 1, 1] 6 [⟨0, 0, 2, 0, none, false, 0⟩, ⟨0, 1, 0, 0, none, false, 0⟩, ⟨1, 0, 0, 0, none, false, 0⟩,
      ⟨1, 1, 1, 0, none, false, 0⟩, ⟨2, 0, 1, 0, none, false, 0⟩, ⟨2, 1, 3, 0, none, false, 0⟩, ⟨3, 0, 0, 0, none, false, 0⟩,
      ⟨3, 1, 2, 0, none, false, 0⟩]).map (fun a => (a.row, a.overflow)) =
    [(some 1, false), (some 4, false), (some 5, false), (some 2, false), (some 3, false), (some 1, false), (none, true), (some 2, false)] := by
  decide

/-- Chapter 11: the flit times of the slots of the example: the first and the last of the slot at tick 992, and the
control flit time that begins the slot at tick 1,600. -/
theorem test_example_flit_times : flitTime 992 = some 635 ∧ flitTime 1023 = some 655 ∧ flitTime 1025 = some 656 ∧
    flitTime 1600 = some 1024 ∧ ((List.range 32).filter fun i => (flitTime (992 + i)).isSome).length = 21 := by decide

/-- A device of the running example's 4 × 4 × 4 × 1 torus. -/
def torusAt (a : BitVec 16) : State := { topo := { selfAddr := a, extents := 0x3330 } }

/-- Chapter 11: the links and the VCs of the six hops from (2, 3, 1, 0) to (0, 1, 3, 0). -/
theorem test_example_route :
    ((torusAt 0x2310).nextHop 0x0130, (torusAt 0x2310).hopVc 1 none) = (some 1, 0) ∧
    ((torusAt 0x3310).nextHop 0x0130, (torusAt 0x3310).hopVc 1 (some (0, 0))) = (some 1, 1) ∧
    ((torusAt 0x0310).nextHop 0x0130, (torusAt 0x0310).hopVc 3 (some (1, 0))) = (some 3, 1) ∧
    ((torusAt 0x0010).nextHop 0x0130, (torusAt 0x0010).hopVc 3 (some (1, 2))) = (some 3, 1) ∧
    ((torusAt 0x0110).nextHop 0x0130, (torusAt 0x0110).hopVc 5 (some (1, 2))) = (some 5, 0) ∧
    ((torusAt 0x0120).nextHop 0x0130, (torusAt 0x0120).hopVc 5 (some (0, 4))) = (some 5, 0) := by decide

/-- Chapter 18: R_3 is 49,283 µJ and R_7 24,641 µJ; CARRY × R_7 is 98,564. -/
theorem test_example_refill :
    let s : State := { ident := { staticW := 260 }, energy := { capW := 1200, carry := 4, shares := [(3, 32768), (7, 16384)] } }
    s.refillOf 3 = 49283 ∧ s.refillOf 7 = 24641 ∧ s.balanceCap 7 = 98564 := by decide

/-- Chapter 20: completion slots of the example, CQ_TAIL 30 of 16 entries, and the notice of the refused doorbell. -/
theorem test_example_ring : ({ log2 := 4, cqTail := 30 } : Ring).cqSlot = 448 ∧ ({ log2 := 4, cqTail := 32 } : Ring).cqSlot = 0 ∧
    completionRecord 0xFFFFFFFF 8 1005000 49 =
      toLe 4 0xFFFFFFFF ++ [8, 0, 0, 0] ++ toLe 8 1005000 ++ toLe 4 49 ++ List.replicate 12 0 := by decide


/-! ## Small states -/

/-- Context 1 LIVE with 4 MiB of SRAM, 16 MiB of HBM and 1 MiB of the reservoir and of the staging memory from 0, a stream
of it at offset 0x3000 that issues on core 0 in its slot, the firmware running, the host's link up, and the tick unit MASTER. -/
def small : State :=
  { tick := { now := 1000000, state := 1, rootLocked := true, aligned := true }
    fw := { stage := 2 }, pcie := { linkUp := true }, pins := { por := true }
    scrubSram := [], scrubHbm := [], scrubRes := [], scrubStage := []
    cfg := [(ekey 0x5201 2, .num 1048576), (ekey 0xC101 2, .num 4194304), (ekey 0xC101 4, .num 16777216), (ekey 0xC101 6, .num 1048576), (ekey 0xC101 7, .num 100)]
    ctxs := [(1, { life := { state := .live } })]
    wheels := [(32, { table := [1] ++ List.replicate 63 0x40 })]
    cores := [(0, { cur := some 2, streams := [(2, { status := .running, uid := 7, pc := 0x3000 })] })] }

/-- The small state with its stream changed. -/
def smallStream (f : Stream → Stream) : State := small.updStream 0 2 f

/-- The small state with descriptors of context 1: BF16, FP32, XA64, XA96, spill and empty tensors in SRAM. -/
def smallDescs : State := small.updCtx 1 fun x => { x with descs := ([2, 4, 7, 8, 9].map fun f =>
  (f, some ({ tensorId := 1, format := f, rank := 2, distIndex := 0xFFFF, base := 65536 * f, extents := [32, 32, 1, 1, 1, 1]
              strides := [16, 0, 0, 0, 0] } : Desc))) ++ [(20, some { format := 4, rank := 1, extents := [0, 1, 1, 1, 1, 1] })] }

/-- The small state with bytes in core 0's part of context 1's SRAM share. -/
def smallSram (s : State) (off : Nat) (b : Bytes) : State := s.writeMem .sram (s.absAddr 1 0 0 off) b

/-- An instruction word (R219), lowest byte first. -/
def word (op mod a b c : Nat) : Bytes := toLe 2 c ++ toLe 2 b ++ toLe 2 a ++ [BitVec.ofNat 8 mod, BitVec.ofNat 8 op]

/-- A state with an instruction word at the pc of the stream that issues. -/
def at_ (s : State) (op mod a b c : Nat) : State := smallSram s 0x3000 (word op mod a b c)

/-- Instruction i issues on core 0 for context 1. -/
def issuesAt (s : State) (i : Instr) : Bool := s.issuer 0 == some 2 && s.fetches 0 2 i

theorem issues_of (s : State) (i : Instr) (h : issuesAt s i = true) : s.issues 0 2 i := by
  simpa [issuesAt, State.issues] using h

/-- A record of 64 bytes stands at the offset in S(n) of the stream that issues. -/
def recordAt (s : State) (n : SReg) : Bool := s.offsetIn 0 2 n % 64 == 0 && s.inShare 1 0 (s.offsetIn 0 2 n) 64

theorem record_of (s : State) (n : SReg) (h : recordAt s n = true) : s.recordThere 0 2 n := by
  simpa [recordAt, State.recordThere, keyCtx] using h

/-- A movement record that keeps its rules stands there. -/
def moveAt (s : State) (n : SReg) : Bool := recordAt s n && s.moveOk 1 0 (parseMove (s.recordIn 0 2 n))
  (parseRoute (s.routeAt 1 0 (parseMove (s.recordIn 0 2 n))))

theorem move_of (s : State) (n : SReg) (h : moveAt s n = true) : s.moveThere 0 2 n := by
  rw [moveAt, Bool.and_eq_true] at h
  exact ⟨record_of s n h.1, h.2⟩

/-- The small state with one command of context 1. -/
def smallCmd (x : Cmd) : State := small.updCtx 1 fun c => { c with cmds := [x], nextUid := x.uid + 1 }

/-- Two streams of context 1 that wait for 2 and 3 of semaphore 5, whose count is 3. -/
def waiting : State := ((smallStream fun st => { st with status := .waitSem 5 2 }).updCore 1 fun x =>
  { x with cur := some 2, streams := [(2, { status := .waitSem 5 3 })] }).setSem 1 5 3

/-- A route record (R263) of two experts and one token at layer 0 with K and the group 5; `bal` sets BALANCE. -/
def routeBytes (k : Nat) (bal : Bool) : Bytes :=
  [0, 0, 0, BitVec.ofNat 8 k, 2, 0, if bal then 1 else 0, 0] ++ toLe 4 0 ++ toLe 4 2 ++ toLe 4 1 ++ toLe 2 0 ++ toLe 2 0xFFFF ++
  toLe 2 0xFFFF ++ toLe 2 0xFFFF ++ toLe 2 0xFFFF ++ toLe 2 0 ++ toLe 8 0 ++ toLe 2 1 ++ toLe 2 0 ++ toLe 4 0x3F800000 ++
  toLe 4 0x3F800000 ++ toLe 4 1024 ++ toLe 2 5 ++ List.replicate 6 0

/-- A movement record (R299) of that layer: the route record at 64, one queue whose table is at 128, the group 5. -/
def moveBytes : Bytes :=
  [0, 0, 0, 0, 0, 0, 0, 0] ++ toLe 4 0 ++ toLe 4 64 ++ toLe 4 128 ++ toLe 2 1 ++ toLe 2 0 ++ toLe 2 2 ++ toLe 2 1 ++ toLe 2 3 ++
  toLe 2 4 ++ toLe 2 0xFFFF ++ toLe 2 0xFFFF ++ toLe 2 8 ++ toLe 2 9 ++ toLe 2 5 ++ toLe 2 10 ++ List.replicate 20 0

/-- A descriptor of a tensor in SRAM. -/
def tensor (f : Nat) (base : Nat) (ext : List Nat) : Option Desc :=
  some { tensorId := 1, format := f, rank := ext.length, distIndex := 0xFFFF, base := base
         extents := ext ++ List.replicate (6 - ext.length) 1, strides := [1, 1, 1, 1, 1] }

/-- The small state with the records in SRAM, their tensors, and group 5 ACTIVE with this device as its one member; S0 of
the stream names the movement record and S1 the route record. -/
def quilled : State :=
  let s := smallSram (smallSram (smallSram small 0 moveBytes) 64 (routeBytes 1 false)) 128 (toLe 2 5 ++ toLe 2 6 ++ toLe 2 3 ++ toLe 2 0)
  let s := s.updCtx 1 fun x => { x with descs :=
    [(0, tensor 4 0x1000 [2, 1]), (1, tensor 6 0x1100 [2]), (2, tensor 2 0x1200 [4, 1]), (3, tensor 2 0x1300 [4, 1, 1]),
     (4, tensor 2 0x1400 [4, 1]), (5, tensor 2 0x1500 [4, 8]), (6, tensor 2 0x1900 [4, 8]), (8, tensor 6 0x2000 [1]),
     (9, tensor 4 0x2100 [1]), (10, tensor 2 0x2200 [4, 1]), (11, tensor 5 0x2300 [1])] }
  let s := s.updGroup 5 fun g => { g with state := .active, entry := [0, 0, 1] ++ List.replicate 29 0, members := [0] }
  s.updStream 0 2 fun st => (st.setS 1 64).setS 2 192

/-- The same with the movement record in a phase. -/
def moving (p : CountPhase) (f : MoveState → MoveState) : State := quilled.updCtx 1 fun x => { x with quill := { x.quill with
  moves := [(0, f { phase := p, image := moveBytes, route := routeBytes 1 false, group := 5 })] } }

/-- The one member's contribution, and a second one that overlaps it. -/
def part : Contribution := { tokenBase := 0, tokens := 1, counts := [1, 0], check := 9 }

/-- Queue 0 may be released. -/
def releases (x : MoveState) : Bool := x.phase == .complete && decide (0 < (parseMove x.image).queues) &&
  !x.released.contains 0 && x.arrivals.get 0 0 == x.expectRows.get 0 0

/-- A collective record (R410) of all-reduce `op` in group 5 with XA64 between descriptors 4 and 2. -/
def collBytes (op : Nat) : Bytes := [BitVec.ofNat 8 op, 0, 0, 0] ++ toLe 2 5 ++ toLe 2 0 ++ toLe 4 0 ++ toLe 4 1024 ++ toLe 4 0 ++ toLe 4 1024 ++
  toLe 2 4 ++ toLe 2 2 ++ List.replicate 36 0

/-- The small state with a good and a bad collective record and group 5 with four members, this device second. -/
def grouped (st : GroupState) (f : Group → Group) : State :=
  let s := smallSram (smallSram smallDescs 0 (collBytes 0)) 64 (collBytes 3)
  let s := { s with topo := { s.topo with selfAddr := 1 } }
  (s.updGroup 5 fun g => f { g with state := st, entry := [0, 1, 1] ++ List.replicate 9 0 ++ toLe 4 5000 ++ List.replicate 16 0,
                                            members := [0, 1, 2, 3] }).updStream 0 2 fun st => st.setS 2 64

/-- A step of group 5. -/
def collStep5 : CollStep := { number := 3, ctx := 1, image := collBytes 0, issueTick := 995000 }

/-- The small state with a roster of context 1 under the header at 64. -/
def rostered (r : Roster) : State := (small.updCtx 1 fun x => { x with rosters := [(64, some r)], sems := [(5, 1)] }).updStream 0 2
  fun st => st.setS 2 64

/-- A descriptor of a LAUNCH on the cores of a mask with a reserved last byte. -/
def descriptor (type mask last : Nat) : Bytes :=
  [BitVec.ofNat 8 type, 0, 0xFF, 0xFF] ++ toLe 4 9 ++ toLe 8 0 ++ toLe 4 mask ++ List.replicate 43 0 ++ [BitVec.ofNat 8 last]

/-- The small state with ring 0 of context 1 enabled and one descriptor posted, at the edge of the ring's 16 entries. -/
def posted : State := small.updRing 1 0 fun y => { y with enable := true, tail := 31, head := 30, cqHead := 15, cqTail := 30 }

/-- The small state where context 1 has a balance of 10 µJ and a largest balance. -/
def charged (x : Cmd) : State := { (smallCmd x).updCtx 1 fun c => { c with energy := { c.energy with balance := 10 } } with
  energy := { shares := [(1, 32768)] } }

/-- The small state with context 1 TEARING_DOWN since a tick. -/
def tearing (since : Word) (f : Life → Life) : State :=
  small.updLife 1 fun l => f { l with state := .tearingDown, cause := 2, teardownTick := since }

/-- The small state with one byte in every slot of an engine's wheel of 64 GT slots, at a slot's start. -/
def slotted (e : Nat) (b : Byte) : State := small.updWheel e fun w => { w with len := 256, table := List.replicate 64 b }

/-- An identity block from the peer of link 1. -/
def idBlock (send : BitVec 8) (ok : Bool) : IdBlock :=
  { serial := 5, signature := 0, fwDigest := [], addr := 0, role := 0, pairRole := 0, sendLink := send, grade := 0, stepping := 0
    expressAxis := 0xFF, extents := 0, mapVersion := 0, sigOk := ok }

/-- A flit of context 1 for a device. -/
def headFlit (seq : BitVec 10) : Flit := { vc := 0, ctx := 1, kind := .head, seq := seq, credit := 0, payload := List.replicate 250 0 }

/-- The small state as a secondary of a pair in a state. -/
def paired (st : Nat) : State := { small with
  pair := { small.pair with role := 2, state := st, forwarded := [(737856, .flr 1)], digests := [(1, 9, 5, 999999)] } }

/-- Context 1 with serving enabled at a semaphore's count. -/
def serving (sem count : Nat) (f : Serving → Serving) : State :=
  { small.updCtx 1 fun x => { x with sems := [(5, BitVec.ofNat 32 count)], serving := f x.serving } with
    cfg := [(ekey 0xC101 4, .num 16777216), (ekey 0xD101 2, .num 1), (ekey 0xD101 3, .num 1), (ekey 0xD101 4, .num sem)] }

/-- A request of an operation with items and a body, in a mailbox and as a datagram. -/
def request (op items : Nat) (body : Bytes) : Bytes := toLe 2 0x4744 ++ [1, BitVec.ofNat 8 op, 0, 0, 0, 0] ++ toLe 8 7 ++ toLe 2 body.length ++
  toLe 2 items ++ toLe 4 0 ++ body

/-- The small state with a request taken by the PF's mailbox and a key in slot 0. -/
def asked (b : Bytes) : State := { small.updHost 0 fun h => { h with mbx := { h.mbx with busy := true, taken := b } } with
  mgmt := { keys := [(0, some [1, 2, 3])] } }

/-- A WRITE item of CARRY, which is staged, with a value that fits and one whose type does not. -/
def carryWrite (type : Nat) : Bytes := toLe 2 0x3000 ++ [5, BitVec.ofNat 8 type] ++ toLe 2 2 ++ [0, 0] ++ toLe 2 20 ++ [0, 0]

/-- A draft that stages CARRY. -/
def goodDraft : List (Nat × DVal) := [(ekey 0x3000 5, .num 20)]

/-- The digest of an image of one block of zeros, by an implementation of SHA-384 outside this model. -/
def zerosDigest : Bytes := [0xc0,0xe5,0x9a,0x3e,0x3f,0xfb,0xd3,0xb5,0xc7,0x54,0x28,0xfb,0x36,0x43,0x2f,0xac] ++
  [0xab,0xc7,0x45,0x94,0x42,0x96,0xff,0x51,0x5f,0x73,0x7c,0x4f,0xef,0x4e,0xfc,0x64] ++
  [0x58,0x68,0x09,0xf7,0xa1,0x6f,0x56,0x35,0x4a,0x1e,0xae,0xcf,0x2a,0xa8,0xd7,0x74]

/-- A device whose slot 0 holds the header of an image of 4,096 zeros, with firmware key 0 fused, in the ROM. -/
def imaged : State := { small with
  fw := { stage := 1 }, safety := { fwKeys := [(0, some [1])] }
  flash := Memory.writeBytes [] 0x100000 (toLe 4 0x5A465732 ++ toLe 4 1 ++ toLe 4 3 ++ toLe 4 0 ++ toLe 4 4096 ++ List.replicate 12 0 ++
    zerosDigest) }

/-- A JOIN or a LEAVE record (R560). -/
def seqRequest (op id entry : Nat) : Bytes := [BitVec.ofNat 8 op, 0, 0, 0] ++ toLe 4 id ++ List.replicate 16 0 ++ toLe 4 entry ++ List.replicate 36 0
/-! ## Witnesses: the conditions of every statement's clauses are met -/

/-- StepRunsFrontCommand and EmptyQueueTicks: a waiting command; an empty queue with nothing that waits for an engine,
before and after the root PLL locks. -/
theorem witness_queue : ({ small with pending := [.bypass, .idcode] } : State).pending = .bypass :: [.idcode] ∧
    State.reset.pending = [] ∧ State.reset.tick.rootLocked = false ∧ State.reset.ctxs = [] ∧
    small.pending = [] ∧ small.tick.rootLocked = true ∧ (∀ x ∈ small.ctxs, x.2.settled) ∧ small.fw.logWaiting = [] := by
  refine ⟨rfl, rfl, rfl, by decide, rfl, rfl, ?_, rfl⟩
  intro x h
  have e : x = (1, { life := { state := .live } }) := List.mem_singleton.mp h
  subst e
  exact ⟨rfl, rfl, rfl⟩

/-- ScalarAndControlFlow: words of each instruction at the pc, with seven and with eight loops, conditions that hold and
that do not, and an urgent stream that issues. -/
theorem witness_scalar :
    issuesAt (at_ small 6 0 3 0x8000 0) (.sets 0 3 0x80000000) = true ∧
    issuesAt (at_ small 6 1 15 0 2) (.adds 0 15 2) = true ∧
    (let s := at_ (smallStream fun st => { st with loops := List.replicate 7 {} }) 1 0 4 1 1
     issuesAt s (.loop 0 4 1 1) = true ∧ ((s.core 0).stream 2).loops.length < 8) ∧
    (let s := at_ (smallStream fun st => { st with loops := List.replicate 8 {} }) 1 0 4 1 1
     issuesAt s (.loop 0 4 1 1) = true ∧ 8 ≤ ((s.core 0).stream 2).loops.length) ∧ 0 < (1 : BitVec 16).toInt ∧
    issuesAt (at_ small 1 0 4 0 1) (.loop 0 4 0 1) = true ∧
    issuesAt (at_ small 1 0 4 1 0) (.loop 0 4 1 0) = true ∧ (0 : BitVec 16).toInt ≤ 0 ∧
    issuesAt (at_ small 1 0 4 1 0xFFFF) (.loop 0 4 1 0xFFFF) = true ∧ (0xFFFF : BitVec 16).toInt ≤ 0 ∧
    issuesAt (at_ small 2 0 0 0 0xFFFF) (.branch 0 .zero 0 0xFFFF) = true ∧
    issuesAt (at_ small 2 1 0 0 2) (.branch 0 .nonzero 0 2) = true ∧
    issuesAt (at_ small 2 3 0 0 2) (.branch 0 .reserved 0 2) = true ∧
    condHolds .zero (((small.core 0).stream 2).s 0) = true ∧ condHolds .nonzero (((small.core 0).stream 2).s 0) = false ∧
    issuesAt (at_ small 7 0 0 0 0) (.endProgram 0) = true ∧ issuesAt small (.undefinedOpcode 0) = true ∧
    (let s := at_ (small.updCore 0 fun x => { x with cur := some 3, streams := [(3, { status := .running, pc := 0x3000 })] }) 7 0 0 0 0
     s.issuer 0 = some 3 ∧ s.fetches 0 3 (.endProgram 0) = true) := by decide +kernel

/-- SemaphoreInstructions: counts at the edges of a wait, of a signal and of the semaphores' numbers. -/
theorem witness_semaphores : let s := small.setSem 1 16383 0xFFFFFFFE
    issuesAt (at_ s 3 0 16383 1 0) (.waitsem 0 16383 1) = true ∧ (1 : BitVec 16).toNat ≤ s.sem 1 16383 ∧
    issuesAt (at_ small 3 0 16383 0 0) (.waitsem 0 16383 0) = true ∧ (0 : BitVec 16).toNat ≤ small.sem 1 16383 ∧
    issuesAt (at_ small 3 0 16383 1 0) (.waitsem 0 16383 1) = true ∧ small.sem 1 16383 < (1 : BitVec 16).toNat ∧
    issuesAt (at_ s 3 0 16384 1 0) (.waitsem 0 16384 1) = true ∧ 16384 ≤ (16384 : BitVec 16).toNat ∧
    issuesAt (at_ s 4 0 16383 1 0) (.sigsem 0 16383 1) = true ∧ s.sem 1 16383 + (1 : BitVec 16).toNat ≤ 0xFFFFFFFF ∧
    issuesAt (at_ s 4 0 16383 2 0) (.sigsem 0 16383 2) = true ∧ 0xFFFFFFFF < s.sem 1 16383 + (2 : BitVec 16).toNat ∧
    issuesAt (at_ s 4 0 16384 1 0) (.sigsem 0 16384 1) = true := by decide +kernel

/-- WaitsEnd: one satisfiable wait; two of which the count satisfies either and not both; ticks that have come and not. -/
theorem witness_waits_one : let s := (smallStream fun st => { st with status := .waitSem 5 2 }).setSem 1 5 2
    (s.ctx 1).life.state = .live ∧ s.waitsOn 2 5 0 = some 2 ∧ 2 ≤ s.sem 1 5 ∧
    (∀ (j : CoreId) (other : Nat), (other = 2 * 1 ∨ other = 2 * 1 + 1) → (j, other) ≠ (0, 2) → s.waitsOn other 5 j.val = none) := by
  refine ⟨by decide, by decide, by decide, ?_⟩
  rintro j o (rfl | rfl) <;> revert j <;> decide

theorem witness_waits_two : waiting.waitsOn 2 5 0 = some 2 ∧ waiting.waitsOn 2 5 1 = some 3 ∧ waiting.sem 1 5 = 3 ∧
    (waiting.ctx 1).life.state = .live ∧ (∀ (i : CoreId) (other : Nat), (other = 2 * 1 ∨ other = 2 * 1 + 1) →
      (i, other) ≠ (0, 2) → (i, other) ≠ (1, 2) → waiting.waitsOn other 5 i.val = none) := by
  refine ⟨by decide, by decide, by decide, by decide, ?_⟩
  rintro j o (rfl | rfl) <;> revert j <;> decide

theorem witness_ticks : let s := smallStream fun st => (st.setS 1 1000000).setS 2 1000001
    issuesAt (at_ s 5 0 1 0 0) (.waittick 0 1) = true ∧ (((s.core 0).stream 2).s 1).toNat ≤ s.now ∧
    issuesAt (at_ s 5 0 2 0 0) (.waittick 0 2) = true ∧ s.now < (((s.core 0).stream 2).s 2).toNat ∧
    (let u := smallStream fun st => { st with status := .waitTick 1000000 }
     (u.core 0).cur = some 2 ∧ ((u.core 0).stream 2).status = .waitTick 1000000 ∧ (1000000 : Word).toNat ≤ u.now ∧
     u.now < (1000001 : Word).toNat ∧ (u.ctx (keyCtx 2)).life.state = .live ∧ (u.core 0).blocked 2 = false) := by decide +kernel

/-- NoIssueAndBadOperands: a core with no stream and one whose stream does not issue or has another word at its pc; a record
that is not at a multiple of 64 and one beyond the share; an entry with no descriptor. -/
theorem witness_no_issue : (∀ i key, ¬ small.issues 1 key i) ∧ small.fetches 0 2 (.endProgram 0) = false ∧
    (smallStream fun st => { st with status := .ended }).issuer 0 = none := by
  refine ⟨fun i key h => ?_, by decide +kernel, by decide⟩
  have e : small.issuer 1 = none := by decide
  rw [State.issues] at h
  exact absurd (e.symm.trans h.1) (by simp)

theorem witness_bad_operands : let s := smallStream fun st => (st.setS 0 32).setS 1 3866624
    recordAt s 0 = false ∧ recordAt s 1 = false ∧ (s.inShare 1 0 (3866624 - 64) 64 = true) ∧
    issuesAt (at_ s 0x40 1 0 0xFFFF 0) (.route 0 0 0xFFFF) = true ∧
    issuesAt (at_ s 0x60 0 1 12 0) (.gclaim 0 1 12) = true ∧
    (s.core 0).units = [] ∧ s.desc (keyCtx 2) 5 = none ∧
    issuesAt (at_ s 0x10 2 5 31 0x1E) (.tloadv 0 31 5 2 (some 14)) = true ∧
    issuesAt (at_ s 0x12 0 5 4 0xFFFF) (.dma 0 5 4 0xFFFF) = true ∧
    issuesAt (at_ s 0x20 14 5 4 0x3FE) (.mma 0 7 5 4 14 14 true true true) = true ∧
    issuesAt (at_ s 0x21 0x8E 5 7 0) (.xspill 0 7 5 14 none true) = true ∧
    issuesAt (at_ s 0x23 0x2E 5 7 0x10) (.xout 0 7 5 14 (some 0) 2) = true ∧
    issuesAt (at_ s 0x32 0x10 5 4 3) (.softmax 0 5 4 3 0 1) = true ∧
    issuesAt (at_ s 0x33 0x1E 5 31 15) (.norm 0 true 5 31 14 15) = true := by decide +kernel

/-- VectorLoadsStoresAndAtomics: words of the four instructions, descriptors of each kind, the engine free, no register
pending, operands that name pairs and that do not, and ROUND 3. -/
theorem witness_vectors :
    issuesAt (at_ smallDescs 0x10 14 4 0 0x1E) (.tloadv 0 0 4 14 (some 14)) = true ∧
    issuesAt (at_ smallDescs 0x11 0x2E 4 0 0) (.tstorev 0 0 4 14 none 2) = true ∧
    issuesAt (at_ smallDescs 0x11 0x3E 4 0 0) (.tstorev 0 0 4 14 none 3) = true ∧
    issuesAt (at_ smallDescs 0x13 0 7 0 0) (.atomaddXa 0 0 7 0 none) = true ∧
    issuesAt (at_ smallDescs 0x13 0 8 0 0) (.atomaddXa 0 0 8 0 none) = true ∧
    issuesAt (at_ smallDescs 0x13 15 4 0 0) (.atomaddXa 0 0 4 15 none) = true ∧
    issuesAt (at_ smallDescs 0x14 0 4 0 0) (.atomaddF32 0 0 4 0 none) = true ∧
    issuesAt (at_ smallDescs 0x14 0 20 0 0) (.atomaddF32 0 0 20 0 none) = true ∧
    issuesAt (at_ smallDescs 0x14 0 2 0 0) (.atomaddF32 0 0 2 0 none) = true ∧
    (smallDescs.core 0).units.get none (unitKey (keyCtx 2) 10) = none ∧ (smallDescs.core 0).vectorPending 2 0 = false ∧
    (smallDescs.desc 1 4).map (fun d => (d.empty, d.format)) = some (false, 4) ∧
    (smallDescs.desc 1 7).map (fun d => (d.empty, d.format)) = some (false, 7) ∧
    (smallDescs.desc 1 8).map (fun d => (d.empty, d.format)) = some (false, 8) ∧
    (smallDescs.desc 1 2).map (fun d => (d.empty, d.format)) = some (false, 2) ∧
    (smallDescs.desc 1 20).map (fun d => (d.empty, d.format)) = some (true, 4) ∧
    formOk 14 (some 14) = true ∧ formOk 15 none = false ∧ formOk 0 (some 15) = false := by decide +kernel

/-- DmaCopies: copies of elements, of none and of unlike formats, an entry that is not there, and copies that have retired
and that have not. -/
theorem witness_dma :
    issuesAt (at_ smallDescs 0x12 0 4 4 0xFFFF) (.dma 0 4 4 0xFFFF) = true ∧
    issuesAt (at_ smallDescs 0x12 0 20 4 5) (.dma 0 20 4 5) = true ∧
    issuesAt (at_ smallDescs 0x12 0 4 2 5) (.dma 0 4 2 5) = true ∧
    issuesAt (at_ smallDescs 0x12 0 0 2 5) (.dma 0 0 2 5) = true ∧ smallDescs.desc 1 0 = none ∧
    (let x : InFlight := { stream := 2, ctx := 1 }
     let s := small.updCore 0 fun y => { y with dmas := [x, { x with linesLeft := 1 }] }
     (s.core 0).dmas = [x, { x with linesLeft := 1 }] ∧ s.retired x = true ∧ s.retired { x with linesLeft := 1 } = false) := by
  decide +kernel

/-- MatrixArrays: two BF16 operands with K = 1 and K = 0, anchors that are the tile's and that are not, one out of range, and
formats that do not pair. -/
theorem witness_matrix : let s := smallDescs.updStream 0 2 fun st => { st.setS 3 1 with tiles := [(0, { live := true, anchor := 5 })] }
    issuesAt (at_ s 0x20 14 2 2 0x082) (.mma 0 0 2 2 14 2 true false false) = true ∧
    issuesAt (at_ s 0x20 14 2 2 0x002) (.mma 0 0 2 2 14 2 false false false) = true ∧
    issuesAt (at_ s 0x20 14 2 2 0x012) (.mma 0 1 2 2 14 2 false false false) = true ∧
    issuesAt (at_ s 0x20 14 2 2 0x084) (.mma 0 0 2 2 14 4 true false false) = true ∧
    issuesAt (at_ s 0x20 14 2 4 0x082) (.mma 0 0 2 4 14 2 true false false) = true ∧
    (s.core 0).units.get none (unitKey (keyCtx 2) 0) = none ∧ pairFormats 2 2 = true ∧ pairFormats 0 1 = true ∧
    pairFormats 2 4 = false ∧ (let st := (s.core 0).stream 2
     (st.s (2 + 1)).toNat % 2 ^ 32 = 1 ∧ (st.s (4 + 1)).toNat % 2 ^ 32 = 0 ∧
     mmaAnchor 2 (BitVec.ofNat 16 ((st.s (2 + 1)).toNat / 2 ^ 32)).toInt = some 0 ∧ (st.tile 0).anchor ≠ 0 ∧
     (st.tile 1).anchor = -64) ∧
    mmaAnchor 2 (-64) = some (-64) ∧ mmaAnchor 2 1000 = none ∧ mmaAnchor 0 0 = some Config.anchorNative := by decide +kernel

theorem witness_tiles :
    issuesAt (at_ smallDescs 0x21 0x80 9 0 0) (.xspill 0 0 9 0 none true) = true ∧
    issuesAt (at_ smallDescs 0x21 0 7 0 0) (.xspill 0 0 7 0 none false) = true ∧
    issuesAt (at_ smallDescs 0x21 0 2 0 0) (.xspill 0 0 2 0 none false) = true ∧
    issuesAt (at_ smallDescs 0x22 0 9 0 0) (.xfill 0 0 9 0 none) = true ∧
    issuesAt (at_ smallDescs 0x22 0 2 0 0) (.xfill 0 0 2 0 none) = true ∧
    issuesAt (at_ smallDescs 0x23 0x10 2 0 0) (.xout 0 0 2 0 none 1) = true ∧
    issuesAt (at_ smallDescs 0x23 0x30 2 0 0) (.xout 0 0 2 0 none 3) = true ∧
    (smallDescs.desc 1 9).map (fun d => (d.isXa, d.anchor, d.empty)) = some (true, 0, false) ∧
    (((smallDescs.updStream 0 2 fun st => { st with tiles := [(0, { anchor := 0 })] }).core 0).stream 2 |>.tile 0).anchor = 0 ∧
    (((smallDescs.core 0).stream 2).tile 0).anchor ≠ 0 ∧ (smallDescs.desc 1 7).map (·.isXa) = some true ∧
    (smallDescs.desc 1 2).map (fun d => (d.isXa, d.empty)) = some (false, false) := by decide +kernel

/-- LaneOperations: words of the three instructions, valid and invalid conversions, used and empty glyph slots, and a key
with stream 1 and with stream 0. -/
theorem witness_lanes : let s := smallStream fun st => st.setS 4 1
    issuesAt (at_ s 0x30 0 0 1 2) (.vop 0 .fma 0 1 2) = true ∧ issuesAt (at_ s 0x30 0 0 1 2) (.vop 0 (.cvt 7) 0 1 2) = true ∧
    issuesAt (at_ s 0x31 10 0 1 2) (.sfu 0 10 0 1 2) = true ∧ issuesAt (at_ s 0x31 12 0 1 2) (.sfu 0 12 0 1 2) = true ∧
    issuesAt (at_ s 0x34 0 0 14 4) (.stipple 0 0 14 4) = true ∧ issuesAt (at_ s 0x34 0 0 14 5) (.stipple 0 0 14 5) = true ∧
    (s.core 0).units.get none (unitKey (keyCtx 2) 8) = none ∧ (s.core 0).units.get none (unitKey (keyCtx 2) 9) = none ∧
    (∀ v ∈ vopSources .fma 0 1 2, (s.core 0).vectorPending 2 v = false) ∧ (s.core 0).vectorPending 2 1 = false ∧
    (s.core 0).vectorPending 2 2 = false ∧ vopValid (.cvt 6) = true ∧ vopValid (.cvt 7) = false ∧
    s.slotUsable 10 = true ∧ s.slotUsable 12 = false ∧ s.slotUsable 16 = false ∧
    (let st := (s.core 0).stream 2
     (st.s 4).toNat % 2 ^ 32 ≠ 0 ∧ (st.s 5).toNat % 2 ^ 32 = 0) := by decide +kernel

/-- RowOperations: a row of 32 and an empty one, a scratch that holds it, one that does not and one outside SRAM, ROUND 3,
and anchors inside and outside their limits. -/
theorem witness_rows : let u := smallDescs.updCtx 1 fun x => { x with descs := x.descs.put 21 (some { format := 4, space := 2 }) }
    let s := u.updStream 0 2 fun st => st.setS 7 0x7FFF00000000
    let st := (s.core 0).stream 2
    issuesAt (at_ s 0x32 0x20 2 4 4) (.softmax 0 2 4 4 0 2) = true ∧ issuesAt (at_ s 0x32 0x30 2 4 4) (.softmax 0 2 4 4 0 3) = true ∧
    issuesAt (at_ s 0x32 0 20 4 4) (.softmax 0 20 4 4 0 0) = true ∧ issuesAt (at_ s 0x32 0 2 4 20) (.softmax 0 2 4 20 0 0) = true ∧
    issuesAt (at_ s 0x32 0 2 4 21) (.softmax 0 2 4 21 0 0) = true ∧
    issuesAt (at_ s 0x33 0x10 2 0 7) (.norm 0 true 2 0 0 7) = true ∧ issuesAt (at_ s 0x33 0 2 0 6) (.norm 0 false 2 0 0 6) = true ∧
    issuesAt (at_ s 0x33 0 20 0 6) (.norm 0 false 20 0 0 6) = true ∧ issuesAt (at_ s 0x33 0 2 0 7) (.norm 0 false 2 0 0 7) = true ∧
    (s.core 0).units.get none (unitKey (keyCtx 2) 9) = none ∧
    (s.desc 1 2).map (fun d => (st.rowAt 0 d).length) = some 32 ∧ (s.desc 1 20).map (fun d => st.rowAt 0 d) = some [] ∧
    32 ≤ Config.softmaxMaxRow ∧ (s.desc 1 4).map (fun d => (d.space, d.empty, d.count * d.size)) = some (0, false, 4096) ∧
    (s.desc 1 20).map (fun d => d.count * d.size) = some 0 ∧ (s.desc 1 21).map (·.space) = some 2 ∧
    (Config.anchorMin ≤ 0 ∧ 0 ≤ Config.anchorMax) ∧ Config.anchorMax < (BitVec.ofNat 16 ((st.s 7).toNat / 2 ^ 32)).toInt := by decide +kernel

/-- RoutesIssueAndComplete: a route record that keeps its rules and fits, one that breaks them (at 192), one with BALANCE for
an agreed launch, and one whose staging share is too small. -/
theorem witness_route : let s := at_ quilled 0x40 1 1 7 0
    issuesAt s (.route 0 1 7) = true ∧ recordAt s 1 = true ∧ s.routeOk 1 (parseRoute (s.recordIn 0 2 1)) = true ∧
    (parseRoute (s.recordIn 0 2 1)).balance = false ∧ (s.ctx 1).quill.balanced 0 = false ∧
    (s.ctx 1).quill.stateUse + (parseRoute (s.recordIn 0 2 1)).stage + 0 ≤ s.shareSize 1 3 ∧
    issuesAt (at_ quilled 0x40 1 2 7 0) (.route 0 2 7) = true ∧ recordAt s 2 = true ∧
    s.routeOk 1 (parseRoute (s.recordIn 0 2 2)) = false ∧
    (let u := { s with cfg := [(ekey 0xC101 2, DVal.num 4194304)] }
     issuesAt u (.route 0 1 7) = true ∧
     ¬ (u.ctx 1).quill.stateUse + (parseRoute (u.recordIn 0 2 1)).stage + 0 ≤ u.shareSize 1 3) := by decide +kernel

theorem witness_route_balanced :
    let s := at_ ((smallSram quilled 64 (routeBytes 1 true)).updStream 0 2 fun st => { st with agreed := true, launchTick := 999000 })
      0x40 1 1 0xFFFF 0
    let r := parseRoute (s.recordIn 0 2 1)
    issuesAt s (.route 0 1 0xFFFF) = true ∧ s.routeOk 1 r = true ∧ r.balance = true ∧
    s.balRouteOk 1 ((s.core 0).stream 2) r = true ∧
    (s.ctx 1).quill.stateUse + r.stage + (8 * r.experts + 64) ≤ s.shareSize 1 3 ∧
    (s.updStream 0 2 fun st => { st with agreed := false }).balRouteOk 1 { (s.core 0).stream 2 with agreed := false } r = false := by
  decide +kernel

/-- A slot of context 1 on the Quill's wheel, in which a ROUTE that is not held, and one that is, stand first. -/
theorem witness_route_done : let op : RouteOp := { image := routeBytes 1 false }
    let s := (quilled.updCtx 1 fun x => { x with quill := { x.quill with routes := [op] } }).updTick fun t => { t with now := 0 }
    (s.ctx 1).quill.routes = op :: [] ∧ op.held = false ∧ s.quillRuns 1 = true ∧ quilled.quillRuns 1 = false ∧
    (parseRoute op.image).k ≠ 0 ∧ (parseRoute op.image).expertOut = 0xFFFF ∧ (parseRoute op.image).gateOut = 0xFFFF ∧
    (parseRoute (routeBytes 0 false)).k = 0 := by decide +kernel

/-- BalancingRows: a record for BAL_RESET that keeps its rules and one that does not; a row that waits to be written in
SRAM and in HBM, and a layer with no state. -/
theorem witness_bal_row : let b : BalState := { rowWritten := false, rowValues := [0, 0], biasDesc := 0 }
    let s := quilled.updCtx 1 fun x => { x with quill := { x.quill with bal := [(0, b)] } }
    issuesAt (at_ quilled 0x40 2 1 7 0) (.balReset 0 1 7) = true ∧ recordAt quilled 1 = true ∧
    quilled.routeOk 1 (parseRoute (quilled.recordIn 0 2 1)) = true ∧
    issuesAt (at_ quilled 0x40 2 2 7 0) (.balReset 0 2 7) = true ∧ recordAt quilled 2 = true ∧
    quilled.routeOk 1 (parseRoute (quilled.recordIn 0 2 2)) = false ∧
    (small.ctx 1).quill.balanced 0 = false ∧ (s.ctx 1).quill.balanced 0 = true ∧ (s.ctx 1).quill.balOf 0 = b ∧
    b.rowWritten = false ∧ (s.desc 1 0).map (·.space) = some 0 ∧ s.hbm.xfers = [] ∧
    (let d : Desc := { format := 4, rank := 2, space := 1, extents := [2, 2, 1, 1, 1, 1] }
     let u := s.updCtx 1 fun x => { x with descs := [(0, some d)] }
     u.desc 1 0 = some d ∧ u.ownsShares 1 = true ∧ 0 < b.rowValues.length ∧ d.inBounds [0, b.row] = true) := by decide +kernel

/-- CountExchange: a movement record that keeps its rules with room in the staging share and without; its exchange, whose
one contribution agrees; and the placement that follows. -/
theorem witness_count : let s := at_ quilled 0x40 0x10 0 7 0
    issuesAt s (.count 0 0 7) = true ∧ moveAt s 0 = true ∧ moveKey 0 (s.offsetIn 0 2 0) = 0 ∧
    (s.updMove 1 0 fun x => { x with stage := 0 }).stageFits 1 ((24 + 0) * 2 + 4 * 1) = true ∧
    (let u := { s with cfg := [(ekey 0xC101 2, DVal.num 4194304)] }
     issuesAt u (.count 0 0 7) = true ∧ moveAt u 0 = true ∧
     (u.updMove 1 0 fun x => { x with stage := 0 }).stageFits 1 ((24 + 0) * 2 + 4 * 1) = false) ∧
    (s.group 5).state = .active := by decide +kernel

set_option maxRecDepth 10000 in
theorem witness_exchange : let s := (moving .exchanging id).updGroup 5 fun g =>
      { g with steps := [{ number := 0, ctx := 1, exchange := true, part := some part, phase := .running }] }
    ∃ x, s.moveWhere 1 (fun x => x.phase == .exchanging && s.wholeExchange x [part]) = some x ∧
      badExchange [part] = false ∧ badExchange [part, part] = true ∧ badExchange [part, { part with tokenBase := 1, check := 8 }] = true ∧
      (parseMove x.image).policy = 0 ∧ (parseMove x.image).queues = 1 ∧
      (∃ d, s.desc 1 (s.queueEntry 1 0 (parseMove x.image) 0).queue = some d ∧
        capacityOf (parseMove x.image).cf ([part].map (·.tokens)).sum 1 2 ≤ d.ext 1) ∧ s.stageFits 1 (8 * 1 * 1) = true ∧
      s.moveWhere 1 (fun x => x.phase == .exchanging && s.wholeExchange x [part, part]) = none :=
  ⟨_, rfl, by decide +kernel, by decide +kernel, by decide +kernel, by decide +kernel, by decide +kernel,
    ⟨_, rfl, by decide +kernel⟩, by decide +kernel, by decide +kernel⟩

theorem witness_placing : let s := (moving .placing id).updTick fun t => { t with now := 0 }
    ∃ x, s.moveWhere 1 (fun x => x.phase == .placing && ((parseMove x.image).policy != 1 || s.wholeExchange x [])) = some x ∧
      s.quillRuns 1 = true ∧ (parseMove x.image).policy = 0 ∧ (moving .placing id).quillRuns 1 = false :=
  ⟨_, rfl, by decide +kernel, by decide +kernel, by decide +kernel⟩

/-- ScatterAndReturn: records whose COUNT is not complete and is, in and outside the Quill's slots, and rows to scatter and to
return still out and all gone. -/
theorem witness_scatter : let s := fun p (code : Nat) => at_ (moving p id) 0x40 code 0 7 0
    let slot := fun (s : State) => s.updTick fun t => { t with now := 0 }
    moveAt (s .placing 0x11) 0 = true ∧ ((s .placing 0x11).move (keyCtx 2) (moveKey 0 ((s .placing 0x11).offsetIn 0 2 0))).phase ≠ .complete ∧
    issuesAt (s .placing 0x11) (.scatter 0 0 7) = true ∧ issuesAt (s .placing 0x12) (.ret 0 0 7) = true ∧
    issuesAt (s .placing 0x13) (.combine 0 0 7) = true ∧ issuesAt (s .placing 0x14) (.exitTest 0 0 7) = true ∧
    ((s .complete 0x11).move 1 (moveKey 0 ((s .complete 0x11).offsetIn 0 2 0))).phase = .complete ∧
    issuesAt (s .complete 0x11) (.scatter 0 0 7) = true ∧ issuesAt (s .complete 0x12) (.ret 0 0 7) = true ∧
    moveAt (s .complete 0x11) 0 = true ∧ (s .complete 0x11).quillRuns 1 = false ∧
    issuesAt (slot (s .complete 0x11)) (.scatter 0 0 7) = true ∧ (slot (s .complete 0x11)).quillRuns 1 = true ∧
    issuesAt (slot (s .complete 0x12)) (.ret 0 0 7) = true ∧ moveAt (slot (s .complete 0x12)) 0 = true ∧
    ((s .complete 0x11).ctx 1).quill.todo = [] := by decide +kernel

theorem witness_scatter_done : let s := moving .complete fun x => { x with scatterOut := some 0, returnOut := some 0 }
    let u := moving .complete fun x => { x with scatterOut := some 1, returnOut := some 1 }
    (s.moveWhere 1 (fun x => x.scatterOut == some 0 && !s.flitsWait 1)).isSome = true ∧
    (s.moveWhere 1 (fun x => x.returnOut == some 0 && !s.flitsWait 1)).isSome = true ∧
    u.moveWhere 1 (fun x => x.scatterOut == some 0 && !u.flitsWait 1) = none ∧
    u.moveWhere 1 (fun x => x.returnOut == some 0 && !u.flitsWait 1) = none := by decide +kernel

/-- CombineTokens: a COMBINE that issues; a token that is ready, with a row in SRAM of one element, and one that is not; and
a combining whose every token has its row. -/
theorem witness_combine : let s := (moving .complete fun x => { x with combining := true, expectContrib := [(0, 1)], landings := [(0, 1)], combineUid := 7 }).updTick fun t => { t with now := 0 }
    let u := moving .complete fun x => { x with combining := true, combined := [0], summed := [0], expectContrib := [(0, 1)] }
    let m := parseMove moveBytes
    issuesAt (at_ (moving .complete id) 0x40 0x13 0 7 0) (.combine 0 0 7) = true ∧ moveAt (at_ (moving .complete id) 0x40 0x13 0 7 0) 0 = true ∧
    (s.moveWhere 1 (s.tokenReady 1 0)).isSome = true ∧ s.quillRuns 1 = true ∧ u.moveWhere 1 (u.tokenReady 1 0) = none ∧
    m.base = 0xFFFF ∧ (s.desc 1 m.ret).map (·.space) = some 0 ∧
    (let d : Desc := { format := 2, rank := 2 }
     d.space = 0 ∧ d.ext 0 = 1 ∧ d.inBounds [0, 0] = true ∧ ((s.updCtx 1 fun x => { x with descs := x.descs.put m.out (some d) }).moveWhere 1
       (s.tokenReady 1 0)).isSome = true) ∧ s.ownsShares 1 = true ∧
    s.hbm.xfers = [] ∧ (u.moveWhere 1 (u.combineOver 1)).isSome = true ∧ s.moveWhere 1 (s.combineOver 1) = none := by
  decide +kernel

/-- QueueReleaseAndExit: queues that may be released and that may not; EXITs that keep their rules and break them, in and
outside the Quill's slots, with a token that passes the test and with none. -/
theorem witness_queue_exit : (moving .complete id).accepting 1 = true ∧ ((moving .complete id).moveWhere 1 releases).isSome = true ∧
    (moving .complete fun x => { x with expectRows := [(0, 1)] }).moveWhere 1 releases = none ∧
    (let s := at_ (moving .complete id) 0x40 0x14 0 7 0
     let slot := s.updTick fun t => { t with now := 0 }
     let m := parseMove moveBytes
     let r := parseRoute (s.routeAt 1 0 m)
     issuesAt s (.exitTest 0 0 7) = true ∧ moveAt s 0 = true ∧ s.exitOk 1 m r = true ∧ r.tokens = 1 ∧ s.exitedTok 1 0 m 0 = false ∧
     (let u := s.updCtx 1 fun x => { x with descs := x.descs.del 9 }
      issuesAt u (.exitTest 0 0 7) = true ∧ moveAt u 0 = true ∧ u.exitOk 1 m r = false) ∧
     s.quillRuns 1 = false ∧ issuesAt slot (.exitTest 0 0 7) = true ∧ slot.quillRuns 1 = true ∧ (slot.ctx 1).quill.todo = [] ∧
     s.exitTestHolds 1 0 m 0 = false ∧ (smallSram s 0x2100 (toLe 4 0x7F800000)).exitTestHolds 1 0 m 0 = true ∧
     (let u := smallSram s 0 (moveBytes.take 34 ++ toLe 2 11 ++ moveBytes.drop 36)
      issuesAt u (.exitTest 0 0 7) = true ∧ moveAt u 0 = true ∧
      (u.desc 1 11).map (fun d => (d.space, d.inBounds [0])) = some (0, true)) ∧
     (let d := { ((s.desc 1 m.out).getD {}) with space := 2 }
      let u := slot.updCtx 1 fun x => { x with descs := (x.descs.put m.out (some d)).put m.final (some d) }
      u.exitOk 1 m r = true ∧ d.inBounds [0, 0] = true ∧ u.ownsShares 1 = true)) := by decide +kernel

/-- UnitsAndTrackers: busy units, an operation that has retired and one that has not, and a waiting operation with one line
and with two left, with and without a free tracker. -/
theorem witness_units : let x : InFlight := { stream := 2, ctx := 1, uid := 7, effects := [.vreg 3 []] }
    let s := smallDescs.updCore 0 fun y => { y with units := [(unitKey 1 8, some x), (unitKey 1 10, some { x with linesLeft := 1 })] }
    issuesAt (at_ s 0x30 0 0 1 2) (.vop 0 .add 0 1 2) = true ∧ issuesAt (at_ s 0x10 0 4 0 0) (.tloadv 0 0 4 0 none) = true ∧
    issuesAt (at_ s 0x11 0 4 3 0) (.tstorev 0 3 4 0 none 0) = true ∧ issuesAt (at_ s 0x12 0 4 4 0) (.dma 0 4 4 0) = true ∧
    ((s.core 0).units.get none (unitKey (keyCtx 2) 8)).isSome = true ∧ ((s.core 0).units.get none (unitKey (keyCtx 2) 10)).isSome = true ∧
    (s.core 0).cur = some 2 ∧ (s.core 0).vectorPending 2 3 = true ∧ s.retired x = true ∧ s.retired { x with linesLeft := 1 } = false ∧
    (s.core 0).dmas = [] ∧ x.held = 0 ∧ s.accepting (keyCtx x.stream) = true ∧ ((s.core 0).stream x.stream).uid = x.uid ∧
    (smallDescs.core 0).units.get none (unitKey (keyCtx 2) 8) = none := by decide +kernel

theorem witness_not_held : ∀ i, ((small.core 0).stream 2).status ≠ .held i := by
  intro i
  have e : ((small.core 0).stream 2).status = .running := by decide
  rw [e]
  exact StreamStatus.noConfusion

theorem witness_trackers : let x : InFlight := { stream := 2, ctx := 1, uid := 7, linesLeft := 2 }
    let s := fun (n held : Nat) (t : SMap Nat) => (small.updWheel 0 fun w => { w with table := [1] }).updCore 0 fun y =>
      { y with units := [(unitKey 1 10, some { x with linesLeft := n, held := held })], trackers := t
               streams := [(2, { status := .waitTracker (unitKey 1 10), uid := 7 })] }
    let u := s 2 0 [(1, 15)]
    u.freeTrackers 0 (keyCtx 2) = 1 ∧ (u.core 0).cur = some 2 ∧ (u.ctx 1).life.state = .live ∧
    (u.core 0).lineWaiter 1 = some (unitKey 1 10) ∧ (u.core 0).units.get none (unitKey 1 10) = some x ∧ (u.core 0).blocked 2 = false ∧
    u.safety.stopped = false ∧ (u.core 0).dmas = [] ∧ 1 < x.linesLeft ∧ x.xfers = [] ∧
    ((s 1 0 [(1, 15)]).core 0).lineWaiter 1 = some (unitKey 1 10) ∧
    (((s 1 0 []).core 0).stream 2).status = .waitTracker (unitKey 1 10) ∧
    (s 2 1 [(1, 16)]).freeTrackers 0 (keyCtx 2) = 0 ∧ ((s 2 0 [(1, 16)]).core 0).lineWaiter 1 = some (unitKey 1 10) := by decide +kernel

/-- CollectiveSteps: a good record with room and without, one that breaks a rule, one with another generation, and an
ABORTED and a REFORMING group. -/
theorem witness_coll : let at1 := fun (st : GroupState) => at_ (grouped st id) 0x50 0 1 7 0
    let s := at1 .active
    let v := s.collView (s.recordIn 0 2 1) false
    issuesAt s (.coll 0 1 7) = true ∧ recordAt s 1 = true ∧ s.collOk 1 v = true ∧ 0 < v.alloc ∧ v.alloc ≤ s.shareSize 1 2 ∧
    (s.group v.group).state = .active ∧ v.expectGen = 0 ∧ s.allocFits 1 v = true ∧
    (s.updCtx 1 fun x => { x with resAlloc := 1048576 }).allocFits 1 v = false ∧
    issuesAt (at_ s 0x51 0 1 7 0) (.collF32 0 1 7) = true ∧ s.collOk 1 (s.collView (s.recordIn 0 2 1) true) = true ∧
    issuesAt (at_ s 0x50 0 2 7 0) (.coll 0 2 7) = true ∧ recordAt s 2 = true ∧ s.collOk 1 (s.collView (s.recordIn 0 2 2) false) = false ∧
    (let u := smallSram s 0 ((collBytes 0).take 4 ++ toLe 2 5 ++ [0, 0] ++ toLe 4 3 ++ (collBytes 0).drop 12)
     let w := u.collView (u.recordIn 0 2 1) false
     issuesAt u (.coll 0 1 7) = true ∧ u.collOk 1 w = true ∧ w.expectGen = 3 ∧ w.expectGen ≠ (u.group w.group).generation.toNat) ∧
    issuesAt (at1 .aborted) (.coll 0 1 7) = true ∧ ((at1 .aborted).group v.group).state = .aborted ∧ (at1 .aborted).collOk 1 v = true ∧
    issuesAt (at1 .reforming) (.coll 0 1 7) = true ∧ ((at1 .reforming).group v.group).state = .reforming ∧
    (at1 .reforming).collOk 1 v = true := by decide +kernel

theorem witness_coll_alloc : let s := grouped .active fun g => { g with steps := [collStep5] }
    s.collStep 5 3 = some collStep5 ∧ collStep5.exchange = false ∧ collStep5.phase = .waiting ∧
    s.allocFits 1 (s.collView collStep5.image collStep5.f32) = true ∧ (s.group 5).state = .active ∧
    (s.collView collStep5.image collStep5.f32).group = 5 ∧ (s.desc 1 (s.collView collStep5.image collStep5.f32).src).isSome = true ∧
    (s.updCtx 1 fun x => { x with resAlloc := 1048576 }).allocFits 1 (s.collView collStep5.image collStep5.f32) = false ∧
    ({ collStep5 with phase := .running } : CollStep).phase ≠ .waiting := by decide +kernel

theorem witness_coll_ok : let t : CollStep := { collStep5 with phase := .running, ownIn := true, image := (collBytes 0).take 20 ++ List.replicate 44 0,
                                                                  up := [2 ^ 32, 2 ^ 32 + 1], down := [2 ^ 32, 2 ^ 32 + 1] }
    let s := grouped .active fun g => { g with steps := [t] }
    let u := grouped .active fun g => { g with steps := [t], detection := some (1, 999999, 0) }
    s.collStep 5 3 = some t ∧ s.detectedBefore 5 = false ∧ s.flitsWait 1 = false ∧ t.exchange = false ∧ t.localDone (s.collView t.image t.f32) = true ∧
    u.detectedBefore 5 = true := by decide +kernel

/-- GroupAborts: a step at its TIMEOUT and one tick before it, detections before and after one held, and the ticks of the
three stages of an abort. -/
theorem witness_aborts : let s := grouped .active fun g => { g with steps := [collStep5, { collStep5 with number := 4, issueTick := 995001 }] }
    (s.group 5).fixed = false ∧ (s.group 5).timeout = 5000 ∧ collStep5.open_ = true ∧
    collStep5.issueTick.toNat + (s.group 5).timeout ≤ s.now ∧ (s.group 5).detection = none ∧
    s.now < (995001 : Word).toNat + (s.group 5).timeout ∧ (s.collStep 5 4).isSome = true ∧
    detectBefore (1, 7, 0) (2, 8, 0) = true ∧ detectBefore (1, 8, 0) (2, 8, 0) = false ∧
    detectBefore (1, 8, 0) (2, 8, 1) = true := by decide

theorem witness_abort_stages : let s := grouped .active fun g => { g with detection := some (1, 983616, 0) }
    let u := grouped .active fun g => { g with fixed := true, abortTick := 967232, steps := [collStep5] }
    let v := grouped .reforming fun g => { g with abortTick := 934464 }
    (983616 : Word).toNat + 16384 ≤ s.now ∧ s.now < (983617 : Word).toNat + 16384 ∧ (s.group 5).fixed = false ∧
    (s.group 5).detection = some (1, 983616, 0) ∧
    (u.group 5).fixed = true ∧ (u.group 5).abortTick.toNat + 32768 ≤ u.now ∧ (u.group 5).steps = [collStep5] ∧
    collStep5.open_ = true ∧ (v.group 5).state = .reforming ∧ (v.group 5).abortTick.toNat + 65536 ≤ v.now ∧
    v.now < (934465 : Word).toNat + 65536 ∧ v.topo.selfAddr ∈ ([1, 2] : List (BitVec 16)) ∧
    v.topo.selfAddr ∈ (v.group 5).members ∧ (∀ t ∈ (v.group 5).steps, t.open_ = false) := by decide

/-- GroupedWork: a ready roster with a claimable tile, with none left, and one that is not ready; a header with no roster
whose table is walked, one whose core is outside the mask, and one that is broken; and a base register above S12. -/
theorem witness_grouped : let t : RTile := {}
    let r : Roster := { ready := true, mask := 1, releaseSems := [5, 6], releasedEntries := [0], tiles := [t] }
    let s := at_ (rostered r) 0x60 0 2 12 0
    issuesAt s (.gclaim 0 2 12) = true ∧ issuesAt (at_ s 0x60 0 2 13 0) (.gclaim 0 2 13) = true ∧ recordAt s 2 = true ∧
    (12 : SReg).val ≤ 12 ∧ 12 < (13 : SReg).val ∧ s.roster (keyCtx 2) (s.offsetIn 0 2 2) = some r ∧ bit r.mask.toNat 0 = true ∧
    (∀ j < 0, s.claimer 1 64 j = none) ∧ r.claimable 0 = some t ∧
    (let e : Roster := { r with tiles := [] }
     issuesAt (at_ (rostered e) 0x60 0 2 12 0) (.gclaim 0 2 12) = true ∧ e.claimable 0 = none ∧ e.doneFor 0 = true) ∧
    (let e : Roster := { r with ready := false, mask := 2 }
     issuesAt (at_ (rostered e) 0x60 0 2 12 0) (.gclaim 0 2 12) = true ∧ e.ready = false ∧ bit e.mask.toNat 0 = false) ∧
    (let u := s.updStream 0 2 fun st => { st with status := .waitClaim 64 3 }
     u.claimer (keyCtx 2) 64 0 = some (2, 3) ∧ u.roster (keyCtx 2) 64 = some r) := by decide +kernel

/-- The small state with the header (R358) of a table of no entries at 64, and a GCLAIM that names it. -/
def walked (mask capacity : Nat) : State := at_ (smallSram (small.updStream 0 2 fun st => st.setS 2 64) 64
  (toLe 4 256 ++ toLe 2 0 ++ toLe 2 0xFFFF ++ toLe 4 mask ++ toLe 4 512 ++ toLe 4 capacity ++ List.replicate 44 0)) 0x60 0 2 12 0

theorem witness_walk : let head := fun (s : State) => parseHead (s.recordIn 0 2 2)
    let at_walk := fun (s : State) => (s.walk 1 0 7 64 (head s)).isSome
    issuesAt (walked 1 4) (.gclaim 0 2 12) = true ∧ recordAt (walked 1 4) 2 = true ∧ (walked 1 4).offsetIn 0 2 2 = 64 ∧
    (walked 1 4).roster 1 64 = none ∧ bit (head (walked 1 4)).mask 0 = true ∧ ((walked 1 4).ctx 1).rosters.length < 8 ∧
    at_walk (walked 1 4) = true ∧ issuesAt (walked 2 4) (.gclaim 0 2 12) = true ∧ bit (head (walked 2 4)).mask 0 = false ∧
    issuesAt (walked 1 0) (.gclaim 0 2 12) = true ∧ at_walk (walked 1 0) = false := by decide +kernel

theorem witness_roster : let r : Roster := { releaseSems := [5, 6], releasedEntries := [] }
    let s := (rostered r).updTick fun t => { t with now := 0 }
    s.roster 1 64 = some r ∧ r.ready = false ∧ s.quillRuns 1 = true ∧ (rostered r).quillRuns 1 = false ∧
    r.releaseSems[0]? = some 5 ∧ r.releaseSems[1]? = some 6 ∧ (s.ctx 1).life.state = .live ∧
    r.releasedEntries.contains 0 = false ∧ 0 < s.sem 1 5 ∧ s.sem 1 6 = 0 := by decide

/-- DescriptorsTaken: a ring with a descriptor and the last free completion slot, one without a slot, and descriptors that
are good, bad and of no core. -/
theorem witness_descriptors : (posted.ring 1 0).enable = true ∧ (posted.ring 1 0).head ≠ (posted.ring 1 0).tail ∧ (posted.ring 1 0).mayTake posted.tick.now = true ∧
    posted.accepting 1 = true ∧ posted.slotFree 1 0 = true ∧ posted.pcie.linkUp = true ∧ posted.safety.stopped = false ∧
    ¬(posted.pair.role = 2 ∧ posted.pair.state = 1) ∧
    (posted.updRing 1 0 fun y => { y with cqTail := 31 }).slotFree 1 0 = false ∧
    posted.badDescriptor (descriptor 1 1 0) = false ∧ posted.badDescriptor (descriptor 1 1 1) = true ∧
    posted.badDescriptor (descriptor 9 1 0) = true ∧ posted.badDescriptor (descriptor 8 0 0) = false ∧
    (parseCmd (descriptor 1 0 0) 0 0 0).mask = 0 ∧ (parseCmd (descriptor 4 1 0) 0 0 0).type = 4 ∧
    posted.urgentOk 1 (parseCmd (descriptor 1 1 0) 0 0 0) = true ∧
    posted.urgentOk 1 { parseCmd (descriptor 1 1 0) 0 0 0 with urgent := true } = false ∧
    posted.emptyDma 1 (parseCmd (descriptor 4 1 0) 0 0 0) = false ∧
    ({ smallDescs with pcie := posted.pcie } : State).emptyDma 1 { type := 4, args := [20, 4] } = true ∧
    posted.mixedDma 1 (parseCmd (descriptor 1 1 0) 0 0 0) = false ∧ smallDescs.mixedDma 1 { type := 4, args := [2, 4] } = true ∧
    (posted.ctx 1).cmds = [] ∧ (∀ y ∈ ((smallCmd { uid := 4, cmdId := 9, acceptTick := 1000000 }).ctx 1).cmds,
      y.cmdId.toNat = ({ type := 6, args := [9] } : Cmd).arg 0 ∧ y.acceptTick.toNat ≤ small.now) := by decide

/-- CommandsStart: a SIGNAL, DMAs and LAUNCHes whose tags are covered, above the balance, and beyond every balance. -/
theorem witness_command_start : let x : Cmd := { uid := 4, type := 4, tag := 10 }
    (charged x).cmd 1 4 = some x ∧ x.phase = .accepted ∧ x.type ≠ 6 ∧ ((charged x).ctx 1).life.state = .live ∧
    (charged x).ringReady 1 x = true ∧ (∀ y ∈ ((charged x).ctx 1).cmds, y.phase = .deferred → y.before x = false) ∧
    (charged x).urgentOk 1 x = true ∧ x.tag ≤ (charged x).balanceCap 1 ∧ x.tag ≤ ((charged x).ctx 1).energy.balance ∧
    (11 : Int) ≤ (charged x).balanceCap 1 ∧ ((charged x).ctx 1).energy.balance < 11 ∧
    (small.balanceCap 1 : Int) < x.tag ∧ ({ x with type := 5 } : Cmd).type ≠ 1 := by decide

theorem witness_launch_ticks : let x : Cmd := { uid := 4, type := 1, launchTick := 1000008, agreed := true }
    (smallCmd x).now + 8 ≤ x.launchTick.toNat ∧ (1000007 : Word).toNat < (smallCmd x).now + 8 ∧
    (1000000 : Word).toNat ≤ (smallCmd x).now ∧ (smallCmd x).tick.agrees = true ∧
    ({ (smallCmd x).tick with state := 4 } : TickUnit).agrees = false ∧ x.launchTick ≠ 0 := by decide

/-- LaunchesRun: armed launches without a tick, at their tick and before it, on a free stream and on one in use. -/
theorem witness_launch : let x : Cmd := { uid := 4, type := 1, phase := .armed, mask := 2 }
    (smallCmd x).cmd 1 4 = some x ∧ ((smallCmd x).ctx 1).life.state = .live ∧ x.cores = [1] ∧
    (smallCmd x).launchTurn 1 x = true ∧ (smallCmd { x with launchTick := 1000000 }).armedBefore 1 { x with launchTick := 1000000 } = false ∧
    (∀ k ∈ x.cores, (((smallCmd x).core k).stream (x.key 1)).free = true) ∧ x.agreed = false ∧ x.launchTick = 0 ∧
    (1000000 : Word).toNat ≤ (smallCmd x).now ∧ (smallCmd x).now < (1000001 : Word).toNat ∧
    (∃ k ∈ ({ x with mask := 1 } : Cmd).cores, (((smallCmd x).core k).stream (x.key 1)).free = false) ∧
    (smallCmd x).tick.agrees = true ∧ ({ small.tick with state := 4 } : TickUnit).settle.agrees = false ∧
    (let a : Cmd := { x with uid := 3, launchTick := 1000000, armOrder := 1 }
     let b : Cmd := { x with launchTick := 1000000, armOrder := 2 }
     (small.updCtx 1 fun c => { c with cmds := [a, b] }).armedBefore 1 b = true) := by decide

/-- CommandEffects: each type, with its good and bad operands. -/
theorem witness_effects : let c : Nat → List (BitVec 32) → Cmd := fun t a => { uid := 4, type := t, phase := .started, args := a }
    let s := smallCmd (c 2 [0])
    s.cmd 1 4 = some (c 2 [0]) ∧ (s.ctx 1).life.state = .live ∧ s.doomed 1 4 = false ∧ s.inShare 1 0 (s.shareSize 1 0 - 64) 64 = true ∧ s.inShare 1 0 (s.shareSize 1 0 - 63) 64 = false ∧
    s.descReason 1 (parseDesc (s.sramShare 1 (s.cmdCore (c 2 [0])).val 0 64)) ≠ 0 ∧
    (smallSram s 0 (toLe 4 1 ++ [4, 1, 0, 0] ++ toLe 6 0 ++ toLe 2 0xFFFF ++ toLe 6 0x1000 ++ (List.replicate 6 (toLe 3 1)).flatten ++
      List.replicate 24 0)).descReason 1 (parseDesc (toLe 4 1 ++ [4, 1, 0, 0] ++ toLe 6 0 ++ toLe 2 0xFFFF ++ toLe 6 0x1000 ++
        (List.replicate 6 (toLe 3 1)).flatten ++ List.replicate 24 0)) = 0 ∧
    s.desc 1 ((c 3 [0]).arg 0) = none ∧ smallDescs.desc 1 ((c 3 [4]).arg 0) ≠ none ∧
    16384 ≤ (c 5 [16384, 1]).arg 0 ∧ (c 5 [16383, 1]).arg 0 < 16384 ∧
    s.sem 1 16383 + (c 5 [16383, 0xFFFFFFFF]).arg 1 ≤ 0xFFFFFFFF := by decide +kernel

theorem witness_fence_dma : let x : Cmd := { uid := 4, type := 7, phase := .started }
    let y : Cmd := { uid := 3, type := 4, phase := .started, args := [4, 4], mask := 1 }
    let s := smallDescs.updCtx 1 fun c => { c with cmds := [y, x] }
    s.cmd 1 3 = some y ∧ s.cmd 1 4 = some x ∧ (s.ctx 1).life.state = .live ∧ s.doomed 1 4 = false ∧ (∃ z ∈ (s.ctx 1).cmds, z.ring = x.ring ∧ z.uid < 4) ∧ (∀ z ∈ ((smallCmd x).ctx 1).cmds, z.ring = x.ring → 4 ≤ z.uid) ∧
    s.desc 1 (y.arg 0) ≠ none ∧ (s.desc 1 4).map (·.format) ≠ (s.desc 1 2).map (·.format) ∧
    (s.core (s.cmdCore y).val).cur = some 2 ∧ keyCtx 2 = 1 ∧ (s.core (s.cmdCore y).val).units.get none (unitKey 1 tensorUnit) = none ∧
    (s.core (s.cmdCore y).val).blocked 2 = false ∧ s.distReason 1 (List.replicate 64 0) 0 ≠ 0 ∧
    s.distReason 1 ([0, 1, 0, 0] ++ (List.replicate 6 [1, 0, 0, 0]).flatten ++ List.replicate 36 0) 0 = 0 ∧ s.doomed 1 3 = false ∧ s.safety.stopped = false := by decide

/-- CommandsEnd: an ABORT with its target before it, after it and nowhere, and ready commands. -/
theorem witness_abort : let x : Cmd := { uid := 4, type := 6, args := [9], acceptTick := 999999 }
    let y : Cmd := { uid := 3, type := 1, cmdId := 9, acceptTick := 999999, phase := .armed }
    let s := small.updCtx 1 fun c => { c with cmds := [y, { x with target := some 3 }] }
    let u := small.updCtx 1 fun c => { c with cmds := [{ x with target := some 5 }, { y with uid := 5 }] }
    s.cmd 1 4 = some { x with target := some 3 } ∧ x.acceptTick.toNat < s.now ∧ (some 3).bind (s.cmd 1) = some y ∧ y.uid < 4 ∧
    (some 5).bind (u.cmd 1) = some { y with uid := 5 } ∧ 4 ≤ 5 ∧ s.accepting 1 = true ∧ (smallCmd x).cmd 1 4 = some x ∧
    x.target.bind ((smallCmd x).cmd 1) = none ∧ s.now ≤ (1000000 : Word).toNat := by decide

theorem witness_terminal : let x : Cmd := { uid := 4, type := 1, phase := .finished, sem := 0xFFFF }
    let s := smallCmd x
    s.cmd 1 4 = some x ∧ s.cmdReady 1 x = true ∧ (∀ y ∈ (s.ctx 1).cmds, y.ring = x.ring → y.uid < 4 → s.cmdReady 1 y = false) ∧
    s.safety.tripped = false ∧ s.silent 1 = false ∧ s.mirrored 1 = false ∧ s.pcie.linkUp = true ∧
    s.doomed 1 4 = false ∧ s.accepting 1 = true ∧ s.cmdReady 1 { x with phase := .started } = false ∧
    s.cmdReady 1 { x with phase := .running } = true ∧ s.cmdReady 1 { x with phase := .running, uid := 7 } = false := by decide

/-- FaultsTearDown: contexts that may be torn down and that may not, and bounded waits at their timeout and before it. -/
theorem witness_teardown : (small.ctx 1).life.state ≠ .free ∧ (small.ctx 1).life.state ≠ .tearingDown ∧
    (small.ctx 2).life.state = .free ∧ small.safety.tripped = false ∧ small.accepting 1 = true ∧
    (let s := { smallStream fun st => { st with status := .waitSem 1 1, waitSince := 990000 } with cfg := [(ekey 0x4101 5, .num 10000)] }
     ((s.core 0).stream 2).status.bounded = true ∧ s.waitTimeout 1 ≤ s.waitElapsed 1 ((s.core 0).stream 2) ∧
     s.waitElapsed 1 { (s.core 0).stream 2 with waitSince := 990001 } < s.waitTimeout 1) := by decide

/-- ContextLifetime: the ticks of a teardown and of a creation, at their limits and one before. -/
theorem witness_teardown_stages : let s := tearing 998976 id
    let u := { tearing 0 fun l => { l with stopped := true } with tick := { small.tick with now := 1048576 } }
    (s.ctx 1).life.stopped = false ∧ (s.ctx 1).life.teardownTick.toNat + 1024 ≤ s.now ∧ s.now < (998977 : Word).toNat + 1024 ∧
    (u.ctx 1).life.stopped = true ∧ (u.ctx 1).life.scrubStarted = false ∧ u.outstanding 1 = false ∧
    (u.ctx 1).life.teardownTick.toNat + 1048576 ≤ u.now ∧ u.now < (1 : Word).toNat + 1048576 ∧
    (u.ctx 1).life.abandoned = false ∧
    ({ u with hbm := { xfers := [{ ctx := 1 }] } } : State).outstanding 1 = true ∧ (small.ctx 1).life.state ≠ .tearingDown := by decide

theorem witness_lifetime : let s := tearing 0 fun l => { l with stopped := true, scrubStarted := true }
    let u := small.updLife 1 fun l => { l with state := .creating, createStart := 998976 }
    (s.ctx 1).life.scrubStarted = true ∧ s.outstanding 1 = false ∧ (s.ctx 1).life.createWaits = false ∧
    s.cfgNum 0x4101 6 ≠ 1 ∧ (u.ctx 1).life.createStart.toNat + 1024 ≤ u.now ∧ u.scrubBytes (u.shares 1) = 0 ∧
    u.now < (998977 : Word).toNat + 1024 ∧ 0 < ({ u with scrubSram := [(0, 1)] } : State).scrubBytes (u.shares 1) ∧
    inRanges (State.reset.scrubs .hbm) 147455 = true ∧ inRanges (State.reset.scrubs .hbm) 147456 = false ∧
    inRanges (State.reset.scrubs .sram) 623 = true ∧ inRanges (State.reset.scrubs .sram) 624 = false ∧
    (let v := { (tearing 0 fun l => { l with stopped := true, scrubStarted := true, scrubSlots := [0], former := [(1, 0, 8388608)] }) with
       scrubHbm := [(0, 4)], tick := { small.tick with now := 1 } }
     inRanges (v.scrubs .hbm) 3 = true ∧ v.mayScrub 3 = true ∧
     ({ v with tick := { v.tick with now := 7 } } : State).mayScrub 3 = false) := by decide +kernel

/-- RulingSlots: a slot of each kind at its start. -/
theorem witness_slots : (31 : EngineId).val < 32 ∧ 32 ≤ (32 : EngineId).val ∧ ((slotted 0 1).wheel 0).startsAt small.now = true ∧
    ((slotted 0 1).wheel 0).startsAt (small.now + 1) = false ∧ ((slotted 0 1).wheel 0).at small.now = 1 ∧
    (slotted 0 1).yielding 1 = false ∧ (slotted 0 1).urgentReady 0 = none ∧ (slotted 0 1).withheld 1 0 = false ∧
    ((slotted 0 1).updCtx 1 fun c => { c with cmds := [{ phase := .deferred, mask := 1 }] }).withheld 1 0 = true ∧
    ((slotted 0 0x40).wheel 0).at small.now = 0x40 ∧ ((slotted 0 0x41).wheel 0).at small.now = 0x41 ∧
    ((slotted 0 0x41).updStream 0 3 fun st => { st with status := .running }).urgentReady 0 = some 1 ∧
    (slotted 0 0x41).spareTo ((slotted 0 0x41).wheel 0) = none ∧
    (let s := { small.updWheel 0 fun w => { w with len := 256, table := 1 :: List.replicate 63 0x41 } with
       cfg := [(ekey 0x4101 3, .num 1)] }
     s.spareTo (s.wheel 0) = some 1 ∧ s.yielding 1 = true ∧ ((s.core 0).stream 2).active = true) := by decide +kernel

theorem witness_switches : let ch : WheelChange := { len := 512, table := [], from_ := 999424 }
    let s := (small.updWheel 0 fun w => { w with changes := [ch] }).updTick fun t => { t with now := 999424 }
    (s.wheel 0).changes = ch :: [] ∧ ch.from_.toNat ≤ s.now ∧ s.now % (16 * max (s.wheel 0).len ch.len) = 0 ∧
    (999425 % (16 * max (s.wheel 0).len ch.len) ≠ 0) ∧ (small.wheel 0).changes = [] ∧
    (let w : Switch := { save := true, stream := 4, forStream := some 2 }
     (small.updCore 0 fun x => { x with switches := [w] }).core 0 |>.pendingSwitch true) = some { save := true, stream := 4, forStream := some 2 } ∧
    ((small.updCore 0 fun x => { x with switches := [{ save := false, stream := 2 }] }).core 0).pendingSwitch false =
      some { save := false, stream := 2 } ∧
    (∀ u ∈ ((small.core 0).stream 2).paused, (small.core 0).units.get none u.1 = none) ∧
    (let x : InFlight := { stream := 2, ctx := 1 }
     let u := small.updCore 0 fun y => { y with units := [(unitKey 1 8, some x)], switches := [{ save := false, stream := 2 }]
                                                streams := [(2, { saved := true, paused := [(unitKey 1 8, x)] })] }
     ∃ p ∈ ((u.core 0).stream 2).paused, (u.core 0).units.get none p.1 ≠ none) ∧
    (small.core 0).pendingSwitch true = none ∧ (small.core 0).pendingSwitch false = none := by decide

/-- HbmTransfers: a line that may issue at its slot, the reserved slot, and lines at the tick of their return and before. -/
theorem witness_hbm : let x : Xfer := { ctx := 1, lines := [512, 513], flying := [] }
    let s := { small.updWheel 33 fun w => { w with table := List.replicate 64 1 } with
      hbm := { xfers := [x] }, tick := { small.tick with now := 1 } }
    s.hbm.serving 1 = some x ∧ framePos s.now ≠ 7 ∧ s.hbmOwner = some 1 ∧ s.hbmIssues 1 x = true ∧
    s.hbm.mayStart x s.now = true ∧ x.waiting < x.lines.length ∧ s.safety.stopped = false ∧ s.hbm.selfRefresh = false ∧
    512 ∈ x.lines ∧ lineBank 512 = bankAt s.now ∧
    lineChannel 512 ∉ s.hbm.usedAt s.tick.now ∧ (∀ m ∈ x.lines, 512 ≤ m) ∧ framePos 7 = 7 ∧ small.hbm.serving 1 = none := by decide

theorem witness_hbm_returns : let f : Nat × Word := (9, 999904)
    let x : Xfer := { id := 3, ctx := 1, core := some 0, lines := [10], flying := [f] }
    let s := { small with hbm := { xfers := [x, { x with id := 4, write := true }] } }
    x.flying.find? (fun g => g.1 == 9) = some f ∧ s.hbm.xfers.find? (fun z => z.id == 3 && !z.write) = some x ∧
    f.2.toNat + 96 ≤ s.now ∧ s.now < (999905 : Word).toNat + 96 ∧ s.accepting x.ctx.val = true ∧ s.inSlot 0 1 = true ∧
    small.inSlot 1 1 = false ∧ s.hbm.xfers.find? (fun z => z.id == 4 && z.write) = some { x with id := 4, write := true } ∧
    (999936 : Word).toNat + 64 ≤ s.now ∧ s.now < (999937 : Word).toNat + 64 ∧ s.accepting 2 = false ∧ x.lines ≠ [] ∧
    (let y : Xfer := { x with write := true, effects := [.mem .hbm (64 * 9) [7]] }
     y.effects = [.mem .hbm (64 * 9) [7]] ∧ 64 * 9 + ([7] : Bytes).length ≤ 64 * 9 + 64 ∧ s.ownsShares y.ctx.val = true) ∧
    eccResult [] = .clean ∧ eccResult [{ symbol := 3, flips := 1 }, { symbol := 3, flips := 128 }] = .corrected ∧
    eccResult [{ symbol := 3, flips := 1 }, { symbol := 4, flips := 1 }] = .uncorrectable := by decide

/-! ## Witnesses: the tick, links, topology and pairs -/

/-- TickUnitEvents: markers due and sent, a follower in each state with its upstream link up and down, residuals at two root
cycles and above, and the ticks of holdover at their limits. -/
theorem witness_tick : let t : TickUnit := { small.tick with upstream := some 4, state := 5, residual := 2049, slewTick := 998976, downAt := some 999984, downstream := [2], measured := true }
    let up := small.updLink 4 fun k => { k with state := .up }
    small.now / 1024 * 1024 = 999424 ∧ small.tick.markerSent.toNat ≠ 999424 ∧ small.tick.state ≠ 0 ∧
    ({ t with markerSent := 999424 } : TickUnit).markerSent.toNat = 999424 ∧ t.slewTick.toNat + 1024 ≤ small.now ∧
    small.now < (998977 : Word).toNat + 1024 ∧ t.measured = true ∧ 2 * 1024 < t.residual ∧ (2048 : Nat) ≤ 2 * 1024 ∧
    (999984 : Word).toNat + 16 ≤ small.now ∧ small.now < (999985 : Word).toNat + 16 ∧ 6250000 ≤ (6250000 : Word).toNat ∧
    (6249999 : Word).toNat < 6250000 ∧ (up.link 4).state = .up ∧ (small.link 4).state ≠ .up ∧
    ({ t with state := 3, byMarker := true } : TickUnit).byMarker = true ∧ ({ t with state := 3 } : TickUnit).byMarker = false ∧
    small.tick.downAt = none ∧ small.tick.upstream = none ∧ (0 : LinkId) ∉ t.downstream ∧
    (let s : State := { up with tick := t, pair := { small.pair with role := 2, state := 1 } }
     s.tick.upstream = some 4 ∧ s.tick.state ≠ 0 ∧ s.tick.state ≠ 1 ∧ s.pair.role = 2 ∧ s.pair.state = 1) := by decide

/-- LinksTrain: the states with their times at the limit and one tick past it, and blocks that fit and that do not. -/
theorem witness_links : (small.link 1).state = .down ∧ small.linkEnabled 1 = true ∧ (small.link 1).retryAt.toNat ≤ small.now ∧
    small.now < (1000001 : Word).toNat ∧ (31250000 + 5 : Nat) ≤ (5 : Word).toNat + 31250000 ∧
    (5 : Word).toNat + 31250000 < 31250006 ∧ LinkState.limit .align = some 62500 ∧ LinkState.limit .up = none ∧
    (937500 : Word).toNat + 62500 ≤ small.now ∧ small.now < (937501 : Word).toNat + 62500 ∧
    small.miswired 1 (idBlock 0 true) = false ∧ small.miswired 1 (idBlock 1 true) = true ∧ (idBlock 0 false).sigOk = false ∧
    (idBlock 0 true).sendLink.toNat = peerLink 1 ∧ (idBlock 1 true).sendLink.toNat ≠ peerLink 1 ∧ small.fw.stage = 2 ∧
    small.topo.role ≠ 1 ∧ small.topo.positioned = false := by decide

/-- LinksComeUpAndGoDown: 1,024 exchanges in DELAY, with the upstream link of a follower, and a link that is UP. -/
theorem witness_link_up : let stamps := List.replicate 1024 (⟨1000000, 7403500, 7404700, 1008200⟩ : Stamps)
    let s := { small.updLink 4 fun k => { k with state := .delay } with tick := { small.tick with state := 2, upstream := some 4, freqLocked := true } }
    stamps.length = 1024 ∧ (s.link 4).state = .delay ∧ s.trainedState 4 = .up ∧ s.tick.upstream = some 4 ∧ s.tick.state ≠ 1 ∧
    s.tick.freqLocked = true ∧ s.tick.aligned = true ∧ (8 : LinkId).val = 8 ∧ (4 : LinkId) ∉ s.tick.downstream ∧
    (4 : LinkId) ∈ ({ s.tick with downstream := [4] } : TickUnit).downstream ∧
    ({ s.pair with role := 1, state := 1 } : Pair).role = 1 ∧ (s.link 9).state ≠ .up ∧
    ((small.updLink 4 fun k => { k with state := .up }).link 4).state ≠ .down ∧ (small.link 4).state = .down := by decide +kernel

/-- FlitsSentAndReplayed: a data and a control flit time, a full replay buffer and one with a place, buffered flits that a
sequence number names and does not, and the discards at the limit. -/
theorem witness_flits : flitTime 1600 = some 1024 ∧ 1024 % 512 = 0 ∧ flitTime 992 = some 635 ∧ 635 % 512 ≠ 0 ∧ flitTime 1024 = none ∧
    960 ≤ (List.replicate 960 (headFlit 0, 0)).length ∧ (List.replicate 959 (headFlit 0, 0)).length < 960 ∧
    (let b := [(headFlit 4, 0), (headFlit 5, 4)]
     b = [(headFlit 4, 0)] ++ (headFlit 5, 4) :: [] ∧ (headFlit 5).seq = 5 ∧ (∀ y ∈ [(headFlit 4, 0)], y.1.seq ≠ 5) ∧
     (∃ y ∈ [(headFlit 5, 4)], 4 ≤ y.2) ∧ (∀ y ∈ [(headFlit 4, 3)], y.2 < 4) ∧ (∀ y ∈ b, y.1.seq ≠ 6)) ∧
    (small.tick.now :: (List.replicate 63 (1000000 : Word)).filter fun t => decide (small.now < t.toNat + 1638400)).length ≤ 64 ∧
    64 < (small.tick.now :: (List.replicate 64 (1000000 : Word)).filter fun t => decide (small.now < t.toNat + 1638400)).length ∧
    blockFails { even := 6, odd := 6 } = false ∧ blockFails { even := 7 } = true ∧ blockFails { odd := 7 } = true ∧
    (999200 : Word).toNat + 800 ≤ small.now ∧ small.now < (999201 : Word).toNat + 800 := by decide +kernel

theorem witness_slot_flit : let s := { (small.updLink 1 fun k => { k with state := .up, queue := [headFlit 0] }).updWheel 35 fun w => { w with table := List.replicate 64 1 } with
      cfg := [(ekey 0x9201 1, DVal.num 64)] }
    (s.link 1).state = .up ∧ (s.link 1).nakDue = false ∧ (s.link 1).resend = [] ∧ s.slotFlit 1 = some (headFlit 0) ∧
    small.slotFlit 1 = none := by decide +kernel

/-- FlitsAndPacketsArrive: flits in and out of order, packets for this device and for another, for a context that accepts
and for one that does not. -/
theorem witness_arrivals : let s := small.updLink 1 fun k => { k with state := .up, rxSeq := 5, transit := [(4, some (3, 1))] }
    let p : Packet := { ctx := 1, src := 0, dst := 0, use := .write 1 0 16383, data := [7] }
    (s.link 1).state = .up ∧ (headFlit 5).seq = (s.link 1).rxSeq ∧ (headFlit 6).seq ≠ (s.link 1).rxSeq ∧ s.isMine p.dst = true ∧
    s.isMine 0x1000 = false ∧ s.accepting p.ctx.val = true ∧ s.accepting 2 = false ∧ s.inShare 1 1 0 1 = true ∧
    (16383 : BitVec 16).toNat < 16384 ∧ s.sem 1 16383 < 0xFFFFFFFF ∧ s.nextHop 0x1000 = none ∧
    ({ s with topo := { s.topo with extents := 0x1000 } } : State).nextHop 0x1000 = some 1 ∧
    (s.link 1).transit.get none (4 * 1 + 0) = some (3, 1) ∧ (s.link 1).transit.get none (4 * 2 + 0) = none ∧ s.hbm.xfers = [] ∧
    s.topo.leadEpoch.toNat < (1 : BitVec 32).toNat ∧ (0 : BitVec 32).toNat ≤ s.topo.leadEpoch.toNat ∧ s.topo.role ≠ 1 ∧
    s.topo.mapVersion ≠ 5 ∧ s.pair.role ≠ 2 ∧ (32 : BitVec 8).toNat ≤ 32 ∧ 32 < (33 : BitVec 8).toNat ∧ s.topo.lowestSerial = none := by decide

/-- TopologyFollowsReports: reports that fit, that conflict and that come from nowhere, a lost device at its tick. -/
theorem witness_topology : let s := fun d => ({ small with topo := { role := 1, map := [(16, { dev := d, serial := 7, downSince := some 934464 })], routeChange := some 934464 } } : State)
    let r : Report := { addr := 16, linkMask := 1, serial := 7, signature := BitVec.ofNat 128 0, extents := 0, express := 0xFF, pairRole := 0 }
    (s .admitted).topo.role = 1 ∧ ((s .admitted).mapEntry 16).conflicts r = false ∧ r.extents = (s .admitted).topo.extents ∧
    ((s .admitted).mapEntry 16).conflicts { r with serial := 8 } = true ∧ ((s .absent).mapEntry 16).dev = .absent ∧
    (s .absent).mapLocked = false ∧ ((s .admitted).mapEntry 16).downSince = some 934464 ∧
    (934464 : Word).toNat + 65536 ≤ (s .admitted).now ∧ (s .admitted).now < (934465 : Word).toNat + 65536 ∧
    ((s .admitted).mapEntry 16).dev ≠ .departed ∧ small.topo.role ≠ 1 ∧ (small.mapEntry 16).downSince = none ∧
    (s .admitted).topo.routeChange = some 934464 := by decide

/-- PositionsAreTaken: the ticks of the election and of a lone device, and positions that agree and that differ. -/
theorem witness_positions : let s := { small with topo := { lastTorusUp := some 934464, lowestSerial := some 0 } }
    s.topo.elected = false ∧ s.topo.positioned = false ∧ s.fw.stage = 2 ∧ (934464 : Word).toNat + 65536 ≤ s.now ∧
    (∀ x, s.topo.lowestSerial = some x → s.ident.serial.toNat ≤ x.toNat) ∧ (0 : BitVec 128).toNat < (1 : BitVec 128).toNat ∧
    small.topo.lastTorusUp = none ∧ (3 : Word).toNat + 156250000 ≤ 156250003 ∧ 156250002 < (3 : Word).toNat + 156250000 ∧
    impliedAddr 0x3333 0 0x2000 = 0x3000 ∧ impliedAddr 0x3333 0 0x3000 = 0 ∧ s.topo.positionFailed = false := by
  refine ⟨by decide, by decide, by decide, by decide, ?_, by decide, by decide, by decide, by decide, by decide, by decide, by decide⟩
  rintro x h; cases h; decide

/-- BeatsAndTakeover: beats due and not, of a higher and a lower epoch, and silences at their limits. -/
theorem witness_beats : (934464 : Word).toNat + 65536 ≤ small.now ∧ small.now < (934465 : Word).toNat + 65536 ∧
    (2 : BitVec 32).toNat ≤ (2 : BitVec 32).toNat ∧ (1 : BitVec 32).toNat < (2 : BitVec 32).toNat ∧
    (let s := { small with topo := { positioned := true, selfAddr := 0xFFFF, role := 3, lastBeat := 737856 } }
     s.cfgNum 0x9010 2 = s.topo.selfAddr.toNat ∧ s.topo.lastBeat.toNat + 262144 ≤ s.now ∧
     s.now < (737857 : Word).toNat + 262144) ∧
    (998976 : Word).toNat + 1024 ≤ small.now ∧ small.now < (998977 : Word).toNat + 1024 ∧
    (983616 : Word).toNat + 16384 ≤ small.now ∧ small.now < (983617 : Word).toNat + 16384 ∧
    (let s := { small.updLink 1 fun k => { k with state := .up } with topo := { small.topo with role := 1, beatSent := 934464, leadEpoch := 1 } }
     s.topo.role = 1 ∧ s.topo.beatSent.toNat + 65536 ≤ s.now ∧ (s.link 1).state = .up ∧ s.topo.leadEpoch.toNat < (2 : BitVec 32).toNat ∧
     (0 : BitVec 32).toNat < s.topo.leadEpoch.toNat ∧ s.topo.leadEpoch = 1) ∧
    (let p : Pair := { role := 1, state := 1, beatSent := 998976 }
     p.role = 1 ∧ p.state = 1 ∧ p.beatSent.toNat + 1024 ≤ small.now) ∧
    (let p : Pair := { role := 2, state := 1, lastBeat := 983616 }
     p.role = 2 ∧ p.state = 1 ∧ p.lastBeat.toNat + 16384 ≤ small.now) ∧ (small.link 8).state ≠ .up ∧ (small.link 9).state ≠ .up := by decide

/-- PairMirrors: an input whose lag has passed and one whose lag has not, digests that agree and differ, and a primary that
has departed. -/
theorem witness_pairs : (paired 1).pair.forwarded = (737856, .flr 1) :: [] ∧
    (737856 : Word).toNat + (paired 1).cfgNum 0x9020 2 ≤ (paired 1).now ∧
    ¬((737857 : Word).toNat + (paired 1).cfgNum 0x9020 2 ≤ (paired 1).now) ∧ (paired 1).pair.role = 2 ∧ (paired 1).pair.state = 1 ∧
    (paired 1).pair.digests.find? (fun d => d.1 == 1 && d.2.1 == 9) = some (1, 9, 5, 999999) ∧
    (999999 : Word).toNat = (737855 : Word).toNat + (paired 1).cfgNum 0x9020 2 ∧ (paired 3).pair.state = 3 ∧
    (paired 3).topo.lastTorusUp = none ∧ (paired 3).pair.primaryWasLead = false ∧
    (let s := { paired 3 with topo := { map := [(0xFFFF, { dev := .departed })] } }
     (s.mapEntry (s.link 8).peerAddr.toNat).dev = .departed) ∧ small.pair.role ≠ 2 ∧ small.pair.forwarded = [] ∧
    (paired 1).now + 1024 ≤ (738880 : Word).toNat + (paired 1).cfgNum 0x9020 2 ∧
    (738879 : Word).toNat + (paired 1).cfgNum 0x9020 2 < (paired 1).now + 1024 ∧ (paired 1).accepting 1 = true ∧ (paired 1).accepting 2 = false ∧
    (let s := { paired 3 with topo := { map := [(0xFFFF, { dev := .departed, departedAt := some 999999 })], lastTorusUp := some 5 } }
     (s.mapEntry (s.link 8).peerAddr.toNat).departedAt = some 999999 ∧ (999999 : Word).toNat < s.now ∧ s.topo.lastTorusUp ≠ none) ∧
    (paired 3).topo.lastBeat.toNat + 262144 < (paired 3).now ∧
    ({ (paired 3).pair with partnerLostTick := 1000000 } : Pair).partnerLostTick = (paired 3).tick.now := by decide

/-! ## Serving, the host, the dictionary, configuration and the device -/

/-- ServingSteps: enabled with a count and without, a semaphore beyond the last, an empty request ring and one with one
request, a mirroring secondary with none handed, a chosen step and one that is not, a build whose hub cycles are over and
one whose are not, and writes of REQ_TAIL at REQ_ENTRIES and past it. -/
theorem witness_serving : let s := serving 5 1 id
    s.cfgNum 0xD101 3 = 1 ∧ (s.ctx 1).life.state = .live ∧ (s.ctx 1).serving.build = none ∧ confSub (s.serveConf 1) 4 = 5 ∧
    0 < s.sem 1 5 ∧ (serving 5 0 id).sem 1 5 = 0 ∧ 16384 ≤ confSub ((serving 16384 0 id).serveConf 1) 4 ∧
    ¬(s.pair.role = 2 ∧ s.pair.state = 1) ∧ (paired 1).pair.role = 2 ∧ (paired 1).pair.state = 1 ∧
    (s.ctx 1).serving.reqTail = (s.ctx 1).serving.reqHead ∧ (s.ctx 1).serving.handed = [] ∧ s.activeSeqs 1 = [] ∧
    (s.ctx 1).serving.lastRecord = none ∧
    (let u := serving 5 1 fun v => { v with reqTail := 1 }
     (u.ctx 1).serving.reqTail = (u.ctx 1).serving.reqHead + 1 ∧
     badRequest (u.hbmShare 1 (confSub (u.serveConf 1) 5 + 0) 64) = true) ∧ s.cfgNum 0xD101 6 = 16 ∧ s.pcie.linkUp = true ∧
    s.fw.stage = 2 ∧ ((16 : BitVec 32) - 0).toNat ≤ s.cfgNum 0xD101 6 ∧ s.cfgNum 0xD101 6 < ((17 : BitVec 32) - 0).toNat := by decide +kernel

theorem witness_builds :
    let b : StepBuild := { step := 3, openTick := 999936, cycles := 32, conf := (serving 5 1 id).serveConf 1 }
    ((serving 5 1 fun v => { v with build := some { b with descriptor := some [7] } }).updRing 1 2
      fun y => { y with enable := true, tail := 15 }).ringRoom 1 2 = true ∧
    (small.updRing 1 2 fun y => { y with enable := true, tail := 16 }).ringRoom 1 2 = false ∧
    b.descriptor = none ∧ confSub b.conf 14 = 0 ∧ small.buildOver 1 { b with openTick := 1000000 } = false ∧
    (slotted 32 1).buildOver 1 b = true := by decide +kernel

theorem witness_requests : badRequest (1 :: List.replicate 63 0) = false ∧ badRequest (2 :: List.replicate 63 0) = false ∧
    badRequest (3 :: List.replicate 63 0) = true ∧ (serving 5 1 id).freeSeq 1 = some 0 ∧
    (serving 5 1 fun v => { v with seqs := [(0, { active := true })] }).freeSeq 1 = none ∧
    field (2 :: List.replicate 63 0) 24 4 < (serving 5 1 id).cfgNum 0xD101 2 ∧
    (({ seqs := [(0, { active := true })] } : Serving).entry 0).active = true ∧
    (({} : Serving).entry 0).active = false ∧ ({ s := small } : BuildAcc).fault = false := by decide +kernel

/-- HostRegistersAndBars: doorbells at the ring's last entry and past it, a posted write that is not in HBM and a doorbell
that waits, ring sizes and completion heads at their limits. -/
theorem witness_doorbells : let y := posted.ring 1 0
    posted.pcie.linkUp = true ∧ posted.fw.stage = 2 ∧ ¬(posted.pair.role = 2 ∧ posted.pair.state = 1) ∧
    y.enable = true ∧ posted.accepting 1 = true ∧ posted.enginePosts 1 0 = false ∧ posted.safety.tripped = false ∧
    posted.postedWrites 1 = false ∧ (posted.ctx 1).host.doorbells = [] ∧
    ((46 : BitVec 32) - y.tail).toNat ≤ y.entries ∧ ((46 : BitVec 32) - y.head).toNat ≤ y.entries ∧
    y.entries < ((47 : BitVec 32) - y.head).toNat ∧ posted.slotFree 1 0 = true ∧ posted.silent 1 = false ∧
    ({ posted with hbm := { xfers := [{ ctx := 1, write := true }] } } : State).postedWrites 1 = true ∧
    ((posted.updHost 1 fun h => { h with doorbells := [(0, 31)] }).ctx 1).host.doorbells ≠ [] ∧
    ((30 : BitVec 32) - y.cqHead).toNat ≤ (y.cqTail - y.cqHead).toNat ∧
    (y.cqTail - y.cqHead).toNat < ((31 : BitVec 32) - y.cqHead).toNat ∧ (4 : BitVec 4).toNat = 4 ∧ (12 : BitVec 4).toNat ≤ 12 ∧
    posted.openCount 1 0 = 0 ∧ (smallCmd { ring := 0 }).openCount 1 0 ≠ 0 ∧ (small.ring 1 0).enable = false := by decide

/-- HostRegistersAndBars: register reads in and beyond the BAR, a latch of 128 ticks' age and an older one, and BAR2
accesses at the end of the share. -/
theorem witness_reads : let h : HostFn := { tickLatch := some (3, 999872) }
    h.tickLatch = some (3, 999872) ∧ small.now ≤ (999872 : Word).toNat + 128 ∧ (999871 : Word).toNat + 128 < small.now ∧
    0x100000 ≤ 0x100000 ∧ 0x12FFC % 4 = 0 ∧ 0x12FFC < 0x13000 ∧ State.reset.fw.stage ≠ 2 ∧
    ({ State.reset with pcie := { linkUp := true } } : State).pcie.linkUp = true := by decide

theorem witness_bar2 : small.accepting 1 = true ∧ small.inShare 1 1 (16777216 - 4) 4 = true ∧
    small.inShare 1 1 (16777216 - 3) 4 = false ∧ small.accepting 2 = false ∧ ([1, 2, 3, 4] : Bytes) ≠ [] ∧
    ({ small with safety := { tripped := true } } : State).safety.tripped = true ∧ 0x11000 % 4 = 0 ∧ 0x100000 ≤ 0x100000 ∧
    State.reset.pcie.linkUp = false ∧ (posted.ring 1 0).enable = true ∧ (small.ring 1 0).enable = false := by decide

/-- HostResetsAndLoss: a VF and the PF with the link up and down, PERST, TENANCY_LOCK, and the rates and widths. -/
theorem witness_host : (1 : CtxId) ≠ 0 ∧ small.pcie.linkUp = true ∧ small.safety.tripped = false ∧ State.reset.pcie.linkUp = false ∧
    (small.ctx 1).life.state = .live ∧ (small.ctx 2).life.state = .free ∧ (paired 1).pair.role = 2 ∧ (paired 1).pair.state = 1 ∧
    small.pins.por = true ∧ small.pcie.perst = false ∧ ({ perst := true } : Pcie).perst = true ∧ small.cfgNum 0x8000 3 ≠ 1 ∧
    ({ small with cfg := [(ekey 0x8000 3, .num 1)] } : State).cfgNum 0x8000 3 = 1 ∧ (6 : BitVec 4).toNat ≤ 6 ∧
    1 ≤ (1 : BitVec 4).toNat ∧ (16 : BitVec 5).toNat ∈ [1, 2, 4, 8, 16] ∧ (3 : BitVec 5).toNat ∉ [1, 2, 4, 8, 16] ∧
    small.cfgNum 0x7020 4 ≤ 2 := by decide

/-- DictionaryRequests: a READ in the PF's mailbox; a datagram whose tag verifies, one whose tag does not, and one that was
answered before. -/
theorem witness_requests_pf : let m := ((asked (request 1 0 [])).ctx 0).host.mbx
    (asked (request 1 0 [])).fw.stage = 2 ∧ m.busy = true ∧ m.ready = none ∧ (parseRequest m.taken true).op = 1 ∧
    (parseRequest m.taken true).items = 0 ∧ (parseRequest m.taken true).body = [] ∧ State.reset.fw.stage ≠ 2 ∧
    (small.ctx 0).host.mbx.busy = false := by decide

theorem witness_datagrams : let h := request 1 0 []
    let d := h ++ (Sha.hmac256 [1, 2, 3] h).take 16
    40 ≤ d.length ∧ field d 0 2 = 0x4744 ∧ field d 2 1 = 1 ∧ field d 3 1 = 1 ∧ d.length = 40 + field d 16 2 ∧ field d 5 1 ≤ 3 ∧
    (asked []).mgmt.keys.get none 0 = some [1, 2, 3] ∧ small.mgmt.keys.get none 0 = none ∧
    (Sha.hmac256 [1, 2, 3] (d.take 24)).take 16 = d.drop 24 ∧ (Sha.hmac256 [1, 2, 3] (d.take 24)).take 16 ≠ List.replicate 16 0 ∧
    ((asked []).mgmt.lastSeq.get 0 0).toNat < (parseRequest d false).seq ∧
    (let g : Mgmt := { lastSeq := [(0, BitVec.ofNat 64 (parseRequest d false).seq)], kept := [(0, some (d, [9]))] }
     (parseRequest d false).seq = (g.lastSeq.get 0 0).toNat ∧ g.kept.get none 0 = some (d, [9]) ∧ g.kept.get none 1 ≠ some (d, [9])) ∧
    (parseRequest d false).bad = false ∧ (parseRequest (List.replicate 24 1) false).bad = true := by decide +kernel

theorem witness_writes : let good : WriteItem := { key := ekey 0x3000 5, type := 2, value := [20, 0] }
    parseWrites (carryWrite 2) 1 0 = some [good] ∧ small.writeStatuses .o small.sets.draft [good] = [0] ∧
    (entryOf good.key).elim false (·.staged) = true ∧ good.key ≠ ekey 0x2000 6 ∧ parseWrites (carryWrite 2) 2 0 = none ∧
    small.mgmt.wroteTick ≠ small.tick.now ∧ actsAtOnce good.key = false ∧
    (let m : Mgmt := { wroteTick := small.tick.now, wroteBy := [(good.key, Path.h.rank)] }
     m.wroteTick = small.tick.now ∧ Path.o.rank < m.wroteBy.get 0 good.key) ∧
    (∃ x ∈ small.writeStatuses .o small.sets.draft [{ good with type := 1 }], x ≠ 0) ∧
    (∃ e acc, small.reach .o (ekey 0x3000 5) = some (e, acc)) :=
  ⟨by decide +kernel, by decide +kernel, by decide +kernel, by decide +kernel, by decide +kernel, by decide +kernel, by decide +kernel,
   by decide +kernel, by decide +kernel, ⟨_, _, rfl⟩⟩

/-- DictionaryRequests: a SNAPSHOT of CARRY, and a SNAP_READ that ends with the snapshot. -/
theorem witness_snapshots : let b : Bytes := toLe 2 0x3000 ++ [5, 0]
    b.length = 4 ∧ field b 3 1 = 0 ∧ ekey (field b 0 2) (field b 2 1) = ekey 0x3000 5 ∧
    (let r : Bytes := toLe 4 2 ++ toLe 2 3 ++ [0, 0]
     r.length = 8 ∧ field r 6 2 = 0 ∧ ({ snap := some ([1, 2, 3, 4, 5], 7) } : Mgmt).snap = some ([1, 2, 3, 4, 5], 7) ∧
     field r 0 4 + field r 4 2 ≤ ([1, 2, 3, 4, 5] : Bytes).length ∧ field r 4 2 ≤ 1376) := by decide +kernel

/-- MailboxesAndClears and MailboxRingAndReply: a mailbox that is free and one that is busy, and replies at their ticks. -/
theorem witness_mailboxes : ((small.ctx 1).host.mbx).busy = false ∧ (small.ctx 1).life.state ≠ .free ∧ (small.ctx 1).life.state ≠ .creating ∧
    (small.ctx 2).life.state = .free ∧ ((asked []).ctx 0).host.mbx.busy = true ∧ small.pcie.linkUp = true ∧ small.fw.stage = 2 ∧
    small.safety.tripped = false ∧
    (let m : Mailbox := { busy := true, ringTick := 998976, ready := some ([7], 1000000), copied := some 999999 }
     m.busy = true ∧ m.copying = false ∧ ({ m with copying := true } : Mailbox).copying = true ∧
     (∀ u, m.copied = some u → u.toNat < small.now) ∧ small.now ≤ (1000000 : Word).toNat ∧ ({} : Mailbox).ready = none ∧
     m.ringTick.toNat + 1024 ≤ small.now ∧ small.now < (998977 : Word).toNat + 1024 ∧ m.ready = some ([7], 1000000) ∧
     (1000000 : Word).toNat ≤ small.now ∧ small.now < (1000001 : Word).toNat) ∧ small.silent 1 = false ∧
    ¬(small.pair.role = 2 ∧ small.pair.state = 1) := by
  refine ⟨by decide, by decide, by decide, by decide, by decide, by decide, by decide, by decide,
    ⟨rfl, rfl, rfl, ?_, by decide, rfl, by decide, by decide, rfl, by decide, by decide⟩, by decide, by decide⟩
  intro u h
  cases h
  decide

/-- FlashAndFuses: a block at the start and at the end of a slot, one past it, and fuses that are due. -/
theorem witness_flash : small.memOk = true ∧ small.fw.stage = 2 ∧ small.flashWriteOk 0 (List.replicate 256 7) = true ∧
    small.flashWriteOk (small.slotBytes - 1024) (List.replicate 1024 7) = true ∧
    small.flashWriteOk (small.slotBytes - 768) (List.replicate 1024 7) = false ∧ small.flashWriteOk 128 (List.replicate 256 7) = false ∧
    ({ flashBusy := true } : Firmware).flashBusy = true ∧
    (let f : Safety := { blown := 1, rollbackTarget := 3, revokePending := [2] }
     f.blown + 1 < f.rollbackTarget ∧ 2 + 1 = f.rollbackTarget ∧ f.rollbackTarget ≤ 3 ∧ f.revokePending = 2 :: [] ∧ 2 ∉ f.revoked ∧
     2 ∈ [2]) ∧ small.safety.revokePending = [] := by decide +kernel

/-- ConfigurationCommands: commands that CMD accepts and that it does not, drafts that pass and that fail, and activation
ticks at their limit. -/
theorem witness_config : small.cmdAllowed 1 = true ∧ small.cmdAllowed 2 = true ∧ small.cmdAllowed 3 = true ∧
    small.cmdAllowed 4 = true ∧ small.cmdAllowed 5 = true ∧ small.sets.groupScope = false ∧ small.sets.groupActTick = none ∧
    ({ small with sets := { cmdTick := some small.tick.now } } : State).cmdAllowed 5 = false ∧
    (let s := { small with sets := { service := some .check, cmdTick := some 999999 } }
     s.cmdAllowed 1 = false ∧ s.cmdAllowed 5 = true ∧ s.sets.serviceDone = false) ∧ small.sets.pending = none ∧
    (let s := { small with sets := { groupScope := true }, topo := { role := 1 } }
     s.cmdAllowed 2 = true ∧ s.sets.groupScope = true ∧ s.topo.role = 1 ∧ s.sets.actTick = 0 ∧ s.now + 786432 < 2 ^ 64) ∧
    (let p : PendingSet := { items := [], actTick := 1000001 }
     small.now < p.actTick.toNat ∧ p.group = false) ∧ (1000000 : Word).toNat ≤ small.now ∧
    small.now + 1024 ≤ (1001024 : Word).toNat ∧ (1001023 : Word).toNat < small.now + 1024 ∧ small.sets.previous = none ∧
    small.sets.serviceActTick = 0 := by decide

theorem witness_check_passes : let s : State := { tick := { now := 1000000 } }
    s.checkSet goodDraft [] = none ∧ s.pendingFailure = [] ∧ revertItems s.cfg [(ekey 0x3000 5, .num 20)] = goodDraft := by
  decide +kernel

/-- While a set is pending, the check of any other fails (reason 13). -/
theorem witness_check_fails (items : List (Nat × DVal)) : let s : State := { small with sets := { pending := some {} } }
    s.checkSet items s.pendingFailure ≠ none := by
  have more : ∀ (l : List Failure) (b : Failure), l.foldl (fun best f => match best with
      | none => some f
      | some b => if failBefore f b then some f else some b) (some b) ≠ none := by
    intro l
    induction l with
    | nil => simp
    | cons a t ih => intro b; simp only [List.foldl_cons]; split <;> exact ih _
  intro s
  obtain ⟨f, hf⟩ : ∃ f, s.pendingFailure = [f] := ⟨_, rfl⟩
  unfold State.checkSet reported
  rw [hf]
  cases (s.checking items).failures with
  | nil => simp
  | cons a t => exact more _ a

/-- GroupCommitsAndActivation: votes that count, that all say READY, that veto and that are missing, and pending sets at
their tick. -/
theorem witness_votes : let s := { small with sets := { groupActTick := some 1065536, participants := [0, 16], votes := [(0, .ready 41)] } }
    s.sets.groupActTick.isSome = true ∧ (16 : BitVec 16) ∈ s.sets.participants ∧ (∀ x ∈ s.sets.votes, x.1 ≠ 16) ∧
    (∃ x ∈ s.sets.votes, x.1 = 0) ∧ small.topo.role ≠ 1 ∧ ({ role := 1 } : Topo).role = 1 ∧
    small.topo.leadEpoch.toNat ≤ (0 : BitVec 32).toNat ∧ ¬(small.sets.preparedEpoch = some 0 ∧ small.sets.preparedId = 0) ∧
    small.tick.state = 1 ∧ ¬(State.reset.tick.state = 1 ∨ State.reset.tick.state = 2 ∨ State.reset.tick.state = 3) ∧
    ({ upstream := some 4 } : TickUnit).upstream = some 4 ∧ small.tick.upstream = none ∧
    ([(0, Vote.ready 41), (16, .veto 7)] : List (BitVec 16 × Vote)) = [(0, .ready 41)] ++ (16, .veto 7) :: [] :=
  ⟨by decide, by decide, by decide, ⟨_, List.mem_singleton_self _, rfl⟩, by decide, by decide, by decide, by decide, by decide, by decide,
   by decide, by decide, rfl⟩

/-- Chapter 16: the versions 41 and 42 give version 43. -/
theorem witness_versions : maxVersion [(0, .ready 41), (16, .ready 42)] + 1 = 43 := by decide +kernel

theorem witness_decision_ticks : (1065536 : Word).toNat ≤ small.now + 65536 ∧ small.now + 65536 < (1065537 : Word).toNat ∧
    (let p : CfgSets := { preparedEpoch := some 1, draftState := .prepared, preparedTick := 1016384 }
     p.groupActTick = none ∧ p.preparedEpoch ≠ none ∧ p.preparedTick.toNat ≤ small.now + 16384 ∧
     small.now + 16384 < (1016385 : Word).toNat) := by decide +kernel

theorem witness_activation : let p : PendingSet := { items := goodDraft, actTick := 1000000 }
    p.actTick.toNat ≤ small.now ∧ small.now < (1000001 : Word).toNat ∧ small.tripHolds p.actTick.toNat = false ∧
    ¬(small.pair.role = 2 ∧ small.pair.state = 1) ∧ small.sets.pending = none ∧
    Items.num p.items 0x7010 4 ≠ some 1 ∧ Items.num [(ekey 0x7010 4, .num 1)] 0x7010 4 = some 1 ∧
    ({ small with safety := { tripPending := some (1, 1000000) } } : State).tripHolds p.actTick.toNat = true := by decide +kernel

theorem witness_all_ready : (∀ x ∈ ([(0, .ready 41)] : List (BitVec 16 × Vote)), ∃ w, x.2 = .ready w) := by simp

/-- EnergyAndTrips: a window's start, contexts with an account and without, samples at their limits and the fourth in a
row outside them. -/
theorem witness_energy : let s := { small with tick := { small.tick with now := 131072 } }
    s.now % s.cfgNum 0x3000 4 = 0 ∧ small.now % small.cfgNum 0x3000 4 ≠ 0 ∧ s.energy.windowStart ≠ s.tick.now ∧
    s.tick.rootLocked = true ∧ State.reset.tick.rootLocked = false ∧
    s.refilled 1 = true ∧ s.refilled 2 = false ∧ s.refilled 0 = false ∧ (95000 : Int) ≤ 95000 ∧ (89999 : Int) < 90000 ∧
    (BitVec.ofNat 32 (s.cfgNum 0x8000 1)).toInt = 110000 ∧ 65536 ≤ ((1000000 : Word) - 934464).toNat ∧
    ((1000000 : Word) - 934465).toNat < 65536 ∧ s.safety.tripPending = none ∧ small.pins.por = true := by decide

theorem witness_no_deferred : ∀ c x, x ∈ (small.ctx c).cmds → x.phase ≠ .deferred := by
  intro c x h
  have e : (small.ctx c).cmds = [] := by
    simp only [State.ctx, small, SMap.get]
    split <;> rfl
  rw [e] at h
  cases h

theorem witness_rails : let s := { small with cfg := [(ekey 0x8020 1, .num 700), (ekey 0x8020 2, .num 800)] }
    s.railOut 0 700 = false ∧ s.railOut 0 699 = true ∧ s.railOut 0 800 = false ∧ s.railOut 0 801 = true ∧
    3 ≤ ({ railBad := [(0, 3)] } : Safety).railBad.get 0 0 ∧ s.safety.railBad.get 0 0 < 3 ∧
    ({ tripPending := some (2, 5) } : Safety).tripPending = some (2, 5) ∧ State.reset.pins.por = false ∧
    small.silent 0 = false ∧ small.cfgNum 0x7020 4 ≤ 4 ∧ ({ tripped := true } : Safety).stopped = false := by decide

/-- AttestationAndPorts, BoundaryScan and TapModesAndPointerWrites: blocks 0, 6, 7 and 255, a session, IPV4_ENABLE, POR_N at
both levels, and VDD_IO18 at the ends of its range and below it. -/
theorem witness_ports : small.pcie.linkUp = true ∧ State.reset.pcie.linkUp = false ∧ (6 : BitVec 8) ≠ 0 ∧ (6 : BitVec 8).toNat ≤ 6 ∧
    (7 : BitVec 8) ≠ 0xFF ∧ 6 < (7 : BitVec 8).toNat ∧ ({ spdmSession := some [] } : Pcie).spdmSession ≠ none ∧
    small.pcie.spdmSession = none ∧ small.cfgNum 0x1040 3 = 1 ∧ small.fw.stage = 2 ∧ State.reset.fw.stage ≠ 2 ∧
    ({ small with cfg := [(ekey 0x1040 3, .num 0)] } : State).cfgNum 0x1040 3 ≠ 1 ∧ small.pins.por = true ∧ State.reset.pins.por = false ∧
    State.reset.pins.testMode = 0 ∧
    (let v := fun n => (({ railMv := [(14, n)] } : Safety).railMv.get 0 14).toNat
     v 1709 < 1710 ∧ 1710 ≤ v 1710 ∧ v 1890 ≤ 1890 ∧ 1890 < v 1891) := by decide

/-- PowerOnAndHbm: where the signature verifies, the slot passes every step; an empty slot and one without a key fail. -/
theorem witness_boot (h : ∀ k d g, Config.ecdsaVerify k d g = true) : imaged.headerStep 0 = 0 := by
  have e : imaged.headerOk 0 = true ∧ imaged.fwKeyState (field (imaged.imageHeader 0) 20 1) = 1 ∧
      field (imaged.imageHeader 0) 20 1 ≤ 3 ∧ imaged.safety.rollback ≤ field (imaged.imageHeader 0) 12 4 ∧
      field (imaged.imageHeader 0) 12 4 ≤ 127 := by decide +kernel
  obtain ⟨a, b, c, d, f⟩ := e
  simp only [State.headerStep, h, a, b]
  simp [Nat.not_lt.mpr c, Nat.not_lt.mpr d, Nat.not_lt.mpr f]

theorem test_sha_image : Sha.sha384 (List.replicate 4096 0) = zerosDigest := by decide +kernel

/-- Bytes above every listed address read 0. -/
theorem readBytes_above (m : Memory) (a n : Nat) (h : ∀ x ∈ m, x.1 < a) : m.readBytes a n = List.replicate n 0 := by
  have read : ∀ (l : Memory) (b : Nat), (∀ x ∈ l, x.1 < b) → l.read b = 0 := by
    intro l
    induction l with
    | nil => intro b _; rfl
    | cons x t ih =>
      intro b hb
      have hx := hb x (List.mem_cons_self ..)
      rw [Memory.read, if_neg (by omega)]
      exact ih b fun y hy => hb y (List.mem_cons_of_mem _ hy)
  induction n generalizing a with
  | zero => rfl
  | succ n ih =>
    rw [Memory.readBytes, List.replicate_succ, read m a h, ih (a + 1) fun x hx => Nat.lt_succ_of_lt (h x hx)]

theorem witness_boot_image (h : ∀ k d g, Config.ecdsaVerify k d g = true) : imaged.slotStep 0 = 0 := by
  have e : (∀ x ∈ imaged.flash, x.1 < imaged.slotBase 0 + 4096) ∧ field (imaged.imageHeader 0) 16 4 = 4096 ∧
      slice (imaged.imageHeader 0) 32 48 = zerosDigest := by decide +kernel
  simp only [State.slotStep, witness_boot h, e.2.1, State.imageBody, readBytes_above _ _ _ e.1, test_sha_image, e.2.2]
  rfl

theorem witness_boot_states : imaged.fw.stage = 1 ∧ imaged.fw.started = false ∧ imaged.fw.bootFailed = false ∧
    imaged.bootBlock.trial ≠ 1 ∧ imaged.bootBlock.preferred % 2 = 0 ∧ 0 ∉ imaged.fw.watchdogFailed ∧
    imaged.slotStep 1 = 1 ∧ (5 : Word).toNat + 1250000000 ≤ 1250000005 ∧ 1250000004 < (5 : Word).toNat + 1250000000 ∧
    State.reset.pins.por = false ∧ State.reset.tick.rootLocked = false ∧ imaged.pins.por = true ∧ small.tick.rootLocked = true ∧
    small.hbm.trained = false ∧ small.hbm.failedStacks = [] ∧ small.fw.stage = 2 ∧ small.hbm.scrubbed = false ∧
    inRanges State.reset.scrubHbm (309237645311 / 2097152) = true ∧ inRanges State.reset.scrubHbm (309237645312 / 2097152) = false := by
  decide +kernel

/-- StepsKeepMemoryCanonical, StepsTakeOneCommand, TrippedUntilPowerOn: steps that answer a next state, on memories in
canonical form, from a device that is TRIPPED and from one that is about to be. -/
theorem witness_steps : let s := { small with pending := [.i2cWrite [3]], hbmMem := [⟨5, 7⟩].map fun x => (x : Host.Cell) }
    s.memOk = true ∧ step s = .next { s with pending := [], pins := { s.pins with i2cPointer := 3 } } := by
  refine ⟨by decide, rfl⟩

theorem witness_trip : let s := { small with pending := [.tripAssert], safety := { tripPending := some (1, 9) } }
    (∃ t, step s = .next t ∧ t.safety.tripped = true) ∧ s.safety.tripped = false ∧ s.pending.head? ≠ some .porReset :=
  ⟨⟨_, rfl, by decide⟩, by decide, by decide⟩

/-- SharesAreIsolated: writes that end with the share and one byte past it. -/
theorem witness_shares : small.shareSize 1 1 = 16777216 ∧ (16777212 + ([1, 2, 3, 4] : Bytes).length) ≤ small.shareSize 1 1 ∧
    small.shareSize 1 1 < 16777213 + ([1, 2, 3, 4] : Bytes).length ∧ small.shareSize 1 0 < small.shareSize 1 0 - 3 + 4 ∧
    small.memOk = true ∧ small.ownsShares 1 = true ∧ small.ownsShares 2 = false ∧ (∀ x ∈ small.hbm.xfers, small.hubOpen 1 none true x = false) := by
  refine ⟨by decide, by decide, by decide, by decide, by decide, by decide, by decide, ?_⟩
  intro x h
  cases h

/-- IndexWritesOutOfRange and EmptyRequests: indexes past their rings, and a request of no items. -/
theorem witness_indexes : small.cfgNum 0xD101 6 < ((17 : BitVec 32) - (small.ctx 1).serving.reqHead).toNat ∧
    ((small.ring 1 0).cqTail - (small.ring 1 0).cqHead).toNat < ((1 : BitVec 32) - (small.ring 1 0).cqHead).toNat ∧
    (parseRequest (request 1 0 []) true).items = 0 ∧ (parseRequest (request 1 0 []) true).body = [] ∧ 8 ≤ 8 := by decide

/-! ## Worked examples and single commands -/

/-- Known digests: SHA-256 and SHA-384 of "abc" (FIPS 180-4). -/
theorem test_sha_abc : (Sha.sha256 [0x61, 0x62, 0x63]).take 8 = [0xba, 0x78, 0x16, 0xbf, 0x8f, 0x01, 0xcf, 0xea] ∧
    (Sha.sha384 [0x61, 0x62, 0x63]).take 8 = [0xcb, 0x00, 0x75, 0x3f, 0x45, 0xa3, 0x5e, 0x8b] := by decide +kernel

/-- Chapter 06: XSPILL to XA192_SPILL takes 96 cycles, XOUT to BF16 36. -/
theorem test_tile_cycles : tileCycles { format := 9 } = 96 ∧ tileCycles { format := 2 } = 36 := by decide

/-- Chapter 09: entry 4 of the table yields 132 tiles of 12 tile rows, the last of one row. -/
theorem test_example_tiles : let e : GEntry := { parseGEntry [] with m := 1409, n := 1408, k := 4608 }
    (e.tiles 4).length = 132 ∧ ((e.tiles 4).getLast?).map (fun t => (t.row, t.rows, t.col, t.cols)) = some (1408, 1, 1280, 128) ∧
    ({ e with m := 0 }.tiles 5) = [] := by decide +kernel

/-- Chapter 12: 3 live tiles and 12 live vector registers take 400 cycles to switch. -/
theorem test_example_switch : ({ liveV := List.range 12, tiles := [(0, { live := true }), (3, { live := true }), (5, { live := true })] } : Stream).switchCycles = 400 := by
  decide

/-- Chapter 13: the projections of the primary and of the fallback. -/
theorem test_example_projection :
    let s := small.updWheel 0 fun w => { w with len := 256, table := List.replicate 32 1 ++ List.replicate 32 0x40 }
    s.projection 1 (descriptor 1 1 0) 3470085 90000 = 3519237 ∧ s.projection 1 (descriptor 1 1 0) 3470085 60000 = 3506949 ∧
    s.projection 1 (descriptor 1 1 0) 3460000 90000 = 3509152 := by decide +kernel

/-- Chapter 13: LEAVE 2, then JOINs of 9001 to 9004, take entries 2, 6 and 7 and refuse the last. -/
theorem test_example_requests :
    let ids := [7001, 7002, 7003, 7004, 7005, 7006]
    let s : State := { small with
      ctxs := [(1, { life := { state := .live }, serving := { seqs := (List.range 6).map fun i =>
        (i, { active := true, seqId := BitVec.ofNat 32 (ids.getD i 0) }) } })]
      cfg := [(ekey 0xC101 4, .num 16777216), (ekey 0xD101 2, .num 8)]
      hbmMem := Memory.writeBytes [] 0 (seqRequest 2 0 2 ++ seqRequest 1 9001 0 ++ seqRequest 1 9002 0 ++ seqRequest 1 9003 0 ++ seqRequest 1 9004 0) }
    let a := ({ s := s } : BuildAcc).consumeAll 1 41 (s.serveConf 1) 5
    (a.joins, a.leaves, a.refused, a.joined, a.fault) = (3, 1, 1, [7, 6, 2], false) ∧
    [2, 6, 7].map (fun i => (((a.s.ctx 1).serving.entry i).seqId)) = [9001, 9002, 9003] ∧
    (a.s.hbmShare 1 (4 * 64 + 32) 4) = [7, 0, 0xFF, 0xFF] := by decide +kernel

/-- Chapter 18: the second launch of context 7 is above its balance and is deferred. -/
theorem test_example_deferral :
    let x : Cmd := { uid := 2, type := 1, tag := 20000 }
    let s : State := { small with
      ctxs := [(7, { life := { state := .live }, energy := { balance := 4641 }, cmds := [x] })]
      ident := { staticW := 260 }, energy := { capW := 1200, carry := 4, shares := [(3, 32768), (7, 16384)] } }
    (match exec (.commandStart 7 2) s with
      | .next t => (t.cmd 7 2).map (·.phase) == some .deferred && decide ((t.ctx 7).energy.balance = 4641 ∧ (t.ctx 7).energy.deferrals = 1)
      | _ => false) = true := by decide +kernel

/-- Chapter 20: TAIL 49 with HEAD 32 is refused: the notice goes to CQ_BASE + 0, CQ_TAIL is 33, the count of refusals 1. -/
theorem test_example_ring_full :
    let s := small.updRing 1 0 fun y => { y with enable := true, tail := 32, head := 32, cqHead := 32, cqTail := 32, cqBase := 0x10000 }
    (match exec (.ringDoorbell 1 0 49) s with
      | .next t => decide ((t.ring 1 0).tail = 32 ∧ (t.ring 1 0).cqTail = 33 ∧ (t.ring 1 0).fulls = 1 ∧
          t.hostMem.readBytes 0x10000 5 = [0xFF, 0xFF, 0xFF, 0xFF, 8] ∧ field (t.hostMem.readBytes 0x10000 20) 16 4 = 49 ∧
          (t.ctx 1).host.intStatus = 8)
      | _ => false) = true := by decide +kernel

/-- Chapter 20: a read of TICK_NOW_LO at tick 0x1_FFFF_FFF0 answers its low half and latches its high half. -/
theorem test_example_tick_read :
    let s := { small with tick := { small.tick with now := 0x1FFFFFFF0 } }
    (match exec (.counterLoRead 1 0x2000) s with
      | .next t => decide (t.out = [.regRead 1 0xFFFFFFF0] ∧ (t.ctx 1).host.tickLatch = some (1, 0x1FFFFFFF0))
      | _ => false) = true := by decide

/-- Chapter 02: at alignment the follower subtracts 400,000 from its count. -/
theorem test_example_alignment :
    let s := { small.updLink 4 fun k => { k with state := .delay } with
      tick := { small.tick with now := 500000, state := 0, upstream := some 4, freqLocked := true, aligned := false } }
    (match exec (.delayComplete 4 (List.replicate 1024 ⟨1000000, 7403500, 7404700, 1008200⟩)) s with
      | .next t => decide (t.tick.now = 100000 ∧ t.tick.state = 2 ∧ t.tick.hopDelay = [(4, 3500)] ∧ (t.link 4).state = .up)
      | _ => false) = true := by decide +kernel

/-- SETS sign-extends; ADDS wraps modulo 2^64 (R888). -/
theorem test_sets_adds :
    (match exec (.sets 0 3 0x80000000) (at_ small 6 0 3 0x8000 0) with
      | .next t => decide (((t.core 0).stream 2).s 3 = 0xFFFFFFFF80000000 ∧ ((t.core 0).stream 2).pc = 0x3008)
      | _ => false) = true ∧
    (match exec (.adds 0 3 2) (at_ (smallStream fun st => st.setS 3 0xFFFFFFFFFFFFFFFF) 6 1 3 0 2) with
      | .next t => decide (((t.core 0).stream 2).s 3 = 1)
      | _ => false) = true := by decide +kernel

/-- A loop of two passes comes back to its body once and goes on after it (R888). -/
theorem test_loop_turns : let l : LoopLevel := { reg := 4, count := 2, iter := 0, start := 8, last := 16 }
    let st := ({ pc := 16, loops := [l] } : Stream).advance
    (st.pc, st.s 4, st.loops.length) = (8, 1, 1) ∧ (({ st with pc := 16 } : Stream).advance.pc, ({ st with pc := 16 } : Stream).advance.loops) = (24, []) := by
  decide

/-- A signal past 0xFFFF_FFFF begins the context's teardown with cause FAULTED (R232, R536). -/
theorem test_sigsem_overflow : (match exec (.sigsem 0 5 1) (at_ (small.setSem 1 5 0xFFFFFFFF) 4 0 5 1 0) with
      | .next t => decide ((t.ctx 1).life.state = .tearingDown ∧ (t.ctx 1).life.cause = 2 ∧ t.sem 1 5 = 0xFFFFFFFF)
      | _ => false) = true := by decide

/-- Binary32 lanes: 1 + 2; the least subnormal halves to +0 or itself by ties to even; ∞ − ∞ is NaN with INV; and a
conversion of 2.5 to INT8 ties to 2 (R68, R92, R95, R106). -/
theorem test_lanes : vopLane .add 0 0x3F800000 0x40000000 = (0x40400000, 0) ∧ (vopLane .sub 0 0x7F800000 0x7F800000) = (f32NaN, Flag.inv) ∧
    (vopLane .mul 0 0x00000001 0x3F000000).1 = 0 ∧ (vopLane .mul 0 0x00000003 0x3F000000).1 = 2 ∧
    (encodeElem 5 .rne false (Num.ofInt 5 (-1))).1 = 2 := by decide +kernel

/-- IDCODE of stepping A0 (R846) and the first byte of the I²C map (R859). -/
theorem test_pins : exec .idcode small = .next (({ small with pins := { small.pins with tapReg := 1 } }).emit (.tap [0x4F, 0x2B, 0x51, 0x0A])) ∧
    small.i2cByte 0 = 0x5A := by
  refine ⟨rfl, by decide⟩

/-- A READ of no items is answered OK with its tick (R663). -/
theorem test_empty_read :
    let v := small.serveRequest .h (parseRequest (request 1 0 []) true) 4072
    (v.status, v.items, v.body) = (0, 0, toLe 8 1000000) := by decide +kernel

/-- Step with an empty queue is one tick. -/
theorem test_idle : step small = .next { small with tick := { small.tick with now := 1000001 } } := rfl


end Sys2Proof.Tests
end

section
namespace Sys2Proof.Machine

/-! ## What an issuing instruction runs -/

/-- An instruction that issues runs its meaning on the stream that issues it (R207, R219). -/
theorem onIssue_of_issues {s : State} {k : CoreId} {key : Nat} {i : Instr} (h : s.issues k key i)
    (f : Nat → Stream → State) : onIssue k i s f = f key ((s.core k.val).stream key) := by
  obtain ⟨hissuer, hfetch⟩ := h
  simp [onIssue, hissuer, hfetch]

/-! ## Parts of the state after a change of one stream or of one semaphore -/

@[simp] theorem State.updStream_stream (s : State) (k key : Nat) (f : Stream → Stream) :
    ((s.updStream k key f).core k).stream key = f ((s.core k).stream key) := by
  simp [State.updStream]

@[simp] theorem State.updStream_sem (s : State) (k key : Nat) (f : Stream → Stream) (c n : Nat) :
    (s.updStream k key f).sem c n = s.sem c n := rfl

@[simp] theorem State.setSem_core (s : State) (c n v k : Nat) : (s.setSem c n v).core k = s.core k := rfl

/-- The count is held in 32 bits (R230). -/
theorem State.sem_le (s : State) (c n : Nat) : s.sem c n ≤ 0xFFFFFFFF :=
  Nat.le_of_lt_succ ((s.ctx c).sems.get 0 n).isLt

/-- A count that 32 bits hold reads back as it was set. -/
theorem State.setSem_sem (s : State) (c n : Nat) {v : Nat} (h : v ≤ 0xFFFFFFFF) : (s.setSem c n v).sem c n = v := by
  simp only [State.setSem, State.sem, State.updCtx_ctx, SMap.get_put, BitVec.toNat_ofNat]
  omega

/-! ## Signals (R232) -/

/-- A signal whose sum 32 bits hold sets that sum. -/
theorem State.signalSem_of_fits {s : State} {c n amount : Nat} (hn : n < Config.semaphores)
    (h : s.sem c n + amount ≤ 0xFFFFFFFF) : s.signalSem c n amount = s.setSem c n (s.sem c n + amount) := by
  have hAdd : s.addSem c n amount = (s.setSem c n (s.sem c n + amount), false) := by
    rw [Config.semaphores] at hn
    rw [State.addSem, if_neg (by omega), if_neg (by rw [Config.semaphores]; omega), if_neg (by omega)]
  rw [State.signalSem, hAdd]

/-- A signal whose sum exceeds 32 bits faults the context and leaves the count. -/
theorem State.signalSem_of_overflow {s : State} {c n amount : Nat} (hn : n < Config.semaphores)
    (h : 0xFFFFFFFF < s.sem c n + amount) : s.signalSem c n amount = s.ctxFault c := by
  have hAdd : s.addSem c n amount = (s, true) := by
    rw [Config.semaphores] at hn
    rw [State.addSem, if_neg (by omega), if_neg (by rw [Config.semaphores]; omega), if_pos h]
  rw [State.signalSem, hAdd]

/-! ## WAITSEM and SIGSEM where they issue -/

section
variable {k : CoreId} {s : State} {key : Nat} {sem n : BitVec 16}

/-- A wait that the count satisfies subtracts at once and the stream goes on (R220); n = 0 is one of them (R236). -/
theorem exec_waitsem_of_le (h : s.issues k key (.waitsem k sem n)) (hsem : sem.toNat < Config.semaphores)
    (hn : n.toNat ≤ s.sem (keyCtx key) sem.toNat) :
    exec (.waitsem k sem n) s = .next ((s.setSem (keyCtx key) sem.toNat
      (s.sem (keyCtx key) sem.toNat - n.toNat)).updStream k.val key Stream.advance) := by
  change execWaitsem k sem n s = _
  rw [execWaitsem, onIssue_of_issues h]
  simp only [if_neg (Nat.not_le.2 hsem), if_pos hn]

/-- A wait that the count does not satisfy begins now (R233). -/
theorem exec_waitsem_of_lt (h : s.issues k key (.waitsem k sem n)) (hsem : sem.toNat < Config.semaphores)
    (hn : s.sem (keyCtx key) sem.toNat < n.toNat) :
    exec (.waitsem k sem n) s = .next (s.updStream k.val key fun _ =>
      s.startWait key ((s.core k.val).stream key) (.waitSem sem n)) := by
  change execWaitsem k sem n s = _
  rw [execWaitsem, onIssue_of_issues h]
  simp only [if_neg (Nat.not_le.2 hsem), if_neg (Nat.not_le.2 hn)]

/-- A wait on a semaphore that does not exist faults the context (R231). -/
theorem exec_waitsem_of_absent (h : s.issues k key (.waitsem k sem n)) (hsem : Config.semaphores ≤ sem.toNat) :
    exec (.waitsem k sem n) s = .next (s.ctxFault (keyCtx key)) := by
  change execWaitsem k sem n s = _
  rw [execWaitsem, onIssue_of_issues h]
  simp only [if_pos hsem]

/-- Where the semaphore exists the stream goes on and the signal is made; which of the two signals it is, the sum says. -/
theorem exec_sigsem_of_lt (h : s.issues k key (.sigsem k sem n)) (hsem : sem.toNat < Config.semaphores) :
    exec (.sigsem k sem n) s =
      .next ((s.updStream k.val key Stream.advance).signalSem (keyCtx key) sem.toNat n.toNat) := by
  change execSigsem k sem n s = _
  rw [execSigsem, onIssue_of_issues h]
  simp only [if_neg (Nat.not_le.2 hsem)]

/-- A signal whose sum 32 bits hold (R232). -/
theorem exec_sigsem_of_fits (h : s.issues k key (.sigsem k sem n)) (hsem : sem.toNat < Config.semaphores)
    (hfits : s.sem (keyCtx key) sem.toNat + n.toNat ≤ 0xFFFFFFFF) :
    exec (.sigsem k sem n) s = .next ((s.updStream k.val key Stream.advance).setSem (keyCtx key) sem.toNat
      (s.sem (keyCtx key) sem.toNat + n.toNat)) :=
  (exec_sigsem_of_lt h hsem).trans (congrArg _ (State.signalSem_of_fits hsem hfits))

/-- A signal whose sum exceeds 32 bits faults the context (R232). -/
theorem exec_sigsem_of_overflow (h : s.issues k key (.sigsem k sem n)) (hsem : sem.toNat < Config.semaphores)
    (hover : 0xFFFFFFFF < s.sem (keyCtx key) sem.toNat + n.toNat) :
    exec (.sigsem k sem n) s = .next ((s.updStream k.val key Stream.advance).ctxFault (keyCtx key)) :=
  (exec_sigsem_of_lt h hsem).trans (congrArg _ (State.signalSem_of_overflow hsem hover))

/-- A signal to a semaphore that does not exist faults the context (R231). -/
theorem exec_sigsem_of_absent (h : s.issues k key (.sigsem k sem n)) (hsem : Config.semaphores ≤ sem.toNat) :
    exec (.sigsem k sem n) s = .next (s.ctxFault (keyCtx key)) := by
  change execSigsem k sem n s = _
  rw [execSigsem, onIssue_of_issues h]
  simp only [if_pos hsem]

end

/-- Settles O4: each clause is one case of `exec` at an issuing WAITSEM or SIGSEM; a sum or difference that 32 bits hold
reads back from the semaphore, and changing the semaphore or the stream leaves the other as it was. -/
theorem semaphoreInstructions : Obligations.SemaphoreInstructions := by
  unfold Obligations.SemaphoreInstructions
  intro k s key sem n
  refine ⟨fun h => ⟨fun hsem hn => ?_, fun hsem hn => ?_, exec_waitsem_of_absent h⟩,
    fun h => ⟨fun hsem _ hfits => ?_, fun hsem _ => exec_sigsem_of_overflow h hsem, exec_sigsem_of_absent h⟩⟩
  · -- WAITSEM, the count suffices
    have hcount := s.setSem_sem (keyCtx key) sem.toNat
      (Nat.le_trans (Nat.sub_le _ n.toNat) (s.sem_le (keyCtx key) sem.toNat))
    exact ⟨_, exec_waitsem_of_le h hsem hn, by simp [hcount]⟩
  · -- WAITSEM, the count does not suffice
    exact ⟨_, exec_waitsem_of_lt h hsem hn, by simp [State.startWait]⟩
  · -- SIGSEM, the sum fits
    have hcount := (s.updStream k.val key Stream.advance).setSem_sem (keyCtx key) sem.toNat hfits
    exact ⟨_, exec_sigsem_of_fits h hsem hfits, by simp [hcount]⟩

end Sys2Proof.Machine
end

section
namespace Sys2Proof.Machine

/-! ## Forwarding an input to the mirror changes no context and no configuration -/

@[simp] theorem State.forwardIn_ctxs (s : State) (c : Nat) (i : FwdInput) : (s.forwardIn c i).ctxs = s.ctxs := by
  unfold State.forwardIn
  split
  · exact State.emit_ctxs s _
  · rfl

@[simp] theorem State.forwardIn_cfg (s : State) (c : Nat) (i : FwdInput) : (s.forwardIn c i).cfg = s.cfg := by
  unfold State.forwardIn
  split
  · exact State.emit_cfg s _
  · rfl

@[simp] theorem State.forwardIn_ctx (s : State) (c : Nat) (i : FwdInput) (d : Nat) :
    (s.forwardIn c i).ctx d = s.ctx d := by
  simp only [State.ctx, State.forwardIn_ctxs]

@[simp] theorem State.forwardIn_ring (s : State) (c : Nat) (i : FwdInput) (d r : Nat) :
    (s.forwardIn c i).ring d r = s.ring d r := by
  simp only [State.ring, State.forwardIn_ctx]

@[simp] theorem State.forwardIn_cfgNum (s : State) (c : Nat) (i : FwdInput) (idx sub : Nat) :
    (s.forwardIn c i).cfgNum idx sub = s.cfgNum idx sub := by
  simp only [State.cfgNum, State.forwardIn_cfg]

/-! ## Index writes past their range change nothing (R561, R801) -/

theorem State.seqReqTail_of_gt {s : State} {c : Nat} {v : BitVec 32}
    (h : s.cfgNum (0xD100 + c) 6 < (v - (s.ctx c).serving.reqHead).toNat) : s.seqReqTail c v = s :=
  if_pos h

theorem State.cqHead_of_gt {s : State} {c : CtxId} {r : RingId} {v : BitVec 32}
    (h : ((s.ring c.val r.val).cqTail - (s.ring c.val r.val).cqHead).toNat <
      (v - (s.ring c.val r.val).cqHead).toNat) : s.cqHead c r v = s :=
  if_pos h

/-- Past REQ_ENTRIES, CTX_SEQ_REQ_TAIL is at most forwarded to the mirror (R561). -/
theorem exec_ctxSeqReqTail_of_gt {c : CtxId} {v : BitVec 32} {s : State}
    (h : s.cfgNum (0xD100 + c.val) 6 < (v - (s.ctx c.val).serving.reqHead).toNat) :
    exec (.ctxSeqReqTail c v) s =
      .next (if !s.hostReaches || s.ignoresHost then s else s.forwardIn c.val (.regWrite c 0x1000 v)) := by
  have hkeep : (s.forwardIn c.val (.regWrite c 0x1000 v)).seqReqTail c.val v =
      s.forwardIn c.val (.regWrite c 0x1000 v) := State.seqReqTail_of_gt (by simpa using h)
  change execCtxSeqReqTail c v s = _
  rw [execCtxSeqReqTail, hkeep]

/-- Past CQ_TAIL, CQ_HEAD_WRITE is at most forwarded to the mirror (R801). -/
theorem exec_cqHeadWrite_of_gt {c : CtxId} {r : RingId} {v : BitVec 32} {s : State}
    (h : ((s.ring c.val r.val).cqTail - (s.ring c.val r.val).cqHead).toNat <
      (v - (s.ring c.val r.val).cqHead).toNat) :
    exec (.cqHeadWrite c r v) s =
      .next (if !s.hostReaches || s.ignoresHost then s
        else s.forwardIn c.val (.regWrite c (256 * r.val + 0x20) v)) := by
  have hkeep : (s.forwardIn c.val (.regWrite c (256 * r.val + 0x20) v)).cqHead c r v =
      s.forwardIn c.val (.regWrite c (256 * r.val + 0x20) v) := State.cqHead_of_gt (by simpa using h)
  change execCqHeadWrite c r v s = _
  rw [execCqHeadWrite, hkeep]

/-- Settles O59: past its range each index write is at most an input forwarded to the mirror, and forwarding leaves every
context as it was. -/
theorem indexWritesOutOfRange : Obligations.IndexWritesOutOfRange := by
  unfold Obligations.IndexWritesOutOfRange
  intro c v s
  refine ⟨fun h => ⟨_, exec_ctxSeqReqTail_of_gt h, ?_⟩, fun r h => ⟨_, exec_cqHeadWrite_of_gt h, ?_⟩⟩
  · -- CTX_SEQ_REQ_TAIL: the write does not reach the device, or it is forwarded
    split
    · rfl
    · exact State.forwardIn_ctxs s _ _
  · -- CTX_CQ_HEAD: the same two cases
    split
    · rfl
    · exact State.forwardIn_ctxs s _ _

end Sys2Proof.Machine
end

section
namespace Sys2Proof.Machine

/-! ## Bits of a register value -/

theorem bit_eq_testBit (v i : Nat) : bit v i = v.testBit i := by
  rw [bit, Nat.testBit_eq_decide_div_mod_eq]

/-- The bit that a mask of one bit sets. -/
theorem bit_or_one_shiftLeft {w : Nat} (x : BitVec w) {i : Nat} (h : i < w) : bit (x ||| 1#w <<< i).toNat i = true := by
  simp [bit_eq_testBit, h, Nat.zero_lt_of_lt h]

/-! ## A change of a function's host side, and the interrupt it raises -/

@[simp] theorem State.updHost_host (s : State) (c : Nat) (f : HostFn → HostFn) :
    ((s.updHost c f).ctx c).host = f (s.ctx c).host := by
  simp [State.updHost]

@[simp] theorem State.emit_ctx (s : State) (o : Output) (c : Nat) : (s.emit o).ctx c = s.ctx c := rfl

@[simp] theorem State.updHost_silent (s : State) (c : Nat) (f : HostFn → HostFn) (d : Nat) :
    (s.updHost c f).silent d = s.silent d := rfl

/-- Where the device speaks for the function, a cause of a vector sets its bit of INT_STATUS and leaves the rest of the
function's host side (R804). -/
theorem State.raise_host {s : State} {f : Nat} (h : s.silent f = false) (v : Nat) :
    ((s.raise f v).ctx f).host =
      { (s.ctx f).host with intStatus := (s.ctx f).host.intStatus ||| 1#11 <<< v } := by
  unfold State.raise
  rw [if_neg (by simp [h])]
  dsimp only
  split
  · -- no message: the bit was set, or the link is down
    exact s.updHost_host f _
  · -- the message is one output more
    rw [State.emit_ctx]
    exact s.updHost_host f _

/-! ## The mailbox doorbell (R653) -/

/-- A ring of a mailbox that is busy, or of a VF that is not yet created, changes nothing. -/
theorem State.mbxRing_of_ignored {s : State} {f : Nat}
    (h : (s.ctx f).host.mbx.busy = true ∨
      (f ≠ 0 ∧ ((s.ctx f).life.state = .free ∨ (s.ctx f).life.state = .creating))) : s.mbxRing f = s := by
  refine if_pos ?_
  rcases h with hbusy | ⟨hvf, hstate⟩
  · simp [hbusy]
  · simp [hvf, hstate]

/-- Whether or not MBX_RING reaches the device, one that is ignored there changes nothing. -/
theorem exec_mbxRing_of_ignored {c : CtxId} {s : State}
    (h : (s.ctx c.val).host.mbx.busy = true ∨
      (c.val ≠ 0 ∧ ((s.ctx c.val).life.state = .free ∨ (s.ctx c.val).life.state = .creating))) :
    exec (.mbxRing c) s = .next s := by
  change execMbxRing c s = _
  rw [execMbxRing, State.mbxRing_of_ignored h, ite_self]

/-! ## The mailbox reply (R654, R655) -/

/-- The host side of a function once its mailbox shows the reply r. -/
def HostFn.showReply (h : HostFn) (r : Bytes) : HostFn :=
  { h with mbx := { h.mbx with
      busy := false, done := true, ready := none, copied := none, taken := [], reply := h.mbx.reply.writeBytes 0 r } }

/-- A reply of a busy mailbox whose tick has come, with no copy of a SNAPSHOT under way or ended in this tick, is shown
and vector 0 raised. -/
theorem exec_mbxReply_of_due {c : CtxId} {s : State} {r : Bytes} {t : Word}
    (hready : (s.ctx c.val).host.mbx.ready = some (r, t)) (hbusy : (s.ctx c.val).host.mbx.busy = true)
    (htick : t.toNat ≤ s.now) (hcopy : (s.ctx c.val).host.mbx.copying = false)
    (hcopied : ∀ u, (s.ctx c.val).host.mbx.copied = some u → u.toNat < s.now) :
    exec (.mbxReply c) s = .next ((s.updHost c.val (·.showReply r)).raise c.val 0) := by
  have hend : (s.ctx c.val).host.mbx.copied.elim false (fun u => decide (s.now ≤ u.toNat)) = false := by
    cases h : (s.ctx c.val).host.mbx.copied with
    | none => rfl
    | some u => exact decide_eq_false (Nat.not_le.2 (hcopied u h))
  change execMbxReply c s = _
  simp only [execMbxReply, hready]
  rw [if_neg (by simp [hbusy, htick, hcopy, hend])]
  rfl

/-- Settles O57: a ring that is ignored leaves the state; a reply that is due is shown, and raising vector 0 adds its bit
to INT_STATUS and leaves the mailbox. -/
theorem mailboxRingAndReply : Obligations.MailboxRingAndReply := by
  unfold Obligations.MailboxRingAndReply
  intro c s
  refine ⟨fun hbusy => exec_mbxRing_of_ignored (.inl hbusy), fun hvf hstate => ?_,
    fun r t hready hbusy htick hcopy hcopied hsilent => ?_⟩
  · -- a VF whose context is FREE or CREATING
    exact exec_mbxRing_of_ignored (.inr ⟨Fin.val_ne_of_ne hvf, hstate⟩)
  · -- a reply that is due
    have hhost := State.raise_host (s := s.updHost c.val (·.showReply r)) (f := c.val) (by simpa using hsilent) 0
    refine ⟨_, exec_mbxReply_of_due hready hbusy htick hcopy hcopied, ?_⟩
    rw [hhost, State.updHost_host]
    exact ⟨rfl, rfl, rfl, bit_or_one_shiftLeft _ (by decide)⟩

end Sys2Proof.Machine
end

section
namespace Sys2Proof.Machine

/-! ## A READ and a WRITE of no items (R663) -/

/-- A READ of no items is answered by its sample tick alone, where the reply has room for it. -/
theorem State.serveRead_of_empty {q : Request} {limit : Nat} (hitems : q.items = 0) (hbody : q.body = [])
    (hlimit : 8 ≤ limit) (s : State) (p : Path) :
    s.serveRead p q limit = { s := s, status := 0, items := 0, body := toLe 8 s.now } := by
  have hroom : ¬limit < 8 + 8 * 0 := Nat.not_lt.2 hlimit
  simp [State.serveRead, hitems, hbody, hroom, State.readItems]

/-- With no item, none that names the safety partition is counted (R666). -/
@[simp] theorem State.refuseSafety_nil (s : State) (p : Path) : s.refuseSafety p [] = s := by
  cases p <;> rfl

@[simp] theorem State.beginWrite_nil (s : State) (p : Path) : s.beginWrite p [] = s := rfl

/-- A WRITE of no items is answered OK with its apply tick, and no item is refused, kept or applied. -/
theorem State.serveWrite_of_empty {q : Request} (hitems : q.items = 0) (hbody : q.body = []) (s : State) (p : Path) :
    s.serveWrite p q = { s := s, status := 0, items := 0, body := toLe 8 s.now } := by
  simp [State.serveWrite, hitems, hbody, parseWrites, State.writeStatuses]

/-- Settles O60: with no item, the answer of a READ and that of a WRITE are the same, and both leave the state. -/
theorem emptyRequests : Obligations.EmptyRequests := by
  unfold Obligations.EmptyRequests
  intro s p q limit hitems hbody hlimit
  rw [State.serveRead_of_empty hitems hbody hlimit, State.serveWrite_of_empty hitems hbody]
  exact ⟨rfl, rfl, rfl, rfl, rfl, rfl⟩

end Sys2Proof.Machine
end

section
namespace Sys2Proof.Machine

/-! ## TAP test modes and I²C pointer writes (R846, R847, R851) -/

@[simp] theorem State.tapCapture_testMode (s : State) : s.tapCapture.pins.testMode = s.pins.testMode := rfl

/-- While POR_N is high, an instruction with a test mode leaves the state that BYPASS leaves (R846). -/
theorem State.tapTest_of_por_high {s : State} (hpor : s.pins.por = true) (reg mode : Nat) (capture : Bool) :
    s.tapTest reg mode capture = s.tapBypass := if_pos hpor

/-- While POR_N is low, an instruction's test mode is put into force, whether it captures the pins or not (R846). -/
theorem State.tapTest_testMode_of_por_low {s : State} (hpor : s.pins.por = false) (reg mode : Nat) (capture : Bool) :
    (s.tapTest reg mode capture).pins.testMode = mode := by
  rw [State.tapTest, if_neg (by simp [hpor])]
  cases capture with
  | false => rfl
  | true => exact State.tapCapture_testMode _

/-- The TAP instructions that R846 names, each with the number of its test mode in `Pins.testMode`. -/
def tapTestModes : List (Instr × Nat) :=
  [(.extest, 1), (.clamp, 2), (.highz, 3), (.extestPulse, 4), (.extestTrain, 5)]

/-- What each instruction of R846 does is `State.tapTest` with its own test mode. -/
theorem exec_of_mem_tapTestModes {x : Instr × Nat} (hx : x ∈ tapTestModes) (s : State) :
    ∃ reg capture, exec x.1 s = .next (s.tapTest reg x.2 capture) := by
  simp only [tapTestModes, List.mem_cons, List.not_mem_nil, or_false] at hx
  rcases hx with rfl | rfl | rfl | rfl | rfl
  · exact ⟨3, true, rfl⟩
  · exact ⟨4, false, rfl⟩
  · exact ⟨5, false, rfl⟩
  · exact ⟨6, true, rfl⟩
  · exact ⟨7, true, rfl⟩

/-- The first byte of an I²C write is the new pointer; the bytes after it are NACKed together, and nothing else changes
(R851). -/
theorem exec_i2cWrite_cons (p : Byte) (rest : Bytes) (s : State) :
    exec (.i2cWrite (p :: rest)) s = .next { s with
      pins := { s.pins with i2cPointer := p }
      out := (if rest = [] then [] else [.i2cNack rest.length]) ++ s.out } := by
  cases rest with
  | nil => rfl
  | cons q rest => rfl

/-- Settles O58: the level of POR_N decides what the five test instructions do, IDCODE emits the stepping's code, and an
I²C write is one equation. -/
theorem tapModesAndPointerWrites : Obligations.TapModesAndPointerWrites := by
  unfold Obligations.TapModesAndPointerWrites
  intro s
  refine ⟨fun hpor i hi => ?_, fun hpor x hx => ?_, ⟨_, rfl, rfl⟩, fun p rest => ?_⟩
  · -- POR_N high
    obtain ⟨mode, hmode⟩ : ∃ mode, (i, mode) ∈ tapTestModes := by
      revert i
      simp [tapTestModes]
    obtain ⟨reg, capture, hexec⟩ := exec_of_mem_tapTestModes hmode s
    rw [hexec, State.tapTest_of_por_high hpor]
    rfl
  · -- POR_N low
    obtain ⟨reg, capture, hexec⟩ := exec_of_mem_tapTestModes hx s
    exact ⟨_, hexec, State.tapTest_testMode_of_por_low hpor reg x.2 capture⟩
  · -- an I²C write
    exact ⟨_, exec_i2cWrite_cons p rest s, rfl, rfl, rfl⟩

end Sys2Proof.Machine
end

section
namespace Sys2Proof.Machine

/-! ## What a step keeps -/

/-- A TRIPPED device takes no forwarded configuration set (R780), and every other forwarded input keeps TRIPPED. -/
theorem State.applyInput_keeps_always (base s : State) (i : FwdInput) (hk : Keeps base s) :
    Keeps base (s.applyInput i) := by
  cases htripped : s.safety.tripped with
  | false => exact State.applyInput_keeps base s i hk (hk.tripped.symm.trans htripped)
  | true =>
    cases i with
    | descriptor c r b => exact State.acceptDescriptor_keeps base _ _ _ _ (State.updRing_keeps base s _ _ _ hk)
    | bar2Write c off b => exact State.bar2Write_keeps base s _ _ _ hk
    | regWrite c off v => exact State.registerWrite_keeps base s _ _ _ hk
    | request c b => exact State.updCtx_keeps base s _ _ hk
    | configSet items tick =>
      have hholds : s.tripHolds s.now = true := by simp [State.tripHolds, htripped]
      rw [State.applyInput, if_pos hholds]
      exact hk
    | packet p =>
      rw [State.applyInput]
      split
      · exact State.landPacket_keeps base s p hk
      · exact hk
    | flr c => exact State.vfFlr_keeps base s _ hk
    | hostLoss => exact State.loseTenants_keeps base s hk

theorem execForwardedInputApply_keeps_always (s : State) : OutKeeps s (execForwardedInputApply s) := by
  rw [execForwardedInputApply]
  refine outKeeps_next _ _ ?_
  split
  · exact Keeps.refl s
  · split
    · exact State.applyInput_keeps_always s _ _ (State.updPair_keeps s s _ (Keeps.refl s))
    · exact Keeps.refl s

/-- A TRIPPED device activates no set (R780), and a device that is not TRIPPED may restart. -/
theorem execSetActivation_keeps_always (s : State) : OutKeeps s (execSetActivation s) := by
  cases htripped : s.safety.tripped with
  | false => exact execSetActivation_keeps s s (Keeps.refl s) htripped
  | true =>
    rw [execSetActivation]
    refine outKeeps_next _ _ ?_
    split
    · exact Keeps.refl s
    · rw [if_pos (.inr (.inl (by simp [State.tripHolds, htripped])))]
      exact Keeps.refl s

/-- Every command but a power-on and a trip keeps the waiting commands, TRIPPED, the serial number and the canonical form
of every memory: what Laws/Keeps.lean says of its meaning. -/
theorem exec_keeps {c : Instr} (s : State) (ht : c ≠ .tripAssert) (hp : c ≠ .porReset) : OutKeeps s (exec c s) := by
  have hk := Keeps.refl s
  unfold exec
  cases c with
  | loop => exact execLoop_keeps _ _ _ _ _ s hk
  | branch => exact execBranch_keeps _ _ _ _ _ s hk
  | waitsem => exact execWaitsem_keeps _ _ _ _ s hk
  | waitsemRelease => exact execWaitsemRelease_keeps _ _ _ s hk
  | sigsem => exact execSigsem_keeps _ _ _ _ s hk
  | waittick => exact execWaittick_keeps _ _ _ s hk
  | waittickRelease => exact execWaittickRelease_keeps _ _ s hk
  | sets => exact execSets_keeps _ _ _ _ s hk
  | adds => exact execAdds_keeps _ _ _ _ s hk
  | endProgram => exact execEndProgram_keeps _ _ s hk
  | tloadv => exact execTloadv_keeps _ _ _ _ _ _ s hk
  | tstorev => exact execTstorev_keeps _ _ _ _ _ _ _ s hk
  | dma => exact execDma_keeps _ _ _ _ _ s hk
  | dmaRetire => exact execDmaRetire_keeps _ _ s hk
  | atomaddXa => exact execAtomaddXa_keeps _ _ _ _ _ _ s hk
  | atomaddF32 => exact execAtomaddF32_keeps _ _ _ _ _ _ s hk
  | mma => exact execMma_keeps _ _ _ _ _ _ _ _ _ _ s hk
  | xspill => exact execXspill_keeps _ _ _ _ _ _ _ s hk
  | xfill => exact execXfill_keeps _ _ _ _ _ _ s hk
  | xout => exact execXout_keeps _ _ _ _ _ _ _ s hk
  | vop => exact execVop_keeps _ _ _ _ _ _ s hk
  | sfu => exact execSfu_keeps _ _ _ _ _ _ s hk
  | softmax => exact execSoftmax_keeps _ _ _ _ _ _ _ s hk
  | norm => exact execNorm_keeps _ _ _ _ _ _ _ s hk
  | stipple => exact execStipple_keeps _ _ _ _ _ s hk
  | route => exact execRoute_keeps _ _ _ _ s hk
  | routeDone => exact execRouteDone_keeps _ _ s hk
  | balReset => exact execBalReset_keeps _ _ _ _ s hk
  | count => exact execCount_keeps _ _ _ _ s hk
  | countExchangeResult => exact execCountExchangeResult_keeps _ _ _ s hk
  | countComplete => exact execCountComplete_keeps _ _ _ s hk
  | scatter => exact execScatter_keeps _ _ _ _ s hk
  | scatterDone => exact execScatterDone_keeps _ _ s hk
  | ret => exact execRet_keeps _ _ _ _ s hk
  | returnDone => exact execReturnDone_keeps _ _ s hk
  | combine => exact execCombine_keeps _ _ _ _ s hk
  | combineTokenStart => exact execCombineTokenStart_keeps _ _ _ s hk
  | combineDone => exact execCombineDone_keeps _ _ s hk
  | exitTest => exact execExitTest_keeps _ _ _ _ s hk
  | queueRelease => exact execQueueRelease_keeps _ _ _ s hk
  | coll => exact execColl_keeps _ _ _ _ s hk
  | collF32 => exact execCollF32_keeps _ _ _ _ s hk
  | collAlloc => exact execCollAlloc_keeps _ _ _ s hk
  | collStepOk => exact execCollStepOk_keeps _ _ _ s hk
  | collTimeout => exact execCollTimeout_keeps _ _ _ s hk
  | abortFloodReceive => exact execAbortFloodReceive_keeps _ _ _ _ _ s hk
  | abortFix => exact execAbortFix_keeps _ _ s hk
  | collAbortSettle => exact execCollAbortSettle_keeps _ _ s hk
  | groupReform => exact execGroupReform_keeps _ _ _ s hk
  | gclaim => exact execGclaim_keeps _ _ _ _ s hk
  | rosterReady => exact execRosterReady_keeps _ _ _ s hk
  | rosterRelease => exact execRosterRelease_keeps _ _ _ _ s hk
  | gclaimResult => exact execGclaimResult_keeps _ _ s hk
  | launch => exact execLaunch_keeps _ _ _ s hk
  | descCreate => exact execDescCreate_keeps _ _ _ s hk
  | descDestroy => exact execDescDestroy_keeps _ _ _ s hk
  | dmaCommand => exact execDmaCommand_keeps _ _ _ s hk
  | signal => exact execSignal_keeps _ _ _ s hk
  | abort => exact execAbort_keeps _ _ _ s hk
  | fence => exact execFence_keeps _ _ _ s hk
  | distSet => exact execDistSet_keeps _ _ _ s hk
  | commandStart => exact execCommandStart_keeps _ _ _ s hk
  | launchStart => exact execLaunchStart_keeps _ _ _ s hk
  | commandTerminal => exact execCommandTerminal_keeps _ _ _ _ s hk
  | trackerWaitEnd => exact execTrackerWaitEnd_keeps _ _ s hk
  | waitTimeout => exact execWaitTimeout_keeps _ _ _ s hk
  | teardownStop => exact execTeardownStop_keeps _ _ s hk
  | scrubStart => exact execScrubStart_keeps _ _ s hk
  | transactionAbandon => exact execTransactionAbandon_keeps _ _ s hk
  | teardownFree => exact execTeardownFree_keeps _ _ s hk
  | scrubUnitDone => exact execScrubUnitDone_keeps _ _ _ s hk
  | createComplete => exact execCreateComplete_keeps _ _ s hk
  | slotStart => exact execSlotStart_keeps _ _ s hk
  | preemptSaveDone => exact execPreemptSaveDone_keeps _ _ s hk
  | restoreDone => exact execRestoreDone_keeps _ _ s hk
  | rulingSwitch => exact execRulingSwitch_keeps _ _ s hk
  | hbmLineIssue => exact execHbmLineIssue_keeps _ _ s hk
  | hbmRefresh => exact execHbmRefresh_keeps _ s hk
  | hbmReadReturn => exact execHbmReadReturn_keeps _ _ _ _ s hk
  | hbmWriteRetire => exact execHbmWriteRetire_keeps _ _ _ s hk
  | tickMarkerSend => exact execTickMarkerSend_keeps _ s hk
  | tickMarkerReceive => exact execTickMarkerReceive_keeps _ _ _ _ s hk
  | holdoverEntry => exact execHoldoverEntry_keeps _ s hk
  | holdoverLongEntry => exact execHoldoverLongEntry_keeps _ s hk
  | slewStep => exact execSlewStep_keeps _ s hk
  | frequencyLock => exact execFrequencyLock_keeps _ s hk
  | linkTrainStart => exact execLinkTrainStart_keeps _ _ s hk
  | linkEqualised => exact execLinkEqualised_keeps _ _ s hk
  | linkAligned => exact execLinkAligned_keeps _ _ s hk
  | identityReceive => exact execIdentityReceive_keeps _ _ _ s hk
  | delayComplete => exact execDelayComplete_keeps _ _ _ s hk
  | linkStateTimeout => exact execLinkStateTimeout_keeps _ _ s hk
  | flitSend => exact execFlitSend_keeps _ _ s hk
  | dataFlitReceive => exact execDataFlitReceive_keeps _ _ _ _ s hk
  | controlFlitReceive => exact execControlFlitReceive_keeps _ _ _ _ _ s hk
  | linkAckReceive => exact execLinkAckReceive_keeps _ _ _ _ _ s hk
  | flitError => exact execFlitError_keeps _ _ s hk
  | nakReceive => exact execNakReceive_keeps _ _ _ _ _ s hk
  | nakRepeat => exact execNakRepeat_keeps _ _ s hk
  | linkDown => exact execLinkDown_keeps _ _ s hk
  | blockLockLost => exact execBlockLockLost_keeps _ _ s hk
  | packetLand => exact execPacketLand_keeps _ _ s hk
  | discoveryReport => exact execDiscoveryReport_keeps _ _ s hk
  | deviceDepart => exact execDeviceDepart_keeps _ _ s hk
  | routeTableSwitch => exact execRouteTableSwitch_keeps _ s hk
  | electionComplete => exact execElectionComplete_keeps _ s hk
  | positionAssign => exact execPositionAssign_keeps _ _ _ _ s hk
  | soloLead => exact execSoloLead_keeps _ s hk
  | leadBeatSend => exact execLeadBeatSend_keeps _ s hk
  | leadBeatReceive => exact execLeadBeatReceive_keeps _ _ _ _ _ s hk
  | standbyTakeover => exact execStandbyTakeover_keeps _ s hk
  | pairBeatSend => exact execPairBeatSend_keeps _ s hk
  | partnerLost => exact execPartnerLost_keeps _ s hk
  | forwardedInputReceive => exact execForwardedInputReceive_keeps _ _ _ s hk
  | forwardedInputApply => exact execForwardedInputApply_keeps_always s
  | lagOverrun => exact execLagOverrun_keeps _ s hk
  | digestCompare => exact execDigestCompare_keeps _ _ _ _ _ s hk
  | promotion => exact execPromotion_keeps _ s hk
  | promote => exact execPromote_keeps _ s hk
  | stepBuild => exact execStepBuild_keeps _ _ s hk
  | stepPost => exact execStepPost_keeps _ _ s hk
  | ctxSeqReqTail => exact execCtxSeqReqTail_keeps _ _ _ s hk
  | read => exact execRead_keeps _ _ s hk
  | write => exact execWrite_keeps _ _ s hk
  | snapshot => exact execSnapshot_keeps _ _ s hk
  | snapRead => exact execSnapRead_keeps _ _ s hk
  | mbxTService => exact execMbxTService_keeps _ _ s hk
  | mbxReply => exact execMbxReply_keeps _ _ s hk
  | flagsClear => exact execFlagsClear_keeps _ _ _ s hk
  | oobClear => exact execOobClear_keeps _ _ s hk
  | govClear => exact execGovClear_keeps _ _ s hk
  | flashWrite => exact execFlashWrite_keeps _ _ _ s hk
  | flashWriteDone => exact execFlashWriteDone_keeps _ s hk
  | check => exact execCheck_keeps _ s hk
  | checkDone => exact execCheckDone_keeps _ s hk
  | commit => exact execCommit_keeps _ s hk
  | revert => exact execRevert_keeps _ s hk
  | discard => exact execDiscard_keeps _ s hk
  | configAbort => exact execConfigAbort_keeps _ s hk
  | prepareReceive => exact execPrepareReceive_keeps _ _ _ _ s hk
  | voteReceive => exact execVoteReceive_keeps _ _ _ s hk
  | commitDecide => exact execCommitDecide_keeps _ s hk
  | decisionReceive => exact execDecisionReceive_keeps _ _ s hk
  | noDecision => exact execNoDecision_keeps _ s hk
  | setActivation => exact execSetActivation_keeps_always s
  | fuseProgram => exact execFuseProgram_keeps _ s hk
  | energyWindowStart => exact execEnergyWindowStart_keeps _ _ s hk
  | thermalSample => exact execThermalSample_keeps _ _ s hk
  | railSample => exact execRailSample_keeps _ _ _ s hk
  | tripAssert => exact absurd rfl ht
  | tripStop => exact execTripStop_keeps _ s hk
  | partitionWatchdog => exact execPartitionWatchdog_keeps _ s hk
  | ringDoorbell => exact execRingDoorbell_keeps _ _ _ _ s hk
  | ringEnable => exact execRingEnable_keeps _ _ _ _ _ s hk
  | cqHeadWrite => exact execCqHeadWrite_keeps _ _ _ _ s hk
  | descriptorTake => exact execDescriptorTake_keeps _ _ _ _ s hk
  | counterLoRead => exact execCounterLoRead_keeps _ _ _ s hk
  | bar2Access => exact execBar2Access_keeps _ _ _ _ _ _ s hk
  | registerWrite => exact execRegisterWrite_keeps _ _ _ _ s hk
  | vfFlr => exact execVfFlr_keeps _ _ s hk
  | pfFlr => exact execPfFlr_keeps _ s hk
  | hostLoss => exact execHostLoss_keeps _ _ s hk
  | perstDeassert => exact execPerstDeassert_keeps _ s hk
  | sriovControlWrite => exact execSriovControlWrite_keeps _ _ _ s hk
  | ideCheckFail => exact execIdeCheckFail_keeps _ _ s hk
  | getMeasurements => exact execGetMeasurements_keeps _ _ s hk
  | challenge => exact execChallenge_keeps _ _ s hk
  | keyExchange => exact execKeyExchange_keeps _ _ s hk
  | ideKm => exact execIdeKm_keeps _ _ _ s hk
  | neighbourDiscovery => exact execNeighbourDiscovery_keeps _ _ s hk
  | icmpv6Echo => exact execIcmpv6Echo_keeps _ _ _ s hk
  | dhcpv4 => exact execDhcpv4_keeps _ _ s hk
  | i2cRead => exact execI2cRead_keeps _ _ s hk
  | i2cWrite => exact execI2cWrite_keeps _ _ s hk
  | bypass => exact execBypass_keeps _ s hk
  | idcode => exact execIdcode_keeps _ s hk
  | samplePreload => exact execSamplePreload_keeps _ _ s hk
  | extest => exact execExtest_keeps _ s hk
  | clamp => exact execClamp_keeps _ s hk
  | highz => exact execHighz_keeps _ s hk
  | extestPulse => exact execExtestPulse_keeps _ s hk
  | extestTrain => exact execExtestTrain_keeps _ s hk
  | porReset => exact absurd rfl hp
  | porRise => exact execPorRise_keeps _ _ _ s hk
  | rootPllLock => exact execRootPllLock_keeps _ s hk
  | romVerifyDone => exact execRomVerifyDone_keeps _ s hk
  | bootWatchdog => exact execBootWatchdog_keeps _ s hk
  | readyPoint => exact execReadyPoint_keeps _ s hk
  | hbmTrainDone => exact execHbmTrainDone_keeps _ _ s hk
  | powerOnScrubDone => exact execPowerOnScrubDone_keeps _ s hk
  | pcieLinkUp => exact execPcieLinkUp_keeps _ _ _ _ s hk
  | mbxRing => exact execMbxRing_keeps _ _ s hk
  | pairBeatReceive => exact execPairBeatReceive_keeps _ _ s hk
  | balRowWritten => exact execBalRowWritten_keeps _ _ _ s hk
  | unitFree => exact execUnitFree_keeps _ _ _ s hk
  | undefinedOpcode => exact execUndefinedOpcode_keeps _ _ s hk

/-- What a step leaves of the waiting commands, TRIPPED and the serial number: TRIPPED is false after a power-on and also
set by a trip that is pending. -/
def State.latchAfter (s : State) : Option Instr → List Instr × Bool × BitVec 128
  | some .porReset => (s.pending.drop 1, false, s.ident.serial)
  | some .tripAssert => (s.pending.drop 1, s.safety.tripped || s.safety.tripPending.isSome, s.ident.serial)
  | _ => (s.pending.drop 1, s.safety.tripped, s.ident.serial)

/-- One command from the state s with the queue's rest. -/
theorem exec_latch_and_memOk {c : Instr} {rest : List Instr} {s t : State} (hs : s.pending = c :: rest)
    (h : exec c { s with pending := rest } = .next t) :
    t.latch = s.latchAfter (some c) ∧ (s.memOk = true → t.memOk = true) := by
  have hdrop : s.pending.drop 1 = rest := by rw [hs]; rfl
  by_cases hp : c = .porReset
  · subst hp
    obtain rfl := Host.Outcome.next.inj h
    refine ⟨?_, State.powerOn_memOk { s with pending := rest }⟩
    rw [State.latchAfter, hdrop]
    rfl
  by_cases ht : c = .tripAssert
  · subst ht
    obtain ⟨u, hu, hlatch, hmem⟩ := execTripAssert_latch { s with pending := rest }
    obtain rfl := Host.Outcome.next.inj (hu.symm.trans h)
    exact ⟨by rw [hlatch, State.latchAfter, hdrop], hmem⟩
  have hk := exec_keeps { s with pending := rest } ht hp
  rw [h] at hk
  refine ⟨?_, hk.memOk⟩
  rw [State.latchAfter, hdrop]
  · exact hk.latch
  · exact fun e => hp (Option.some.inj e)
  · exact fun e => ht (Option.some.inj e)

/-- One step: what it leaves of the latch, and every memory in canonical form. -/
theorem step_latch_and_memOk {s t : State} (h : step s = .next t) :
    t.latch = s.latchAfter s.pending.head? ∧ (s.memOk = true → t.memOk = true) := by
  unfold step at h
  split at h
  · next hs =>
    obtain rfl := Host.Outcome.next.inj h
    have hk := State.idle_keeps s s (Keeps.refl s)
    exact ⟨by rw [hk.latch, hs]; simp [State.latch, State.latchAfter, hs], hk.memOk⟩
  · next c rest hs =>
    rw [hs]
    exact exec_latch_and_memOk hs h

/-- Settles O53: a step lemma over every command, from what each operation keeps. -/
theorem stepsKeepMemoryCanonical : Obligations.StepsKeepMemoryCanonical := by
  unfold Obligations.StepsKeepMemoryCanonical
  exact fun _ _ hmem h => (step_latch_and_memOk h).2 hmem

/-- Settles O55: only a power-on and a pending trip that is asserted change TRIPPED. -/
theorem trippedUntilPowerOn : Obligations.TrippedUntilPowerOn := by
  unfold Obligations.TrippedUntilPowerOn
  intro s t h
  have htripped : t.safety.tripped = (s.latchAfter s.pending.head?).2.1 :=
    congrArg (·.2.1) (step_latch_and_memOk h).1
  rw [htripped]
  unfold State.latchAfter
  split
  · next hp => exact ⟨fun _ hne => absurd hp hne, fun _ hfalse => absurd hfalse (by simp)⟩
  · next ha => exact ⟨fun hs _ => by simp [hs], fun hs hset => ⟨ha, by simpa [hs] using hset⟩⟩
  · exact ⟨fun hs _ => hs, fun hs hset => by simp [hs] at hset⟩

/-- Settles O54: the latch after a step holds the queue's rest and the serial number, whatever the command. -/
theorem stepsTakeOneCommand : Obligations.StepsTakeOneCommand := by
  unfold Obligations.StepsTakeOneCommand
  intro s t h
  have hparts : (s.latchAfter s.pending.head?).1 = s.pending.drop 1 ∧
      (s.latchAfter s.pending.head?).2.2 = s.ident.serial := by
    unfold State.latchAfter
    split <;> exact ⟨rfl, rfl⟩
  rw [← (step_latch_and_memOk h).1] at hparts
  exact hparts

/-- Settles O1: the second arm of the step. -/
theorem stepRunsFrontCommand : Obligations.StepRunsFrontCommand := by
  unfold Obligations.StepRunsFrontCommand
  intro c rest s h
  rw [step, h]

/-- Settles O52: the state after reset lists no byte of any memory. -/
theorem resetMemoryIsCanonical : Obligations.ResetMemoryIsCanonical := by
  unfold Obligations.ResetMemoryIsCanonical
  exact ⟨rfl, rfl, rfl, rfl, rfl, rfl, rfl⟩

end Sys2Proof.Machine
end

section
namespace Sys2Proof.Machine

/-! ## What raising queue events and writing the log leave -/

/-- Queue events are outputs, one after another, and nothing else (R251). -/
theorem State.raiseQueue_eq (s : State) (q : QueueId) (cap before after : Nat) :
    s.raiseQueue q cap before after =
      { s with out := ((queueEvents cap before after).map (Output.queue q)).reverse ++ s.out } := by
  have hfold : ∀ (l : List QueueEvent) (s : State), l.foldl (fun s e => s.emit (.queue q e)) s =
      { s with out := (l.map (Output.queue q)).reverse ++ s.out } := by
    intro l
    induction l with
    | nil => exact fun s => rfl
    | cons e l ih =>
      intro s
      rw [List.foldl_cons, ih]
      simp [State.emit]
  exact hfold _ s

/-- A log record changes the firmware's log and what is sent, and nothing else. -/
theorem State.logEvent_eq (s : State) (severity source code : Nat) (args : List Nat) :
    s.logEvent severity source code args = { s with
      fw := (s.logEvent severity source code args).fw, out := (s.logEvent severity source code args).out } := by
  unfold State.logEvent
  split
  · rfl
  · rw [State.raiseQueue_eq]

/-- A trace point changes the firmware's log and what is sent, and nothing else. -/
theorem State.trace_eq (s : State) (k : Service) :
    s.trace k = { s with fw := (s.trace k).fw, out := (s.trace k).out } := by
  unfold State.trace
  split
  · rfl
  · split
    · exact State.logEvent_eq s _ _ _ _
    · rfl

/-- The records that wait enter the log ring behind those in it (R250, R722). -/
theorem State.pushLog_fw (s : State) :
    s.pushLog.fw = { s.fw with log := s.fw.log ++ s.fw.logWaiting, logWaiting := [] } := by
  unfold State.pushLog
  dsimp only
  split
  · next h =>
    have hnil : s.fw.logWaiting = [] := List.isEmpty_iff.1 h
    rw [hnil, List.append_nil, ← hnil]
  · rw [State.raiseQueue_eq]

theorem State.pushLog_eq (s : State) : s.pushLog = { s with fw := s.pushLog.fw, out := s.pushLog.out } := by
  unfold State.pushLog
  dsimp only
  split
  · rfl
  · rw [State.raiseQueue_eq]

theorem State.pushLog_of_nil {s : State} (h : s.fw.logWaiting = []) : s.pushLog = s := by
  simp [State.pushLog, h]

/-! ## A tick of the clock on settled contexts -/

/-- What a table holds at a key is the default or listed under that key. -/
theorem SMap.get_eq_or_mem {α : Type} (d : α) (m : SMap α) (i : Nat) : m.get d i = d ∨ (i, m.get d i) ∈ m := by
  induction m with
  | nil => exact .inl rfl
  | cons p t ih =>
    obtain ⟨k, v⟩ := p
    by_cases h : k = i
    · exact .inr (by simp [SMap.get, h])
    · simpa [SMap.get, h, Ne.symm h] using ih

/-- A property of every listed context and of a context that nothing has touched holds of every context. -/
theorem State.ctx_of_forall_mem {p : Ctx → Prop} {s : State} (hnew : p {}) (h : ∀ x ∈ s.ctxs, p x.2) (c : Nat) :
    p (s.ctx c) := by
  rcases SMap.get_eq_or_mem {} s.ctxs c with hd | hmem
  · rw [State.ctx, hd]; exact hnew
  · exact h _ hmem

theorem Ctx.settled_new : ({} : Ctx).settled := ⟨rfl, rfl, rfl⟩

theorem State.settleBells_of_nil {s : State} {c : Nat} (h : (s.ctx c).host.doorbells = []) : s.settleBells c = s := by
  simp [State.settleBells, h]

/-- With nothing of a context waiting, only the log ring's waiting records go on. -/
theorem State.retry_of_settled {s : State} (h : ∀ x ∈ s.ctxs, x.2.settled) : s.retry = s.pushLog := by
  have hctxs : s.pushLog.ctxs = s.ctxs := by rw [State.pushLog_eq]
  have hbells : ∀ c, (s.pushLog.ctx c).host.doorbells = [] := fun c =>
    (State.ctx_of_forall_mem Ctx.settled_new (by rwa [hctxs]) c).2.2
  have hfold : ∀ l : SMap Ctx, (∀ x ∈ l, x.2.settled) → l.foldl (fun s x =>
      let s := if x.2.quill.todo.isEmpty then s else s.moveNow x.1
      let s := if x.2.quill.conductor.isEmpty then s else s.conductNow x.1
      s.settleBells x.1) s.pushLog = s.pushLog := by
    intro l hl
    induction l with
    | nil => rfl
    | cons x l ih =>
      obtain ⟨htodo, hcond, -⟩ := hl x List.mem_cons_self
      simp only [List.foldl_cons, htodo, hcond, List.isEmpty_nil, if_true, State.settleBells_of_nil (hbells x.1)]
      exact ih fun y hy => hl y (List.mem_cons_of_mem _ hy)
  exact hfold s.ctxs h

theorem TickUnit.inHoldover_iff (t : TickUnit) :
    t.inHoldover = true ↔ t.state = 3 ∨ t.state = 4 ∨ t.holdover = true := by
  simp [TickUnit.inHoldover, or_assoc]

/-- Settles O2: with every context settled, a step is the tick unit's advance and the log's waiting records. -/
theorem emptyQueueTicks : Obligations.EmptyQueueTicks := by
  unfold Obligations.EmptyQueueTicks
  intro s hpending hsettled
  have hidle : s.idle = ({ s with tick := s.tick.advance } : State).pushLog := State.retry_of_settled hsettled
  have hpush := hidle.trans (State.pushLog_eq _)
  have htick : s.idle.tick = s.tick.advance := congrArg State.tick hpush
  refine ⟨s.idle, by rw [step, hpending], fun hunlocked => ?_, fun hlocked => ?_, ?_, fun hlog => ?_, ?_⟩
  · -- the root PLL has not locked
    rw [htick, TickUnit.advance, if_neg (by simp [hunlocked])]
  · -- one tick
    rw [htick, TickUnit.advance, if_pos hlocked]
    simp only [TickUnit.inHoldover_iff]
  · rw [hidle, State.pushLog_fw]
  · -- no record waits
    have hkeep : ({ s with tick := s.tick.advance } : State).pushLog = _ := State.pushLog_of_nil hlog
    rw [hidle, hkeep]
  · rw [htick, hidle]
    exact State.pushLog_eq _

/-! ## Boundary scan -/

/-- Before VDD_IO18 is within its range no output is driven. -/
theorem State.drives_of_not_io18 {s : State} (h : s.io18 = false) (p : Pin18) : s.drives p = .floating := by
  simp [State.drives, h]

/-- While POR_N is low and no test mode is selected, XSPI_CS# and XSPI_RST# are high and the others float (R842). -/
theorem State.drives_of_por_low {s : State} (hio : s.io18 = true) (hpor : s.pins.por = false) (hmode : s.pins.testMode = 0)
    (p : Pin18) : s.drives p = if p = .xspiCs ∨ p = .xspiRst then .high else .floating := by
  cases p <;> simp [State.drives, hio, hpor, hmode]

/-- Settles O50: each TAP instruction is one equation, the test instructions by the level of POR_N, and what drives an
output is read off VDD_IO18, POR_N and the test mode. -/
theorem boundaryScan : Obligations.BoundaryScan := by
  unfold Obligations.BoundaryScan
  intro s set capture bypass
  have htest : ∀ reg mode c, s.pins.por = false →
      s.tapTest reg mode c = if c then capture (set reg mode) else set reg mode := by
    intro reg mode c hpor
    rw [State.tapTest, if_neg (by simp [hpor])]
    rfl
  refine ⟨rfl, rfl, fun cells => ⟨_, rfl, rfl, rfl, rfl⟩, fun hpor => ?_, fun hpor => ?_, fun hlow => ?_,
    fun hlo hhi hpor hmode => ?_⟩
  · have hbypass := fun reg mode c => congrArg (Host.Outcome.next (φ := Fault) (ρ := Refusal))
      (State.tapTest_of_por_high hpor reg mode c)
    exact ⟨hbypass 3 1 true, hbypass 4 2 false, hbypass 5 3 false, hbypass 6 4 true, hbypass 7 5 true⟩
  · have hmode := fun reg mode c => congrArg (Host.Outcome.next (φ := Fault) (ρ := Refusal)) (htest reg mode c hpor)
    exact ⟨hmode 3 1 true, hmode 4 2 false, hmode 5 3 false, hmode 6 4 true, hmode 7 5 true⟩
  · exact State.drives_of_not_io18 (decide_eq_false fun h => Nat.not_le.2 hlow h.1)
  · have hdrives := State.drives_of_por_low (s := s) (decide_eq_true ⟨hlo, hhi⟩) hpor hmode
    refine ⟨by rw [hdrives]; rfl, by rw [hdrives]; rfl, fun p hcs hrst => ?_⟩
    rw [hdrives, if_neg (by simp [hcs, hrst])]

end Sys2Proof.Machine
end

section
namespace Sys2Proof.Machine

/-! ## Changing one stream -/

/-- What a change of a stream leaves depends on that stream's new value alone. -/
theorem State.updStream_congr {s : State} {k key : Nat} {f g : Stream → Stream}
    (h : f ((s.core k).stream key) = g ((s.core k).stream key)) : s.updStream k key f = s.updStream k key g := by
  simp only [State.updStream, State.updCore, Core.updStream, h]

/-- A table whose every value is changed, read at one key. -/
theorem SMap.get_mapVal {α : Type} (g : α → α) (d : α) (m : SMap α) (i : Nat) :
    SMap.get (g d) (m.map fun t => (t.1, g t.2)) i = g (m.get d i) := by
  induction m with
  | nil => rfl
  | cons p t ih =>
    obtain ⟨k, v⟩ := p
    simp only [List.map_cons, SMap.get]
    split
    · rfl
    · exact ih

/-! ## SETS and ADDS, loops, branches and END where they issue -/

section
variable {k : CoreId} {s : State} {key : Nat}

theorem stepStream_of_issues {i : Instr} (h : s.issues k key i) (f : Stream → Stream) :
    stepStream k i s f = s.updStream k.val key fun st => (f st).advance :=
  onIssue_of_issues h _

/-- An offset of at least one instruction, counted from the instruction itself. -/
theorem branchTo_of_pos {offset : BitVec 16} (h : 0 < offset.toInt) (pc : Nat) :
    branchTo pc offset = pc + 8 * offset.toNat := by
  have hnat : offset.toInt = offset.toNat := by
    rw [BitVec.toInt_eq_toNat_cond] at h ⊢
    split at h <;> split <;> omega
  rw [branchTo, hnat]
  omega

/-- A LOOP that runs its body (R888). -/
theorem exec_loop_of_enters {n : SReg} {count offset : BitVec 16} (h : s.issues k key (.loop k n count offset))
    (hcount : count ≠ 0) (hoff : 0 < offset.toInt) (hdepth : ((s.core k.val).stream key).loops.length < 8) :
    exec (.loop k n count offset) s = .next (s.updStream k.val key fun st =>
      { (st.setS n.val 0) with
        loops := { reg := n, count := count.toNat, iter := 0, start := st.pc + 8, last := st.pc + 8 * offset.toNat } ::
          st.loops
        pc := st.pc + 8 }) := by
  change execLoop k n count offset s = _
  rw [execLoop, onIssue_of_issues h, if_neg (not_or.2 ⟨hcount, Int.not_le.2 hoff⟩), if_neg (Nat.not_le.2 hdepth)]
  exact congrArg _ (State.updStream_congr (by rw [branchTo_of_pos hoff]))

/-- A LOOP that leaves its body out goes on past it (R888, log entry 20). -/
theorem exec_loop_of_skips {n : SReg} {count offset : BitVec 16} (h : s.issues k key (.loop k n count offset))
    (hskip : count = 0 ∨ offset.toInt ≤ 0) :
    exec (.loop k n count offset) s = .next (s.updStream k.val key fun st => { st with
      pc := if 0 < offset.toInt then st.pc + 8 * offset.toNat else st.pc }.advance) := by
  change execLoop k n count offset s = _
  rw [execLoop, onIssue_of_issues h, if_pos hskip]
  refine congrArg _ (State.updStream_congr ?_)
  split
  · next hpos => rw [branchTo_of_pos hpos]
  · rfl

/-- A ninth loop level faults the context (log entry 20). -/
theorem exec_loop_of_ninth {n : SReg} {count offset : BitVec 16} (h : s.issues k key (.loop k n count offset))
    (hcount : count ≠ 0) (hoff : 0 < offset.toInt) (hdepth : 8 ≤ ((s.core k.val).stream key).loops.length) :
    exec (.loop k n count offset) s = .next (s.ctxFault (keyCtx key)) := by
  change execLoop k n count offset s = _
  rw [execLoop, onIssue_of_issues h, if_neg (not_or.2 ⟨hcount, Int.not_le.2 hoff⟩), if_pos hdepth]

/-- The stream after a BRANCH to an offset: the levels whose body does not hold the target are left (log entry 20). -/
def Stream.branched (st : Stream) (offset : BitVec 16) : Stream :=
  { st with
    pc := branchTo st.pc offset
    loops := st.loops.dropWhile fun l =>
      !(decide (l.start ≤ branchTo st.pc offset) && decide (branchTo st.pc offset ≤ l.last)) }

/-- A BRANCH whose condition holds. -/
theorem exec_branch_of_taken {c : BranchCond} {n : SReg} {offset : BitVec 16} (h : s.issues k key (.branch k c n offset))
    (hc : c ≠ .reserved) (hholds : condHolds c (((s.core k.val).stream key).s n.val) = true) :
    exec (.branch k c n offset) s = .next (s.updStream k.val key (·.branched offset)) := by
  change execBranch k c n offset s = _
  rw [execBranch, onIssue_of_issues h, if_neg hc, if_pos hholds]
  exact congrArg _ (State.updStream_congr rfl)

/-- A BRANCH whose condition does not hold. -/
theorem exec_branch_of_not_taken {c : BranchCond} {n : SReg} {offset : BitVec 16}
    (h : s.issues k key (.branch k c n offset)) (hc : c ≠ .reserved)
    (hholds : condHolds c (((s.core k.val).stream key).s n.val) = false) :
    exec (.branch k c n offset) s = .next (s.updStream k.val key Stream.advance) := by
  change execBranch k c n offset s = _
  rw [execBranch, onIssue_of_issues h, if_neg hc, if_neg (by simp [hholds])]

/-- The reserved condition faults the context (R221). -/
theorem exec_branch_of_reserved {c : BranchCond} {n : SReg} {offset : BitVec 16}
    (h : s.issues k key (.branch k c n offset)) (hc : c = .reserved) :
    exec (.branch k c n offset) s = .next (s.ctxFault (keyCtx key)) := by
  change execBranch k c n offset s = _
  rw [execBranch, onIssue_of_issues h, if_pos hc]

/-- The stream after END (R206). -/
def Stream.ended (st : Stream) : Stream :=
  { st with
    status := .ended, liveV := [], loops := [], tiles := st.tiles.map fun t => (t.1, { t.2 with live := false }) }

/-- After END the tiles hold what they held and none is live. -/
theorem Stream.ended_tile (st : Stream) (a : Nat) : st.ended.tile a = { st.tile a with live := false } :=
  SMap.get_mapVal (fun t : Tile => { t with live := false }) {} st.tiles a

/-- END ends the stream; after an urgent one the slot is assigned anew (R520, R528). -/
theorem exec_endProgram (h : s.issues k key (.endProgram k)) :
    exec (.endProgram k) s = .next (if key % 2 = 1 then (s.updStream k.val key Stream.ended).assignSlot k.val
      else s.updStream k.val key Stream.ended) := by
  change execEndProgram k s = _
  rw [execEndProgram, onIssue_of_issues h]
  rfl

theorem exec_undefinedOpcode (h : s.issues k key (.undefinedOpcode k)) :
    exec (.undefinedOpcode k) s = .next (s.ctxFault (keyCtx key)) := by
  change execUndefinedOpcode k s = _
  rw [execUndefinedOpcode, onIssue_of_issues h]

end

/-- Settles O3: each clause is the case of its instruction's meaning where it issues. -/
theorem scalarAndControlFlow : Obligations.ScalarAndControlFlow := by
  unfold Obligations.ScalarAndControlFlow
  intro k s key st
  refine ⟨fun n imm => ⟨fun h => congrArg _ (stepStream_of_issues h _), fun h => congrArg _ (stepStream_of_issues h _)⟩,
    fun n count offset h => ⟨exec_loop_of_enters h, fun hcount hoff => ?_, exec_loop_of_ninth h, fun hoff => ?_⟩,
    fun c n offset h => ⟨fun hc hholds => ?_, exec_branch_of_not_taken h, exec_branch_of_reserved h⟩,
    fun h => ?_, exec_undefinedOpcode⟩
  · -- LOOP with a count of 0
    rw [exec_loop_of_skips h (.inl hcount)]
    exact congrArg _ (State.updStream_congr (by rw [if_pos hoff]))
  · -- LOOP with no body
    rw [exec_loop_of_skips h (.inr hoff)]
    exact congrArg _ (State.updStream_congr (by rw [if_neg (Int.not_lt.2 hoff)]))
  · -- a BRANCH that is taken
    refine ⟨_, exec_branch_of_taken h hc hholds, ?_⟩
    rw [State.updStream_stream]
    exact ⟨rfl, rfl, fun l hl => (List.dropWhile_sublist _).mem hl, State.updStream_congr rfl⟩
  · -- END
    refine ⟨s.updStream k.val key Stream.ended, ?_⟩
    rw [exec_endProgram h, State.updStream_stream]
    refine ⟨rfl, rfl, fun a => ?_, rfl, fun a => ?_, State.updStream_congr rfl, fun heven => ?_, fun hodd => ?_⟩
    · rw [Stream.ended_tile]
    · rw [Stream.ended_tile]
    · rw [if_neg (by omega)]
    · rw [if_pos hodd]

end Sys2Proof.Machine
end

section
namespace Sys2Proof.Machine

/-! ## Waits on a semaphore are served (R233, R235) -/

/-- A stream that goes on keeps its status. -/
@[simp] theorem Stream.advance_status (st : Stream) : st.advance.status = st.status := by
  unfold Stream.advance
  cases h : loopEnd st.pc st.loops with
  | mk loops r =>
    obtain ⟨pc, w⟩ := r
    cases w <;> rfl

@[simp] theorem State.updStream_ctxs (s : State) (k key : Nat) (f : Stream → Stream) :
    (s.updStream k key f).ctxs = s.ctxs := rfl

/-- What a change of a stream leaves of its core but the stream. -/
theorem State.updStream_cur (s : State) (k key : Nat) (f : Stream → Stream) (j : Nat) :
    ((s.updStream k key f).core j).cur = (s.core j).cur := by
  by_cases h : j = k
  · subst h; rw [State.updStream, State.updCore_core]; rfl
  · rw [State.updStream, State.updCore_core_ne _ _ _ _ h]

theorem State.updStream_blocked (s : State) (k key : Nat) (f : Stream → Stream) (j other : Nat) :
    ((s.updStream k key f).core j).blocked other = (s.core j).blocked other := by
  by_cases h : j = k
  · subst h; rw [State.updStream, State.updCore_core]; rfl
  · rw [State.updStream, State.updCore_core_ne _ _ _ _ h]

theorem State.updStream_stream_ne (s : State) (k key : Nat) (f : Stream → Stream) {j other : Nat}
    (h : (j, other) ≠ (k, key)) : ((s.updStream k key f).core j).stream other = (s.core j).stream other := by
  by_cases hj : j = k
  · subst hj
    rw [State.updStream, State.updCore_core, Core.updStream_stream_ne _ _ _ _ fun e => h (by rw [e])]
  · rw [State.updStream, State.updCore_core_ne _ _ _ _ hj]

/-- The stream of core p.1 with key p.2 is served a wait of n on the semaphore. -/
def State.served (s : State) (c : Nat) (sem : BitVec 16) (p : Nat × Nat) (n : Nat) : State :=
  (s.setSem c sem.toNat (s.sem c sem.toNat - n)).updStream p.1 p.2 fun st => { st with status := .running }.advance

/-- One place of WAITSEM_RELEASE: the wait of a stream, served where the count satisfies it. -/
def State.serveAt (c : Nat) (sem : BitVec 16) (s : State) (p : Nat × Nat) : State :=
  match s.waitsOn p.2 sem p.1 with
  | none => s
  | some n => if n ≤ s.sem c sem.toNat then s.served c sem p n else s

/-- The streams of a context in the order in which WAITSEM_RELEASE serves them. -/
def servePlaces (c : Nat) : List (Nat × Nat) := (List.range 32).flatMap fun k => [(k, 2 * c), (k, 2 * c + 1)]

theorem exec_waitsemRelease {c : CtxId} {sem : BitVec 16} {s : State} (h : (s.ctx c.val).life.state = .live) :
    exec (.waitsemRelease c sem) s = .next ((servePlaces c.val).foldl (State.serveAt c.val sem) s) := by
  change execWaitsemRelease c sem s = _
  rw [servePlaces, List.foldl_flatMap, execWaitsemRelease, if_pos h]
  exact congrArg (fun g => Host.Outcome.next (List.foldl g s (List.range 32))) (funext fun s => funext fun k => rfl)

theorem mem_servePlaces {c : Nat} {p : Nat × Nat} :
    p ∈ servePlaces c ↔ p.1 < 32 ∧ (p.2 = 2 * c ∨ p.2 = 2 * c + 1) := by
  obtain ⟨k, key⟩ := p
  simp only [servePlaces, List.mem_flatMap, List.mem_range, List.mem_cons, Prod.mk.injEq, List.not_mem_nil, or_false]
  constructor
  · rintro ⟨j, hj, ⟨rfl, rfl⟩ | ⟨rfl, rfl⟩⟩ <;> simp [hj]
  · rintro ⟨hk, hkey⟩
    exact ⟨k, hk, hkey.imp (⟨rfl, ·⟩) (⟨rfl, ·⟩)⟩

/-- The places come in order of core number. -/
theorem servePlaces_sorted (c : Nat) : (servePlaces c).Pairwise fun p q => p.1 ≤ q.1 := by
  rw [servePlaces, List.pairwise_flatMap]
  refine ⟨fun k _ => by simp, List.pairwise_lt_range.imp fun {j k} hjk p hp q hq => ?_⟩
  have hp1 : p.1 = j := by
    simp only [List.mem_cons, List.not_mem_nil, or_false] at hp
    rcases hp with rfl | rfl <;> rfl
  have hq1 : q.1 = k := by
    simp only [List.mem_cons, List.not_mem_nil, or_false] at hq
    rcases hq with rfl | rfl <;> rfl
  omega

theorem foldl_eq_self {α β : Type} {g : β → α → β} {s : β} {l : List α} (h : ∀ x ∈ l, g s x = s) : l.foldl g s = s := by
  induction l with
  | nil => rfl
  | cons x t ih =>
    rw [List.foldl_cons, h x List.mem_cons_self]
    exact ih fun y hy => h y (List.mem_cons_of_mem _ hy)

theorem State.serveAt_of_none {s : State} {c : Nat} {sem : BitVec 16} {p : Nat × Nat}
    (h : s.waitsOn p.2 sem p.1 = none) : s.serveAt c sem p = s := by
  rw [State.serveAt, h]

theorem State.serveAt_of_le {s : State} {c : Nat} {sem : BitVec 16} {p : Nat × Nat} {n : Nat}
    (h : s.waitsOn p.2 sem p.1 = some n) (hn : n ≤ s.sem c sem.toNat) : s.serveAt c sem p = s.served c sem p n := by
  rw [State.serveAt, h]
  exact if_pos hn

theorem State.serveAt_of_lt {s : State} {c : Nat} {sem : BitVec 16} {p : Nat × Nat} {n : Nat}
    (h : s.waitsOn p.2 sem p.1 = some n) (hn : s.sem c sem.toNat < n) : s.serveAt c sem p = s := by
  rw [State.serveAt, h]
  exact if_neg (Nat.not_le.2 hn)

/-- A stream that was served waits no more. -/
theorem State.served_waitsOn_same (s : State) (c : Nat) (sem : BitVec 16) (p : Nat × Nat) (n : Nat) :
    (s.served c sem p n).waitsOn p.2 sem p.1 = none := by
  rw [State.waitsOn, State.served, State.updStream_stream, Stream.advance_status]

/-- Every other stream waits as before. -/
theorem State.served_waitsOn_ne (s : State) (c : Nat) (sem : BitVec 16) {p q : Nat × Nat} (n : Nat) (h : q ≠ p) :
    (s.served c sem p n).waitsOn q.2 sem q.1 = s.waitsOn q.2 sem q.1 := by
  simp only [State.waitsOn, State.served, State.updStream_cur, State.updStream_blocked, State.updStream_stream_ne _ _ _ _ h,
    State.setSem_core]

theorem State.served_sem (s : State) (c : Nat) (sem : BitVec 16) (p : Nat × Nat) (n : Nat) :
    (s.served c sem p n).sem c sem.toNat = s.sem c sem.toNat - n := by
  have hle : s.sem c sem.toNat - n ≤ 0xFFFFFFFF := Nat.le_trans (Nat.sub_le _ _) (s.sem_le c sem.toNat)
  rw [State.served, State.updStream_sem, State.setSem_sem s c sem.toNat hle]

/-- The first of the places whose wait the count satisfies is served, where no place behind it can be served then. -/
theorem foldl_serveAt_of_first {c : Nat} {sem : BitVec 16} {s : State} {p : Nat × Nat} {n : Nat} (hp : p ∈ servePlaces c)
    (hwait : s.waitsOn p.2 sem p.1 = some n) (hn : n ≤ s.sem c sem.toNat)
    (hbefore : ∀ q ∈ servePlaces c, q ≠ p → q.1 ≤ p.1 → s.waitsOn q.2 sem q.1 = none)
    (hafter : ∀ q ∈ servePlaces c, q ≠ p → (s.served c sem p n).serveAt c sem q = s.served c sem p n) :
    (servePlaces c).foldl (State.serveAt c sem) s = s.served c sem p n := by
  have hsorted := servePlaces_sorted c
  obtain ⟨l₁, l₂, hl, hnot⟩ := List.eq_append_cons_of_mem hp
  rw [hl] at hsorted hbefore hafter ⊢
  have hfirst : l₁.foldl (State.serveAt c sem) s = s := foldl_eq_self fun q hq => by
    refine State.serveAt_of_none (hbefore q (List.mem_append_left _ hq) (fun e => hnot (e ▸ hq)) ?_)
    exact (List.pairwise_append.1 hsorted).2.2 q hq p List.mem_cons_self
  rw [List.foldl_append, List.foldl_cons, hfirst, State.serveAt_of_le hwait hn]
  refine foldl_eq_self fun q hq => ?_
  by_cases hqp : q = p
  · subst hqp
    exact State.serveAt_of_none (State.served_waitsOn_same s c sem q n)
  · exact hafter q (List.mem_append_right _ (List.mem_cons_of_mem _ hq)) hqp

/-! ## WAITTICK (R52) -/

theorem exec_waittick_of_past {k : CoreId} {s : State} {key : Nat} {n : SReg} (h : s.issues k key (.waittick k n))
    (hn : (((s.core k.val).stream key).s n.val).toNat ≤ s.now) :
    exec (.waittick k n) s = .next (s.updStream k.val key Stream.advance) := by
  change execWaittick k n s = _
  rw [execWaittick, onIssue_of_issues h, if_neg (Nat.not_lt.2 hn)]

theorem exec_waittick_of_future {k : CoreId} {s : State} {key : Nat} {n : SReg} (h : s.issues k key (.waittick k n))
    (hn : s.now < (((s.core k.val).stream key).s n.val).toNat) :
    exec (.waittick k n) s = .next (s.updStream k.val key fun st => { st with status := .waitTick (st.s n.val) }) := by
  change execWaittick k n s = _
  rw [execWaittick, onIssue_of_issues h, if_pos hn]

theorem exec_waittickRelease {k : CoreId} {s : State} {key : Nat} {t : Word} (hcur : (s.core k.val).cur = some key)
    (hwait : ((s.core k.val).stream key).status = .waitTick t) :
    exec (.waittickRelease k) s = .next (
      if t.toNat ≤ s.now ∧ (s.ctx (keyCtx key)).life.state = .live ∧ (s.core k.val).blocked key = false then
        s.updStream k.val key fun st => { st with status := .running }.advance
      else s) := by
  change execWaittickRelease k s = _
  simp only [execWaittickRelease, hcur, hwait]

/-- Settles O5: the places of WAITSEM_RELEASE come in core order, and a wait that is served changes the count and its own
stream alone. -/
theorem waitsEnd : Obligations.WaitsEnd := by
  unfold Obligations.WaitsEnd
  refine ⟨fun c sem s hlive => ⟨fun k key n hkey hwait hn hothers => ?_,
    fun j k a b m n hjk ha hb hm hn hmle hnle hboth hothers => ?_⟩, fun k s key =>
    ⟨fun n h hn => exec_waittick_of_past h hn, fun n h hn => exec_waittick_of_future h hn, fun t hcur hwait ht hlive hblocked => ?_,
      fun t hcur hwait ht => ?_⟩⟩
  · -- one wait
    have hnone : ∀ q ∈ servePlaces c.val, q ≠ (k.val, key) → s.waitsOn q.2 sem q.1 = none := fun q hq hne => by
      obtain ⟨hq1, hq2⟩ := mem_servePlaces.1 hq
      refine hothers ⟨q.1, hq1⟩ q.2 hq2 fun e => hne ?_
      obtain ⟨h1, h2⟩ := Prod.mk.inj e
      exact Prod.ext (congrArg Fin.val h1) h2
    rw [exec_waitsemRelease hlive, foldl_serveAt_of_first (p := (k.val, key)) (mem_servePlaces.2 ⟨k.isLt, hkey⟩) hwait hn
      (fun q hq hne _ => hnone q hq hne) fun q hq hne => State.serveAt_of_none ?_]
    · rfl
    · rw [State.served_waitsOn_ne _ _ _ _ hne, hnone q hq hne]
  · -- two waits, of which the count satisfies either and not both
    have hnone : ∀ q ∈ servePlaces c.val, q ≠ (j.val, a) → q ≠ (k.val, b) → s.waitsOn q.2 sem q.1 = none :=
      fun q hq hne₁ hne₂ => by
        obtain ⟨hq1, hq2⟩ := mem_servePlaces.1 hq
        refine hothers ⟨q.1, hq1⟩ q.2 hq2 (fun e => hne₁ ?_) (fun e => hne₂ ?_)
        all_goals
          obtain ⟨h1, h2⟩ := Prod.mk.inj e
          exact Prod.ext (congrArg Fin.val h1) h2
    rw [exec_waitsemRelease hlive, foldl_serveAt_of_first (p := (j.val, a)) (mem_servePlaces.2 ⟨j.isLt, ha⟩) hm hmle
      (fun q hq hne hle => hnone q hq hne ?_) fun q hq hne => ?_]
    · rfl
    · rintro rfl
      exact Nat.not_lt.2 hle hjk
    · by_cases hqk : q = (k.val, b)
      · -- the higher core's wait stays: what is left does not satisfy it
        subst hqk
        refine State.serveAt_of_lt (n := n) ?_ ?_
        · rw [State.served_waitsOn_ne _ _ _ _ hne, hn]
        · rw [State.served_sem]; omega
      · refine State.serveAt_of_none ?_
        rw [State.served_waitsOn_ne _ _ _ _ hne, hnone q hq hne hqk]
  · rw [exec_waittickRelease hcur hwait, if_pos ⟨ht, hlive, hblocked⟩]
  · rw [exec_waittickRelease hcur hwait, if_neg fun h => Nat.not_le.2 ht h.1]

/-! ## Instructions that do not issue, that name a bad record or an absent descriptor -/

/-- An instruction that issues nowhere leaves the state (R207, R219). -/
theorem onIssue_of_not_issues {s : State} {k : CoreId} {i : Instr} (h : ∀ key, ¬ s.issues k key i)
    (f : Nat → Stream → State) : onIssue k i s f = s := by
  unfold onIssue
  split
  · rfl
  · next key hissuer => exact if_neg fun hfetch => h key ⟨hissuer, hfetch⟩

theorem onRecord_of_not_issues {s : State} {k : CoreId} {n : SReg} {i : Instr} (h : ∀ key, ¬ s.issues k key i)
    (f : Nat → Stream → Nat → Bytes → State) : onRecord k n i s f = s := by
  rw [onRecord, onIssue_of_not_issues h]

theorem onMove_of_not_issues {s : State} {k : CoreId} {n : SReg} {i : Instr} (h : ∀ key, ¬ s.issues k key i)
    (f : Nat → Stream → Nat → Bytes → Bytes → State) : onMove k n i s f = s := by
  rw [onMove, onRecord_of_not_issues h]

/-- A unit instruction that issues with its unit free and its sources written is what its operation makes of it. -/
theorem issueUnit_of_issues {s : State} {k : CoreId} {key u : Nat} {srcs : List VReg} {i : Instr} (h : s.issues k key i)
    (hfree : s.unitFree k key u) (hsrcs : ∀ v ∈ srcs, (s.core k.val).vectorPending key v = false)
    (f : Nat → Stream → Option UnitOp) :
    issueUnit k u srcs i s f = match f key ((s.core k.val).stream key) with
      | none => s.ctxFault (keyCtx key)
      | some op => s.placeUnit k u key ((s.core k.val).stream key) op := by
  have hpend : srcs.any ((s.core k.val).vectorPending key) = false := List.any_eq_false.2 fun v hv => by simp [hsrcs v hv]
  rw [State.unitFree] at hfree
  rw [issueUnit, onIssue_of_issues h]
  simp only [hfree, hpend]
  rfl

/-- A unit instruction whose operands are refused faults its context. -/
theorem issueUnit_of_none {s : State} {k : CoreId} {key u : Nat} {srcs : List VReg} {i : Instr} (h : s.issues k key i)
    (hfree : s.unitFree k key u) (hsrcs : ∀ v ∈ srcs, (s.core k.val).vectorPending key v = false)
    {f : Nat → Stream → Option UnitOp} (hf : f key ((s.core k.val).stream key) = none) :
    issueUnit k u srcs i s f = s.ctxFault (keyCtx key) := by
  rw [issueUnit_of_issues h hfree hsrcs, hf]

/-- A unit instruction with an operation is placed in its unit. -/
theorem issueUnit_of_some {s : State} {k : CoreId} {key u : Nat} {srcs : List VReg} {i : Instr} (h : s.issues k key i)
    (hfree : s.unitFree k key u) (hsrcs : ∀ v ∈ srcs, (s.core k.val).vectorPending key v = false)
    {f : Nat → Stream → Option UnitOp} {op : UnitOp} (hf : f key ((s.core k.val).stream key) = some op) :
    issueUnit k u srcs i s f = s.placeUnit k u key ((s.core k.val).stream key) op := by
  rw [issueUnit_of_issues h hfree hsrcs, hf]

section
variable {k : CoreId} {s : State} {key : Nat}

theorem State.unitFree_of_no_units (h : (s.core k.val).units = []) (u : Nat) : s.unitFree k key u := by
  rw [State.unitFree, h]
  rfl

theorem Core.vectorPending_of_no_units {x : Core} (h : x.units = []) (v : VReg) : x.vectorPending key v = false := by
  rw [Core.vectorPending, h]
  rfl

/-- On a core whose units are free a unit instruction whose operands are refused faults its context. -/
theorem issueUnit_of_no_units {u : Nat} {srcs : List VReg} {i : Instr} (hunits : (s.core k.val).units = [])
    (h : s.issues k key i) {f : Nat → Stream → Option UnitOp} (hf : f key ((s.core k.val).stream key) = none) :
    issueUnit k u srcs i s f = s.ctxFault (keyCtx key) :=
  issueUnit_of_none h (State.unitFree_of_no_units hunits u) (fun v _ => Core.vectorPending_of_no_units hunits v) hf

/-- A QSUBMIT or GCLAIM operation that issues with no record in its place faults the context (R261, R298, R409). -/
theorem onRecord_of_not_there {n : SReg} {i : Instr} (hrec : ¬ s.recordThere k key n) (h : s.issues k key i)
    (f : Nat → Stream → Nat → Bytes → State) : onRecord k n i s f = s.ctxFault (keyCtx key) := by
  rw [onRecord, onIssue_of_issues h]
  refine if_pos ?_
  rw [State.recordThere, Classical.not_and_iff_not_or_not, Bool.not_eq_true] at hrec
  exact hrec

theorem onMove_of_not_there {n : SReg} {i : Instr} (hrec : ¬ s.recordThere k key n) (h : s.issues k key i)
    (f : Nat → Stream → Nat → Bytes → Bytes → State) : onMove k n i s f = s.ctxFault (keyCtx key) := by
  rw [onMove, onRecord_of_not_there hrec h]

/-- One that issues with a record runs on it. -/
theorem onRecord_of_there {n : SReg} {i : Instr} (hrec : s.recordThere k key n) (h : s.issues k key i)
    (f : Nat → Stream → Nat → Bytes → State) :
    onRecord k n i s f = f key ((s.core k.val).stream key) (s.offsetIn k key n) (s.recordIn k key n) := by
  rw [onRecord, onIssue_of_issues h]
  exact if_neg fun hbad => hbad.elim (· hrec.1) fun hshare => Bool.false_ne_true (hshare.symm.trans hrec.2)

/-- A DMA of an absent descriptor with the tensor engine free faults the context. -/
theorem exec_dma_of_absent {src dst sem : BitVec 16} (hfree : s.unitFree k key 10) (h : s.issues k key (.dma k src dst sem))
    (hdesc : s.desc (keyCtx key) src.toNat = none ∨ s.desc (keyCtx key) dst.toNat = none) :
    exec (.dma k src dst sem) s = .next (s.ctxFault (keyCtx key)) := by
  have hfree' : (s.core k.val).units.get none (unitKey (keyCtx key) tensorUnit) = none := hfree
  change execDma k src dst sem s = _
  rw [execDma, onIssue_of_issues h]
  simp only [hfree']
  rcases hdesc with hd | hd
  · rw [hd]; rfl
  · rw [hd]; cases s.desc (keyCtx key) src.toNat <;> rfl

end

/-- Settles O6: no instruction does anything where it does not issue; a record that is not there and a descriptor that is
absent are each the faulting case of what all these instructions share. -/
theorem noIssueAndBadOperands : Obligations.NoIssueAndBadOperands := by
  unfold Obligations.NoIssueAndBadOperands
  refine ⟨?_, ?_, ?_⟩
  · -- no issue
    intro k s waits
    have hwaits : ∀ {i : Instr} {f : Nat → Stream → State}, exec i s = .next (onIssue k i s f) → waits i :=
      fun hexec h => hexec.trans (congrArg _ (onIssue_of_not_issues h _))
    have hrecords : ∀ {n : SReg} {i : Instr} {f : Nat → Stream → Nat → Bytes → State},
        exec i s = .next (onRecord k n i s f) → waits i :=
      fun hexec h => hexec.trans (congrArg _ (onRecord_of_not_issues h _))
    have hmoves : ∀ {n : SReg} {i : Instr} {f : Nat → Stream → Nat → Bytes → Bytes → State},
        exec i s = .next (onMove k n i s f) → waits i :=
      fun hexec h => hexec.trans (congrArg _ (onMove_of_not_issues h _))
    refine ⟨fun _ _ _ => hwaits rfl, fun _ _ _ => hwaits rfl, fun _ _ => hwaits rfl, fun _ _ => hwaits rfl,
      fun _ => hwaits rfl, fun _ _ => hwaits rfl, fun _ _ => hwaits rfl, hwaits rfl, fun _ _ _ _ => hwaits rfl,
      fun _ _ _ _ _ => hwaits rfl, fun _ _ _ => hwaits rfl, fun _ _ _ _ => hwaits rfl, fun _ _ _ _ => hwaits rfl,
      fun _ _ _ _ _ _ _ _ => hwaits rfl, fun _ _ _ _ _ => hwaits rfl, fun _ _ _ _ => hwaits rfl,
      fun _ _ _ _ _ => hwaits rfl, fun _ _ _ _ => hwaits rfl, fun _ _ _ _ => hwaits rfl, fun _ _ _ _ _ => hwaits rfl,
      fun _ _ _ _ _ => hwaits rfl, fun _ _ _ => hwaits rfl, fun _ _ => hrecords rfl, fun _ _ => hrecords rfl,
      fun _ _ => hmoves rfl, fun _ _ => hmoves rfl, fun _ _ => hmoves rfl, fun _ _ => hmoves rfl,
      fun _ _ => hmoves rfl, fun _ _ => hrecords rfl, fun _ _ => hrecords rfl, fun _ _ => hrecords rfl, hwaits rfl⟩
  · -- a record that is not there
    intro k n sem s key hrec faults
    have hfaults : ∀ {i : Instr} {f : Nat → Stream → Nat → Bytes → State}, exec i s = .next (onRecord k n i s f) → faults i :=
      fun hexec h => hexec.trans (congrArg _ (onRecord_of_not_there hrec h _))
    have hmoves : ∀ {i : Instr} {f : Nat → Stream → Nat → Bytes → Bytes → State}, exec i s = .next (onMove k n i s f) → faults i :=
      fun hexec h => hexec.trans (congrArg _ (onMove_of_not_there hrec h _))
    exact ⟨hfaults rfl, hfaults rfl, hmoves rfl, hmoves rfl, hmoves rfl, hmoves rfl, hmoves rfl, hfaults rfl,
      hfaults rfl, fun _ => hfaults rfl⟩
  · -- an absent descriptor
    intro k s key desc hunits hdesc faults
    have hfaults : ∀ {i : Instr} {u : Nat} {srcs : List VReg} {f : Nat → Stream → Option UnitOp},
        exec i s = .next (issueUnit k u srcs i s f) → f key ((s.core k.val).stream key) = none → faults i :=
      fun hexec hf h => hexec.trans (congrArg _ (issueUnit_of_no_units hunits h hf))
    have hfree := State.unitFree_of_no_units (key := key) hunits 10
    refine ⟨fun v o h => hfaults rfl ?_, fun v o h r => hfaults rfl ?_, fun v o h => hfaults rfl ?_,
      fun v o h => hfaults rfl ?_, fun d m h => exec_dma_of_absent hfree h (.inl hdesc),
      fun d m h => exec_dma_of_absent hfree h (.inr hdesc), fun a b o n c t u => hfaults rfl ?_,
      fun a b o n c t u => hfaults rfl ?_, fun a o h r => hfaults rfl ?_, fun a o h => hfaults rfl ?_,
      fun a o h r => hfaults rfl ?_, fun m v o q => hfaults rfl ?_, fun a b o r => hfaults rfl ?_,
      fun a b o r => hfaults rfl ?_, fun a b o r => hfaults rfl ?_⟩
    all_goals simp [hdesc, atomOp]

end Sys2Proof.Machine
end

section
namespace Sys2Proof.Machine

/-! ## Several elements at once (R186, R187) -/

theorem State.readElems_fst (s : State) (c k : Nat) (d : Desc) (l : List (List Nat)) :
    (s.readElems c k d l).1 = l.map fun g => (s.readElem c k d g).1 := by
  simp [State.readElems]

/-- An element of a tensor that is not empty counts as out of bounds where it lies outside. -/
theorem State.readElem_snd (s : State) (c k : Nat) {d : Desc} (h : d.empty = false) (g : List Nat) :
    (s.readElem c k d g).2 = !d.inBounds g := by
  unfold State.readElem
  split
  · next hin => simp [hin]
  · next hout => simp [hout, h]

theorem State.readElems_snd (s : State) (c k : Nat) {d : Desc} (h : d.empty = false) (l : List (List Nat)) :
    (s.readElems c k d l).2 = (l.filter fun g => !d.inBounds g).length := by
  simp only [State.readElems, countTrue, List.map_map, List.filter_map, List.length_map]
  congr 2
  funext g
  exact State.readElem_snd s c k h g

/-- The writes of several elements are those of the elements in bounds. -/
theorem State.mem_writeElems {s : State} {c k : Nat} {d : Desc} {l : List (List Nat × Nat)} {e : Effect} :
    e ∈ (s.writeElems c k d l).1 ↔ ∃ g v, (g, v) ∈ l ∧ d.inBounds g = true ∧
      e = .mem (spaceMem d.space) (s.elemAddr c k d g) (toLe d.size v) := by
  simp only [State.writeElems, List.mem_flatMap, List.mem_map]
  constructor
  · rintro ⟨_, ⟨⟨g, v⟩, hgv, rfl⟩, he⟩
    unfold State.writeElem at he
    split at he
    · next hin => exact ⟨g, v, hgv, hin, List.mem_singleton.1 he⟩
    · exact absurd he List.not_mem_nil
  · rintro ⟨g, v, hgv, hin, rfl⟩
    exact ⟨_, ⟨(g, v), hgv, rfl⟩, by simp [State.writeElem, hin]⟩

theorem zip_map_zip {α β γ : Type} (l : List α) (m : List β) (f : α × β → γ) :
    l.zip ((l.zip m).map f) = (l.zip m).map fun p => (p.1, f p) := by
  induction l generalizing m with
  | nil => rfl
  | cons a l ih =>
    cases m with
    | nil => rfl
    | cons b m => simp [ih]

/-- The writes of the elements of a list of coordinates, each with a value converted from its own operand where it lies in
bounds. -/
theorem State.mem_writeElems_zip {α : Type} {s : State} {c k : Nat} {d : Desc} {co : List (List Nat)} {l : List α}
    {conv : List Nat → α → Nat × BitVec 16} {e : Effect} :
    e ∈ (s.writeElems c k d (co.zip (((co.zip l).map fun p =>
      if d.inBounds p.1 then conv p.1 p.2 else (0, 0)).map (·.1)))).1 ↔
      ∃ g x, (g, x) ∈ co.zip l ∧ d.inBounds g = true ∧
        e = .mem (spaceMem d.space) (s.elemAddr c k d g) (toLe d.size (conv g x).1) := by
  rw [State.mem_writeElems, List.map_map, zip_map_zip]
  constructor
  · rintro ⟨g, v, hgv, hin, rfl⟩
    obtain ⟨⟨g', x⟩, hgx, heq⟩ := List.mem_map.1 hgv
    obtain ⟨rfl, rfl⟩ := Prod.mk.inj heq
    exact ⟨g', x, hgx, hin, by simp [hin]⟩
  · rintro ⟨g, x, hgx, hin, rfl⟩
    exact ⟨g, (conv g x).1, List.mem_map.2 ⟨(g, x), hgx, by simp [hin]⟩, hin, rfl⟩

/-- The flags and counts of an operation write no byte. -/
theorem mem_notMem_tailEffects {m : ScrubMem} {a : Nat} {b : Bytes} {fl : BitVec 16} {r w : Nat} :
    Effect.mem m a b ∉ tailEffects fl r w := by
  simp [tailEffects]

/-- A unit instruction with an operation of which P holds is placed in its unit with it. -/
theorem exec_unit_of_op {s : State} {k : CoreId} {key u : Nat} {srcs : List VReg} {i : Instr}
    {f : Nat → Stream → Option UnitOp} {P : UnitOp → Prop} (hexec : exec i s = .next (issueUnit k u srcs i s f))
    (h : s.issues k key i) (hfree : s.unitFree k key u) (hsrcs : ∀ v ∈ srcs, (s.core k.val).vectorPending key v = false)
    (hop : ∃ op, f key ((s.core k.val).stream key) = some op ∧ P op) :
    ∃ op, exec i s = .next (s.placeUnit k u key ((s.core k.val).stream key) op) ∧ P op := by
  obtain ⟨op, hsome, hP⟩ := hop
  exact ⟨op, hexec.trans (congrArg _ (issueUnit_of_some h hfree hsrcs hsome)), hP⟩

/-! ## TLOADV, TSTOREV and the atomic additions where they issue -/

section
variable {k : CoreId} {v : VReg} {desc : BitVec 16} {org : SReg} {high : Option SReg} {s : State} {key : Nat} {d : Desc}

/-- TLOADV of a tensor that is not empty (R68, R186). -/
theorem exec_tloadv_of_loads (h : s.issues k key (.tloadv k v desc org high)) (hfree : s.unitFree k key 10)
    (hdesc : s.desc (keyCtx key) desc.toNat = some d) (hform : formOk org high = true) (hne : d.empty = false) :
    ∃ op, exec (.tloadv k v desc org high) s = .next (s.placeUnit k 10 key ((s.core k.val).stream key) op) ∧
      op.cycles = ceilDiv (256 * d.size) 4096 ∧
      op.effects =
        let co := ((s.core k.val).stream key).lanesAt org high
        [.vreg v (co.map fun g => (d.toF32 (s.readElem (keyCtx key) k.val d g).1).1),
         .flags (Flag.union (co.map fun g => (d.toF32 (s.readElem (keyCtx key) k.val d g).1).2)),
         .oob (co.filter fun g => !d.inBounds g).length false, .oob 0 true] := by
  refine exec_unit_of_op rfl h hfree (by simp) ?_
  simp only [hdesc, hform, hne]
  refine ⟨_, rfl, rfl, ?_⟩
  simp [tailEffects, State.readElems_fst, State.readElems_snd _ _ _ hne, List.map_map, Function.comp_def]

theorem exec_tloadv_of_empty (h : s.issues k key (.tloadv k v desc org high)) (hfree : s.unitFree k key 10)
    (hdesc : s.desc (keyCtx key) desc.toNat = some d) (hform : formOk org high = true) (hempty : d.empty = true) :
    exec (.tloadv k v desc org high) s = .next (s.placeUnit k 10 key ((s.core k.val).stream key) {}) := by
  refine congrArg _ (issueUnit_of_some h hfree (by simp) ?_)
  simp [hdesc, hform, hempty]

theorem exec_tloadv_of_badForm (h : s.issues k key (.tloadv k v desc org high)) (hfree : s.unitFree k key 10)
    (hdesc : s.desc (keyCtx key) desc.toNat = some d) (hform : formOk org high = false) :
    exec (.tloadv k v desc org high) s = .next (s.ctxFault (keyCtx key)) := by
  refine congrArg _ (issueUnit_of_none h hfree (by simp) ?_)
  simp [hdesc, hform]

/-- TSTOREV into a tensor that is not empty: the in-bounds writes of its lanes (R88, R187). -/
theorem exec_tstorev_of_stores {round : BitVec 2} (h : s.issues k key (.tstorev k v desc org high round))
    (hfree : s.unitFree k key 10) (hpend : (s.core k.val).vectorPending key v = false)
    (hdesc : s.desc (keyCtx key) desc.toNat = some d) (hform : formOk org high = true) (hne : d.empty = false)
    (hround : round ≠ 3) :
    ∃ op, exec (.tstorev k v desc org high round) s = .next (s.placeUnit k 10 key ((s.core k.val).stream key) op) ∧
      op.cycles = ceilDiv (256 * d.size) 4096 ∧
      ∀ m a b, (.mem m a b) ∈ op.effects ↔ ∃ g x,
        (g, x) ∈ (((s.core k.val).stream key).lanesAt org high).zip (((s.core k.val).stream key).lanes v.val) ∧
        d.inBounds g = true ∧ Effect.mem m a b = .mem (spaceMem d.space) (s.elemAddr (keyCtx key) k.val d g)
          (toLe d.size (d.fromNum (s.roundBy (keyCtx key) round.toNat
            (Config.roundSeed (keyCtx key) ((s.core k.val).stream key).pc) d g) (f32 x)).1) := by
  refine exec_unit_of_op rfl h hfree (by simp [hpend]) ?_
  simp only [hdesc, hform, hne, hround]
  refine ⟨_, rfl, rfl, fun m a b => ?_⟩
  rw [List.mem_append, or_iff_left mem_notMem_tailEffects]
  exact State.mem_writeElems_zip (conv := fun g x => d.fromNum (s.roundBy (keyCtx key) round.toNat
    (Config.roundSeed (keyCtx key) ((s.core k.val).stream key).pc) d g) (f32 x))

theorem exec_tstorev_of_empty {round : BitVec 2} (h : s.issues k key (.tstorev k v desc org high round))
    (hfree : s.unitFree k key 10) (hpend : (s.core k.val).vectorPending key v = false)
    (hdesc : s.desc (keyCtx key) desc.toNat = some d) (hform : formOk org high = true) (hempty : d.empty = true)
    (hround : round ≠ 3) :
    exec (.tstorev k v desc org high round) s = .next (s.placeUnit k 10 key ((s.core k.val).stream key) {}) := by
  refine congrArg _ (issueUnit_of_some h hfree (by simp [hpend]) ?_)
  simp only [hdesc, hform, hempty, hround]
  rfl

theorem exec_tstorev_of_refused {round : BitVec 2} (h : s.issues k key (.tstorev k v desc org high round))
    (hfree : s.unitFree k key 10) (hpend : (s.core k.val).vectorPending key v = false)
    (hdesc : s.desc (keyCtx key) desc.toNat = some d) (hbad : formOk org high = false ∨ round = 3) :
    exec (.tstorev k v desc org high round) s = .next (s.ctxFault (keyCtx key)) := by
  refine congrArg _ (issueUnit_of_none h hfree (by simp [hpend]) ?_)
  rcases hbad with hform | hround
  · simp [hdesc, hform]
  · simp [hdesc, hround]

/-- An atomic addition is one effect for each in-bounds lane, in order of lanes (R78, R220). -/
theorem atomOp_of_adds {ok : Nat → Bool} {eff : Desc → Nat → F32 → Effect}
    (hdesc : s.desc (keyCtx key) desc.toNat = some d) (hform : formOk org high = true) (hok : ok d.format = true)
    (hne : d.empty = false) (st : Stream) :
    ∃ op, atomOp s k key st v desc org high ok eff = some op ∧
      let lanes := ((st.lanesAt org high).zip (st.lanes v.val)).filter fun p => d.inBounds p.1
      op.effects = lanes.map (fun p => eff d (s.elemAddr (keyCtx key) k.val d p.1) p.2) ++
        [.flags 0, .oob 0 false, .oob (256 - lanes.length) true] := by
  simp only [atomOp, hdesc, hform, hok, hne]
  exact ⟨_, rfl, rfl⟩

theorem atomOp_of_empty {ok : Nat → Bool} {eff : Desc → Nat → F32 → Effect}
    (hdesc : s.desc (keyCtx key) desc.toNat = some d) (hform : formOk org high = true) (hok : ok d.format = true)
    (hempty : d.empty = true) (st : Stream) : atomOp s k key st v desc org high ok eff = some {} := by
  simp [atomOp, hdesc, hform, hok, hempty]

theorem atomOp_of_refused {ok : Nat → Bool} {eff : Desc → Nat → F32 → Effect}
    (hdesc : s.desc (keyCtx key) desc.toNat = some d) (hbad : formOk org high = false ∨ ok d.format = false)
    (st : Stream) : atomOp s k key st v desc org high ok eff = none := by
  rcases hbad with hform | hok
  · simp [atomOp, hdesc, hform]
  · simp [atomOp, hdesc, hok]

end

/-- Settles O7: each instruction's operation, refusal and empty case, with the elements it reads or writes. -/
theorem vectorLoadsStoresAndAtomics : Obligations.VectorLoadsStoresAndAtomics := by
  unfold Obligations.VectorLoadsStoresAndAtomics
  intro k v desc org high s key d hfree hpend hdesc c st co lanes place
  have hsrcs : ∀ w ∈ [v], (s.core k.val).vectorPending key w = false := by simpa using hpend
  refine ⟨fun h => ⟨fun hform hne => exec_tloadv_of_loads h hfree hdesc hform hne,
      fun hform hempty => exec_tloadv_of_empty h hfree hdesc hform hempty, exec_tloadv_of_badForm h hfree hdesc⟩,
    fun round h => ⟨fun hform hne hround => ?_,
      fun hform hempty hround => exec_tstorev_of_empty h hfree hpend hdesc hform hempty hround,
      exec_tstorev_of_refused h hfree hpend hdesc⟩,
    fun h => ⟨fun hform hfmt hne => ?_, fun hform hfmt hempty => ?_, fun hbad => ?_⟩,
    fun h => ⟨fun hform hfmt hne => ?_, fun hform hfmt hempty => ?_, fun hbad => ?_⟩⟩
  · -- TSTOREV
    obtain ⟨op, hexec, hcycles, heff⟩ := exec_tstorev_of_stores h hfree hpend hdesc hform hne hround
    refine ⟨op, hexec, hcycles, fun m a b => (heff m a b).trans ?_⟩
    simp only [lanes, List.mem_filter, Effect.mem.injEq, and_assoc]
    rfl
  · -- ATOMADD.XA
    obtain ⟨op, hop, heff⟩ := atomOp_of_adds (ok := fun f => f == 7 || f == 8) hdesc hform (by simpa using hfmt) hne st
    exact ⟨op, congrArg _ (issueUnit_of_some h hfree hsrcs hop), heff⟩
  · refine congrArg _ (issueUnit_of_some h hfree hsrcs (atomOp_of_empty
      (ok := fun f => f == 7 || f == 8) hdesc hform ?_ hempty st))
    simpa using hfmt
  · refine congrArg _ (issueUnit_of_none h hfree hsrcs (atomOp_of_refused (ok := fun f => f == 7 || f == 8) hdesc
      (hbad.imp_right fun hfmt => ?_) st))
    simp [hfmt]
  · -- ATOMADD.F32
    obtain ⟨op, hop, heff⟩ := atomOp_of_adds (ok := fun f => f == 4) hdesc hform (by simpa using hfmt) hne st
    exact ⟨op, congrArg _ (issueUnit_of_some h hfree hsrcs hop), heff⟩
  · refine congrArg _ (issueUnit_of_some h hfree hsrcs (atomOp_of_empty (ok := fun f => f == 4) hdesc hform ?_ hempty st))
    simpa using hfmt
  · refine congrArg _ (issueUnit_of_none h hfree hsrcs (atomOp_of_refused (ok := fun f => f == 4) hdesc
      (hbad.imp_right fun hfmt => ?_) st))
    simpa using hfmt

end Sys2Proof.Machine
end

section
namespace Sys2Proof.Machine

/-! ## Launching an operation takes trackers and submits transfers (R168, R252) -/

/-- Taking trackers changes the table of trackers alone. -/
theorem Core.takeTrackers_eq (x : Core) (w : Wheel) (c n : Nat) :
    x.takeTrackers w c n = { x with trackers := (x.takeTrackers w c n).trackers } := by
  unfold Core.takeTrackers
  refine List.foldlRecOn (motive := fun acc : Core × Nat => acc.1 = { x with trackers := acc.1.trackers }) _ _ rfl
    fun acc h slot _ => ?_
  dsimp only
  split
  · exact h
  · dsimp only
    rw [h]

theorem State.submit_eq (s : State) (c : CtxId) (core : Option CoreId) (write : Bool) (lines : List Nat) (waiting : Nat)
    (effects : List Effect) :
    (s.submit c core write lines waiting effects).1 =
      { s with hbm := (s.submit c core write lines waiting effects).1.hbm } := by
  unfold State.submit
  split
  · rfl
  · rfl

/-- The state after the trackers of an operation are taken. -/
theorem State.launchOp_eq (s : State) (k : CoreId) (key : Nat) (st : Stream) (op : UnitOp) :
    (s.launchOp k key st op).1 =
      { s with cores := (s.launchOp k key st op).1.cores, hbm := (s.launchOp k key st op).1.hbm } := by
  unfold State.launchOp
  dsimp only
  rw [State.submit_eq, State.submit_eq]
  split <;> rfl

/-- A launch changes a core's trackers alone. -/
theorem State.launchOp_core (s : State) (k : CoreId) (key : Nat) (st : Stream) (op : UnitOp) (j : Nat) :
    (s.launchOp k key st op).1.core j =
      { s.core j with trackers := ((s.launchOp k key st op).1.core j).trackers } := by
  have hcore : ∀ (t : State) (c c' : CtxId) (a a' : Option CoreId) (b b' : Bool) (l l' : List Nat) (n n' : Nat)
      (e e' : List Effect),
      ((t.submit c a b l n e).1.submit c' a' b' l' n' e').1.core j = t.core j := by
    intros
    rw [State.submit_eq, State.submit_eq]
    rfl
  unfold State.launchOp
  dsimp only
  rw [hcore]
  split
  · rfl
  · by_cases hj : j = k.val
    · subst hj
      rw [State.updCore_core, Core.takeTrackers_eq]
    · rw [State.updCore_core_ne _ _ _ _ hj]

/-! ## DMA and its retirement -/

section
variable {k : CoreId} {s : State} {key : Nat} {src dst sem : BitVec 16} {a b : Desc}

/-- A DMA of elements: its copy joins the core's copies and occupies the tensor engine (R258). -/
theorem exec_dma_of_copies (h : s.issues k key (.dma k src dst sem)) (hfree : s.unitFree k key 10)
    (ha : s.desc (keyCtx key) src.toNat = some a) (hb : s.desc (keyCtx key) dst.toNat = some b)
    (hfmt : a.format = b.format) (hne : (a.empty || b.empty) = false) :
    let op := s.copyOp (keyCtx key) k.val a b
    let r := s.launchOp k key ((s.core k.val).stream key) { op with effects := op.effects ++ [.sem sem 1] }
    ∃ st : Stream, exec (.dma k src dst sem) s = .next (r.1.updCore k.val fun y =>
      { (y.updStream key fun _ => st) with
        dmas := y.dmas ++ [r.2]
        units := y.units.put (unitKey (keyCtx key) 10)
          (some { stream := key, ctx := r.2.ctx, uid := r.2.uid, cycles := op.cycles }) }) := by
  have hfree' : (s.core k.val).units.get none (unitKey (keyCtx key) tensorUnit) = none := hfree
  intro op r
  let st := ((s.core k.val).stream key).advance
  refine ⟨if r.2.linesLeft = 0 then st else r.1.startWait key st (.waitTracker (unitKey (keyCtx key) 10)), ?_⟩
  change execDma k src dst sem s = _
  rw [execDma, onIssue_of_issues h]
  simp only [hfree', ha, hb, hne, ne_eq, hfmt, not_true_eq_false]
  rfl

theorem exec_dma_of_empty (h : s.issues k key (.dma k src dst sem)) (hfree : s.unitFree k key 10)
    (ha : s.desc (keyCtx key) src.toNat = some a) (hb : s.desc (keyCtx key) dst.toNat = some b)
    (hfmt : a.format = b.format) (hempty : (a.empty || b.empty) = true) :
    exec (.dma k src dst sem) s =
      .next ((s.updStream k.val key Stream.advance).signalSem (keyCtx key) sem.toNat 1) := by
  have hfree' : (s.core k.val).units.get none (unitKey (keyCtx key) tensorUnit) = none := hfree
  change execDma k src dst sem s = _
  rw [execDma, onIssue_of_issues h]
  simp only [hfree', ha, hb, hempty, ne_eq, hfmt, not_true_eq_false]
  rfl

/-- A DMA between descriptors of different FORMAT faults the context (log entry 55). -/
theorem exec_dma_of_unlike (h : s.issues k key (.dma k src dst sem)) (hfree : s.unitFree k key 10)
    (ha : s.desc (keyCtx key) src.toNat = some a) (hb : s.desc (keyCtx key) dst.toNat = some b)
    (hfmt : a.format ≠ b.format) : exec (.dma k src dst sem) s = .next (s.ctxFault (keyCtx key)) := by
  have hfree' : (s.core k.val).units.get none (unitKey (keyCtx key) tensorUnit) = none := hfree
  change execDma k src dst sem s = _
  rw [execDma, onIssue_of_issues h]
  simp only [hfree', ha, hb, ne_eq, hfmt, not_false_eq_true]
  rfl

/-- DMA_RETIRE of the oldest copy: its effects once its transfers have retired, and nothing before. -/
theorem exec_dmaRetire {x : InFlight} {rest : List InFlight} (hdmas : (s.core k.val).dmas = x :: rest) :
    exec (.dmaRetire k) s = .next (if s.retired x then
      (((s.updCore k.val fun y => { y with dmas := rest }).freeTracker k.val x.ctx.val x.held).meter x.ctx.val x.uid
        x.picojoule).applyAll k.val x else s) := by
  change execDmaRetire k s = _
  rw [execDmaRetire, hdmas]

end

/-- Settles O8: the copy's launch changes trackers and the controller's queue alone, and the copy joins those of its
core. -/
theorem dmaCopies : Obligations.DmaCopies := by
  unfold Obligations.DmaCopies
  refine fun k s => ⟨fun src dst sem key h hfree => ⟨fun a b ha hb => ⟨fun hfmt hae hbe => ?_,
    exec_dma_of_empty h hfree ha hb, exec_dma_of_unlike h hfree ha hb⟩, exec_dma_of_absent hfree h⟩,
    fun x rest hdmas => ⟨fun hret => ?_, fun hret => ?_⟩⟩
  · obtain ⟨st, hexec⟩ := exec_dma_of_copies h hfree ha hb hfmt (by simp [hae, hbe])
    let op : UnitOp :=
      { s.copyOp (keyCtx key) k.val a b with effects := (s.copyOp (keyCtx key) k.val a b).effects ++ [.sem sem 1] }
    have hlaunch := s.launchOp_eq k key ((s.core k.val).stream key) op
    have hcore := s.launchOp_core k key ((s.core k.val).stream key) op k.val
    let x := (s.launchOp k key ((s.core k.val).stream key) op).2
    refine ⟨_, x, { stream := key, ctx := x.ctx, uid := x.uid, cycles := op.cycles }, hexec, ?_, rfl, rfl, ?_, rfl, ?_, ?_,
      ?_, ?_, ?_, ?_⟩
    · rw [State.updCore_core, hcore]
    · rw [State.updCore_core]
      exact SMap.get_put _ _ _ _
    · dsimp only [op]
      rw [State.copyOp, if_neg (by simp [hae, hbe])]
    all_goals
      rw [hlaunch]
      rfl
  · rw [exec_dmaRetire hdmas, if_pos hret]
  · rw [exec_dmaRetire hdmas, if_neg (by simp [hret])]

end Sys2Proof.Machine
end

section
namespace Sys2Proof.Machine

/-! ## Elements of a tile -/

/-- A list's table, elements that are zero left out, read at one place. -/
theorem SMap.get_filter_zip {α : Type} [DecidableEq α] (d : α) (l : List α) (b i n : Nat) (hn : l.length ≤ n) :
    SMap.get d (((List.range' b n).zip l).filter fun p => p.2 != d) (b + i) = l.getD i d := by
  induction l generalizing b i n with
  | nil => simp [SMap.get]
  | cons a l ih =>
    obtain ⟨n, rfl⟩ : ∃ m, n = m + 1 := ⟨n - 1, by simp at hn; omega⟩
    have hrest := fun i => ih (b + 1) i n (by simpa using hn)
    have hnone : ∀ n, SMap.get d (((List.range' (b + 1) n).zip l).filter fun p => p.2 != d) b = d := fun n => by
      have hkeys : ∀ p ∈ ((List.range' (b + 1) n).zip l).filter fun p => p.2 != d, p.1 ≠ b := fun p hp => by
        have hmem := List.mem_range'_1.1 (List.of_mem_zip (List.mem_filter.1 hp).1).1
        omega
      generalize ((List.range' (b + 1) n).zip l).filter (fun p => p.2 != d) = m at hkeys
      induction m with
      | nil => rfl
      | cons p m ihm =>
        rw [SMap.get, if_neg (hkeys p List.mem_cons_self)]
        exact ihm fun q hq => hkeys q (List.mem_cons_of_mem _ hq)
    rw [List.range'_succ, List.zip_cons_cons, List.filter_cons]
    cases i with
    | zero =>
      by_cases ha : a = d
      · simp [ha, hnone]
      · simp [ha, SMap.get]
    | succ i =>
      have hidx : b + (i + 1) = b + 1 + i := by omega
      by_cases ha : a = d
      · simp [ha, hidx, hrest]
      · have hne : b ≠ b + 1 + i := by omega
        simp [ha, SMap.get, hidx, hrest, hne]

theorem tileTable_get {l : List XaElem} (h : l.length ≤ 1024) (i : Nat) : (tileTable l).get {} i = l.getD i {} := by
  have hget := SMap.get_filter_zip ({} : XaElem) l 0 i 1024 h
  rw [Nat.zero_add] at hget
  rw [tileTable, List.range_eq_range']
  exact hget

theorem tabulate_getElem? {α : Type} (f : Nat → α) {n i : Nat} (h : i < n) : (tabulate f n)[i]? = some (f i) := by
  simp [tabulate, h]

@[simp] theorem tabulate_length {α : Type} (f : Nat → α) (n : Nat) : (tabulate f n).length = n := by
  simp [tabulate]

theorem tabulate_getD {α : Type} (f : Nat → α) {n i : Nat} (d : α) (h : i < n) : (tabulate f n).getD i d = f i := by
  rw [List.getD_eq_getElem?_getD, tabulate_getElem? f h]
  rfl

/-! ## MMA (R69 to R81) -/

/-- The elements of one operand line, decoded. -/
theorem readLine_decoded (s : State) (c k : Nat) (d : Desc) (transposed : Bool) (k0 kk fixed : Nat) :
    (s.readElems c k d (lineCoords transposed k0 kk fixed)).1.map (decodeElem d.format) =
      (List.range kk).map fun n => decodeElem d.format (s.readElem c k d
        (if transposed then [fixed % 2 ^ 32, (k0 + n) % 2 ^ 32] else [(k0 + n) % 2 ^ 32, fixed % 2 ^ 32])).1 := by
  simp [State.readElems_fst, lineCoords, tabulate, Function.comp_def]

theorem zipWith_map_range {α β γ : Type} (f : α → β → γ) (g : Nat → α) (h : Nat → β) (n : Nat) :
    List.zipWith f ((List.range n).map g) ((List.range n).map h) = (List.range n).map fun i => f (g i) (h i) := by
  rw [List.zipWith_map, List.zipWith_self]

/-- One operand line of 32, decoded. -/
theorem operandLines_getD (s : State) (c k : Nat) (d : Desc) (transposed : Bool) (k0 kk first : Nat) {i : Nat} (hi : i < 32) :
    ((tabulate (fun i => s.readElems c k d (lineCoords transposed k0 kk (first + i))) 32).map fun x =>
      x.1.map (decodeElem d.format)).getD i [] =
      (List.range kk).map fun n => decodeElem d.format (s.readElem c k d
        (if transposed then [(first + i) % 2 ^ 32, (k0 + n) % 2 ^ 32] else [(k0 + n) % 2 ^ 32, (first + i) % 2 ^ 32])).1 := by
  rw [List.getD_eq_getElem?_getD, List.getElem?_map, tabulate_getElem? _ hi]
  exact readLine_decoded s c k d transposed k0 kk (first + i)

theorem Tile.list_length (t : Tile) : t.list.length = 1024 := tabulate_length _ _

theorem Tile.list_getD (t : Tile) {i : Nat} (hi : i < 1024) : t.list.getD i {} = t.elems.get {} i :=
  tabulate_getD _ _ hi

section
variable {k : CoreId} {array : ArrayId} {a b : BitVec 16} {org sk : SReg} {clear ta tb : Bool} {s : State} {key : Nat}
  {da db : Desc}

theorem pairOk_of_le {n : SReg} (h : n.val ≤ 14) : pairOk n = true := decide_eq_true h

/-- An MMA with K: its cycles, the tile it writes, and each of its elements. -/
theorem exec_mma_of_products {anchor : Int} (h : s.issues k key (.mma k array a b org sk clear ta tb))
    (hfree : s.unitFree k key array.val) (hda : s.desc (keyCtx key) a.toNat = some da)
    (hdb : s.desc (keyCtx key) b.toNat = some db) (horg : pairOk org = true) (hsk : pairOk sk = true)
    (hpair : pairFormats da.format db.format = true)
    (hanchor : mmaAnchor da.format (BitVec.ofNat 16 ((((s.core k.val).stream key).s (sk.val + 1)).toNat / 2 ^ 32)).toInt =
      some anchor)
    (htile : clear = true ∨ (((s.core k.val).stream key).tile array.val).anchor = anchor)
    (hkk : (((s.core k.val).stream key).s (sk.val + 1)).toNat % 2 ^ 32 ≠ 0) :
    let st := (s.core k.val).stream key
    let c := keyCtx key
    let kk := (st.s (sk.val + 1)).toNat % 2 ^ 32
    let k0 := (st.s sk.val).toNat % 2 ^ 32
    let t := st.tile array.val
    ∃ op, exec (.mma k array a b org sk clear ta tb) s = .next (s.placeUnit k array.val key st op) ∧
      ∃ t', op.cycles = (if da.format = 4 ∧ (ta = true ∨ tb = true) then 10 else 5) * ceilDiv kk (kPerBeat da.format) ∧
        op.writes = [] ∧ (Effect.tile array t') ∈ op.effects ∧ t'.live = true ∧ t'.anchor = anchor ∧
        ∀ i < 32, ∀ j < 32,
          let start : XaElem := if clear then {} else t.elems.get {} (32 * i + j)
          t'.elems.get {} (32 * i + j) =
            if da.empty = true ∨ db.empty = true then start
            else (start.addAll ((List.range kk).map fun n =>
              let x := (k0 + n) % 2 ^ 32
              let row := ((st.origin org.val).2 + i) % 2 ^ 32
              let col := ((st.origin org.val).1 + j) % 2 ^ 32
              enterProduct 192 anchor
                (decodeElem da.format (s.readElem c k.val da (if ta then [row, x] else [x, row])).1)
                (decodeElem db.format (s.readElem c k.val db (if tb then [x, col] else [col, x])).1))).1 := by
  intro st c kk k0 t
  refine exec_unit_of_op rfl h hfree (by simp) ?_
  have hsame : (!clear && (((s.core k.val).stream key).tile array.val).anchor != anchor) = false := by
    rcases htile with hclear | ha
    · simp [hclear]
    · simp [ha]
  simp only [hda, hdb, horg, hsk, hpair, hanchor, hsame, hkk, Bool.not_true, Bool.or_false, Bool.false_eq_true, if_false]
  refine ⟨_, rfl, { live := true, anchor := anchor, elems := _ }, ?_, rfl, List.mem_cons_self, rfl, rfl, ?_⟩
  · refine congrArg (· * ceilDiv kk (kPerBeat da.format)) ?_
    simp only [Bool.and_eq_true, decide_eq_true_eq, Bool.or_eq_true]
  · intro i hi j hj
    have hlt : 32 * i + j < 1024 := by omega
    have hdiv : (32 * i + j) / 32 = i := by omega
    have hmod : (32 * i + j) % 32 = j := by omega
    have hlen : (if clear = true then List.replicate 1024 ({} : XaElem) else t.list).length = 1024 := by
      split
      · exact List.length_replicate
      · exact t.list_length
    have hstart : (if clear = true then List.replicate 1024 ({} : XaElem) else t.list).getD (32 * i + j) {} =
        if clear = true then {} else t.elems.get {} (32 * i + j) := by
      split
      · rw [← List.getElem_eq_getD (h := by rwa [List.length_replicate]), List.getElem_replicate]
      · exact t.list_getD hlt
    dsimp only
    rw [tileTable_get]
    · split
      · next hskip =>
        have hempty : da.empty = true ∨ db.empty = true := by simpa using hskip
        rw [if_pos hempty]
        exact hstart
      · next hskip =>
        have hempty : ¬(da.empty = true ∨ db.empty = true) := by simpa using hskip
        rw [if_neg hempty, List.map_map, ← List.getElem_eq_getD
          (h := by rwa [List.length_map, List.length_zip, List.length_range, hlen, Nat.min_self])]
        simp only [List.getElem_map, List.getElem_zip, List.getElem_range, Function.comp_def]
        rw [hdiv, hmod, operandLines_getD _ _ _ _ _ _ _ _ hi, operandLines_getD _ _ _ _ _ _ _ _ hj, zipWith_map_range,
          List.getElem_eq_getD {}, hstart]
        cases tb <;> rfl
    · split
      · exact Nat.le_of_eq hlen
      · exact Nat.le_of_eq (by
          rw [List.length_map, List.length_map, List.length_zip, List.length_range, hlen, Nat.min_self])

/-- An MMA with no K leaves the tile, or makes it a live zero tile with CLEAR (R190). -/
theorem exec_mma_of_no_k {anchor : Int} (h : s.issues k key (.mma k array a b org sk clear ta tb))
    (hfree : s.unitFree k key array.val) (hda : s.desc (keyCtx key) a.toNat = some da)
    (hdb : s.desc (keyCtx key) b.toNat = some db) (horg : pairOk org = true) (hsk : pairOk sk = true)
    (hpair : pairFormats da.format db.format = true)
    (hanchor : mmaAnchor da.format (BitVec.ofNat 16 ((((s.core k.val).stream key).s (sk.val + 1)).toNat / 2 ^ 32)).toInt =
      some anchor)
    (htile : clear = true ∨ (((s.core k.val).stream key).tile array.val).anchor = anchor)
    (hkk : (((s.core k.val).stream key).s (sk.val + 1)).toNat % 2 ^ 32 = 0) :
    exec (.mma k array a b org sk clear ta tb) s = .next (s.placeUnit k array.val key ((s.core k.val).stream key)
      { effects := if clear then [.tile array { live := true, anchor := anchor }] else [] }) := by
  have hsame : (!clear && (((s.core k.val).stream key).tile array.val).anchor != anchor) = false := by
    rcases htile with hclear | ha
    · simp [hclear]
    · simp [ha]
  refine congrArg _ (issueUnit_of_some h hfree (by simp) ?_)
  simp only [hda, hdb, horg, hsk, hpair, hanchor, hsame, hkk]
  rfl

/-- An MMA whose formats do not pair, whose anchor is out of range or is not the tile's faults the context. -/
theorem exec_mma_of_refused (h : s.issues k key (.mma k array a b org sk clear ta tb))
    (hfree : s.unitFree k key array.val) (hda : s.desc (keyCtx key) a.toNat = some da)
    (hdb : s.desc (keyCtx key) b.toNat = some db)
    (hbad : pairFormats da.format db.format = true → ∀ anchor,
      mmaAnchor da.format (BitVec.ofNat 16 ((((s.core k.val).stream key).s (sk.val + 1)).toNat / 2 ^ 32)).toInt = some anchor →
        clear = false ∧ (((s.core k.val).stream key).tile array.val).anchor ≠ anchor) :
    exec (.mma k array a b org sk clear ta tb) s = .next (s.ctxFault (keyCtx key)) := by
  refine congrArg _ (issueUnit_of_none h hfree (by simp) ?_)
  simp only [hda, hdb]
  split
  · rfl
  · next hpair =>
    cases hanchor : mmaAnchor da.format
        (BitVec.ofNat 16 ((((s.core k.val).stream key).s (sk.val + 1)).toNat / 2 ^ 32)).toInt with
    | none => rfl
    | some anchor =>
      obtain ⟨hclear, hne⟩ := hbad (by simp at hpair; exact hpair.2) anchor hanchor
      exact if_pos (by simp [hclear, hne])

end

/-! ## XSPILL, XOUT and XFILL -/

section
variable {k : CoreId} {array : ArrayId} {desc : BitVec 16} {org : SReg} {high : Option SReg} {s : State} {key : Nat}
  {d : Desc}

/-- A tile's in-bounds elements, each converted once, are its writes (R187). -/
theorem State.mem_tileWrite {st : Stream} {more : List Effect} {conv : XaElem → List Nat → Nat × BitVec 16}
    (hne : d.empty = false) {m : ScrubMem} {a : Nat} {b : Bytes} (hmore : Effect.mem m a b ∉ more) :
    Effect.mem m a b ∈ (s.tileWrite k key st d array org high more conv).effects ↔
      ∃ g e, (g, e) ∈ (st.tileAt org high).zip (st.tile array.val).list ∧ d.inBounds g = true ∧
        m = spaceMem d.space ∧ a = s.elemAddr (keyCtx key) k.val d g ∧ b = toLe d.size (conv e g).1 := by
  simp only [State.tileWrite, hne, Bool.false_eq_true, if_false]
  rw [List.mem_append, or_iff_left hmore, List.mem_append, or_iff_left mem_notMem_tailEffects]
  refine (State.mem_writeElems_zip (conv := fun g e => conv e g)).trans ?_
  simp only [Effect.mem.injEq]

/-- A tile write changes no tile but what it is given besides. -/
theorem State.tile_mem_tileWrite {st : Stream} {more : List Effect} {conv : XaElem → List Nat → Nat × BitVec 16}
    {a : ArrayId} {t : Tile} :
    Effect.tile a t ∈ (s.tileWrite k key st d array org high more conv).effects ↔ Effect.tile a t ∈ more := by
  simp only [State.tileWrite]
  split
  · rfl
  · simp [State.mem_writeElems, tailEffects]

theorem State.tileWrite_cycles (st : Stream) (more : List Effect) (conv : XaElem → List Nat → Nat × BitVec 16) :
    (s.tileWrite k key st d array org high more conv).cycles = tileCycles d := by
  simp only [State.tileWrite]
  split <;> rfl

theorem exec_xspill_of_refused {release : Bool} (h : s.issues k key (.xspill k array desc org high release))
    (hfree : s.unitFree k key array.val) (hdesc : s.desc (keyCtx key) desc.toNat = some d)
    (hbad : d.isXa = false ∨ (d.format = 9 ∧ d.anchor ≠ (((s.core k.val).stream key).tile array.val).anchor)) :
    exec (.xspill k array desc org high release) s = .next (s.ctxFault (keyCtx key)) := by
  refine congrArg _ (issueUnit_of_none h hfree (by simp) ?_)
  rcases hbad with hxa | ⟨hfmt, hanchor⟩
  · simp [hdesc, hxa]
  · simp [hdesc, hfmt, hanchor]

/-- XSPILL into a tensor that is not empty (R82, R85, R229). -/
theorem exec_xspill_of_spills {release : Bool} (h : s.issues k key (.xspill k array desc org high release))
    (hfree : s.unitFree k key array.val) (hdesc : s.desc (keyCtx key) desc.toNat = some d) (hform : formOk org high = true)
    (hxa : d.isXa = true) (hanchor : d.format = 9 → d.anchor = (((s.core k.val).stream key).tile array.val).anchor)
    (hne : d.empty = false) :
    let st := (s.core k.val).stream key
    let t := st.tile array.val
    ∃ op, exec (.xspill k array desc org high release) s = .next (s.placeUnit k array.val key st op) ∧
      op.cycles = tileCycles d ∧
      (∀ m a bs, (.mem m a bs) ∈ op.effects ↔ ∃ g e, (g, e) ∈ (st.tileAt org high).zip t.list ∧ d.inBounds g = true ∧
        m = spaceMem d.space ∧ a = s.elemAddr (keyCtx key) k.val d g ∧
        bs = toLe d.size (if d.format = 9 then leNat e.spill else (e.toXa (8 * d.size) t.anchor d.anchor).1)) ∧
      ((.tile array { t with live := false }) ∈ op.effects ↔ release = true) := by
  intro st t
  refine exec_unit_of_op rfl h hfree (by simp) ?_
  have hsame : (d.format == 9 && d.anchor != t.anchor) = false := by
    by_cases hfmt : d.format = 9
    · simp [t, st, hanchor hfmt]
    · simp [hfmt]
  simp only [hdesc]
  refine ⟨_, if_neg ?_, State.tileWrite_cycles _ _ _, fun m a bs => ?_, ?_⟩
  · simp only [hform, hxa]
    exact Bool.eq_false_iff.1 hsame
  · refine (State.mem_tileWrite hne (by cases release <;> simp)).trans ?_
    simp only [apply_ite Prod.fst]
    rfl
  · rw [State.tile_mem_tileWrite]
    cases release <;> simp [t, st]

theorem exec_xout_of_reserved {round : BitVec 2} (h : s.issues k key (.xout k array desc org high round))
    (hfree : s.unitFree k key array.val) (hdesc : s.desc (keyCtx key) desc.toNat = some d) (hround : round = 3) :
    exec (.xout k array desc org high round) s = .next (s.ctxFault (keyCtx key)) := by
  refine congrArg _ (issueUnit_of_none h hfree (by simp) ?_)
  simp [hdesc, hround]

/-- XOUT into a tensor that is not empty: each element converted once (R88, R229). -/
theorem exec_xout_of_writes {round : BitVec 2} (h : s.issues k key (.xout k array desc org high round))
    (hfree : s.unitFree k key array.val) (hdesc : s.desc (keyCtx key) desc.toNat = some d) (hform : formOk org high = true)
    (hround : round ≠ 3) (hne : d.empty = false) :
    let st := (s.core k.val).stream key
    let c := keyCtx key
    let t := st.tile array.val
    ∃ op, exec (.xout k array desc org high round) s = .next (s.placeUnit k array.val key st op) ∧
      op.cycles = tileCycles d ∧
      ∀ m a bs, (.mem m a bs) ∈ op.effects ↔ ∃ g e, (g, e) ∈ (st.tileAt org high).zip t.list ∧ d.inBounds g = true ∧
        m = spaceMem d.space ∧ a = s.elemAddr c k.val d g ∧
        bs = toLe d.size (d.fromXa (s.roundBy c round.toNat (Config.roundSeed c st.pc) d g) 192 t.anchor e).1 := by
  intro st c t
  refine exec_unit_of_op rfl h hfree (by simp) ?_
  simp only [hdesc]
  refine ⟨_, if_neg ?_, State.tileWrite_cycles _ _ _, fun m a bs => State.mem_tileWrite hne List.not_mem_nil⟩
  simp only [hform, hround]
  decide

/-- XFILL of a spill: the tile is live at the descriptor's anchor with the spilled elements (R86). -/
theorem exec_xfill_of_spill (h : s.issues k key (.xfill k array desc org high))
    (hfree : s.unitFree k key array.val) (hdesc : s.desc (keyCtx key) desc.toNat = some d) (hform : formOk org high = true)
    (hfmt : d.format = 9) (hne : d.empty = false) :
    let st := (s.core k.val).stream key
    ∃ op, exec (.xfill k array desc org high) s = .next (s.placeUnit k array.val key st op) ∧
      ∃ t', op.cycles = tileCycles d ∧ (Effect.tile array t') ∈ op.effects ∧ t'.live = true ∧ t'.anchor = d.anchor ∧
        ∀ i < 1024, t'.elems.get {} i = XaElem.unspill
          (toLe 32 (s.readElem (keyCtx key) k.val d ((st.tileAt org high).getD i [])).1) := by
  intro st
  refine exec_unit_of_op rfl h hfree (by simp) ?_
  have hxa : d.isXa = true := by simp [Desc.isXa, hfmt]
  simp only [hdesc, hform, hxa, hne, hfmt]
  refine ⟨_, rfl, { live := true, anchor := _, elems := _ }, rfl, List.mem_cons_self, rfl, ?_, fun i hi => ?_⟩
  · simp
  · have hlen : (st.tileAt org high).length = 1024 := tabulate_length _ _
    dsimp only
    rw [tileTable_get]
    · rw [if_pos trivial, State.readElems_fst, ← List.getElem_eq_getD
        (h := by rwa [List.length_map, List.length_map, List.length_map, hlen]),
        ← List.getElem_eq_getD (h := by rwa [hlen])]
      simp only [List.getElem_map]
      rfl
    · rw [if_pos trivial, State.readElems_fst, List.length_map, List.length_map, List.length_map]
      exact Nat.le_of_eq hlen

theorem exec_xfill_of_refused (h : s.issues k key (.xfill k array desc org high))
    (hfree : s.unitFree k key array.val) (hdesc : s.desc (keyCtx key) desc.toNat = some d) (hxa : d.isXa = false) :
    exec (.xfill k array desc org high) s = .next (s.ctxFault (keyCtx key)) := by
  refine congrArg _ (issueUnit_of_none h hfree (by simp) ?_)
  simp [hdesc, hxa]

end

/-- Settles O9: each instruction's operation, read element by element, and the cases in which it is refused. -/
theorem matrixArrays : Obligations.MatrixArrays := by
  unfold Obligations.MatrixArrays
  refine ⟨?_, ?_⟩
  · intro k array a b org sk clear ta tb s key da db h hfree hda hdb horg hsk st c kk k0 t
    have horg' := pairOk_of_le horg
    have hsk' := pairOk_of_le hsk
    refine ⟨fun anchor hpair hanchor htile hkk => ?_, fun anchor hpair hanchor htile hkk =>
      exec_mma_of_no_k h hfree hda hdb horg' hsk' hpair hanchor htile hkk, fun hpair => ?_, fun _ hanchor => ?_,
      fun anchor _ hclear hne hanchor => ?_⟩
    · obtain ⟨op, hexec, t', hcycles, hrest⟩ :=
        exec_mma_of_products h hfree hda hdb horg' hsk' hpair hanchor htile hkk
      exact ⟨op, t', hexec, hcycles, hrest⟩
    · refine exec_mma_of_refused h hfree hda hdb fun hp => absurd (hpair.symm.trans hp) Bool.false_ne_true
    · refine exec_mma_of_refused h hfree hda hdb fun _ x hx => absurd (hanchor.symm.trans hx) (by simp)
    · refine exec_mma_of_refused h hfree hda hdb fun _ x hx => ?_
      obtain rfl := Option.some.inj (hanchor.symm.trans hx)
      exact ⟨hclear, hne⟩
  · intro k array desc org high s key d hfree hdesc hform st c t co
    refine ⟨fun release h => ⟨fun hxa hanchor hne => exec_xspill_of_spills h hfree hdesc hform hxa hanchor hne,
        exec_xspill_of_refused h hfree hdesc⟩,
      fun round h => ⟨fun hround hne => exec_xout_of_writes h hfree hdesc hform hround hne,
        exec_xout_of_reserved h hfree hdesc⟩,
      fun h => ⟨fun hfmt hne => ?_, exec_xfill_of_refused h hfree hdesc⟩⟩
    obtain ⟨op, hexec, t', hrest⟩ := exec_xfill_of_spill h hfree hdesc hform hfmt hne
    exact ⟨op, t', hexec, hrest⟩

end Sys2Proof.Machine
end

section
namespace Sys2Proof.Machine

/-! ## Lanes -/

theorem Stream.lanes_getD (st : Stream) (v : Nat) {i : Nat} (hi : i < 256) :
    (st.lanes v).getD i 0 = st.vregs.get 0 (256 * v + i) := tabulate_getD _ _ hi

/-- A function of the lanes of two registers, lane by lane. -/
theorem zipWith_lanes {α : Type} (f : F32 → F32 → α) (st : Stream) (u v : Nat) :
    List.zipWith f (st.lanes u) (st.lanes v) =
      (List.range 256).map fun i => f ((st.lanes u).getD i 0) ((st.lanes v).getD i 0) := by
  have hzip : List.zipWith f (st.lanes u) (st.lanes v) = (List.range 256).map fun i =>
      f (st.vregs.get 0 (256 * u + i)) (st.vregs.get 0 (256 * v + i)) := by
    rw [Stream.lanes, Stream.lanes, tabulate, tabulate, zipWith_map_range]
  rw [hzip]
  refine List.map_congr_left fun i hi => ?_
  rw [st.lanes_getD _ (List.mem_range.1 hi), st.lanes_getD _ (List.mem_range.1 hi)]

/-- A function of the lanes of three registers, lane by lane. -/
theorem zip3_lanes (f : F32 → F32 → F32 → F32 × BitVec 16) (st : Stream) (u v w : Nat) :
    zip3 f (st.lanes u) (st.lanes v) (st.lanes w) = (List.range 256).map fun i =>
      f ((st.lanes u).getD i 0) ((st.lanes v).getD i 0) ((st.lanes w).getD i 0) := by
  have hpair : (st.lanes u).zip (st.lanes v) = (List.range 256).map fun i =>
      (st.vregs.get 0 (256 * u + i), st.vregs.get 0 (256 * v + i)) := by
    rw [Stream.lanes, Stream.lanes, tabulate, tabulate, List.zip_map']
  have hzip : zip3 f (st.lanes u) (st.lanes v) (st.lanes w) = (List.range 256).map fun i =>
      f (st.vregs.get 0 (256 * u + i)) (st.vregs.get 0 (256 * v + i)) (st.vregs.get 0 (256 * w + i)) := by
    rw [zip3, hpair, Stream.lanes, tabulate, zipWith_map_range]
  rw [hzip]
  refine List.map_congr_left fun i hi => ?_
  rw [st.lanes_getD _ (List.mem_range.1 hi), st.lanes_getD _ (List.mem_range.1 hi), st.lanes_getD _ (List.mem_range.1 hi)]

/-- Settles O10: each unit's operation lane by lane, and the operand it refuses. -/
theorem laneOperations : Obligations.LaneOperations := by
  unfold Obligations.LaneOperations
  intro k vd vs vt s key x st lanes
  refine ⟨fun op h hfree hsrcs => ⟨fun hvalid => ?_, fun hvalid => ?_⟩,
    fun slot h hfree hvs hvt => ?_, fun sn sr h hfree => ⟨fun hpair hstream => ?_, fun hstream => ?_⟩⟩
  · refine exec_unit_of_op rfl h hfree hsrcs ?_
    simp only [hvalid]
    refine ⟨_, rfl, rfl, rfl, rfl, ?_⟩
    rw [zip3_lanes, List.map_map, List.map_map]
    rfl
  · refine congrArg _ (issueUnit_of_none h hfree hsrcs ?_)
    simp [hvalid]
  · have hsrcs : ∀ v ∈ (if slot = 10 then [vs, vt] else [vs]), (s.core k.val).vectorPending key v = false := by
      split
      · next hpow => simpa using ⟨hvs, hvt hpow⟩
      · simpa using hvs
    refine ⟨fun husable => ?_, fun husable => congrArg _ (issueUnit_of_none h hfree hsrcs (by simp [husable]))⟩
    refine exec_unit_of_op rfl h hfree hsrcs ?_
    simp only [husable]
    refine ⟨_, rfl, rfl, rfl, rfl, ?_⟩
    rw [zipWith_lanes, List.map_map, List.map_map]
    rfl
  · refine exec_unit_of_op rfl h hfree (by simp) ?_
    refine ⟨_, if_neg ?_, rfl, rfl, rfl, rfl⟩
    rw [pairOk_of_le hpair, decide_eq_false hstream]
    decide
  · refine congrArg _ (issueUnit_of_none h hfree (by simp) (if_pos ?_))
    rw [decide_eq_true hstream, Bool.or_true]

/-! ## SOFTMAX and NORM -/

section
variable {k : CoreId} {s : State} {key : Nat}

/-- The words of a row as binary32, as an operation reads them (R68). -/
theorem readElems_toF32 (s : State) (c k : Nat) (d : Desc) (l : List (List Nat)) :
    ((s.readElems c k d l).1.map d.toF32).map (·.1) = l.map fun g => (d.toF32 (s.readElem c k d g).1).1 := by
  rw [State.readElems_fst, List.map_map, List.map_map]
  rfl

/-- SOFTMAX of a row that is not empty: the scratch first, then the weights in bounds (R129 to R137). -/
theorem exec_softmax_of_row {src dst scratch : BitVec 16} {org : SReg} {round : BitVec 2} {a b t : Desc}
    (h : s.issues k key (.softmax k src dst scratch org round)) (hfree : s.unitFree k key 9)
    (ha : s.desc (keyCtx key) src.toNat = some a) (hb : s.desc (keyCtx key) dst.toNat = some b)
    (ht : s.desc (keyCtx key) scratch.toNat = some t) (horg : pairOk org = true) (hround : round ≠ 3) (hspace : t.space = 0)
    (hmax : (((s.core k.val).stream key).rowAt org a).length ≤ Config.softmaxMaxRow)
    (hroom : 4 * (((s.core k.val).stream key).rowAt org a).length ≤ t.count * t.size)
    (hn : 0 < (((s.core k.val).stream key).rowAt org a).length) (hne : b.empty = false) :
    let st := (s.core k.val).stream key
    let c := keyCtx key
    let row := softRow ((st.rowAt org a).map fun g => (a.toF32 (s.readElem c k.val a g).1).1)
    ∃ o, exec (.softmax k src dst scratch org round) s = .next (s.placeUnit k 9 key st o) ∧
      o.cycles = 2 * ceilDiv (st.rowAt org a).length 256 + 40 ∧
      o.effects.head? = some (.mem .sram (s.absAddr c k.val 0 t.base) (row.scratch.flatMap fun w => toLe 4 w.toNat)) ∧
      ∀ m x bs, (.mem m x bs) ∈ o.effects.tail ↔ ∃ g y, (g, y) ∈ (st.rowAt org a).zip row.outs ∧
        b.inBounds g = true ∧ m = spaceMem b.space ∧ x = s.elemAddr c k.val b g ∧
        bs = toLe b.size (b.fromNum (s.roundBy c round.toNat (Config.roundSeed c st.pc) b g) y).1 := by
  intro st c row
  refine exec_unit_of_op rfl h hfree (by simp) ?_
  simp only [ha, hb, ht]
  refine ⟨_, (if_neg ?_).trans (if_neg ?_), rfl, ?_, fun m x bs => ?_⟩
  · have hround' : round ≠ 3#2 := hround
    simp [horg, hround', hspace, hmax, hroom]
  · simp [hne, Nat.ne_of_gt hn]
  · rw [readElems_toF32]
    rfl
  · rw [List.cons_append, List.tail_cons, List.mem_append, or_iff_left mem_notMem_tailEffects, readElems_toF32]
    refine (State.mem_writeElems_zip (conv := fun g y =>
      b.fromNum (s.roundBy c round.toNat (Config.roundSeed c st.pc) b g) y)).trans ?_
    simp only [Effect.mem.injEq]
    rfl

theorem exec_softmax_of_empty {src dst scratch : BitVec 16} {org : SReg} {round : BitVec 2} {a b t : Desc}
    (h : s.issues k key (.softmax k src dst scratch org round)) (hfree : s.unitFree k key 9)
    (ha : s.desc (keyCtx key) src.toNat = some a) (hb : s.desc (keyCtx key) dst.toNat = some b)
    (ht : s.desc (keyCtx key) scratch.toNat = some t) (horg : pairOk org = true) (hround : round ≠ 3) (hspace : t.space = 0)
    (hn : (((s.core k.val).stream key).rowAt org a).length = 0) :
    exec (.softmax k src dst scratch org round) s = .next (s.placeUnit k 9 key ((s.core k.val).stream key) {}) := by
  refine congrArg _ (issueUnit_of_some h hfree (by simp) ?_)
  simp only [ha, hb, ht]
  refine (if_neg ?_).trans (if_pos ?_)
  · have hround' : round ≠ 3#2 := hround
    simp [horg, hround', hspace, hn]
  · simp [hn]

/-- ROUND 3, a scratch outside SRAM or too small, and a row beyond the largest (R131, R221). -/
theorem exec_softmax_of_refused {src dst scratch : BitVec 16} {org : SReg} {round : BitVec 2} {a b t : Desc}
    (h : s.issues k key (.softmax k src dst scratch org round)) (hfree : s.unitFree k key 9)
    (ha : s.desc (keyCtx key) src.toNat = some a) (hb : s.desc (keyCtx key) dst.toNat = some b)
    (ht : s.desc (keyCtx key) scratch.toNat = some t)
    (hbad : round = 3 ∨ t.space ≠ 0 ∨ Config.softmaxMaxRow < (((s.core k.val).stream key).rowAt org a).length ∨
      t.count * t.size < 4 * (((s.core k.val).stream key).rowAt org a).length) :
    exec (.softmax k src dst scratch org round) s = .next (s.ctxFault (keyCtx key)) := by
  refine congrArg _ (issueUnit_of_none h hfree (by simp) ?_)
  simp only [ha, hb, ht]
  refine if_pos ?_
  rcases hbad with hround | hspace | hmax | hroom
  · simp [hround]
  · simp [hspace]
  · simp [hmax]
  · simp [hroom]

/-- The guard of NORM: a register pair, and anchors in range in sum mode. -/
theorem norm_refuses_iff (pair stable : Bool) (a1 a2 : Int) :
    (!pair || (!stable && !((decide (Config.anchorMin ≤ a1) && decide (a1 ≤ Config.anchorMax)) &&
      (decide (Config.anchorMin ≤ a2) && decide (a2 ≤ Config.anchorMax))))) = true ↔
    ¬(pair = true ∧ (stable = true ∨
      (Config.anchorMin ≤ a1 ∧ a1 ≤ Config.anchorMax ∧ Config.anchorMin ≤ a2 ∧ a2 ≤ Config.anchorMax))) := by
  cases pair <;> cases stable <;> simp [-not_and, Decidable.not_and_iff_not_or_not, or_assoc]

/-- NORM of a row that is not empty: μ and ρ, and no byte of memory (R138 to R146). -/
theorem exec_norm_of_row {stable : Bool} {src : BitVec 16} {vd : VReg} {org sr : SReg} {d : Desc}
    (h : s.issues k key (.norm k stable src vd org sr)) (hfree : s.unitFree k key 9)
    (hd : s.desc (keyCtx key) src.toNat = some d) (horg : pairOk org = true) :
    let st := (s.core k.val).stream key
    let c := keyCtx key
    let r := (st.s sr.val).toNat
    let a1 := (BitVec.ofNat 16 (r / 2 ^ 32)).toInt
    let a2 := (BitVec.ofNat 16 (r / 2 ^ 48)).toInt
    (stable = true ∨
      (Config.anchorMin ≤ a1 ∧ a1 ≤ Config.anchorMax ∧ Config.anchorMin ≤ a2 ∧ a2 ≤ Config.anchorMax)) →
    st.rowAt org d ≠ [] →
    let res := normRow stable [(st.rowAt org d).map fun g => (d.toF32 (s.readElem c k.val d g).1).1]
      (BitVec.ofNat 32 r) a1 a2
    ∃ o, exec (.norm k stable src vd org sr) s = .next (s.placeUnit k 9 key st o) ∧
      o.cycles = 2 * ceilDiv (st.rowAt org d).length 256 + 40 ∧
      o.effects.take 2 = [.lane vd 0 res.1.1, .lane vd 1 res.2.1] ∧ ∀ m x bs, (.mem m x bs) ∉ o.effects := by
  intro st c r a1 a2 hranged hrow res
  refine exec_unit_of_op rfl h hfree (by simp) ?_
  simp only [hd]
  refine ⟨_, (if_neg ?_).trans (if_neg ?_), rfl, ?_, fun m x bs => ?_⟩
  · exact fun hbad => (norm_refuses_iff _ _ _ _).1 hbad ⟨horg, hranged⟩
  · simpa using hrow
  · rw [readElems_toF32]
    rfl
  · simp [tailEffects]

theorem exec_norm_of_empty {stable : Bool} {src : BitVec 16} {vd : VReg} {org sr : SReg} {d : Desc}
    (h : s.issues k key (.norm k stable src vd org sr)) (hfree : s.unitFree k key 9)
    (hd : s.desc (keyCtx key) src.toNat = some d) (horg : pairOk org = true) :
    let st := (s.core k.val).stream key
    let r := (st.s sr.val).toNat
    let a1 := (BitVec.ofNat 16 (r / 2 ^ 32)).toInt
    let a2 := (BitVec.ofNat 16 (r / 2 ^ 48)).toInt
    (stable = true ∨
      (Config.anchorMin ≤ a1 ∧ a1 ≤ Config.anchorMax ∧ Config.anchorMin ≤ a2 ∧ a2 ≤ Config.anchorMax)) →
    st.rowAt org d = [] → exec (.norm k stable src vd org sr) s = .next (s.placeUnit k 9 key st {}) := by
  intro st r a1 a2 hranged hrow
  refine congrArg _ (issueUnit_of_some h hfree (by simp) ?_)
  simp only [hd]
  refine (if_neg ?_).trans (if_pos ?_)
  · exact fun hbad => (norm_refuses_iff _ _ _ _).1 hbad ⟨horg, hranged⟩
  · simpa using hrow

/-- In sum mode an anchor out of range faults the context (R75). -/
theorem exec_norm_of_unranged {src : BitVec 16} {vd : VReg} {org sr : SReg} {d : Desc}
    (h : s.issues k key (.norm k false src vd org sr)) (hfree : s.unitFree k key 9)
    (hd : s.desc (keyCtx key) src.toNat = some d) :
    let r := (((s.core k.val).stream key).s sr.val).toNat
    let a1 := (BitVec.ofNat 16 (r / 2 ^ 32)).toInt
    let a2 := (BitVec.ofNat 16 (r / 2 ^ 48)).toInt
    ¬(Config.anchorMin ≤ a1 ∧ a1 ≤ Config.anchorMax ∧ Config.anchorMin ≤ a2 ∧ a2 ≤ Config.anchorMax) →
    exec (.norm k false src vd org sr) s = .next (s.ctxFault (keyCtx key)) := by
  intro r a1 a2 hranged
  refine congrArg _ (issueUnit_of_none h hfree (by simp) ?_)
  simp only [hd]
  exact if_pos ((norm_refuses_iff _ _ _ _).2 fun hok => hok.2.elim Bool.false_ne_true hranged)

end

/-- Settles O11: the row's elements, the scratch, the writes or the two lanes, and the operands that are refused. -/
theorem rowOperations : Obligations.RowOperations := by
  unfold Obligations.RowOperations
  intro k s key hfree st c
  refine ⟨?_, ?_⟩
  · intro src dst scratch org round a b t h ha hb ht horg n row
    have horg' := pairOk_of_le horg
    exact ⟨fun hround hspace hmax hroom hn hne =>
        exec_softmax_of_row h hfree ha hb ht horg' hround hspace hmax hroom hn hne,
      fun hround hspace hn => exec_softmax_of_empty h hfree ha hb ht horg' hround hspace hn,
      exec_softmax_of_refused h hfree ha hb ht⟩
  · intro stable src vd org sr d h hd horg r a1 a2 ranged
    have horg' := pairOk_of_le horg
    refine ⟨exec_norm_of_row h hfree hd horg', exec_norm_of_empty h hfree hd horg', fun hstable => ?_⟩
    subst hstable
    exact exec_norm_of_unranged h hfree hd

end Sys2Proof.Machine
end

section
namespace Sys2Proof.Machine

/-! ## An instruction whose unit is busy is held (R208) -/

section
variable {k : CoreId} {s : State} {key : Nat}

theorem issueUnit_of_busy {u : Nat} {srcs : List VReg} {i : Instr} (h : s.issues k key i)
    (hbusy : ¬ s.unitFree k key u ∨ ∃ v ∈ srcs, (s.core k.val).vectorPending key v = true)
    (f : Nat → Stream → Option UnitOp) :
    issueUnit k u srcs i s f = s.updStream k.val key fun st => { st with status := .held i } := by
  rw [issueUnit, onIssue_of_issues h]
  refine if_pos ?_
  rw [Bool.or_eq_true, List.any_eq_true]
  exact hbusy.imp_left Option.isSome_iff_ne_none.2

theorem exec_dma_of_busy {a b m : BitVec 16} (h : s.issues k key (.dma k a b m)) (hbusy : ¬ s.unitFree k key 10) :
    exec (.dma k a b m) s = .next (s.updStream k.val key fun st => { st with status := .held (.dma k a b m) }) := by
  change execDma k a b m s = _
  rw [execDma, onIssue_of_issues h]
  exact congrArg _ (if_pos (Option.isSome_iff_ne_none.2 hbusy))

/-! ## An operation placed in its unit -/

theorem State.submit_core (s : State) (c : CtxId) (core : Option CoreId) (write : Bool) (lines : List Nat) (waiting : Nat)
    (effects : List Effect) (j : Nat) : (s.submit c core write lines waiting effects).1.core j = s.core j := by
  rw [State.submit_eq]
  rfl

theorem State.launchOp_core_ne (st : Stream) (op : UnitOp) {j : Nat} (hj : j ≠ k.val) :
    (s.launchOp k key st op).1.core j = s.core j := by
  unfold State.launchOp
  dsimp only
  rw [State.submit_core, State.submit_core]
  split
  · rfl
  · exact State.updCore_core_ne _ _ _ _ hj

/-- An operation that moves no tracked line takes no tracker and submits no transfer. -/
theorem State.launchOp_of_no_lines (st : Stream) {op : UnitOp} (hreads : op.reads = []) (hwrites : op.writes = [])
    (hothers : op.others = 0) :
    s.launchOp k key st op = (s, { stream := key, ctx := ctxOf key, uid := st.uid, cycles := op.cycles
                                   effects := op.effects.filter fun e => !e.inHbm, picojoule := op.picojoule }) := by
  simp [State.launchOp, State.submit, hreads, hwrites, hothers]

/-- Such an operation leaves its stream to go on past it. -/
theorem State.placeUnit_of_no_lines (u : Nat) (st : Stream) {op : UnitOp} (hreads : op.reads = [])
    (hwrites : op.writes = []) (hothers : op.others = 0) :
    s.placeUnit k u key st op = s.updCore k.val fun y =>
      { (y.updStream key fun _ => (st.writing op.effects).advance) with
        units := y.units.put (unitKey (keyCtx key) u) (some
          { stream := key, ctx := ctxOf key, uid := st.uid, cycles := op.cycles
            effects := op.effects.filter fun e => !e.inHbm, picojoule := op.picojoule }) } := by
  simp only [State.placeUnit, State.launchOp_of_no_lines st hreads hwrites hothers]
  rfl

/-- Placing an operation changes the controller's queue and the core alone. -/
theorem State.placeUnit_frame (u : Nat) (st : Stream) (op : UnitOp) :
    ∃ h cs, s.placeUnit k u key st op = { s with hbm := h, cores := cs } ∧ ∀ j, j ≠ k.val → cs.get {} j = s.core j := by
  have hlaunch := s.launchOp_eq k key st op
  obtain ⟨f, hf⟩ : ∃ f, s.placeUnit k u key st op = (s.launchOp k key st op).1.updCore k.val f := by
    unfold State.placeUnit
    exact ⟨_, rfl⟩
  refine ⟨(s.launchOp k key st op).1.hbm, ((s.launchOp k key st op).1.updCore k.val f).cores, ?_, fun j hj => ?_⟩
  · rw [hf, State.updCore, hlaunch]
  · exact (State.updCore_core_ne _ k.val j f hj).trans (State.launchOp_core_ne st op hj)

end

/-! ## UNIT_FREE -/

section
variable {k : CoreId} {unit : Fin 11} {s : State} {key : Nat} {x : InFlight}

theorem exec_unitFree_of_not_retired (hcur : (s.core k.val).cur = some key)
    (hunit : (s.core k.val).units.get none (unitKey (keyCtx key) unit.val) = some x) (hret : s.retired x = false) :
    exec (.unitFree k unit) s = .next s := by
  change execUnitFree k unit s = _
  simp only [execUnitFree, hcur, hunit, hret]
  rfl

/-- The operation's lines have retired and no copy of its context has lines to issue. -/
theorem exec_unitFree_of_retired (hcur : (s.core k.val).cur = some key)
    (hunit : (s.core k.val).units.get none (unitKey (keyCtx key) unit.val) = some x) (hret : s.retired x = true)
    (hdmas : ∀ y ∈ (s.core k.val).dmas, y.ctx = x.ctx → y.linesLeft = 0) :
    exec (.unitFree k unit) s = .next (((((s.updCore k.val fun y =>
      { y with units := y.units.put (unitKey (keyCtx key) unit.val) none }).freeTracker k.val x.ctx.val x.held).meter
        x.ctx.val x.uid x.picojoule).applyAll k.val x).tryHeld k.val) := by
  have hidle : ((s.core k.val).dmas.any fun y => y.ctx == x.ctx && decide (0 < y.linesLeft)) = false :=
    List.any_eq_false.2 fun y hy => by
      by_cases hctx : y.ctx = x.ctx
      · simp [hdmas y hy hctx]
      · simp [hctx]
  change execUnitFree k unit s = _
  simp only [execUnitFree, hcur, hunit, hret, hidle, Bool.and_false, Bool.not_false, Bool.and_self, if_true]

/-- With no instruction held, nothing is tried. -/
theorem State.tryHeld_of_none_held (hcur : (s.core k.val).cur = some key)
    (hheld : ∀ i, ((s.core k.val).stream key).status ≠ .held i) : s.tryHeld k.val = s := by
  rw [State.tryHeld, hcur]
  dsimp only
  split
  · next i hst => exact absurd hst (hheld i)
  · rfl

theorem State.updCmd_life (s : State) (c uid : Nat) (f : Cmd → Cmd) (d : Nat) :
    ((s.updCmd c uid f).ctx d).life = (s.ctx d).life := by
  by_cases h : d = c
  · subst h
    rw [State.updCmd, State.updCtx_ctx]
  · rw [State.updCmd, State.updCtx_ctx_ne _ _ _ _ h]

@[simp] theorem State.meter_accepting (s : State) (c uid pj d : Nat) : (s.meter c uid pj).accepting d = s.accepting d := by
  simp only [State.accepting, State.meter, State.updCmd_life]

@[simp] theorem State.meter_core (s : State) (c uid pj j : Nat) : (s.meter c uid pj).core j = s.core j := rfl

/-- A vector result of a command at work lands in its register. -/
theorem State.applyAll_of_vreg {v : VReg} {l : List F32} (heff : x.effects = [.vreg v l])
    (hacc : s.accepting (keyCtx x.stream) = true) (huid : ((s.core k.val).stream x.stream).uid = x.uid) :
    s.applyAll k.val x = s.updStream k.val x.stream fun st => st.setV v.val l := by
  rw [State.applyAll, heff]
  exact if_pos (by simp [hacc, huid])

/-- Writing a vector register leaves what every stream of the core stands at. -/
theorem State.updStream_setV_status (s : State) (k key v : Nat) (l : List F32) (other : Nat) :
    (((s.updStream k key fun st => st.setV v l).core k).stream other).status = ((s.core k).stream other).status := by
  by_cases h : other = key
  · subst h
    rw [State.updStream_stream]
    rfl
  · rw [State.updStream_stream_ne]
    simp [h]

end

/-! ## Trackers (R252) -/

/-- Trackers of a slot that are held, after one more of context c is taken in a slot. -/
theorem Core.slotHeld_put (x : Core) {c slot slot' : Nat} (hc : c < 64) (n : Nat) :
    ({ x with trackers := x.trackers.put (64 * slot + c) (x.trackers.get 0 (64 * slot + c) + n) } : Core).slotHeld slot' =
      x.slotHeld slot' + if slot' = slot then n else 0 := by
  have hsum : ∀ (m : Nat) (f : Nat → Nat), m ≤ 64 →
      ((List.range m).map fun i => f i + if 64 * slot' + i = 64 * slot + c then n else 0).sum =
        ((List.range m).map f).sum + if slot' = slot ∧ c < m then n else 0 := by
    intro m f
    induction m with
    | zero => simp
    | succ m ih =>
      intro hm
      rw [List.range_succ, List.map_append, List.sum_append, ih (by omega), List.map_append, List.sum_append]
      simp only [List.map_singleton, List.sum_singleton]
      split <;> split <;> split <;> omega
  have hget : ∀ i, (x.trackers.put (64 * slot + c) (x.trackers.get 0 (64 * slot + c) + n)).get 0 (64 * slot' + i) =
      x.trackers.get 0 (64 * slot' + i) + if 64 * slot' + i = 64 * slot + c then n else 0 := by
    intro i
    split
    · next h => rw [h, SMap.get_put]
    · next h => rw [SMap.get_put_ne _ _ _ _ _ h, Nat.add_zero]
  simp only [Core.slotHeld, tabulate, hget]
  rw [hsum 64 _ (Nat.le_refl 64)]
  simp [hc]

/-- One step of taking trackers, from one slot. -/
def Core.takeFrom (c : Nat) (acc : Core × Nat) (slot : Nat) : Core × Nat :=
  let t := min acc.2 (acc.1.slotFree slot)
  if t = 0 then acc
  else ({ acc.1 with trackers := acc.1.trackers.put (64 * slot + c) (acc.1.trackers.get 0 (64 * slot + c) + t) }, acc.2 - t)

theorem Core.takeTrackers_eq_foldl (x : Core) (w : Wheel) (c n : Nat) :
    x.takeTrackers w c n = ((w.slotsOf c).foldl (Core.takeFrom c) (x, n)).1 := rfl

theorem foldl_takeFrom_zero (c : Nat) (l : List Nat) (x : Core) : l.foldl (Core.takeFrom c) (x, 0) = (x, 0) :=
  foldl_eq_self fun slot _ => by simp [Core.takeFrom]

/-- One tracker is taken from the first of the slots that have one free. -/
theorem foldl_takeFrom_one (c : Nat) (l : List Nat) (x : Core) (hfree : 0 < (l.map x.slotFree).sum) :
    ∃ l₁ slot l₂, l = l₁ ++ slot :: l₂ ∧ 0 < x.slotFree slot ∧ l.foldl (Core.takeFrom c) (x, 1) =
      ({ x with trackers := x.trackers.put (64 * slot + c) (x.trackers.get 0 (64 * slot + c) + 1) }, 0) := by
  induction l with
  | nil => simp at hfree
  | cons slot l ih =>
    rw [List.map_cons, List.sum_cons] at hfree
    by_cases hzero : x.slotFree slot = 0
    · obtain ⟨l₁, slot', l₂, rfl, hpos, hfold⟩ := ih (by omega)
      refine ⟨slot :: l₁, slot', l₂, rfl, hpos, ?_⟩
      rw [List.foldl_cons, Core.takeFrom, if_pos (by simp [hzero]), hfold]
    · have hmin : min 1 (x.slotFree slot) = 1 := by omega
      refine ⟨[], slot, l, rfl, Nat.pos_of_ne_zero hzero, ?_⟩
      rw [List.foldl_cons, Core.takeFrom]
      simp only [hmin, Nat.one_ne_zero, if_false, Nat.sub_self]
      exact foldl_takeFrom_zero c l _

theorem Core.slotFree_put (x : Core) {c slot slot' : Nat} (hc : c < 64) :
    ({ x with trackers := x.trackers.put (64 * slot + c) (x.trackers.get 0 (64 * slot + c) + 1) } : Core).slotFree slot' =
      x.slotFree slot' - if slot' = slot then 1 else 0 := by
  rw [Core.slotFree, Core.slotHeld_put x hc, Core.slotFree]
  omega

/-- Where a context's slots have a free tracker, taking one leaves them one fewer. -/
theorem Core.sum_slotFree_takeTrackers (x : Core) (w : Wheel) {c : Nat} (hc : c < 64)
    (hfree : 0 < ((w.slotsOf c).map x.slotFree).sum) :
    ((w.slotsOf c).map (x.takeTrackers w c 1).slotFree).sum = ((w.slotsOf c).map x.slotFree).sum - 1 := by
  have hnodup : (w.slotsOf c).Nodup := List.nodup_range.filter _
  obtain ⟨l₁, slot, l₂, hl, hpos, hfold⟩ := foldl_takeFrom_one c (w.slotsOf c) x hfree
  rw [Core.takeTrackers_eq_foldl, hfold]
  rw [hl] at hnodup ⊢
  have hnot₁ : ∀ a ∈ l₁, a ≠ slot := fun a ha e =>
    (List.nodup_append.1 hnodup).2.2 a ha slot List.mem_cons_self e
  have hnot₂ : ∀ a ∈ l₂, a ≠ slot := fun a ha e =>
    (List.nodup_cons.1 (List.nodup_append.1 hnodup).2.1).1 (e ▸ ha)
  have hkeep : ∀ l : List Nat, (∀ a ∈ l, a ≠ slot) → l.map (Core.slotFree { x with
      trackers := x.trackers.put (64 * slot + c) (x.trackers.get 0 (64 * slot + c) + 1) }) = l.map x.slotFree :=
    fun l hne => List.map_congr_left fun a ha => by rw [Core.slotFree_put x hc, if_neg (hne a ha), Nat.sub_zero]
  rw [List.map_append, List.map_cons, List.sum_append, List.sum_cons, hkeep l₁ hnot₁, hkeep l₂ hnot₂,
    Core.slotFree_put x hc, if_pos rfl, List.map_append, List.map_cons, List.sum_append, List.sum_cons]
  omega

/-! ## TRACKER_WAIT_END -/

section
variable {k : CoreId} {s : State} {key u : Nat} {x : InFlight}

theorem grantLine_linesLeft (x : InFlight) (l : List Xfer) (reuse : Bool) :
    (grantLine x l reuse).1.linesLeft = x.linesLeft - 1 := by
  unfold grantLine
  dsimp only
  split <;> rfl

theorem grantLine_of_no_xfers (hx : x.xfers = []) (l : List Xfer) (reuse : Bool) :
    grantLine x l reuse = ({ x with
      linesLeft := x.linesLeft - 1, held := (if reuse then x.held - 1 else x.held) + 1 }, l) := by
  have hnone : (l.find? fun y => x.xfers.contains y.id && decide (0 < y.waiting)) = none :=
    List.find?_eq_none.2 fun y _ => by simp [hx]
  simp only [grantLine, hnone]

/-- The core after a line of the operation in place u got its tracker, a free one or one of its own. -/
def Core.grantUnit (y : Core) (w : Wheel) (c : Nat) (reuse : Bool) (u : Nat) (op : InFlight) : Core :=
  if reuse then { y with units := y.units.put u (some op) }
  else ({ y with units := y.units.put u (some op) } : Core).takeTrackers w c 1

theorem Core.endTrackerWait_eq (y : Core) (key u left : Nat) :
    y.endTrackerWait key u left = { y with streams := (y.endTrackerWait key u left).streams } := by
  unfold Core.endTrackerWait
  split <;> rfl

/-- A grant changes the core's trackers and the operation in its place. -/
theorem Core.grantUnit_eq (y : Core) (w : Wheel) (c : Nat) (reuse : Bool) (u : Nat) (op : InFlight) :
    y.grantUnit w c reuse u op =
      { y with units := y.units.put u (some op), trackers := (y.grantUnit w c reuse u op).trackers } := by
  unfold Core.grantUnit
  split
  · rfl
  · rw [Core.takeTrackers_eq]

/-- TRACKER_WAIT_END for an operation of a unit, where no copy is at work on the core. -/
theorem exec_trackerWaitEnd (hcur : (s.core k.val).cur = some key) (hlive : (s.ctx (keyCtx key)).life.state = .live)
    (hblocked : (s.core k.val).blocked key = false) (hstopped : s.safety.stopped = false) (hdmas : (s.core k.val).dmas = [])
    (hwaiter : (s.core k.val).lineWaiter (keyCtx key) = some u) (hunit : (s.core k.val).units.get none u = some x) :
    exec (.trackerWaitEnd k) s = .next (
      let reuse := s.freeTrackers k.val (keyCtx key) == 0
      if reuse && x.held == 0 then s
      else { s with hbm := { s.hbm with xfers := (grantLine x s.hbm.xfers reuse).2 } }.updCore k.val fun y =>
        (y.grantUnit (s.wheel k.val) (keyCtx key) reuse u (grantLine x s.hbm.xfers reuse).1).endTrackerWait x.stream u
          (grantLine x s.hbm.xfers reuse).1.linesLeft) := by
  have hgo : ¬((s.ctx (keyCtx key)).life.state ≠ .live ∨ (s.core k.val).blocked key = true ∨ s.safety.stopped = true) := by
    simp [hlive, hblocked, hstopped]
  change execTrackerWaitEnd k s = _
  simp only [execTrackerWaitEnd, hcur, if_neg hgo, hdmas, List.find?_nil, hwaiter, hunit]
  rfl

/-- The wait that ends at a core leaves its trackers and units. -/
theorem Core.endTrackerWait_frame (y : Core) (key u left : Nat) :
    (y.endTrackerWait key u left).slotFree = y.slotFree ∧ (y.endTrackerWait key u left).trackers = y.trackers ∧
      (y.endTrackerWait key u left).units = y.units := by
  rw [Core.endTrackerWait_eq]
  exact ⟨rfl, rfl, rfl⟩

/-- The wait that ends at a core changes the stream of its operation alone, and that only with its last line. -/
theorem Core.endTrackerWait_stream (y : Core) (key u left : Nat) :
    (left = 0 → (y.stream key).status = .waitTracker u → ((y.endTrackerWait key u left).stream key).status = .running) ∧
    (left ≠ 0 → (y.endTrackerWait key u left).stream key = y.stream key) := by
  refine ⟨fun hleft hstatus => ?_, fun hleft => ?_⟩
  · rw [Core.endTrackerWait, if_pos ⟨hleft, hstatus⟩]
    simp [Core.stream, Core.updStream]
  · rw [Core.endTrackerWait, if_neg fun h => hleft h.1]

/-- The core after a line of the operation in place u got its tracker and the wait for it, if over, has ended. -/
def Core.lineGranted (y : Core) (w : Wheel) (c : Nat) (reuse : Bool) (u : Nat) (op : InFlight) (key : Nat) : Core :=
  (y.grantUnit w c reuse u op).endTrackerWait key u op.linesLeft

section
variable (y : Core) (w : Wheel) {c : Nat} (u : Nat) (op : InFlight) (key : Nat)

/-- A tracker taken for a line leaves the context's slots one fewer. -/
theorem Core.slotFree_lineGranted (hc : c < 64) (hfree : 0 < ((w.slotsOf c).map y.slotFree).sum) :
    ((w.slotsOf c).map (y.lineGranted w c false u op key).slotFree).sum = ((w.slotsOf c).map y.slotFree).sum - 1 := by
  rw [Core.lineGranted, (Core.endTrackerWait_frame _ _ _ _).1]
  exact Core.sum_slotFree_takeTrackers { y with units := y.units.put u (some op) } w hc hfree

/-- A tracker used again leaves the trackers. -/
theorem Core.trackers_lineGranted : (y.lineGranted w c true u op key).trackers = y.trackers :=
  (Core.endTrackerWait_frame _ _ _ _).2.1

theorem Core.units_lineGranted (reuse : Bool) : (y.lineGranted w c reuse u op key).units.get none u = some op := by
  rw [Core.lineGranted, (Core.endTrackerWait_frame _ _ _ _).2.2, Core.grantUnit_eq]
  exact SMap.get_put ..

theorem Core.stream_lineGranted (reuse : Bool) :
    (op.linesLeft = 0 → (y.stream key).status = .waitTracker u →
      ((y.lineGranted w c reuse u op key).stream key).status = .running) ∧
    (op.linesLeft ≠ 0 → (y.lineGranted w c reuse u op key).stream key = y.stream key) := by
  have hstream : (y.grantUnit w c reuse u op).stream key = y.stream key := by
    rw [Core.grantUnit_eq]
    rfl
  have h := Core.endTrackerWait_stream (y.grantUnit w c reuse u op) key u op.linesLeft
  rwa [hstream] at h

end

end

/-- Settles O12: holding, placing, freeing and the trackers, each by its lemma; a tracker taken is one of the free trackers
of the context's slots. -/
theorem unitsAndTrackers : Obligations.UnitsAndTrackers := by
  unfold Obligations.UnitsAndTrackers
  refine ⟨?_, ?_, ?_⟩
  · intro k s key st held
    refine ⟨fun op vd vs vt h hbusy => congrArg _ (issueUnit_of_busy h hbusy _),
      fun v d o hh h hbusy => congrArg _ (issueUnit_of_busy h (.inl hbusy) _),
      fun v d o hh r h hbusy => congrArg _ (issueUnit_of_busy h (hbusy.imp_right fun hv => ⟨v, List.mem_cons_self, hv⟩) _),
      fun a b m h hbusy => exec_dma_of_busy h hbusy,
      fun u op hr hw ho => State.placeUnit_of_no_lines u st hr hw ho, fun u op => State.placeUnit_frame u st op⟩
  · intro k unit s key x hcur hunit freed
    refine ⟨exec_unitFree_of_not_retired hcur hunit, exec_unitFree_of_retired hcur hunit,
      fun v l hret hdmas hheld hzero heff hacc huid => ?_⟩
    have hkeep : ∀ other, ((freed.meter x.ctx.val x.uid x.picojoule).core k.val).stream other =
        (s.core k.val).stream other := fun other => by
      rw [State.meter_core, State.updCore_core]
      rfl
    have hfree : freed.freeTracker k.val x.ctx.val x.held = freed := if_pos hzero
    have hacc' : (freed.meter x.ctx.val x.uid x.picojoule).accepting (keyCtx x.stream) = true := by
      rw [State.meter_accepting]
      exact hacc
    rw [exec_unitFree_of_retired hcur hunit hret hdmas]
    refine congrArg _ ?_
    rw [hfree, State.applyAll_of_vreg heff hacc' (by rw [hkeep]; exact huid)]
    refine State.tryHeld_of_none_held (key := key) ?_ fun i => ?_
    · rw [State.updStream_cur, State.meter_core, State.updCore_core]
      exact hcur
    · rw [State.updStream_setV_status, hkeep]
      exact hheld i
  · intro k c s key u x hkey hcur hlive hblocked hstopped hdmas hwaiter hunit free g
    have hexec := exec_trackerWaitEnd hcur hlive hblocked hstopped hdmas hwaiter hunit
    have hctx : keyCtx key < 64 := by unfold keyCtx; omega
    refine ⟨fun hfree hheld => ?_, fun hsome hleft => ?_⟩
    · rw [hexec]
      exact congrArg _ (if_pos (by simp [free] at hfree; simp [hfree, hheld]))
    · have hgo : ¬((s.freeTrackers k.val (keyCtx key) == 0 && x.held == 0) = true) := by
        rw [Bool.and_eq_true, beq_iff_eq, beq_iff_eq]
        omega
      refine ⟨_, hexec.trans (congrArg _ (if_neg hgo)), ?_⟩
      have hlines : g.1.linesLeft = x.linesLeft - 1 := grantLine_linesLeft x _ _
      obtain ⟨hends, hstays⟩ := Core.stream_lineGranted (s.core k.val) (s.wheel k.val) (c := keyCtx key) u g.1 x.stream
        (decide (free = 0))
      refine ⟨fun hfree => ?_, fun hfree => ?_, ?_, hlines, rfl, fun hx => ?_, fun hone hwait => ?_, fun hmore => ?_, rfl,
        fun j hj => State.updCore_core_ne _ _ _ _ hj⟩
      · rw [State.freeTrackers, State.updCore_core]
        have hcases : (s.freeTrackers k.val (keyCtx key) == 0) = false :=
          beq_eq_false_iff_ne.2 (Nat.pos_iff_ne_zero.1 hfree)
        rw [hcases]
        exact Core.slotFree_lineGranted _ _ u _ _ hctx hfree
      · rw [State.updCore_core, beq_iff_eq.2 hfree]
        exact Core.trackers_lineGranted ..
      · rw [State.updCore_core]
        exact Core.units_lineGranted ..
      · change grantLine x s.hbm.xfers (decide (free = 0)) = _
        rw [grantLine_of_no_xfers hx]
        by_cases hfree : free = 0
        · have hheld : 0 < x.held := by omega
          simp only [hfree, decide_true, if_true]
          rw [Nat.sub_add_cancel hheld]
        · simp only [hfree, decide_false, if_false, Bool.false_eq_true]
      · rw [State.updCore_core]
        exact hends (by omega) hwait
      · rw [State.updCore_core]
        exact hstays (by omega)

end Sys2Proof.Machine
end

section
namespace Sys2Proof.Machine

/-! ## The log changes the log's part of the firmware state alone -/

theorem State.logEvent_fw (s : State) (severity source code : Nat) (args : List Nat) :
    (s.logEvent severity source code args).fw = { s.fw with
      log := (s.logEvent severity source code args).fw.log
      logWaiting := (s.logEvent severity source code args).fw.logWaiting
      logSeq := (s.logEvent severity source code args).fw.logSeq
      logOverwritten := (s.logEvent severity source code args).fw.logOverwritten } := by
  unfold State.logEvent
  split
  · rfl
  · rw [State.raiseQueue_eq]

/-- The state of the firmware without the log ring. -/
def Firmware.unlogged (f : Firmware) : Firmware := { f with log := [], logWaiting := [], logSeq := 0, logOverwritten := 0 }

theorem State.logEvent_unlogged (s : State) (severity source code : Nat) (args : List Nat) :
    (s.logEvent severity source code args).fw.unlogged = s.fw.unlogged := by
  rw [State.logEvent_fw]
  rfl

/-! ## What a memory holds beside the bytes written, and after a range was zeroed -/

theorem Memory.read_write_ne (m : Memory) {a b : Nat} (v : Byte) (hb : b ≠ a) : (m.write a v).read b = m.read b := by
  induction m with
  | nil =>
    unfold Memory.write
    split
    · rfl
    · simp [Memory.read, hb.symm]
  | cons p t ih =>
    obtain ⟨k, w⟩ := p
    unfold Memory.write
    split
    · split <;> simp [Memory.read, hb.symm]
    · split
      · next h => split <;> simp [Memory.read, hb.symm, ← h]
      · simp only [Memory.read, ih]

theorem Memory.read_writeBytes_outside (m : Memory) {a b : Nat} (l : Bytes) (hb : b < a ∨ a + l.length ≤ b) :
    (m.writeBytes a l).read b = m.read b := by
  induction l generalizing m a with
  | nil => rfl
  | cons x t ih =>
    rw [List.length_cons] at hb
    rw [Memory.writeBytes, ih _ (by omega), Memory.read_write_ne _ _ (by omega)]

theorem Memory.readBytes_congr {m m' : Memory} {a n : Nat} (h : ∀ b, a ≤ b → b < a + n → m.read b = m'.read b) :
    m.readBytes a n = m'.readBytes a n := by
  induction n generalizing a with
  | zero => rfl
  | succ n ih =>
    rw [Memory.readBytes, Memory.readBytes, h a (Nat.le_refl a) (by omega),
      ih fun b hb hlt => h b (by omega) (by omega)]

theorem Memory.read_zero (m : Memory) (a n b : Nat) :
    (m.zero a n).read b = if a ≤ b ∧ b < a + n then 0 else m.read b := by
  induction m with
  | nil => simp [Memory.zero, Memory.read]
  | cons p t ih =>
    obtain ⟨k, w⟩ := p
    unfold Memory.zero at ih ⊢
    rw [List.filter_cons]
    by_cases hk : a ≤ k ∧ k < a + n
    · have hdrop : (!(decide (a ≤ k) && decide (k < a + n))) = false := by simp [hk]
      rw [if_neg (by simp [hdrop]), ih, Memory.read]
      split
      · rfl
      · rw [if_neg (by rintro rfl; contradiction)]
    · have hstay : (!(decide (a ≤ k) && decide (k < a + n))) = true := by
        simp only [Bool.not_eq_true', Bool.and_eq_false_iff, decide_eq_false_iff_not]
        omega
      rw [if_pos hstay, Memory.read, Memory.read]
      split
      · next h => rw [if_neg (by rwa [← h])]
      · exact ih

/-- What HBM holds after a list of ranges of blocks was zeroed: 0 in each of them, the old bytes elsewhere. -/
theorem State.foldl_zeroHbm (l : List (Nat × Nat)) (s : State) :
    ∃ m, l.foldl (fun s r => s.zeroMem .hbm (r.1 * 2097152) (r.2 * 2097152)) s = { s with hbmMem := m } ∧
      ∀ a, m.read a = if inRanges l (a / 2097152) then 0 else s.hbmMem.read a := by
  induction l generalizing s with
  | nil => exact ⟨s.hbmMem, rfl, fun a => rfl⟩
  | cons r l ih =>
    obtain ⟨m, hm, hread⟩ := ih (s.zeroMem .hbm (r.1 * 2097152) (r.2 * 2097152))
    refine ⟨m, hm, fun a => ?_⟩
    have hrange : (r.1 * 2097152 ≤ a ∧ a < r.1 * 2097152 + r.2 * 2097152) ↔ (r.1 ≤ a / 2097152 ∧ a / 2097152 < r.1 + r.2) := by
      omega
    change m.read a = if inRanges (r :: l) (a / 2097152) = true then 0 else _
    rw [hread a]
    change (if _ then _ else Memory.read (Memory.zero _ _ _) a) = _
    rw [Memory.read_zero]
    simp only [hrange, inRanges, List.any_cons, Bool.or_eq_true, Bool.and_eq_true, decide_eq_true_eq]
    by_cases h1 : r.1 ≤ a / 2097152 ∧ a / 2097152 < r.1 + r.2
    · simp [h1]
    · by_cases h2 : l.any fun r => decide (r.1 ≤ a / 2097152) && decide (a / 2097152 < r.1 + r.2)
      · simp [h2]
      · simp [h1, h2]

/-! ## The ROM's choice of a slot -/

theorem BootBlock.bytes_length (x : BootBlock) : x.bytes.length = 64 := by
  simp [BootBlock.bytes, toLe]

/-- The boot control block lies below both slots. -/
theorem State.flash_writeBoot (s : State) (preferred trial tries : Nat) :
    ∃ a b, a + b.length ≤ 0x100000 ∧ (s.writeBoot preferred trial tries).flash = s.flash.writeBytes a b := by
  unfold State.writeBoot
  dsimp only
  refine ⟨_, _, ?_, rfl⟩
  rw [BootBlock.bytes_length]
  split <;> omega

theorem State.readBytes_writeBoot (s : State) (preferred trial tries slot off n : Nat) :
    (s.writeBoot preferred trial tries).flash.readBytes (s.slotBase slot + off) n =
      s.flash.readBytes (s.slotBase slot + off) n := by
  obtain ⟨a, b, hab, hflash⟩ := s.flash_writeBoot preferred trial tries
  have hbase : 0x100000 ≤ s.slotBase slot := Nat.le_add_right ..
  rw [hflash]
  exact Memory.readBytes_congr fun c hc _ => Memory.read_writeBytes_outside _ _ (.inr (by omega))

theorem State.slotBase_writeBoot (s : State) (preferred trial tries slot : Nat) :
    (s.writeBoot preferred trial tries).slotBase slot = s.slotBase slot := by
  simp only [State.slotBase, State.slotBytes, State.writeBoot]

theorem State.imageHeader_writeBoot (s : State) (preferred trial tries slot : Nat) :
    (s.writeBoot preferred trial tries).imageHeader slot = s.imageHeader slot := by
  have h := s.readBytes_writeBoot preferred trial tries slot 0 512
  rw [Nat.add_zero] at h
  rw [State.imageHeader, State.imageHeader, State.slotBase_writeBoot, h]

theorem State.imageBody_writeBoot (s : State) (preferred trial tries slot : Nat) :
    (s.writeBoot preferred trial tries).imageBody slot = s.imageBody slot := by
  rw [State.imageBody, State.imageHeader_writeBoot, State.slotBase_writeBoot, State.readBytes_writeBoot]
  rfl

/-- The record of a slot that fails. -/
def State.logSlot (s : State) (slot : Nat) : State := s.logEvent 2 0 0x0302 [slot, s.slotStep slot]

theorem State.trySlot_of_passes {s : State} {slot : Nat} (hw : slot ∉ s.fw.watchdogFailed) (h : s.slotStep slot = 0) :
    s.trySlot slot = (s, true) := by
  simp [State.trySlot, hw, h]

theorem State.trySlot_of_fails {s : State} {slot : Nat} (hw : slot ∉ s.fw.watchdogFailed) (h : s.slotStep slot ≠ 0) :
    s.trySlot slot = (s.logSlot slot, false) := by
  simp [State.trySlot, hw, h, State.logSlot]

theorem State.slotStep_logSlot (s : State) (slot slot' : Nat) : (s.logSlot slot).slotStep slot' = s.slotStep slot' := by
  rw [State.logSlot, State.logEvent_eq]
  rfl

theorem State.imageBody_logSlot (s : State) (slot slot' : Nat) : (s.logSlot slot).imageBody slot' = s.imageBody slot' := by
  rw [State.logSlot, State.logEvent_eq]
  rfl

theorem State.flash_logSlot (s : State) (slot : Nat) : (s.logSlot slot).flash = s.flash := by
  rw [State.logSlot, State.logEvent_eq]

theorem State.ctlMem_logSlot (s : State) (slot : Nat) : (s.logSlot slot).ctlMem = s.ctlMem := by
  rw [State.logSlot, State.logEvent_eq]

theorem State.unlogged_logSlot (s : State) (slot : Nat) : (s.logSlot slot).fw.unlogged = s.fw.unlogged :=
  State.logEvent_unlogged ..

/-- What the start of a slot's image changes. -/
theorem State.startImage_fields (s : State) (slot cause : Nat) :
    (s.startImage slot cause).ctlMem = s.ctlMem.writeBytes 0 (s.imageBody slot) ∧
      s.startImage slot cause =
        { s with fw := (s.startImage slot cause).fw, ctlMem := (s.startImage slot cause).ctlMem } := by
  unfold State.startImage
  dsimp only
  exact ⟨rfl, rfl⟩

theorem State.watchdogFailed_logSlot (s : State) (slot : Nat) : (s.logSlot slot).fw.watchdogFailed = s.fw.watchdogFailed :=
  (congrArg Firmware.watchdogFailed (s.unlogged_logSlot slot) :)

theorem State.started_logSlot (s : State) (slot : Nat) : (s.logSlot slot).fw.started = s.fw.started :=
  (congrArg Firmware.started (s.unlogged_logSlot slot) :)

section
variable {s : State}

theorem State.romSelect_of_passes (htrial : s.bootBlock.trial ≠ 1) (hw : s.bootBlock.preferred % 2 ∉ s.fw.watchdogFailed)
    (hstep : s.slotStep (s.bootBlock.preferred % 2) = 0) : s.romSelect = s.startImage (s.bootBlock.preferred % 2) 0 := by
  simp [State.romSelect, htrial, State.trySlot_of_passes hw hstep]

theorem State.romSelect_of_fails (htrial : s.bootBlock.trial ≠ 1) (hw : s.bootBlock.preferred % 2 ∉ s.fw.watchdogFailed)
    (hstep : s.slotStep (s.bootBlock.preferred % 2) ≠ 0) :
    s.romSelect = (s.logSlot (s.bootBlock.preferred % 2)).fallBack (1 - s.bootBlock.preferred % 2) 2 := by
  have hw' : s.bootBlock.preferred % 2 ∉ (s.logSlot (s.bootBlock.preferred % 2)).fw.watchdogFailed := by
    rwa [State.watchdogFailed_logSlot]
  simp [State.romSelect, htrial, State.trySlot_of_fails hw hstep, hw']

theorem State.fallBack_of_passes {slot : Nat} (cause : Nat) (hw : slot ∉ s.fw.watchdogFailed) (h : s.slotStep slot = 0) :
    s.fallBack slot cause = (s.writeBoot slot 0 0).startImage slot cause := by
  simp [State.fallBack, State.trySlot_of_passes hw h]

theorem State.fallBack_of_fails {slot : Nat} (cause : Nat) (hw : slot ∉ s.fw.watchdogFailed) (h : s.slotStep slot ≠ 0) :
    s.fallBack slot cause = { s.logSlot slot with fw := { (s.logSlot slot).fw with bootFailed := true } } := by
  simp [State.fallBack, State.trySlot_of_fails hw h]

end

/-- What power-on leaves. -/
theorem exec_porReset_fields (s : State) :
    ∃ t : State, exec .porReset s = .next t ∧ t.tick = {} ∧ t.ctxs = [] ∧ t.cores = [] ∧ t.wheels = [] ∧ t.links = [] ∧
      t.topo = {} ∧ t.groups = [] ∧ t.cfg = [] ∧ t.sets = {} ∧ t.fw = {} ∧ t.energy = {} ∧ t.hbm = {} ∧ t.pair = {} ∧
      t.sramMem = [] ∧ t.hbmMem = [] ∧ t.resMem = [] ∧ t.stageMem = [] ∧ t.ctlMem = [] ∧ t.scrubSram = [(0, 624)] ∧
      t.scrubHbm = [(0, 147456)] ∧ t.scrubRes = [(0, 768)] ∧ t.scrubStage = [(0, 1536)] ∧ t.flash = s.flash ∧
      t.ident = { s.ident with bootCount := s.ident.bootCount + 1 } ∧ t.safety.tripped = false ∧ t.safety.stopped = false ∧
      t.safety.tripPending = none ∧ t.safety.rollback = s.safety.blown ∧ t.safety.blown = s.safety.blown ∧
      t.safety.fwKeys = s.safety.fwKeys ∧ t.safety.revoked = s.safety.revoked ∧ t.pins.por = false ∧
      t.mgmt.keys.get none 0 = s.mgmt.keys.get none 0 ∧ (∀ k, k ≠ 0 → t.mgmt.keys.get none k = none) := by
  refine ⟨_, rfl, rfl, rfl, rfl, rfl, rfl, rfl, rfl, rfl, rfl, rfl, rfl, rfl, rfl, rfl, rfl, rfl, rfl, rfl, rfl, rfl, rfl,
    rfl, rfl, rfl, rfl, rfl, rfl, rfl, rfl, rfl, rfl, rfl, ?_, fun k hk => ?_⟩
  · simp [State.powerOn, SMap.get]
  · simp [State.powerOn, SMap.get, hk.symm]

section
variable {s : State}

theorem exec_porRise_of_low (a : BitVec 2) (oct : Bool) (h : s.pins.por = false) :
    ∃ t : State, exec (.porRise a oct) s = .next t ∧ t.fw.stage = 1 ∧
      t.pins = { s.pins with por := true, i2cAddr := a, xspiOctal := oct, testMode := 0 } ∧
      t = { s with fw := t.fw, pins := t.pins, out := t.out } := by
  refine ⟨_, congrArg Host.Outcome.next (if_neg (by simp [h])), ?_⟩
  unfold State.romStart
  refine ⟨congrArg Firmware.stage (State.logEvent_unlogged ..), ?_, ?_⟩ <;> rw [State.logEvent_eq]

/-- ROM_VERIFY_DONE while the preferred slot, no trial, passes its steps. -/
theorem exec_romVerifyDone (hstage : s.fw.stage = 1) (hstarted : s.fw.started = false) (hfailed : s.fw.bootFailed = false) :
    exec .romVerifyDone s = .next s.romSelect :=
  congrArg Host.Outcome.next (if_pos ⟨hstage, hstarted, hfailed⟩)

theorem exec_readyPoint (hstage : s.fw.stage = 1) (hstarted : s.fw.started = true) :
    ∃ t : State, exec .readyPoint s = .next t ∧ t.fw.stage = 2 ∧ t.fw.startTick = s.tick.now ∧
      t.fw.bootSlot = s.fw.bootSlot ∧ t = { s with fw := t.fw, out := t.out } := by
  have hfw := { s with fw := { s.fw with stage := 2, startTick := s.tick.now } }.logEvent_unlogged 1 1 0x0301
    [s.fw.bootSlot, s.fw.bootCause, Config.logField 2]
  refine ⟨_, congrArg Host.Outcome.next (if_pos ⟨hstage, hstarted⟩), (congrArg Firmware.stage hfw :),
    (congrArg Firmware.startTick hfw :), (congrArg Firmware.bootSlot hfw :), ?_⟩
  rw [State.logEvent_eq]

theorem exec_hbmTrainDone_none (hstage : s.fw.stage = 2) (htrained : s.hbm.trained = false) (hfailed : s.hbm.failedStacks = []) :
    ∃ t : State, exec (.hbmTrainDone none) s = .next t ∧ t.hbm = { s.hbm with trained := true } ∧
      t = { s with hbm := t.hbm, fw := t.fw, out := t.out } := by
  refine ⟨{ s with hbm := { s.hbm with trained := true } }.logEvent 1 1 0x0303 [0xFF], ?_, ?_, ?_⟩
  · refine (congrArg Host.Outcome.next (if_neg ?_)).trans (congrArg Host.Outcome.next (if_pos ?_))
    · simp [hstage, htrained]
    · rw [hfailed]
      rfl
  all_goals rw [State.logEvent_eq]

theorem exec_hbmTrainDone_some (k : Fin 8) (hstage : s.fw.stage = 2) (htrained : s.hbm.trained = false) :
    ∃ t : State, exec (.hbmTrainDone (some k)) s = .next t ∧
      t.hbm = { s.hbm with failedStacks := k.val :: s.hbm.failedStacks } ∧
      t = { s with hbm := t.hbm, fw := t.fw, out := t.out } := by
  refine ⟨{ s with hbm := { s.hbm with failedStacks := k.val :: s.hbm.failedStacks } }.logEvent 3 1 0x0304 [k.val, 3],
    congrArg Host.Outcome.next (if_neg ?_), ?_, ?_⟩
  · simp [hstage, htrained]
  all_goals rw [State.logEvent_eq]

theorem exec_powerOnScrubDone (htrained : s.hbm.trained = true) (hscrubbed : s.hbm.scrubbed = false) :
    ∃ t : State, exec .powerOnScrubDone s = .next t ∧ t.scrubHbm = [] ∧ t.hbm = { s.hbm with scrubbed := true } ∧
      (∀ a, inRanges s.scrubHbm (a / 2097152) = true → t.hbmMem.read a = 0) ∧
      (∀ a, inRanges s.scrubHbm (a / 2097152) = false → t.hbmMem.read a = s.hbmMem.read a) ∧
      t.sramMem = s.sramMem ∧ t.scrubSram = s.scrubSram ∧ t.ctxs = s.ctxs ∧ t.cores = s.cores := by
  obtain ⟨m, hm, hread⟩ := State.foldl_zeroHbm s.scrubHbm s
  refine ⟨{ s with hbmMem := m, scrubHbm := [], hbm := { s.hbm with scrubbed := true } }.logEvent 1 1 0x0305 [], ?_, ?_⟩
  · refine (congrArg Host.Outcome.next (if_pos ⟨htrained, hscrubbed⟩)).trans ?_
    dsimp only
    rw [hm]
  · rw [State.logEvent_eq]
    refine ⟨rfl, rfl, fun a ha => ?_, fun a ha => ?_, rfl, rfl, rfl, rfl⟩
    · exact (hread a).trans (if_pos ha)
    · exact (hread a).trans (if_neg (by simp [ha]))

end

/-- Settles O51: power-on, the ROM's choice of a slot and the training of HBM, each by its lemma; what the log and a write of
the boot control block leave alone carries the slots' contents through a fallback. -/
theorem powerOnAndHbm : Obligations.PowerOnAndHbm := by
  unfold Obligations.PowerOnAndHbm
  refine ⟨fun s => ⟨exec_porReset_fields s, fun a oct h => exec_porRise_of_low a oct h, fun a oct h => congrArg Host.Outcome.next (if_pos h),
    fun hpor hlock => congrArg Host.Outcome.next (if_pos ⟨hpor, hlock⟩), fun h => ?_, ?_, fun h => ?_,
    fun hstage hstarted htime => congrArg Host.Outcome.next (if_pos ⟨hstage, hstarted, htime⟩), fun h => ?_, exec_readyPoint, fun h => ?_⟩,
    fun s => ⟨exec_hbmTrainDone_none, exec_hbmTrainDone_some, fun f h => congrArg Host.Outcome.next (if_pos h), fun h => ?_,
      exec_powerOnScrubDone, fun h => ?_⟩⟩
  · refine congrArg Host.Outcome.next (if_neg ?_)
    rintro ⟨hpor, hlock⟩
    simp [hpor, hlock] at h
  · intro hstage hstarted hfailed pref
    have hexec := exec_romVerifyDone hstage hstarted hfailed
    refine ⟨fun htrial hw hstep => ?_, fun htrial hw hstep hw' => ⟨fun hpass => ?_, fun hfail => ?_⟩⟩
    · rw [hexec, State.romSelect_of_passes htrial hw hstep]
      obtain ⟨hctl, hframe⟩ := s.startImage_fields pref 0
      exact ⟨_, rfl, rfl, rfl, rfl, rfl, rfl, rfl, hctl, hframe⟩
    all_goals
      have hwatch : (1 - pref) ∉ (s.logSlot pref).fw.watchdogFailed := by rwa [State.watchdogFailed_logSlot]
      have hsame := s.slotStep_logSlot pref (1 - pref)
      rw [hexec, State.romSelect_of_fails htrial hw hstep]
    · rw [State.fallBack_of_passes 2 hwatch (hsame.trans hpass)]
      refine ⟨_, rfl, rfl, rfl, rfl, ?_⟩
      have hctl : ((s.logSlot pref).writeBoot (1 - pref) 0 0).ctlMem = (s.logSlot pref).ctlMem := by
        unfold State.writeBoot
        rfl
      rw [(State.startImage_fields _ _ _).1, State.imageBody_writeBoot, State.imageBody_logSlot, hctl, State.ctlMem_logSlot]
    · rw [State.fallBack_of_fails 2 hwatch (fun h => hfail (hsame.symm.trans h))]
      refine ⟨_, rfl, ?_, rfl, ?_⟩
      · exact ((State.started_logSlot _ _).trans (s.started_logSlot pref)).trans hstarted
      · exact ((s.logSlot pref).flash_logSlot (1 - pref)).trans (s.flash_logSlot pref)
  · refine congrArg Host.Outcome.next (if_neg ?_)
    rintro ⟨hstage, hstarted, hfailed⟩
    simp [hstage, hstarted, hfailed] at h
  · refine congrArg Host.Outcome.next (if_neg ?_)
    rintro ⟨hstage, hstarted, htime⟩
    simp only [hstage, hstarted, ne_eq, not_true_eq_false, Bool.true_eq_false, false_or] at h
    omega
  · refine congrArg Host.Outcome.next (if_neg ?_)
    rintro ⟨hstage, hstarted⟩
    simp [hstage, hstarted] at h
  · refine congrArg Host.Outcome.next (ite_eq_left_iff.2 fun _ => if_neg ?_)
    simpa using h
  · refine congrArg Host.Outcome.next (if_neg ?_)
    rintro ⟨htrained, hscrubbed⟩
    simp [htrained, hscrubbed] at h

end Sys2Proof.Machine
end

section
namespace Sys2Proof.Machine

/-! ## Bytes written and read back -/

@[simp] theorem slice_length (b : Bytes) (off n : Nat) : (slice b off n).length = n := by
  simp only [slice, List.length_append, List.length_replicate, List.length_take, List.length_drop]
  omega

theorem slice_zero_length (b : Bytes) : slice b 0 b.length = b := by
  simp [slice]

@[simp] theorem Memory.readBytes_length (m : Memory) (a n : Nat) : (m.readBytes a n).length = n := by
  induction n generalizing a with
  | zero => rfl
  | succ n ih => rw [Memory.readBytes, List.length_cons, ih]

theorem Memory.readBytes_writeBytes (m : Memory) (a : Nat) (b : Bytes) (h : m.wf = true) :
    (m.writeBytes a b).readBytes a b.length = b := by
  induction b generalizing m a with
  | nil => rfl
  | cons x t ih =>
    have hfirst : ((m.write a x).writeBytes (a + 1) t).read a = x := by
      rw [Memory.read_writeBytes_outside _ _ (.inl (Nat.lt_succ_self a)), Memory.read_write m none a a x h, if_pos rfl]
    rw [List.length_cons, Memory.readBytes, Memory.writeBytes, hfirst, ih _ _ (Memory.write_wf m a x h)]

theorem overlay_length (base : Bytes) (a w : Nat) (b : Bytes) : (overlay base a w b).length = base.length := by
  unfold overlay
  dsimp only
  split
  · simp only [List.length_append, List.length_take, List.length_drop, slice_length]
    omega
  · rfl

/-- Bytes laid over a range of their own address and length are that range's. -/
theorem overlay_self (base : Bytes) (a : Nat) (b : Bytes) (h : base.length = b.length) : overlay base a a b = b := by
  unfold overlay
  dsimp only
  split
  · rw [Nat.max_self, Nat.sub_self, List.take_zero, h, Nat.min_self, Nat.add_sub_cancel_left, slice_zero_length,
      ← h, List.drop_length, List.append_nil, List.nil_append]
  · rw [List.eq_nil_of_length_eq_zero (l := b) (by omega), List.eq_nil_of_length_eq_zero (l := base) (by omega)]

/-! ## A hub engine's writes -/

theorem State.hubMove_eq (s : State) (c : Nat) (uid : Option Nat) (write : Bool) (lines : List Nat) (effects : List Effect) :
    s.hubMove c uid write lines effects = { s with hbm := (s.hubMove c uid write lines effects).hbm } := by
  unfold State.hubMove
  split
  · rfl
  · split <;> rfl

theorem State.putHbm_of_outside {s : State} {c off : Nat} {b : Bytes} (uid : Option Nat)
    (h : s.shareSize c 1 < off + b.length ∨ s.ownsShares c = false) : s.putHbm c off b uid = s := by
  unfold State.putHbm State.hubPut State.inShare
  rcases h with hsize | howns
  · rw [if_neg (by simpa using hsize)]
  · simp [howns]

theorem State.putHbm_of_inside {s : State} {c off : Nat} {b : Bytes} (uid : Option Nat)
    (hsize : off + b.length ≤ s.shareSize c 1) (howns : s.ownsShares c = true) :
    s.putHbm c off b uid = s.hubMove c uid true (linesOf (s.shareBase c 1 + off) b.length)
      [.mem .hbm (s.shareBase c 1 + off) b] := by
  simp [State.putHbm, State.hubPut, State.inShare, State.absAddr, hsize, howns]

/-- A hub engine's write changes the controller's queue alone. -/
theorem State.putHbm_eq (s : State) (c off : Nat) (b : Bytes) (uid : Option Nat) :
    s.putHbm c off b uid = { s with hbm := (s.putHbm c off b uid).hbm } := by
  by_cases hsize : off + b.length ≤ s.shareSize c 1
  · by_cases howns : s.ownsShares c = true
    · rw [State.putHbm_of_inside uid hsize howns]
      exact State.hubMove_eq ..
    · rw [State.putHbm_of_outside uid (.inr (by simpa using howns))]
  · rw [State.putHbm_of_outside uid (.inl (by omega))]

theorem linesOf_eq_nil {a n : Nat} : linesOf a n = [] ↔ n = 0 := by
  unfold linesOf
  split
  · next h => simp [h]
  · next h => simp [h]

/-- Every effect in the queue after a hub engine's move was there before, for the same context, or is one of the move's. -/
theorem State.mem_hubMove_effects {s : State} {c : CtxId} {uid : Option Nat} {write : Bool} {lines : List Nat}
    {effects : List Effect} {x : Xfer} {e : Effect} (hx : x ∈ (s.hubMove c.val uid write lines effects).hbm.xfers)
    (he : e ∈ x.effects) : (∃ y ∈ s.hbm.xfers, y.ctx = x.ctx ∧ e ∈ y.effects) ∨ (x.ctx = c ∧ e ∈ effects) := by
  unfold State.hubMove at hx
  split at hx
  · exact .inl ⟨x, hx, rfl, he⟩
  · split at hx
    · obtain ⟨y, hy, rfl⟩ := List.mem_map.1 hx
      split at he
      · next hopen =>
        rw [if_pos hopen]
        rcases List.mem_append.1 he with hold | hnew
        · exact .inl ⟨y, hy, rfl, hold⟩
        · simp only [State.hubOpen, Bool.and_eq_true, beq_iff_eq] at hopen
          obtain ⟨⟨⟨⟨_, hctx⟩, _⟩, _⟩, _⟩ := hopen
          exact .inr ⟨Fin.ext hctx, hnew⟩
      · next hclosed =>
        rw [if_neg hclosed]
        exact .inl ⟨y, hy, rfl, he⟩
    · rcases List.mem_append.1 hx with hold | hnew
      · exact .inl ⟨x, hold, rfl, he⟩
      · rw [List.mem_singleton] at hnew
        subst hnew
        exact .inr ⟨Fin.ext (Nat.mod_eq_of_lt c.isLt), he⟩

/-- A context's transfer laid over what a read found before it. -/
def overlayXfer (a : Nat) (b : Bytes) (x : Xfer) : Bytes :=
  x.effects.foldl (fun b e => match e with
    | .mem .hbm w d => overlay b a w d
    | _ => b) b

theorem overlayXfer_length (a : Nat) (b : Bytes) (x : Xfer) : (overlayXfer a b x).length = b.length := by
  unfold overlayXfer
  generalize x.effects = l
  induction l generalizing b with
  | nil => rfl
  | cons e l ih =>
    rw [List.foldl_cons, ih]
    split
    · exact overlay_length ..
    · rfl

theorem foldl_overlayXfer_length (a : Nat) (l : List Xfer) (b : Bytes) : (l.foldl (overlayXfer a) b).length = b.length := by
  induction l generalizing b with
  | nil => rfl
  | cons x l ih => rw [List.foldl_cons, ih, overlayXfer_length]

theorem State.readOwn_hbm (s : State) (c a n : Nat) : s.readOwn c .hbm a n =
    (s.hbm.xfers.filter fun x => x.ctx.val == c).foldl (overlayXfer a) (s.hbmMem.readBytes a n) := rfl

theorem State.readOwn_hbm_length (s : State) (c a n : Nat) : (s.readOwn c .hbm a n).length = n := by
  rw [State.readOwn_hbm, foldl_overlayXfer_length, Memory.readBytes_length]

/-- A context's read of its HBM share finds the bytes that an engine of the hub has written there for it. -/
theorem State.hbmShare_putHbm {s : State} {c : CtxId} {off : Nat} {b : Bytes} {uid : Option Nat}
    (hsize : off + b.length ≤ s.shareSize c.val 1) (howns : s.ownsShares c.val = true)
    (hclosed : ∀ x ∈ s.hbm.xfers, s.hubOpen c.val uid true x = false) :
    (s.putHbm c.val off b uid).hbmShare c.val off b.length = b := by
  have hread : ∀ t : State, t.shareBase c.val 1 = s.shareBase c.val 1 → t.shareSize c.val 1 = s.shareSize c.val 1 →
      t.hbmShare c.val off b.length = t.readOwn c.val .hbm (s.shareBase c.val 1 + off) b.length := fun t hb hs => by
    simp [State.hbmShare, State.inShare, State.absAddr, hb, hs, hsize]
  rw [hread _ (by rw [State.putHbm_eq]; rfl) (by rw [State.putHbm_eq]; rfl), State.putHbm_of_inside uid hsize howns]
  unfold State.hubMove
  split
  · next hempty =>
    rw [List.isEmpty_iff, linesOf_eq_nil] at hempty
    rw [List.eq_nil_of_length_eq_zero hempty]
    exact List.eq_nil_of_length_eq_zero (State.readOwn_hbm_length ..)
  · have hnone : s.hbm.xfers.any (s.hubOpen c.val uid true) = false := by
      rw [List.any_eq_false]
      intro x hx
      simp [hclosed x hx]
    rw [if_neg (by simp [hnone]), State.readOwn_hbm, State.addXfer, List.filter_append, List.foldl_append]
    rw [List.filter_cons_of_pos (by simp), List.filter_nil]
    refine overlay_self _ _ _ ?_
    rw [foldl_overlayXfer_length, Memory.readBytes_length]

/-! ## A written line -/

/-- Bytes of an effect that lie in a line. -/
theorem Effect.lineBytes_eq_some {e : Effect} {l lo : Nat} {b : Bytes} (h : e.lineBytes l = some (lo, b)) :
    ∃ w d, e = .mem .hbm w d ∧ w ≤ lo ∧ lo + b.length ≤ w + d.length ∧ 64 * l ≤ lo ∧ lo + b.length ≤ 64 * l + 64 := by
  unfold Effect.lineBytes at h
  split at h
  · next w d =>
    dsimp only at h
    split at h
    · simp only [Option.some.injEq, Prod.mk.injEq] at h
      obtain ⟨rfl, rfl⟩ := h
      rw [slice_length]
      exact ⟨w, d, rfl, by omega, by omega, by omega, by omega⟩
    · exact absurd h (by simp)
  · exact absurd h (by simp)

/-- The bytes that one effect puts into a line. -/
def State.writeEffectLine (l : Nat) (s : State) (e : Effect) : State :=
  match e.lineBytes l with
  | some (a, b) => s.writeMem .hbm a b
  | none => s

theorem State.writeLine_of_owns {s : State} {x : Xfer} (l : Nat) (h : s.ownsShares x.ctx.val = true) :
    s.writeLine x l = x.effects.foldl (State.writeEffectLine l) s :=
  if_pos h

theorem State.writeEffectLine_read {l a : Nat} {s : State} {e : Effect}
    (h : (s.writeEffectLine l e).hbmMem.read a ≠ s.hbmMem.read a) :
    a / 64 = l ∧ ∃ w d, e = .mem .hbm w d ∧ w ≤ a ∧ a < w + d.length := by
  unfold State.writeEffectLine at h
  split at h
  · next lo b hbytes =>
    obtain ⟨w, d, rfl, hw, hd, hl, hl'⟩ := Effect.lineBytes_eq_some hbytes
    have hin : ¬(a < lo ∨ lo + b.length ≤ a) := fun hout => h (Memory.read_writeBytes_outside _ _ hout)
    exact ⟨by omega, w, d, rfl, by omega, by omega⟩
  · exact absurd rfl h

theorem State.foldl_writeEffectLine_read {l a : Nat} {s : State} (es : List Effect)
    (h : (es.foldl (State.writeEffectLine l) s).hbmMem.read a ≠ s.hbmMem.read a) :
    a / 64 = l ∧ ∃ w d, .mem .hbm w d ∈ es ∧ w ≤ a ∧ a < w + d.length := by
  induction es generalizing s with
  | nil => exact absurd rfl h
  | cons e es ih =>
    by_cases hfirst : (s.writeEffectLine l e).hbmMem.read a = s.hbmMem.read a
    · obtain ⟨hl, w, d, hmem, hw⟩ := ih (s := s.writeEffectLine l e) (by rw [hfirst]; exact h)
      exact ⟨hl, w, d, List.mem_cons_of_mem _ hmem, hw⟩
    · obtain ⟨hl, w, d, rfl, hw⟩ := State.writeEffectLine_read hfirst
      exact ⟨hl, w, d, List.mem_cons_self, hw⟩

/-! ## A write into an SRAM share -/

theorem State.putSram_of_outside {s : State} {c off : Nat} (k : Nat) {b : Bytes}
    (h : s.shareSize c 0 < off + b.length ∨ s.ownsShares c = false) : s.putSram c k off b = s := by
  unfold State.putSram State.inShare
  rcases h with hsize | howns
  · rw [decide_eq_false (Nat.not_le.2 hsize), Bool.false_and, if_neg Bool.false_ne_true]
  · simp [howns]

theorem State.putSram_of_inside {s : State} {c off : Nat} (k : Nat) {b : Bytes}
    (hsize : off + b.length ≤ s.shareSize c 0) (howns : s.ownsShares c = true) :
    s.putSram c k off b = { s with sramMem := s.sramMem.writeBytes (s.shareBase c 0 + off + k * Config.sramStride) b } := by
  simp [State.putSram, State.inShare, State.absAddr, State.writeMem, hsize, howns]

theorem State.putSram_hbmMem (s : State) (c k off : Nat) (b : Bytes) : (s.putSram c k off b).hbmMem = s.hbmMem := by
  unfold State.putSram
  split <;> rfl

theorem State.sramShare_putSram {s : State} {c off : Nat} (k : Nat) {b : Bytes} (hok : s.memOk = true)
    (hsize : off + b.length ≤ s.shareSize c 0) (howns : s.ownsShares c = true) :
    (s.putSram c k off b).sramShare c k off b.length = b := by
  have hwf : s.sramMem.wf = true := by
    simp only [State.memOk, Bool.and_eq_true] at hok
    exact hok.1.1.1.1.1.2
  rw [State.putSram_of_inside k hsize howns]
  refine (if_pos (decide_eq_true hsize)).trans ?_
  exact Memory.readBytes_writeBytes _ _ _ hwf

/-- Settles O56: a write of a hub engine is one effect of a transfer, a written line changes what an effect of its transfer
names in it, and a write into an SRAM share stays between the share's bounds in its core. -/
theorem sharesAreIsolated : Obligations.SharesAreIsolated := by
  unfold Obligations.SharesAreIsolated
  intro s c k off b uid hub core base
  refine ⟨?_, fun x hx a d he => ?_, fun x l a hread => ?_, fun a hread => ?_, State.putSram_hbmMem .., State.hbmShare_putHbm,
    State.sramShare_putSram k, State.putHbm_of_outside uid, State.putSram_of_outside k⟩
  · simp only [hub]
    rw [State.putHbm_eq]
    exact ⟨rfl, rfl, rfl, rfl⟩
  · by_cases hin : off + b.length ≤ s.shareSize c.val 1 ∧ s.ownsShares c.val = true
    · obtain ⟨hsize, howns⟩ := hin
      simp only [hub, State.putHbm_of_inside uid hsize howns] at hx
      refine (State.mem_hubMove_effects hx he).imp_right fun ⟨hctx, hmem⟩ => ?_
      simp only [List.mem_singleton, Effect.mem.injEq, true_and] at hmem
      obtain ⟨rfl, rfl⟩ := hmem
      exact ⟨hctx, rfl, rfl, by omega⟩
    · have hout : s.shareSize c.val 1 < off + b.length ∨ s.ownsShares c.val = false := by
        rcases Classical.not_and_iff_not_or_not.1 hin with hsize | howns
        · exact .inl (by omega)
        · exact .inr (by simpa using howns)
      simp only [hub, State.putHbm_of_outside uid hout] at hx
      exact .inl ⟨x, hx, rfl, he⟩
  · by_cases howns : s.ownsShares x.ctx.val = true
    · rw [State.writeLine_of_owns l howns] at hread
      exact ⟨howns, State.foldl_writeEffectLine_read x.effects hread⟩
    · exact absurd (congrArg (fun t : State => t.hbmMem.read a) (if_neg howns)) hread
  · by_cases hin : off + b.length ≤ s.shareSize c.val 0 ∧ s.ownsShares c.val = true
    · obtain ⟨hsize, howns⟩ := hin
      simp only [core, State.putSram_of_inside k hsize howns] at hread
      have hnot : ¬(a < s.shareBase c.val 0 + off + k * Config.sramStride ∨
          s.shareBase c.val 0 + off + k * Config.sramStride + b.length ≤ a) := fun hout =>
        hread (Memory.read_writeBytes_outside _ _ hout)
      omega
    · have hout : s.shareSize c.val 0 < off + b.length ∨ s.ownsShares c.val = false := by
        rcases Classical.not_and_iff_not_or_not.1 hin with hsize | howns
        · exact .inl (by omega)
        · exact .inr (by simpa using howns)
      simp only [core, State.putSram_of_outside k hout] at hread
      exact absurd rfl hread

end Sys2Proof.Machine
end

section
namespace Sys2Proof.Machine

theorem State.ctx_congr {s t : State} (h : s.ctxs = t.ctxs) (d : Nat) : s.ctx d = t.ctx d := by
  unfold State.ctx
  rw [h]

/-! ## What an interrupt, a write to the host and a ring's change leave -/

section
variable (s : State) (c d f v r : Nat)

theorem State.raise_eq : s.raise f v = { s with ctxs := (s.raise f v).ctxs, out := (s.raise f v).out } := by
  unfold State.raise
  split
  · rfl
  · dsimp only
    split <;> rfl

theorem State.raise_ctx_ne {d : Nat} (hd : d ≠ f) : (s.raise f v).ctx d = s.ctx d := by
  unfold State.raise
  split
  · rfl
  · dsimp only
    split
    · exact s.updCtx_ctx_ne f d _ hd
    · rw [State.emit_ctx]
      exact s.updCtx_ctx_ne f d _ hd

/-- An interrupt changes the interrupt status of its function alone. -/
theorem State.raise_ctx : ∃ i, (s.raise f v).ctx d = { s.ctx d with host := { (s.ctx d).host with intStatus := i } } := by
  by_cases hd : d = f
  · subst hd
    unfold State.raise
    split
    · exact ⟨_, rfl⟩
    · dsimp only
      split
      · exact ⟨_, s.updCtx_ctx d _⟩
      · rw [State.emit_ctx]
        exact ⟨_, s.updCtx_ctx d _⟩
  · exact ⟨_, State.raise_ctx_ne s f v hd⟩

theorem State.raiseStateChange_eq : s.raiseStateChange c =
    { s with ctxs := (s.raiseStateChange c).ctxs, out := (s.raiseStateChange c).out } := by
  unfold State.raiseStateChange
  dsimp only
  split
  · exact s.raise_eq c 2
  · rw [State.raise_eq, s.raise_eq c 2]

theorem State.raiseStateChange_ctx :
    ∃ i, (s.raiseStateChange c).ctx d = { s.ctx d with host := { (s.ctx d).host with intStatus := i } } := by
  unfold State.raiseStateChange
  dsimp only
  split
  · exact s.raise_ctx d c 2
  · obtain ⟨i, hi⟩ := s.raise_ctx d c 2
    obtain ⟨j, hj⟩ := (s.raise c 2).raise_ctx d 0 9
    exact ⟨j, by rw [hj, hi]⟩

theorem State.raiseStateChange_ctx_ne {d : Nat} (hd : d ≠ c) (h0 : d ≠ 0) : (s.raiseStateChange c).ctx d = s.ctx d := by
  unfold State.raiseStateChange
  dsimp only
  split
  · exact s.raise_ctx_ne c 2 hd
  · rw [State.raise_ctx_ne _ _ _ h0, State.raise_ctx_ne _ _ _ hd]

theorem State.hostWrite_eq (b : Bytes) : s.hostWrite v b =
    { s with hostMem := (s.hostWrite v b).hostMem, out := (s.hostWrite v b).out } := by
  unfold State.hostWrite
  split <;> rfl

theorem State.updRing_eq (g : Ring → Ring) : s.updRing c r g =
    { s.updHost c fun h => { h with rings := h.rings.put r (g (s.ring c r)) } with out := (s.updRing c r g).out } := by
  unfold State.updRing
  dsimp only
  rw [State.raiseQueue_eq]

theorem State.updRing_ctxs (g : Ring → Ring) : (s.updRing c r g).ctxs =
    (s.updHost c fun h => { h with rings := h.rings.put r (g (s.ring c r)) }).ctxs := by
  rw [State.updRing_eq]

theorem State.updRing_ctx_ne (g : Ring → Ring) {d : Nat} (hd : d ≠ c) : (s.updRing c r g).ctx d = s.ctx d :=
  (State.ctx_congr (s.updRing_ctxs c r g) d).trans (s.updCtx_ctx_ne c d _ hd)

theorem State.updRing_ctx (g : Ring → Ring) : (s.updRing c r g).ctx c =
    { s.ctx c with host := { (s.ctx c).host with rings := (s.ctx c).host.rings.put r (g (s.ring c r)) } } :=
  (State.ctx_congr (s.updRing_ctxs c r g) c).trans (s.updCtx_ctx c _)

/-- A completion record goes to the host, or is kept back. -/
def State.deliverRecord (s : State) (c r : Nat) (b : Bytes) (v : Nat) : State :=
  if s.silent c then
    { s with pair := { s.pair with
      heldRecords := s.pair.heldRecords ++ [(Fin.ofNat 64 c, v, (s.ring c r).cqSlot, b, s.tick.now)] } }
  else s.hostWrite (s.ring c r).cqSlot b

theorem State.deliverRecord_eq (b : Bytes) : s.deliverRecord c r b v = { s with
    hostMem := (s.deliverRecord c r b v).hostMem, pair := (s.deliverRecord c r b v).pair
    out := (s.deliverRecord c r b v).out } := by
  unfold State.deliverRecord
  split
  · rfl
  · rw [State.hostWrite_eq]

theorem State.writeRecord_of_deliverRecord (b : Bytes) : s.writeRecord c r b v =
    ((s.deliverRecord c r b v).updRing c r fun x => { x with cqTail := x.cqTail + 1 }).raise c v := rfl

theorem State.deliverRecord_ctx (b : Bytes) (d : Nat) : (s.deliverRecord c r b v).ctx d = s.ctx d :=
  State.ctx_congr (by rw [State.deliverRecord_eq]) d

theorem State.writeRecord_eq (b : Bytes) : s.writeRecord c r b v = { s with
    ctxs := (s.writeRecord c r b v).ctxs, hostMem := (s.writeRecord c r b v).hostMem, pair := (s.writeRecord c r b v).pair
    out := (s.writeRecord c r b v).out } := by
  rw [State.writeRecord_of_deliverRecord, State.raise_eq, State.updRing_eq, State.deliverRecord_eq]
  rfl

theorem State.writeRecord_ctx_ne (b : Bytes) {d : Nat} (hd : d ≠ c) : (s.writeRecord c r b v).ctx d = s.ctx d := by
  rw [State.writeRecord_of_deliverRecord, State.raise_ctx_ne _ _ _ hd, State.updRing_ctx_ne _ _ _ _ hd,
    State.deliverRecord_ctx]

/-- A record written changes its context's ring and interrupt status. -/
theorem State.writeRecord_ctx (b : Bytes) : ∃ i rings, (s.writeRecord c r b v).ctx c =
    { s.ctx c with host := { (s.ctx c).host with rings := rings, intStatus := i } } := by
  obtain ⟨i, hi⟩ := State.raise_ctx ((s.deliverRecord c r b v).updRing c r fun x => { x with cqTail := x.cqTail + 1 }) c c v
  rw [State.updRing_ctx, State.deliverRecord_ctx] at hi
  exact ⟨i, _, hi⟩

end

/-! ## What a terminal status leaves -/

section
variable (s : State) (c : Nat) (x : Cmd)

theorem State.trueUp_eq : s.trueUp c x = { s with ctxs := (s.trueUp c x).ctxs, energy := (s.trueUp c x).energy } := by
  unfold State.trueUp
  dsimp only
  split <;> rfl

theorem State.trueUp_ctx : ∃ e, (s.trueUp c x).ctx c = { s.ctx c with energy := e } := by
  unfold State.trueUp
  dsimp only
  split
  · exact ⟨_, rfl⟩
  · exact ⟨_, State.updCtx_ctx ..⟩

theorem State.trueUp_ctx_ne {d : Nat} (hd : d ≠ c) : (s.trueUp c x).ctx d = s.ctx d := by
  unfold State.trueUp
  dsimp only
  split
  · rfl
  · exact State.updCtx_ctx_ne _ c d _ hd

/-- A digest goes into the step record of a serving step's command. -/
def State.stepDigest (s : State) (c : Nat) (x : Cmd) (d : BitVec 256) : State :=
  match x.step with
  | none => s
  | some n => s.putHbm c (n + 96) (toLe 32 d.toNat)

/-- A digest goes to the partner, or waits for it. -/
def State.passDigest (s : State) (c : CtxId) (x : Cmd) (d : BitVec 256) : State :=
  if s.pair.role = 2 then
    { s with pair := { s.pair with digests := s.pair.digests ++ [(c, x.cmdId, d, s.tick.now)] } }
  else s.emit (.digest c x.cmdId d s.tick.now)

theorem State.stepDigest_eq (d : BitVec 256) : s.stepDigest c x d = { s with hbm := (s.stepDigest c x d).hbm } := by
  unfold State.stepDigest
  split
  · rfl
  · exact State.putHbm_eq ..

theorem State.passDigest_eq (f : CtxId) (d : BitVec 256) :
    s.passDigest f x d = { s with pair := (s.passDigest f x d).pair, out := (s.passDigest f x d).out } := by
  unfold State.passDigest
  split <;> rfl

theorem State.sendDigest_of_mirrored {s : State} (status : Nat) (h : s.mirrored c = true) : s.sendDigest c x status =
    (s.stepDigest c x (x.digest + s.recordHash c x status)).passDigest (Fin.ofNat 64 c) x
      (x.digest + s.recordHash c x status) :=
  if_neg (by simp [h])

theorem State.sendDigest_eq (status : Nat) : s.sendDigest c x status = { s with
    hbm := (s.sendDigest c x status).hbm, pair := (s.sendDigest c x status).pair, out := (s.sendDigest c x status).out } := by
  by_cases h : s.mirrored c = true
  · rw [State.sendDigest_of_mirrored c x status h, State.passDigest_eq, State.stepDigest_eq]
  · rw [show s.sendDigest c x status = s from if_pos (by simpa using h)]

theorem State.sendDigest_ctx (status d : Nat) : (s.sendDigest c x status).ctx d = s.ctx d :=
  State.ctx_congr (by rw [State.sendDigest_eq]) d

theorem State.addSem_eq (n amount : Nat) : (s.addSem c n amount).1 = { s with ctxs := (s.addSem c n amount).1.ctxs } := by
  unfold State.addSem
  split
  · rfl
  · split
    · rfl
    · split <;> rfl

theorem State.addSem_ctx (n amount : Nat) : ∃ q, (s.addSem c n amount).1.ctx c = { s.ctx c with sems := q } := by
  unfold State.addSem
  split
  · exact ⟨_, rfl⟩
  · split
    · exact ⟨_, rfl⟩
    · split
      · exact ⟨_, rfl⟩
      · exact ⟨_, State.updCtx_ctx ..⟩

theorem State.addSem_ctx_ne (n amount : Nat) {d : Nat} (hd : d ≠ c) : (s.addSem c n amount).1.ctx d = s.ctx d := by
  unfold State.addSem
  split
  · rfl
  · split
    · rfl
    · split
      · rfl
      · exact State.updCtx_ctx_ne _ c d _ hd

/-- The state in which a command that reaches terminal status has left its context. -/
def State.leaveCmd (s : State) (c : Nat) (x : Cmd) : State :=
  s.updCtx c fun y =>
    { y with
      cmds := y.cmds.filter fun z => z.uid != x.uid
      life := { y.life with jobs := if x.type = 1 then y.life.jobs + 1 else y.life.jobs } }

/-- The command has left, its energy is settled and its digest is sent. -/
def State.settleCmd (s : State) (c : Nat) (x : Cmd) (status : Nat) : State :=
  ((s.leaveCmd c x).trueUp c x).sendDigest c x status

/-- The command has left, and its record is written. -/
def State.recordCmd (s : State) (c : Nat) (x : Cmd) (status : Nat) (written : Bool) : State :=
  let t := s.settleCmd c x status
  if written then t.writeRecord c x.ring.val (completionRecord x.cmdId status t.tick.now x.result) (4 + x.ring.val) else t

theorem State.terminal_of_live {s : State} {c : Nat} {x : Cmd} (htripped : s.safety.tripped = false)
    (hcmd : (s.cmd c x.uid).isNone = false) (status : Nat) (written : Bool) : s.terminal c x status written =
      if status = 6 then (s.recordCmd c x status written, false) else (s.recordCmd c x status written).addSem c x.sem.toNat 1 :=
  if_neg (by simp [htripped, hcmd])

theorem State.terminal_of_gone {s : State} {c : Nat} {x : Cmd} (h : s.safety.tripped = true ∨ (s.cmd c x.uid).isNone = true)
    (status : Nat) (written : Bool) : s.terminal c x status written = (s, false) :=
  if_pos (by simpa using h)

theorem State.settleCmd_eq (status : Nat) : s.settleCmd c x status = { s with
    ctxs := (s.settleCmd c x status).ctxs, energy := (s.settleCmd c x status).energy
    hbm := (s.settleCmd c x status).hbm, pair := (s.settleCmd c x status).pair
    out := (s.settleCmd c x status).out } := by
  obtain ⟨m, e, h⟩ : ∃ m e, (s.leaveCmd c x).trueUp c x = { s with ctxs := m, energy := e } := ⟨_, _, State.trueUp_eq ..⟩
  unfold State.settleCmd
  rw [h, State.sendDigest_eq]

theorem State.recordCmd_eq (status : Nat) (written : Bool) : s.recordCmd c x status written = { s with
    ctxs := (s.recordCmd c x status written).ctxs, energy := (s.recordCmd c x status written).energy
    hbm := (s.recordCmd c x status written).hbm, pair := (s.recordCmd c x status written).pair
    hostMem := (s.recordCmd c x status written).hostMem, out := (s.recordCmd c x status written).out } := by
  obtain ⟨m, e, h, p, o, hsettle⟩ : ∃ m e h p o, s.settleCmd c x status =
      { s with ctxs := m, energy := e, hbm := h, pair := p, out := o } := ⟨_, _, _, _, _, State.settleCmd_eq ..⟩
  unfold State.recordCmd
  dsimp only
  rw [hsettle]
  split
  · rw [State.writeRecord_eq]
  · rfl

theorem State.settleCmd_ctx_ne (status : Nat) {d : Nat} (hd : d ≠ c) : (s.settleCmd c x status).ctx d = s.ctx d := by
  unfold State.settleCmd
  rw [State.sendDigest_ctx, State.trueUp_ctx_ne _ _ _ hd]
  exact s.updCtx_ctx_ne c d _ hd

theorem State.settleCmd_ctx (status : Nat) : ∃ j e, (s.settleCmd c x status).ctx c =
    { s.ctx c with
      cmds := (s.ctx c).cmds.filter fun z => z.uid != x.uid, life := { (s.ctx c).life with jobs := j }, energy := e } := by
  obtain ⟨e, he⟩ := State.trueUp_ctx (s.leaveCmd c x) c x
  have hleave : (s.leaveCmd c x).ctx c = _ := s.updCtx_ctx c _
  rw [hleave] at he
  exact ⟨_, e, (State.sendDigest_ctx _ c x status c).trans he⟩

theorem State.recordCmd_ctx_ne (status : Nat) (written : Bool) {d : Nat} (hd : d ≠ c) :
    (s.recordCmd c x status written).ctx d = s.ctx d := by
  unfold State.recordCmd
  dsimp only
  split
  · rw [State.writeRecord_ctx_ne _ _ _ _ _ hd, State.settleCmd_ctx_ne _ _ _ _ hd]
  · exact State.settleCmd_ctx_ne _ _ _ _ hd

/-- The context after one of its commands left: its commands without it, its jobs, its energy, its rings and interrupts. -/
theorem State.recordCmd_ctx (status : Nat) (written : Bool) : ∃ j e i rings, (s.recordCmd c x status written).ctx c =
    { s.ctx c with
      cmds := (s.ctx c).cmds.filter fun z => z.uid != x.uid, life := { (s.ctx c).life with jobs := j }, energy := e
      host := { (s.ctx c).host with rings := rings, intStatus := i } } := by
  obtain ⟨j, e, hsettle⟩ := s.settleCmd_ctx c x status
  unfold State.recordCmd
  dsimp only
  split
  · obtain ⟨i, rings, hrec⟩ := State.writeRecord_ctx (s.settleCmd c x status) c (4 + x.ring.val) x.ring.val
      (completionRecord x.cmdId status (s.settleCmd c x status).tick.now x.result)
    exact ⟨j, e, i, rings, by rw [hrec, hsettle]⟩
  · exact ⟨j, e, _, _, hsettle⟩

/-- A terminal status, whether or not the command has had one: what it changes of the state. -/
theorem State.terminal_eq (status : Nat) (written : Bool) : (s.terminal c x status written).1 = { s with
    ctxs := (s.terminal c x status written).1.ctxs, energy := (s.terminal c x status written).1.energy
    hbm := (s.terminal c x status written).1.hbm, pair := (s.terminal c x status written).1.pair
    hostMem := (s.terminal c x status written).1.hostMem, out := (s.terminal c x status written).1.out } := by
  by_cases h : s.safety.tripped = true ∨ (s.cmd c x.uid).isNone = true
  · rw [State.terminal_of_gone h]
  · rw [not_or, Bool.not_eq_true, Bool.not_eq_true] at h
    rw [State.terminal_of_live h.1 h.2]
    obtain ⟨m, e, q, p, w, o, hrec⟩ : ∃ m e q p w o, s.recordCmd c x status written =
      { s with ctxs := m, energy := e, hbm := q, pair := p, hostMem := w, out := o } :=
      ⟨_, _, _, _, _, _, State.recordCmd_eq ..⟩
    rw [hrec]
    split
    · rfl
    · rw [State.addSem_eq]

theorem State.terminal_ctx_ne (status : Nat) (written : Bool) {d : Nat} (hd : d ≠ c) :
    (s.terminal c x status written).1.ctx d = s.ctx d := by
  by_cases h : s.safety.tripped = true ∨ (s.cmd c x.uid).isNone = true
  · rw [State.terminal_of_gone h]
  · rw [not_or, Bool.not_eq_true, Bool.not_eq_true] at h
    rw [State.terminal_of_live h.1 h.2]
    split
    · exact State.recordCmd_ctx_ne _ _ _ _ _ hd
    · rw [State.addSem_ctx_ne _ _ _ _ hd, State.recordCmd_ctx_ne _ _ _ _ _ hd]

/-- The context of a command that has reached terminal status, on a device that has not tripped. -/
theorem State.terminal_ctx {s : State} (htripped : s.safety.tripped = false) (c : Nat) (x : Cmd) (status : Nat)
    (written : Bool) : ∃ j e i rings q, (s.terminal c x status written).1.ctx c =
    { s.ctx c with
      cmds := (s.ctx c).cmds.filter fun z => z.uid != x.uid, life := { (s.ctx c).life with jobs := j }, energy := e
      host := { (s.ctx c).host with rings := rings, intStatus := i }, sems := q } := by
  by_cases h : (s.cmd c x.uid).isNone = true
  · rw [State.terminal_of_gone (.inr h)]
    have hall : (s.ctx c).cmds.filter (fun z => z.uid != x.uid) = (s.ctx c).cmds := by
      rw [State.cmd, Option.isNone_iff_eq_none, List.find?_eq_none] at h
      exact List.filter_eq_self.2 fun z hz => by simpa using h z hz
    exact ⟨_, _, _, _, _, by rw [hall]⟩
  · rw [Bool.not_eq_true] at h
    rw [State.terminal_of_live htripped h]
    obtain ⟨j, e, i, rings, hrec⟩ := s.recordCmd_ctx c x status written
    split
    · exact ⟨j, e, i, rings, _, hrec⟩
    · obtain ⟨q, hq⟩ := (s.recordCmd c x status written).addSem_ctx c x.sem.toNat 1
      exact ⟨j, e, i, rings, q, by rw [hq, hrec]⟩

end

end Sys2Proof.Machine
end

section
namespace Sys2Proof.Machine

/-! ## Group detections -/

theorem foldl_detect_eq (code : BitVec 8) (l : List (Nat × Group)) (s : State) :
    ∃ m o, l.foldl (fun s g => s.detect g.1 code) s = { s with groups := m, out := o } := by
  induction l generalizing s with
  | nil => exact ⟨_, _, rfl⟩
  | cons g l ih =>
    obtain ⟨m, o, h⟩ := ih (s.detect g.1 code)
    exact ⟨m, o, h⟩

/-- Detections change the groups alone. -/
theorem State.detectAll_eq (s : State) (code : BitVec 8) (p : CollStep → Bool) :
    s.detectAll code p = { s with groups := (s.detectAll code p).groups, out := (s.detectAll code p).out } := by
  obtain ⟨m, o, h⟩ := foldl_detect_eq code (s.groups.filter fun g => g.2.steps.any fun t => t.open_ && p t) s
  unfold State.detectAll
  rw [h]

theorem State.detectAll_ctx (s : State) (code : BitVec 8) (p : CollStep → Bool) (d : Nat) :
    (s.detectAll code p).ctx d = s.ctx d :=
  State.ctx_congr (by rw [State.detectAll_eq]) d

/-! ## The end of a list of commands -/

/-- Commands of context c end one after the other. -/
def State.endCmds (s : State) (c status : Nat) (l : List Cmd) : State :=
  l.foldl (fun s x => (s.terminal c x status).1) s

section
variable (c status : Nat)

theorem State.endCmds_eq (l : List Cmd) (s : State) : s.endCmds c status l = { s with
    ctxs := (s.endCmds c status l).ctxs, energy := (s.endCmds c status l).energy, hbm := (s.endCmds c status l).hbm
    pair := (s.endCmds c status l).pair, hostMem := (s.endCmds c status l).hostMem, out := (s.endCmds c status l).out } := by
  induction l generalizing s with
  | nil => rfl
  | cons x l ih =>
    obtain ⟨m, e, q, p, w, o, h⟩ : ∃ m e q p w o, (s.terminal c x status).1 =
      { s with ctxs := m, energy := e, hbm := q, pair := p, hostMem := w, out := o } :=
      ⟨_, _, _, _, _, _, State.terminal_eq ..⟩
    have hrest := ih (s.terminal c x status).1
    change (s.terminal c x status).1.endCmds c status l = { s with
      ctxs := ((s.terminal c x status).1.endCmds c status l).ctxs
      energy := ((s.terminal c x status).1.endCmds c status l).energy
      hbm := ((s.terminal c x status).1.endCmds c status l).hbm
      pair := ((s.terminal c x status).1.endCmds c status l).pair
      hostMem := ((s.terminal c x status).1.endCmds c status l).hostMem
      out := ((s.terminal c x status).1.endCmds c status l).out }
    rw [h] at hrest ⊢
    rw [hrest]

theorem State.endCmds_ctx_ne (l : List Cmd) (s : State) {d : Nat} (hd : d ≠ c) : (s.endCmds c status l).ctx d = s.ctx d := by
  induction l generalizing s with
  | nil => rfl
  | cons x l ih => exact (ih _).trans (State.terminal_ctx_ne _ _ _ _ _ hd)

/-- The context whose commands end keeps those of no uid among theirs. -/
theorem State.endCmds_ctx (l : List Cmd) (s : State) (htripped : s.safety.tripped = false) : ∃ j e i rings q,
    (s.endCmds c status l).ctx c = { s.ctx c with
      cmds := (s.ctx c).cmds.filter fun z => l.all fun x => z.uid != x.uid
      life := { (s.ctx c).life with jobs := j }, energy := e
      host := { (s.ctx c).host with rings := rings, intStatus := i }, sems := q } := by
  induction l generalizing s with
  | nil =>
    have hall : (s.ctx c).cmds.filter (fun z => ([] : List Cmd).all fun x => z.uid != x.uid) = (s.ctx c).cmds :=
      List.filter_eq_self.2 fun _ _ => rfl
    exact ⟨_, _, _, _, _, by rw [hall]; rfl⟩
  | cons x l ih =>
    obtain ⟨j, e, i, rings, q, hfirst⟩ := State.terminal_ctx htripped c x status true
    have hstill : (s.terminal c x status).1.safety.tripped = false := by rw [State.terminal_eq]; exact htripped
    obtain ⟨j', e', i', rings', q', hrest⟩ := ih _ hstill
    refine ⟨j', e', i', rings', q', ?_⟩
    change ((s.terminal c x status).1.endCmds c status l).ctx c = _
    rw [hrest, hfirst, List.filter_filter]
    simp only [List.all_cons, Bool.and_comm]

end

/-! ## Teardown -/

/-- The context whose teardown begins. -/
def State.beginTeardown (s : State) (c cause : Nat) : State :=
  s.updCtx c fun x =>
    { x with
      life := { x.life with
        state := .tearingDown, teardownTick := s.tick.now, cause := cause, stopped := false, scrubStarted := false
        abandoned := false, suspendOnCreate := false }
      host := { x.host with mbx := x.host.mbx.abandon }
      serving := { x.serving with seqs := [], reqHead := 0, reqTail := 0 }, rosters := [] }

/-- The status that a context's commands end with when its teardown begins. -/
def teardownStatus (cause : Nat) : Nat := if cause = 2 ∨ cause = 3 then 6 else 2

/-- The teardown has begun and the commands have ended. -/
def State.cutCmds (s : State) (c cause : Nat) : State :=
  (s.beginTeardown c cause).endCmds c (teardownStatus cause) ((s.beginTeardown c cause).ctx c).cmds

/-- The energy of the context is discarded too. -/
def State.cutEnergy (s : State) (c cause : Nat) : State :=
  (s.cutCmds c cause).updCtx c fun x => { x with energy := { x.energy with balance := 0, refill := 0 } }

section
variable {s : State} {c cause : Nat}

theorem State.teardown_of_gone (h : (s.ctx c).life.state = .free ∨ (s.ctx c).life.state = .tearingDown) :
    s.teardown c cause = s :=
  if_pos h

theorem State.teardown_of_there (hfree : (s.ctx c).life.state ≠ .free) (htearing : (s.ctx c).life.state ≠ .tearingDown) :
    s.teardown c cause = ((s.cutEnergy c cause).detectAll 4 fun t => t.ctx.val == c).raiseStateChange c :=
  if_neg (not_or.2 ⟨hfree, htearing⟩)

theorem State.cutEnergy_eq (s : State) (c cause : Nat) : s.cutEnergy c cause = { s with
    ctxs := (s.cutEnergy c cause).ctxs, energy := (s.cutEnergy c cause).energy, hbm := (s.cutEnergy c cause).hbm
    pair := (s.cutEnergy c cause).pair, hostMem := (s.cutEnergy c cause).hostMem, out := (s.cutEnergy c cause).out } := by
  obtain ⟨m, e, q, p, w, o, h⟩ : ∃ m e q p w o, s.cutCmds c cause =
    { s with ctxs := m, energy := e, hbm := q, pair := p, hostMem := w, out := o } := by
    unfold State.cutCmds
    rw [State.endCmds_eq]
    exact ⟨_, _, _, _, _, _, rfl⟩
  unfold State.cutEnergy
  rw [h]
  rfl

/-- What the teardown of a context changes of the state beside its contexts. -/
theorem State.teardown_eq (s : State) (c cause : Nat) : s.teardown c cause = { s with
    ctxs := (s.teardown c cause).ctxs, energy := (s.teardown c cause).energy, hbm := (s.teardown c cause).hbm
    pair := (s.teardown c cause).pair, hostMem := (s.teardown c cause).hostMem, groups := (s.teardown c cause).groups
    out := (s.teardown c cause).out } := by
  by_cases h : (s.ctx c).life.state = .free ∨ (s.ctx c).life.state = .tearingDown
  · rw [State.teardown_of_gone h]
  · obtain ⟨hfree, htearing⟩ := not_or.1 h
    obtain ⟨m, e, q, p, w, o, hcut⟩ : ∃ m e q p w o, s.cutEnergy c cause =
      { s with ctxs := m, energy := e, hbm := q, pair := p, hostMem := w, out := o } :=
      ⟨_, _, _, _, _, _, State.cutEnergy_eq ..⟩
    obtain ⟨gs, o', hdetect⟩ : ∃ gs o', (s.cutEnergy c cause).detectAll 4 (fun t => t.ctx.val == c) =
      { s.cutEnergy c cause with groups := gs, out := o' } := ⟨_, _, State.detectAll_eq ..⟩
    rw [State.teardown_of_there hfree htearing, hdetect, hcut, State.raiseStateChange_eq]

/-- Another context, but for its interrupts. -/
theorem State.teardown_ctx_ne (s : State) (c cause : Nat) {d : Nat} (hd : d ≠ c) :
    ∃ i, (s.teardown c cause).ctx d = { s.ctx d with host := { (s.ctx d).host with intStatus := i } } := by
  by_cases h : (s.ctx c).life.state = .free ∨ (s.ctx c).life.state = .tearingDown
  · rw [State.teardown_of_gone h]
    exact ⟨_, rfl⟩
  · obtain ⟨hfree, htearing⟩ := not_or.1 h
    rw [State.teardown_of_there hfree htearing]
    obtain ⟨i, hi⟩ := State.raiseStateChange_ctx ((s.cutEnergy c cause).detectAll 4 fun t => t.ctx.val == c) c d
    have hcut : (s.cutEnergy c cause).ctx d = s.ctx d :=
      ((State.updCtx_ctx_ne _ c d _ hd).trans (State.endCmds_ctx_ne _ _ _ _ hd)).trans (s.updCtx_ctx_ne c d _ hd)
    rw [State.detectAll_ctx, hcut] at hi
    exact ⟨i, hi⟩

/-- The context whose teardown has begun, on a device that has not tripped. -/
theorem State.teardown_ctx (hfree : (s.ctx c).life.state ≠ .free) (htearing : (s.ctx c).life.state ≠ .tearingDown)
    (htripped : s.safety.tripped = false) (cause : Nat) : ∃ j e i rings q, (s.teardown c cause).ctx c = { s.ctx c with
      life := { (s.ctx c).life with
        state := .tearingDown, teardownTick := s.tick.now, cause := cause, stopped := false, scrubStarted := false
        abandoned := false, suspendOnCreate := false, jobs := j }
      host := { (s.ctx c).host with mbx := (s.ctx c).host.mbx.abandon, rings := rings, intStatus := i }
      serving := { (s.ctx c).serving with seqs := [], reqHead := 0, reqTail := 0 }, rosters := []
      cmds := [], energy := { (e : CtxEnergy) with balance := 0, refill := 0 }, sems := q } := by
  rw [State.teardown_of_there hfree htearing]
  obtain ⟨i, hi⟩ := State.raiseStateChange_ctx ((s.cutEnergy c cause).detectAll 4 fun t => t.ctx.val == c) c c
  obtain ⟨j, e, i', rings, q, hend⟩ := State.endCmds_ctx c (teardownStatus cause) ((s.beginTeardown c cause).ctx c).cmds
    (s.beginTeardown c cause) htripped
  have hnone : ((s.beginTeardown c cause).ctx c).cmds.filter
      (fun z => ((s.beginTeardown c cause).ctx c).cmds.all fun x => z.uid != x.uid) = [] :=
    List.filter_eq_nil_iff.2 fun z hz hall => by simpa using List.all_eq_true.1 hall z hz
  have hbegin : (s.beginTeardown c cause).ctx c = _ := State.updCtx_ctx ..
  have hcmds : (s.cutCmds c cause).ctx c = _ := hend
  rw [hnone, hbegin] at hcmds
  have hcut : (s.cutEnergy c cause).ctx c = _ := State.updCtx_ctx ..
  rw [hcmds] at hcut
  rw [State.detectAll_ctx, hcut] at hi
  exact ⟨j, e, i, rings, q, hi⟩

end

/-- A bounded wait of the context on the core has lasted its timeout. -/
def State.waitExpired (s : State) (k : CoreId) (c : CtxId) : Bool :=
  [2 * c.val, 2 * c.val + 1].any fun key =>
    ((s.core k.val).stream key).status.bounded &&
      decide (s.waitTimeout c.val ≤ s.waitElapsed c.val ((s.core k.val).stream key))

theorem State.waitExpired_iff (s : State) (k : CoreId) (c : CtxId) : s.waitExpired k c = true ↔
    ∃ key ∈ [2 * c.val, 2 * c.val + 1], ((s.core k.val).stream key).status.bounded = true ∧
      s.waitTimeout c.val ≤ s.waitElapsed c.val ((s.core k.val).stream key) := by
  simp only [State.waitExpired, List.any_eq_true, Bool.and_eq_true, decide_eq_true_eq]

/-- Settles O27: each step of a teardown by what it leaves, put together. -/
theorem faultsTearDown : Obligations.FaultsTearDown := by
  unfold Obligations.FaultsTearDown
  intro c s
  refine ⟨fun cause h => State.teardown_of_gone h, fun cause hfree htearing htripped => ?_, fun k => ?_⟩
  · intro t
    obtain ⟨j, e, i, rings, q, hctx⟩ := State.teardown_ctx hfree htearing htripped cause
    obtain ⟨m, en, h, p, w, gs, o, hframe⟩ : ∃ m en h p w gs o, s.teardown c.val cause =
      { s with ctxs := m, energy := en, hbm := h, pair := p, hostMem := w, groups := gs, out := o } :=
      ⟨_, _, _, _, _, _, _, State.teardown_eq ..⟩
    have hmem : t.sramMem = s.sramMem ∧ t.hbmMem = s.hbmMem ∧ t.resMem = s.resMem ∧ t.stageMem = s.stageMem ∧
        t.cores = s.cores := by
      simp only [t, hframe, and_self]
    obtain ⟨hsram, hhbm, hres, hstage, hcores⟩ := hmem
    simp only [t] at *
    rw [hctx]
    refine ⟨rfl, rfl, rfl, rfl, rfl, rfl, rfl, rfl, hsram, hhbm, hres, hstage, hcores, fun d hd => ?_⟩
    obtain ⟨i, hi⟩ := s.teardown_ctx_ne c.val cause (Fin.val_ne_iff.2 hd)
    rw [hi]
    exact ⟨rfl, rfl, rfl⟩
  · intro expired
    have hiff := s.waitExpired_iff k c
    refine ⟨fun hacc hexp => congrArg Host.Outcome.next (if_pos ⟨hiff.2 hexp, hacc⟩),
      fun h => congrArg Host.Outcome.next (if_neg fun ⟨hexp, hacc⟩ => ?_)⟩
    rcases h with hnot | hnot
    · exact Bool.false_ne_true (hnot.symm.trans hacc)
    · exact hnot (hiff.1 hexp)

end Sys2Proof.Machine
end

section
namespace Sys2Proof.Machine

/-! ## Tables whose every value changes, or that lose keys -/

theorem SMap.get_mapKeyVal {α : Type} (g : Nat → α → α) (d : α) (m : SMap α) (i : Nat) (hd : g i d = d) :
    SMap.get d (m.map fun t => (t.1, g t.1 t.2)) i = g i (m.get d i) := by
  induction m with
  | nil => exact hd.symm
  | cons p t ih =>
    obtain ⟨k, v⟩ := p
    simp only [List.map_cons, SMap.get]
    split
    · next h => rw [h]
    · exact ih

theorem SMap.get_filter_keys {α : Type} (p : Nat → Bool) (d : α) (m : SMap α) (i : Nat) :
    SMap.get d (m.filter fun t => p t.1) i = if p i then m.get d i else d := by
  induction m with
  | nil => simp [SMap.get]
  | cons q t ih =>
    obtain ⟨k, v⟩ := q
    rw [List.filter_cons]
    by_cases hk : k = i
    · subst hk
      split
      · simp_all [SMap.get]
      · simp_all
    · split
      · simp only [SMap.get, if_neg hk, ih]
      · simp only [SMap.get, if_neg hk, ih]

/-! ## Teardown: what stops, and what is abandoned -/

section
variable {c : CtxId} {s : State}

/-- What TEARDOWN_STOP does to a transfer of the context. -/
def Xfer.cutLines (x : Xfer) : Xfer :=
  { x with lines := [], waiting := 0, effects := if x.lines.isEmpty then x.effects else x.effects.filter Effect.inHbm }

/-- The transfers that are left when the engines have stopped for a context. -/
def stoppedXfers (c : Nat) (l : List Xfer) : List Xfer :=
  (mapIf (fun x : Xfer => x.ctx.val == c) Xfer.cutLines l).filter fun x =>
    x.ctx.val != c || !x.flying.isEmpty || !x.landed.isEmpty

/-- The state in which every engine has stopped for a context. -/
def State.stopEngines (s : State) (c : Nat) : State :=
  { s with
    cores := s.cores.map fun (k, x) => (k, x.evict k c s.hbm.xfers), hbm := { s.hbm with xfers := stoppedXfers c s.hbm.xfers } }

/-- The context with nothing at work in the Quill and in serving. -/
def Ctx.stopWork (x : Ctx) : Ctx :=
  { x with
    life := { x.life with stopped := true }
    quill := { x.quill with routes := [], todo := [], moves := [], bal := [], conductor := [] }, serving := { x.serving with build := none } }

theorem exec_teardownStop (hstate : (s.ctx c.val).life.state = .tearingDown) (hstopped : (s.ctx c.val).life.stopped = false)
    (htime : (s.ctx c.val).life.teardownTick.toNat + 1024 ≤ s.now) :
    exec (.teardownStop c) s = .next ((s.stopEngines c.val).updCtx c.val Ctx.stopWork) :=
  congrArg Host.Outcome.next (if_pos ⟨hstate, hstopped, htime⟩)

theorem State.stopEngines_core (s : State) (c k : Nat) :
    (s.stopEngines c).core k = (s.core k).evict k c s.hbm.xfers := by
  unfold State.core State.stopEngines
  exact SMap.get_mapKeyVal (fun k x => Core.evict x k c s.hbm.xfers) {} s.cores k rfl

theorem Core.evict_stream (x : Core) (k c : Nat) (l : List Xfer) (key : Nat) :
    (x.evict k c l).stream key = if keyCtx key = c then {} else x.stream key := by
  have h : (x.evict k c l).stream key = if keyCtx key != c then x.stream key else {} :=
    SMap.get_filter_keys (fun t => keyCtx t != c) ({} : Stream) x.streams key
  rw [h]
  by_cases hkey : keyCtx key = c
  · simp [hkey]
  · simp [hkey]

theorem Core.evict_cur (x : Core) (k c : Nat) (l : List Xfer) {key : Nat} (hkey : keyCtx key = c) :
    (x.evict k c l).cur ≠ some key := by
  unfold Core.evict
  dsimp only
  split
  · split
    · simp
    · next hne =>
      rintro ⟨⟩
      exact hne hkey
  · simp

theorem mem_stoppedXfers_lines {l : List Xfer} {x : Xfer} (hx : x ∈ stoppedXfers c.val l) (hc : x.ctx = c) : x.lines = [] := by
  obtain ⟨y, -, rfl⟩ := List.mem_map.1 (List.mem_filter.1 hx).1
  by_cases hy : y.ctx.val = c.val
  · simp [hy, Xfer.cutLines]
  · simp only [beq_eq_false_iff_ne.2 hy, Bool.false_eq_true, if_false] at hc
    exact absurd (congrArg Fin.val hc) hy

theorem mem_stoppedXfers_of_ne {l : List Xfer} {x : Xfer} (hx : x ∈ l) (hc : x.ctx ≠ c) : x ∈ stoppedXfers c.val l := by
  have hne : x.ctx.val ≠ c.val := Fin.val_ne_iff.2 hc
  refine List.mem_filter.2 ⟨List.mem_map.2 ⟨x, hx, ?_⟩, ?_⟩
  · simp [hne]
  · simp [hne]

/-- The state without the transactions of a context. -/
def State.dropTransactions (s : State) (c : Nat) : State :=
  { s with
    cores := s.cores.map fun (k, x) => (k, x.abandon c), hbm := { s.hbm with xfers := s.hbm.xfers.filter fun x => x.ctx.val != c } }

theorem exec_transactionAbandon (hstate : (s.ctx c.val).life.state = .tearingDown)
    (habandoned : (s.ctx c.val).life.abandoned = false)
    (htime : (s.ctx c.val).life.teardownTick.toNat + 1048576 ≤ s.now) : exec (.transactionAbandon c) s =
      .next ((s.dropTransactions c.val).updLife c.val fun l => { l with abandoned := true }) :=
  congrArg Host.Outcome.next (if_pos ⟨hstate, habandoned, htime⟩)

theorem State.dropTransactions_core (s : State) (c k : Nat) : (s.dropTransactions c).core k = (s.core k).abandon c := by
  unfold State.core State.dropTransactions
  exact SMap.get_mapKeyVal (fun _ x => Core.abandon x c) {} s.cores k rfl

theorem State.outstanding_dropTransactions (s : State) (c : Nat) : (s.dropTransactions c).outstanding c = false := by
  have hxfers : (s.dropTransactions c).hbm.xfers.any (fun x => x.ctx.val == c) = false := by
    rw [List.any_eq_false]
    intro x hx
    simpa using (List.mem_filter.1 hx).2
  unfold State.outstanding
  rw [hxfers, Bool.false_or, List.any_eq_false]
  rintro p hp
  obtain ⟨⟨k, x⟩, -, rfl⟩ := List.mem_map.1 hp
  rw [Bool.not_eq_true, Bool.or_eq_false_iff, List.any_eq_false, List.any_eq_false]
  refine ⟨fun op hop => by simpa using (List.mem_filter.1 hop).2, fun u hu => ?_⟩
  obtain ⟨i, op⟩ := u
  have hkeep := (List.mem_filter.1 hu).2
  cases op with
  | none => simp
  | some op => simpa using hkeep

end

/-! ## The scrub -/

theorem inRanges_append (l l' : List (Nat × Nat)) (u : Nat) : inRanges (l ++ l') u = (inRanges l u || inRanges l' u) :=
  List.any_append

theorem State.setScrubs_eq (s : State) (m : ScrubMem) (l : List (Nat × Nat)) : s.setScrubs m l = { s with
    scrubSram := (s.setScrubs m l).scrubSram, scrubHbm := (s.setScrubs m l).scrubHbm
    scrubRes := (s.setScrubs m l).scrubRes, scrubStage := (s.setScrubs m l).scrubStage } := by
  cases m <;> rfl

theorem State.setScrubs_scrubs (s : State) (m : ScrubMem) (l : List (Nat × Nat)) : (s.setScrubs m l).scrubs m = l := by
  cases m <;> rfl

theorem State.setScrubs_scrubs_ne (s : State) {m n : ScrubMem} (l : List (Nat × Nat)) (h : n ≠ m) :
    (s.setScrubs m l).scrubs n = s.scrubs n := by
  cases m with
  | sram =>
    cases n with
    | sram => exact absurd rfl h
    | _ => rfl
  | hbm =>
    cases n with
    | hbm => exact absurd rfl h
    | _ => rfl
  | reservoir =>
    cases n with
    | reservoir => exact absurd rfl h
    | _ => rfl
  | staging =>
    cases n with
    | staging => exact absurd rfl h
    | _ => rfl

/-- One share of a context enters SCRUBBING. -/
def State.scrubShare (s : State) (e : Nat × Nat × Nat) : State :=
  if e.2.2 / unitBytes (spaceMem e.1) = 0 then s
  else s.setScrubs (spaceMem e.1) (s.scrubs (spaceMem e.1) ++
    [(e.2.1 / unitBytes (spaceMem e.1), e.2.2 / unitBytes (spaceMem e.1))])

theorem State.scrubShares_eq_foldl (s : State) (l : List (Nat × Nat × Nat)) : s.scrubShares l = l.foldl State.scrubShare s := rfl

theorem State.scrubShare_mono (s : State) (e : Nat × Nat × Nat) (m : ScrubMem) (u : Nat)
    (h : inRanges (s.scrubs m) u = true) : inRanges ((s.scrubShare e).scrubs m) u = true := by
  unfold State.scrubShare
  split
  · exact h
  · by_cases hm : m = spaceMem e.1
    · rw [hm] at h ⊢
      rw [State.setScrubs_scrubs, inRanges_append, h, Bool.true_or]
    · rw [State.setScrubs_scrubs_ne _ _ hm]
      exact h

theorem State.scrubShares_mono (l : List (Nat × Nat × Nat)) (s : State) (m : ScrubMem) (u : Nat)
    (h : inRanges (s.scrubs m) u = true) : inRanges ((s.scrubShares l).scrubs m) u = true := by
  induction l generalizing s with
  | nil => exact h
  | cons e l ih => exact ih _ (s.scrubShare_mono e m u h)

/-- Every unit of a share that enters SCRUBBING is in its memory's ranges. -/
theorem State.scrubShare_unit (s : State) (m base size u : Nat) (hlo : base / unitBytes (spaceMem m) ≤ u)
    (hhi : u < base / unitBytes (spaceMem m) + size / unitBytes (spaceMem m)) :
    inRanges ((s.scrubShare (m, base, size)).scrubs (spaceMem m)) u = true := by
  unfold State.scrubShare
  dsimp only
  rw [if_neg (by omega), State.setScrubs_scrubs, inRanges_append]
  simp [inRanges, hlo, hhi]

theorem State.scrubShares_unit (l : List (Nat × Nat × Nat)) (s : State) {m base size u : Nat} (hmem : (m, base, size) ∈ l)
    (hlo : base / unitBytes (spaceMem m) ≤ u) (hhi : u < base / unitBytes (spaceMem m) + size / unitBytes (spaceMem m)) :
    inRanges ((s.scrubShares l).scrubs (spaceMem m)) u = true := by
  induction l generalizing s with
  | nil => exact absurd hmem List.not_mem_nil
  | cons e l ih =>
    rcases List.mem_cons.1 hmem with rfl | hrest
    · exact State.scrubShares_mono l _ _ _ (s.scrubShare_unit m base size u hlo hhi)
    · exact ih _ hrest

theorem State.scrubShares_eq (l : List (Nat × Nat × Nat)) (s : State) : s.scrubShares l = { s with
    scrubSram := (s.scrubShares l).scrubSram, scrubHbm := (s.scrubShares l).scrubHbm
    scrubRes := (s.scrubShares l).scrubRes, scrubStage := (s.scrubShares l).scrubStage } := by
  induction l generalizing s with
  | nil => rfl
  | cons e l ih =>
    obtain ⟨a, b, d, f, h⟩ : ∃ a b d f, s.scrubShare e =
      { s with scrubSram := a, scrubHbm := b, scrubRes := d, scrubStage := f } := by
      unfold State.scrubShare
      split
      · exact ⟨_, _, _, _, rfl⟩
      · rw [State.setScrubs_eq]
        exact ⟨_, _, _, _, rfl⟩
    have hrest := ih (s.scrubShare e)
    rw [h] at hrest
    rw [State.scrubShares_eq_foldl, List.foldl_cons, ← State.scrubShares_eq_foldl, h, hrest]

theorem inRanges_dropUnit (l : List (Nat × Nat)) (u v : Nat) :
    inRanges (dropUnit l u) v = (inRanges l v && decide (v ≠ u)) := by
  induction l with
  | nil => rfl
  | cons r l ih =>
    rw [dropUnit, List.flatMap_cons, inRanges_append, ← dropUnit, ih]
    have hone : ∀ q : Nat × Nat, ∀ b : Prop, [Decidable b] → inRanges (if b then [q] else []) v =
        (decide b && (decide (q.1 ≤ v) && decide (v < q.1 + q.2))) := fun q b _ => by
      split <;> simp_all [inRanges]
    change _ = (((decide (r.1 ≤ v) && decide (v < r.1 + r.2)) || inRanges l v) && decide (v ≠ u))
    have hsingle : inRanges [r] v = (decide (r.1 ≤ v) && decide (v < r.1 + r.2)) := by simp [inRanges]
    by_cases hin : r.1 ≤ u ∧ u < r.1 + r.2
    · rw [if_pos hin, inRanges_append, hone, hone, Bool.eq_iff_iff]
      cases inRanges l v <;>
        simp only [Bool.or_eq_true, Bool.and_eq_true, decide_eq_true_eq, Bool.false_eq_true, false_and, or_false,
          true_and, or_true] <;> omega
    · rw [if_neg hin, hsingle, Bool.eq_iff_iff]
      cases inRanges l v <;>
        simp only [Bool.or_eq_true, Bool.and_eq_true, decide_eq_true_eq, Bool.false_eq_true, false_and, or_false,
          true_and, or_true] <;> omega

/-- What SRAM holds after ranges of one length were zeroed. -/
theorem State.foldl_zeroSram (f : Nat → Nat) (n : Nat) (l : List Nat) (s : State) :
    ∃ m, l.foldl (fun (s : State) k => s.zeroMem .sram (f k) n) s = { s with sramMem := m } ∧
      (∀ a, (∃ k ∈ l, f k ≤ a ∧ a < f k + n) → m.read a = 0) ∧
      (∀ a, (∀ k ∈ l, a < f k ∨ f k + n ≤ a) → m.read a = s.sramMem.read a) := by
  induction l generalizing s with
  | nil => exact ⟨s.sramMem, rfl, fun a ⟨k, hk, _⟩ => absurd hk List.not_mem_nil, fun a _ => rfl⟩
  | cons k l ih =>
    obtain ⟨m, hm, hzero, hkeep⟩ := ih (s.zeroMem .sram (f k) n)
    have hfirst : ∀ a, (s.zeroMem .sram (f k) n).sramMem.read a =
        if f k ≤ a ∧ a < f k + n then 0 else s.sramMem.read a := fun a => Memory.read_zero ..
    refine ⟨m, hm, fun a ⟨j, hj, hrange⟩ => ?_, fun a hout => ?_⟩
    · by_cases hrest : ∃ j ∈ l, f j ≤ a ∧ a < f j + n
      · exact hzero a hrest
      · have hkj : j = k := by
          rcases List.mem_cons.1 hj with h | h
          · exact h
          · exact absurd ⟨j, h, hrange⟩ hrest
        have hout : ∀ i ∈ l, a < f i ∨ f i + n ≤ a := fun i hi =>
          Classical.byContradiction fun hin => hrest ⟨i, hi, by omega⟩
        rw [hkeep a hout, hfirst, if_pos (hkj ▸ hrange)]
    · have hk := hout k List.mem_cons_self
      rw [hkeep a fun i hi => hout i (List.mem_cons_of_mem _ hi), hfirst, if_neg (by omega)]

/-- The memory of a unit that reads zero from now on. -/
def State.zeroUnit (s : State) (m : ScrubMem) (unit : Nat) : State :=
  match m with
  | .sram => s.enabledCores.foldl (fun (s : State) k =>
      s.zeroMem .sram (k * Config.sramStride + unit * unitBytes m) (unitBytes m)) s
  | m => s.zeroMem m (unit * unitBytes m) (unitBytes m)

theorem exec_scrubUnitDone {s : State} {m : ScrubMem} {unit : Nat} (hin : inRanges (s.scrubs m) unit = true)
    (hmay : m = .hbm → s.mayScrub unit = true) : exec (.scrubUnitDone m unit) s =
      .next ((s.zeroUnit m unit).setScrubs m (dropUnit ((s.zeroUnit m unit).scrubs m) unit)) := by
  have hgo : (inRanges (s.scrubs m) unit && (m != .hbm || s.mayScrub unit)) = true := by
    rw [hin, Bool.true_and]
    by_cases hm : m = .hbm
    · rw [hmay hm, Bool.or_true]
    · simp [hm]
  refine (congrArg Host.Outcome.next (if_pos hgo)).trans ?_
  cases m <;> rfl

/-- A unit of one memory reads zero: the other memories and the SCRUBBING ranges are as they were. -/
theorem State.zeroUnit_eq (s : State) (m : ScrubMem) (unit : Nat) : ∃ sram hbm res stage,
    s.zeroUnit m unit = { s with sramMem := sram, hbmMem := hbm, resMem := res, stageMem := stage } ∧
    (m ≠ .sram → sram = s.sramMem) ∧ (m ≠ .hbm → hbm = s.hbmMem) ∧ (m ≠ .reservoir → res = s.resMem) ∧
    (m ≠ .staging → stage = s.stageMem) := by
  cases m with
  | sram =>
    obtain ⟨mem, hmem, -⟩ := State.foldl_zeroSram (fun k => k * Config.sramStride + unit * 65536) 65536 s.enabledCores s
    exact ⟨mem, _, _, _, hmem, fun h => absurd rfl h, fun _ => rfl, fun _ => rfl, fun _ => rfl⟩
  | hbm => exact ⟨_, _, _, _, rfl, fun _ => rfl, fun h => absurd rfl h, fun _ => rfl, fun _ => rfl⟩
  | reservoir => exact ⟨_, _, _, _, rfl, fun _ => rfl, fun _ => rfl, fun h => absurd rfl h, fun _ => rfl⟩
  | staging => exact ⟨_, _, _, _, rfl, fun _ => rfl, fun _ => rfl, fun _ => rfl, fun h => absurd rfl h⟩

theorem Memory.readBytes_one_zero (m : Memory) (a n b : Nat) :
    (m.zero a n).readBytes b 1 = if a ≤ b ∧ b < a + n then [0] else m.readBytes b 1 := by
  change [_] = _
  rw [Memory.read_zero]
  split <;> rfl

theorem State.readMem_zeroUnit (s : State) {m : ScrubMem} (hm : m ≠ .sram) (unit a : Nat) :
    (s.zeroUnit m unit).readMem m a 1 =
      if unit * unitBytes m ≤ a ∧ a < (unit + 1) * unitBytes m then [0] else s.readMem m a 1 := by
  rw [Nat.succ_mul]
  cases m with
  | sram => exact absurd rfl hm
  | hbm => exact Memory.readBytes_one_zero ..
  | reservoir => exact Memory.readBytes_one_zero ..
  | staging => exact Memory.readBytes_one_zero ..

theorem State.readMem_setScrubs (s : State) (m n : ScrubMem) (l : List (Nat × Nat)) (a k : Nat) :
    (s.setScrubs m l).readMem n a k = s.readMem n a k := by
  cases m <;> rfl

/-- SCRUB_UNIT_DONE of a unit that is SCRUBBING. -/
theorem exec_scrubUnitDone_fields {s : State} {m : ScrubMem} {unit : Nat} (hin : inRanges (s.scrubs m) unit = true)
    (hmay : m = .hbm → s.mayScrub unit = true) :
    ∃ t : State, exec (.scrubUnitDone m unit) s = .next t ∧ inRanges (t.scrubs m) unit = false ∧
      (∀ u, u ≠ unit → inRanges (t.scrubs m) u = inRanges (s.scrubs m) u) ∧
      (m ≠ .sram → ∀ a, t.readMem m a 1 =
        if unit * unitBytes m ≤ a ∧ a < (unit + 1) * unitBytes m then [0] else s.readMem m a 1) ∧
      (m = .sram → ∀ k ∈ s.enabledCores, ∀ i, i < 65536 → t.sramMem.read (k * Config.sramStride + unit * 65536 + i) = 0) ∧
      (m = .sram → ∀ a, (∀ k ∈ s.enabledCores, a < k * Config.sramStride + unit * 65536 ∨
        k * Config.sramStride + unit * 65536 + 65536 ≤ a) → t.sramMem.read a = s.sramMem.read a) ∧
      (∀ n, n ≠ m → ∀ a, t.readMem n a 1 = s.readMem n a 1) ∧ t.ctxs = s.ctxs ∧ t.cores = s.cores := by
  obtain ⟨sram, hbm, res, stage, hzero, hsram, hhbm, hres, hstage⟩ := s.zeroUnit_eq m unit
  have hscrubs : (s.zeroUnit m unit).scrubs m = s.scrubs m := by
    rw [hzero]
    cases m <;> rfl
  refine ⟨_, exec_scrubUnitDone hin hmay, ?_, fun u hu => ?_, fun hm a => ?_, fun hm k hk i hi => ?_, fun hm a hout => ?_,
    fun n hn a => ?_, ?_, ?_⟩
  · rw [State.setScrubs_scrubs, inRanges_dropUnit]
    simp
  · rw [State.setScrubs_scrubs, inRanges_dropUnit, hscrubs]
    simp [hu]
  · rw [State.readMem_setScrubs]
    exact s.readMem_zeroUnit hm unit a
  · subst hm
    obtain ⟨mem, hmem, hread, -⟩ := State.foldl_zeroSram (fun k => k * Config.sramStride + unit * 65536) 65536 s.enabledCores s
    have hunit : (s.zeroUnit .sram unit).sramMem = mem := congrArg State.sramMem hmem
    rw [State.setScrubs_eq]
    change (s.zeroUnit .sram unit).sramMem.read _ = 0
    rw [hunit]
    exact hread _ ⟨k, hk, by omega, by omega⟩
  · subst hm
    obtain ⟨mem, hmem, -, hread⟩ := State.foldl_zeroSram (fun k => k * Config.sramStride + unit * 65536) 65536 s.enabledCores s
    have hunit : (s.zeroUnit .sram unit).sramMem = mem := congrArg State.sramMem hmem
    rw [State.setScrubs_eq]
    change (s.zeroUnit .sram unit).sramMem.read _ = _
    rw [hunit]
    exact hread a hout
  · rw [State.readMem_setScrubs, hzero]
    cases n with
    | sram => rw [hsram hn.symm]; rfl
    | hbm => rw [hhbm hn.symm]; rfl
    | reservoir => rw [hres hn.symm]; rfl
    | staging => rw [hstage hn.symm]; rfl
  · rw [State.setScrubs_eq, hzero]
  · rw [State.setScrubs_eq, hzero]

/-! ## A context is freed, and created -/

/-- What is left of a context that is FREE. -/
def Ctx.freed (x : Ctx) : Ctx :=
  { life := { x.life with state := .free, createWaits := false }, nextUid := x.nextUid, host := x.host
    flags := x.flags, oobCount := x.oobCount }

/-- The state in which context c is FREE. -/
def State.freeCtx (s : State) (c : Nat) : State := (s.updCtx c Ctx.freed).raiseStateChange c

section
variable (s : State) (c : Nat)

theorem State.freeCtx_eq : s.freeCtx c = { s with ctxs := (s.freeCtx c).ctxs, out := (s.freeCtx c).out } := by
  unfold State.freeCtx
  rw [State.raiseStateChange_eq]
  rfl

theorem State.freeCtx_ctx : ∃ i, (s.freeCtx c).ctx c =
    { (s.ctx c).freed with host := { (s.ctx c).host with intStatus := i } } := by
  obtain ⟨i, hi⟩ := State.raiseStateChange_ctx (s.updCtx c Ctx.freed) c c
  rw [State.updCtx_ctx] at hi
  exact ⟨i, hi⟩

theorem State.freeCtx_ctx_ne {d : Nat} (hd : d ≠ c) (h0 : d ≠ 0) : (s.freeCtx c).ctx d = s.ctx d :=
  (State.raiseStateChange_ctx_ne _ c hd h0).trans (s.updCtx_ctx_ne c d _ hd)

/-- A context that is CREATING: what it holds takes its default. -/
def State.createdCtx (s : State) (c : Nat) : Ctx :=
  { life := { state := .creating, createStart := s.tick.now, teardownTick := (s.ctx c).life.teardownTick
              cause := (s.ctx c).life.cause, former := (s.ctx c).life.former, scrubSlots := (s.ctx c).life.scrubSlots }
    nextUid := (s.ctx c).nextUid, host := (s.ctx c).host
    energy := { balance := s.refillOf c, refill := s.refillOf c } }

theorem State.startCreate_of_createdCtx :
    s.startCreate c = (s.updCtx c fun _ => s.createdCtx c).raiseStateChange c := rfl

theorem State.startCreate_eq : s.startCreate c = { s with ctxs := (s.startCreate c).ctxs, out := (s.startCreate c).out } := by
  rw [State.startCreate_of_createdCtx, State.raiseStateChange_eq]
  rfl

theorem State.startCreate_ctx : ∃ i, (s.startCreate c).ctx c =
    { s.createdCtx c with host := { (s.ctx c).host with intStatus := i } } := by
  obtain ⟨i, hi⟩ := State.raiseStateChange_ctx (s.updCtx c fun _ => s.createdCtx c) c c
  rw [State.updCtx_ctx] at hi
  exact ⟨i, hi⟩

theorem State.startCreate_ctx_ne {d : Nat} (hd : d ≠ c) (h0 : d ≠ 0) : (s.startCreate c).ctx d = s.ctx d :=
  (State.raiseStateChange_ctx_ne _ c hd h0).trans (s.updCtx_ctx_ne c d _ hd)

/-- The context is created again by itself after this teardown. -/
def State.recreates (s : State) (c : Nat) : Bool := s.cfgNum (0x4100 + c) 6 == 1 && (s.ctx c).life.cause != 1

/-- The state of a freed context whose entries that no set stages take their defaults, where it is re-created by itself. -/
def State.freeForCreate (s : State) (c : Nat) : State :=
  if s.recreates c && !(s.ctx c).life.createWaits then (s.freeCtx c).keepStaged c else s.freeCtx c

theorem State.freeForCreate_eq : ∃ g, s.freeForCreate c = { s.freeCtx c with cfg := g } := by
  unfold State.freeForCreate
  split
  · exact ⟨_, rfl⟩
  · exact ⟨_, rfl⟩

end

theorem exec_teardownFree {c : CtxId} {s : State} (hstate : (s.ctx c.val).life.state = .tearingDown)
    (hscrub : (s.ctx c.val).life.scrubStarted = true) (hout : s.outstanding c.val = false) : exec (.teardownFree c) s =
      .next (if (s.ctx c.val).life.createWaits || s.recreates c.val then (s.freeForCreate c.val).startCreate c.val
        else s.freeForCreate c.val) := by
  have hcfg : (s.freeCtx c.val).cfgNum (0x4100 + c.val) 6 = s.cfgNum (0x4100 + c.val) 6 := by
    rw [State.freeCtx_eq]
    rfl
  refine (congrArg Host.Outcome.next (if_pos ⟨hstate, hscrub, hout⟩)).trans (congrArg Host.Outcome.next ?_)
  change (if (_ || (State.cfgNum (s.freeCtx c.val) _ _ == 1 && _)) = true then
    State.startCreate (if ((State.cfgNum (s.freeCtx c.val) _ _ == 1 && _) && _) = true then _ else _) _
    else (if ((State.cfgNum (s.freeCtx c.val) _ _ == 1 && _) && _) = true then _ else _)) = _
  rw [hcfg]
  rfl

/-- TEARDOWN_FREE of a context with nothing outstanding whose scrub has started. -/
theorem exec_teardownFree_fields {c : CtxId} {s : State} (hstate : (s.ctx c.val).life.state = .tearingDown)
    (hscrub : (s.ctx c.val).life.scrubStarted = true) (hout : s.outstanding c.val = false) :
    let l := (s.ctx c.val).life
    let again := l.createWaits = true ∨ (s.cfgNum (0x4100 + c.val) 6 = 1 ∧ l.cause ≠ 1)
    ∃ t : State, exec (.teardownFree c) s = .next t ∧ (¬again → (t.ctx c.val).life.state = .free) ∧
      (again → (t.ctx c.val).life.state = .creating ∧ (t.ctx c.val).life.createStart = s.tick.now) ∧
      (t.ctx c.val).life.cause = l.cause ∧ (t.ctx c.val).life.teardownTick = l.teardownTick ∧
      (t.ctx c.val).descs = [] ∧ (t.ctx c.val).dists = [] ∧ (t.ctx c.val).sems = [] ∧ (t.ctx c.val).cmds = [] ∧
      (t.ctx c.val).rosters = [] ∧ (∀ d : CtxId, d ≠ c → d.val ≠ 0 → t.ctx d.val = s.ctx d.val) ∧
      t.cores = s.cores ∧ t.hbmMem = s.hbmMem ∧ t.sramMem = s.sramMem := by
  intro l again
  obtain ⟨g, hg⟩ := s.freeForCreate_eq c.val
  have hcfg : ∀ d, (s.freeForCreate c.val).ctx d = (s.freeCtx c.val).ctx d := fun d => State.ctx_congr (by rw [hg]) d
  have hagain : ((s.ctx c.val).life.createWaits || s.recreates c.val) = true ↔ again := by
    simp [again, l, State.recreates]
  obtain ⟨i, hfreed⟩ := s.freeCtx_ctx c.val
  refine ⟨_, exec_teardownFree hstate hscrub hout, ?_⟩
  by_cases h : ((s.ctx c.val).life.createWaits || s.recreates c.val) = true
  · rw [if_pos h]
    obtain ⟨j, hcreated⟩ := (s.freeForCreate c.val).startCreate_ctx c.val
    rw [State.createdCtx, hcfg, hfreed] at hcreated
    rw [hcreated]
    have htick : (s.freeForCreate c.val).tick = s.tick := by rw [hg, State.freeCtx_eq]
    refine ⟨fun hnot => absurd (hagain.1 h) hnot, fun _ => ⟨rfl, congrArg TickUnit.now htick⟩, rfl, rfl, rfl, rfl, rfl, rfl,
      rfl, fun d hd h0 => ?_, ?_, ?_, ?_⟩
    · rw [State.startCreate_ctx_ne _ _ (Fin.val_ne_iff.2 hd) h0, hcfg, State.freeCtx_ctx_ne _ _ (Fin.val_ne_iff.2 hd) h0]
    all_goals rw [State.startCreate_eq, hg, State.freeCtx_eq]
  · rw [if_neg h, hcfg, hfreed]
    refine ⟨fun _ => rfl, fun hyes => absurd (hagain.2 hyes) h, rfl, rfl, rfl, rfl, rfl, rfl, rfl, fun d hd h0 => ?_, ?_, ?_,
      ?_⟩
    · rw [hcfg, State.freeCtx_ctx_ne _ _ (Fin.val_ne_iff.2 hd) h0]
    all_goals rw [hg, State.freeCtx_eq]

theorem exec_createComplete_fields {c : CtxId} {s : State} (hstate : (s.ctx c.val).life.state = .creating)
    (htime : (s.ctx c.val).life.createStart.toNat + 1024 ≤ s.now) (hscrub : s.scrubBytes (s.shares c.val) = 0) :
    ∃ t : State, exec (.createComplete c) s = .next t ∧
      (t.ctx c.val).life.state = (if (s.ctx c.val).life.suspendOnCreate then .suspended else .live) ∧
      (t.ctx c.val).life.createTick = s.tick.now ∧ (t.ctx c.val).life.suspendOnCreate = false ∧
      (t.ctx c.val).descs = (s.ctx c.val).descs ∧ (t.ctx c.val).sems = (s.ctx c.val).sems ∧
      t.cores = s.cores ∧ t.hbmMem = s.hbmMem ∧ t.sramMem = s.sramMem := by
  refine ⟨_, congrArg Host.Outcome.next (if_pos ⟨hstate, htime, hscrub⟩), ?_⟩
  obtain ⟨i, hi⟩ := State.raiseStateChange_ctx (s.updLife c.val fun l =>
    { l with
      state := if l.suspendOnCreate then .suspended else .live, suspendOnCreate := false
      suspendedAt := s.tick.now, createTick := s.tick.now }) c.val c.val
  rw [State.updLife, State.updCtx_ctx] at hi
  rw [State.updLife, hi]
  refine ⟨rfl, rfl, rfl, rfl, rfl, ?_, ?_, ?_⟩
  all_goals
    rw [State.raiseStateChange_eq]
    rfl

theorem exec_scrubStart_fields {c : CtxId} {s : State} (hstate : (s.ctx c.val).life.state = .tearingDown)
    (hstopped : (s.ctx c.val).life.stopped = true) (hstarted : (s.ctx c.val).life.scrubStarted = false)
    (hgo : s.outstanding c.val = false ∨ (s.ctx c.val).life.teardownTick.toNat + 1048576 ≤ s.now) :
    ∃ t : State, exec (.scrubStart c) s = .next t ∧
      (t.ctx c.val).life.scrubStarted = true ∧ (t.ctx c.val).life.state = .tearingDown ∧
      (t.ctx c.val).life.scrubSlots = (s.wheel 33).slotsOf c.val ∧
      (∀ e ∈ s.shares c.val, e ∈ (t.ctx c.val).life.former) ∧
      (∀ m base size, (m, base, size) ∈ s.shares c.val → ∀ u, base / unitBytes (spaceMem m) ≤ u →
        u < base / unitBytes (spaceMem m) + size / unitBytes (spaceMem m) →
        inRanges (t.scrubs (spaceMem m)) u = true) ∧
      (∀ m u, inRanges (s.scrubs m) u = true → inRanges (t.scrubs m) u = true) ∧
      t.hbmMem = s.hbmMem ∧ t.sramMem = s.sramMem ∧ t.cores = s.cores := by
  have hctx : (s.scrubShares (s.shares c.val)).ctx c.val = s.ctx c.val :=
    State.ctx_congr (by rw [State.scrubShares_eq]) _
  have hscrubs : ∀ f m, ((s.scrubShares (s.shares c.val)).updLife c.val f).scrubs m =
      (s.scrubShares (s.shares c.val)).scrubs m := fun f m => by cases m <;> rfl
  refine ⟨_, congrArg Host.Outcome.next (if_pos ⟨hstate, hstopped, hstarted, hgo⟩), ?_, ?_, ?_, fun e he => ?_,
    fun m base size hmem u hlo hhi => ?_, fun m u hin => ?_, ?_, ?_, ?_⟩
  · rw [State.updLife, State.updCtx_ctx]
  · rw [State.updLife, State.updCtx_ctx, hctx]
    exact hstate
  · rw [State.updLife, State.updCtx_ctx]
  · rw [State.updLife, State.updCtx_ctx]
    exact List.mem_eraseDups.2 (List.mem_append_left _ he)
  · rw [hscrubs]
    exact State.scrubShares_unit _ s hmem hlo hhi
  · rw [hscrubs]
    exact State.scrubShares_mono _ s m u hin
  all_goals
    rw [State.scrubShares_eq]
    rfl

/-- Settles O28: each step of a context's life by its lemma. -/
theorem contextLifetime : Obligations.ContextLifetime := by
  unfold Obligations.ContextLifetime
  refine ⟨fun c s hstate => ?_, fun c s => ?_⟩
  · intro l
    refine ⟨fun hstopped htime => ?_, fun h => ?_, exec_scrubStart_fields hstate, fun h => ?_, fun habandoned htime => ?_,
      fun h => ?_⟩
    · refine ⟨_, exec_teardownStop hstate hstopped htime, ?_, fun k key hkey => ?_, fun k key hkey => ?_,
        fun x hx hc => mem_stoppedXfers_lines hx hc, fun x hx hc => mem_stoppedXfers_of_ne hx hc, ?_, ?_, ?_, ?_, ?_, ?_,
        fun d hd => State.updCtx_ctx_ne _ _ _ _ (Fin.val_ne_iff.2 hd), rfl, rfl⟩
      · rw [State.updCtx_ctx]
        rfl
      · rw [show ((s.stopEngines c.val).updCtx c.val Ctx.stopWork).core k = (s.stopEngines c.val).core k from rfl,
          State.stopEngines_core, Core.evict_stream, if_pos hkey]
        exact ⟨rfl, Core.evict_cur _ _ _ _ hkey⟩
      · rw [show ((s.stopEngines c.val).updCtx c.val Ctx.stopWork).core k = (s.stopEngines c.val).core k from rfl,
          State.stopEngines_core, Core.evict_stream, if_neg hkey]
      all_goals
        rw [State.updCtx_ctx]
        rfl
    · refine congrArg Host.Outcome.next (if_neg ?_)
      rintro ⟨-, hstopped, htime⟩
      rcases h with h | h
      · exact absurd htime (Nat.not_le.2 h)
      · exact Bool.false_ne_true (hstopped.symm.trans h)
    · refine congrArg Host.Outcome.next (if_neg ?_)
      rintro ⟨-, hstopped, hstarted, hgo⟩
      rcases h with h | h | ⟨hout, htime⟩
      · exact Bool.false_ne_true (h.symm.trans hstopped)
      · exact Bool.false_ne_true (hstarted.symm.trans h)
      · rcases hgo with hgo | hgo
        · exact Bool.false_ne_true (hgo.symm.trans hout)
        · exact absurd hgo (Nat.not_le.2 htime)
    · refine ⟨_, exec_transactionAbandon hstate habandoned htime, ?_, ?_, fun x hx hc => ?_, fun k => ?_, rfl, rfl⟩
      · rw [State.updLife, State.updCtx_ctx]
        rfl
      · exact s.outstanding_dropTransactions c.val
      · exact List.mem_filter.2 ⟨hx, by simpa using Fin.val_ne_iff.2 hc⟩
      · rw [State.updLife, show ∀ f, ((s.dropTransactions c.val).updCtx c.val f).core k = (s.dropTransactions c.val).core k
          from fun f => rfl, State.dropTransactions_core]
        exact ⟨rfl, rfl⟩
    · refine congrArg Host.Outcome.next (if_neg ?_)
      rintro ⟨-, habandoned, htime⟩
      rcases h with h | h
      · exact absurd htime (Nat.not_le.2 h)
      · exact Bool.false_ne_true (habandoned.symm.trans h)
  · intro l
    refine ⟨exec_teardownFree_fields, fun h => ?_, exec_createComplete_fields, fun h => ?_,
      fun m unit hin hmay => exec_scrubUnitDone_fields hin hmay, fun m unit h => ?_⟩
    · refine congrArg Host.Outcome.next (if_neg ?_)
      rintro ⟨hstate, hstarted, hout⟩
      rcases h with h | h | h
      · exact h hstate
      · exact Bool.false_ne_true (h.symm.trans hstarted)
      · exact Bool.false_ne_true (hout.symm.trans h)
    · refine congrArg Host.Outcome.next (if_neg ?_)
      rintro ⟨hstate, htime, hscrub⟩
      rcases h with h | h | h
      · exact h hstate
      · exact absurd htime (Nat.not_le.2 h)
      · exact absurd hscrub (Nat.ne_of_gt h)
    · refine congrArg Host.Outcome.next (if_neg ?_)
      rcases h with h | ⟨rfl, h⟩ <;> simp [h]

end Sys2Proof.Machine
end

section
namespace Sys2Proof.Machine

/-! ## Mailboxes -/

section
variable {c : CtxId} {s : State}

/-- A write of MBX_RING reaches the device and is not a mirroring secondary's own. -/
theorem mbxRing_heard_iff : (!s.hostReaches || s.ignoresHost) = false ↔
    s.pcie.linkUp = true ∧ s.fw.stage = 2 ∧ ¬(s.pair.role = 2 ∧ s.pair.state = 1) := by
  simp only [State.hostReaches, State.ignoresHost, Bool.or_eq_false_iff, Bool.not_eq_false', Bool.and_eq_true,
    decide_eq_true_eq, Bool.and_eq_false_iff, beq_eq_false_iff_ne, decide_eq_false_iff_not, and_assoc, Classical.not_and_iff_not_or_not, ne_eq]

theorem exec_mbxRing_of_heard (hheard : s.pcie.linkUp = true ∧ s.fw.stage = 2 ∧ ¬(s.pair.role = 2 ∧ s.pair.state = 1)) :
    exec (.mbxRing c) s = .next (s.mbxRing c.val) :=
  congrArg Host.Outcome.next (if_neg (by rw [mbxRing_heard_iff.2 hheard]; exact Bool.false_ne_true))

/-- A mailbox on which nothing waits and that is free takes the request. -/
theorem State.mbxRing_of_free (hbusy : (s.ctx c.val).host.mbx.busy = false) (htripped : s.safety.tripped = false)
    (hstate : c = 0 ∨ ((s.ctx c.val).life.state ≠ .free ∧ (s.ctx c.val).life.state ≠ .creating)) :
    s.mbxRing c.val = s.updHost c.val fun h => { h with mbx := { (s.ctx c.val).host.mbx with
      busy := true, taken := (s.ctx c.val).host.mbx.request.readBytes 0 4096, ringTick := s.tick.now, ready := none } } := by
  refine if_neg ?_
  rw [hbusy, htripped]
  rcases hstate with rfl | ⟨hfree, hcreating⟩
  · simp
  · simp [hfree, hcreating]

theorem exec_mbxRing_of_not_taken (h : ¬(s.pcie.linkUp = true ∧ s.fw.stage = 2 ∧ ¬(s.pair.role = 2 ∧ s.pair.state = 1)) ∨
    (s.ctx c.val).host.mbx.busy = true ∨ s.safety.tripped = true ∨
    (c ≠ 0 ∧ ((s.ctx c.val).life.state = .free ∨ (s.ctx c.val).life.state = .creating))) :
    exec (.mbxRing c) s = .next s := by
  rcases h with hheard | hbusy | htripped | ⟨hvf, hstate⟩
  · refine congrArg Host.Outcome.next (if_pos ?_)
    rw [← Bool.not_eq_false, mbxRing_heard_iff]
    exact hheard
  · exact exec_mbxRing_of_ignored (.inl hbusy)
  · have hskip : s.mbxRing c.val = s := if_pos (by simp [htripped])
    change execMbxRing c s = _
    rw [execMbxRing, hskip, ite_self]
  · exact exec_mbxRing_of_ignored (.inr ⟨Fin.val_ne_of_ne hvf, hstate⟩)

/-- A reply that is due, with no copy of a SNAPSHOT under way or ended in this tick. -/
theorem exec_mbxReply_fields {r : Bytes} {t0 : Word} (hready : (s.ctx c.val).host.mbx.ready = some (r, t0))
    (hbusy : (s.ctx c.val).host.mbx.busy = true) (htick : t0.toNat ≤ s.now)
    (hcopy : (s.ctx c.val).host.mbx.copying = false)
    (hcopied : ∀ u, (s.ctx c.val).host.mbx.copied = some u → u.toNat < s.now) :
    ∃ t : State, exec (.mbxReply c) s = .next t ∧ (t.ctx c.val).host.mbx = ((s.ctx c.val).host.showReply r).mbx ∧
      (s.silent c.val = false → (t.ctx c.val).host.intStatus = (s.ctx c.val).host.intStatus ||| 1) ∧
      t.cfg = s.cfg ∧ t.sets = s.sets ∧ t.cores = s.cores := by
  have hupd : (s.updHost c.val (·.showReply r)).ctx c.val = _ := s.updCtx_ctx c.val _
  obtain ⟨i, hi⟩ := State.raise_ctx (s.updHost c.val (·.showReply r)) c.val c.val 0
  refine ⟨_, exec_mbxReply_of_due hready hbusy htick hcopy hcopied, ?_, fun hsilent => ?_, ?_, ?_, ?_⟩
  · rw [hi, hupd]
  · rw [State.raise_host (s := s.updHost c.val (·.showReply r)) (by simpa using hsilent) 0, State.updHost_host]
    rfl
  all_goals
    rw [State.raise_eq]
    rfl

theorem exec_mbxReply_of_not_due {r : Bytes} {t0 : Word} (hready : (s.ctx c.val).host.mbx.ready = some (r, t0))
    (h : (s.ctx c.val).host.mbx.busy = false ∨ s.now < t0.toNat ∨ (s.ctx c.val).host.mbx.copying = true ∨
      ∃ u, (s.ctx c.val).host.mbx.copied = some u ∧ s.now ≤ u.toNat) : exec (.mbxReply c) s = .next s := by
  change execMbxReply c s = _
  simp only [execMbxReply, hready]
  refine congrArg Host.Outcome.next (if_pos ?_)
  rcases h with h | h | h | ⟨u, hu, hle⟩
  · exact .inl h
  · exact .inr (.inl h)
  · exact .inr (.inr (.inl h))
  · exact .inr (.inr (.inr (by rw [hu]; exact decide_eq_true hle)))

end

/-- Settles O44: the mailbox steps by their lemmas; the three clears are changes of their context. -/
theorem mailboxesAndClears : Obligations.MailboxesAndClears := by
  unfold Obligations.MailboxesAndClears
  intro c s m st heard
  refine ⟨fun hheard hbusy htripped hstate => ?_, fun h => exec_mbxRing_of_not_taken h, ?_, fun h => ?_,
    fun r t0 hready hbusy htick hcopy hcopied => exec_mbxReply_fields hready hbusy htick hcopy hcopied,
    fun r t0 hready h => exec_mbxReply_of_not_due hready h, fun hready => ?_, fun mask => rfl, rfl, rfl⟩
  · rw [exec_mbxRing_of_heard hheard, State.mbxRing_of_free hbusy htripped hstate]
  · intro hvf hbusy hready htime q v
    refine congrArg Host.Outcome.next (if_neg ?_)
    rintro (h | h | h | h)
    · exact hvf h
    · exact Bool.false_ne_true (h.symm.trans hbusy)
    · rw [hready] at h
      exact Bool.false_ne_true h
    · exact absurd h (Nat.not_lt.2 htime)
  · refine congrArg Host.Outcome.next (if_pos ?_)
    rcases h with h | h | h | h
    · exact .inl h
    · exact .inr (.inl h)
    · exact .inr (.inr (.inl (Option.isSome_iff_ne_none.2 h)))
    · exact .inr (.inr (.inr h))
  · change execMbxReply c s = _
    have hnone : (s.ctx c.val).host.mbx.ready = none := hready
    simp only [execMbxReply, hnone]

/-! ## Flash -/

theorem Memory.read_writeBytes_replicate (m : Memory) (a n b : Nat) (v : Byte) (h : m.wf = true) (hlo : a ≤ b)
    (hhi : b < a + n) : (m.writeBytes a (List.replicate n v)).read b = v := by
  induction n generalizing m a with
  | zero => omega
  | succ n ih =>
    rw [List.replicate_succ, Memory.writeBytes]
    by_cases hb : b = a
    · rw [hb, Memory.read_writeBytes_outside _ _ (.inl (Nat.lt_succ_self a)), Memory.read_write m none a a v h, if_pos rfl]
    · exact ih _ _ (Memory.write_wf m a v h) (by omega) (by omega)

/-- The flash after the erase of a block that a write at an offset begins. -/
def Memory.eraseBlock (m : Memory) (offset a : Nat) : Memory :=
  if offset % 65536 = 0 then m.writeBytes a (List.replicate 65536 0xFF) else m

theorem Memory.eraseBlock_wf (m : Memory) (offset a : Nat) (h : m.wf = true) : (m.eraseBlock offset a).wf = true := by
  unfold Memory.eraseBlock
  split
  · exact Memory.writeBytes_wf _ _ _ h
  · exact h

theorem Memory.read_eraseBlock_outside (m : Memory) {offset a b : Nat}
    (h : offset % 65536 ≠ 0 ∨ b < a ∨ a + 65536 ≤ b) : (m.eraseBlock offset a).read b = m.read b := by
  unfold Memory.eraseBlock
  split
  · next hzero =>
    refine Memory.read_writeBytes_outside _ _ ?_
    rw [List.length_replicate]
    exact h.resolve_left fun hne => hne hzero
  · rfl

section
variable {s : State} {offset : Nat} {data : Bytes}

theorem State.flashWriteOk_bounds (h : s.flashWriteOk offset data = true) : offset % 256 = 0 ∧ data.length % 256 = 0 ∧
    256 ≤ data.length ∧ data.length ≤ 1024 ∧ offset + data.length ≤ (s.ident.flash.mib - 1) * 1048576 / 2 ∧
    s.fw.flashBusy = false := by
  simp only [State.flashWriteOk, Bool.and_eq_true, beq_iff_eq, decide_eq_true_eq, Bool.not_eq_true'] at h
  obtain ⟨⟨⟨⟨⟨hoff, hlen⟩, hmin, hmax⟩, hslot⟩, hbusy⟩, -⟩ := h
  exact ⟨hoff, hlen, hmin, hmax, hslot, hbusy⟩

/-- The flash address of an offset in the slot that did not start. -/
def State.flashAddr (s : State) (offset : Nat) : Nat :=
  0x100000 + (1 - s.fw.bootSlot) * ((s.ident.flash.mib - 1) * 1048576 / 2) + offset

theorem exec_flashWrite (hstage : s.fw.stage = 2) (hok : s.flashWriteOk offset data = true) :
    exec (.flashWrite offset data) s = .next { s with
      flash := (s.flash.eraseBlock offset (s.flashAddr offset)).writeBytes (s.flashAddr offset) data
      fw := { s.fw with flashBusy := true } } :=
  congrArg Host.Outcome.next (if_pos ⟨hstage, hok⟩)

end

theorem exec_fuseProgram_of_floor {s : State} (h : s.safety.blown < s.safety.rollbackTarget) : exec .fuseProgram s =
    .next { s with safety := { s.safety with
      blown := s.safety.blown + 1
      rollback := if s.safety.blown + 1 = s.safety.rollbackTarget then s.safety.blown + 1 else s.safety.rollback } } :=
  congrArg Host.Outcome.next (if_pos h)

theorem exec_fuseProgram_of_done {s : State} (h : s.safety.rollbackTarget ≤ s.safety.blown) : exec .fuseProgram s =
    .next (match s.safety.revokePending with
      | [] => s
      | k :: rest => { s with safety := { s.safety with
          revokePending := rest, revoked := if s.safety.revoked.contains k then s.safety.revoked else k :: s.safety.revoked } }) :=
  (congrArg Host.Outcome.next (if_neg (Nat.not_lt.2 h))).trans rfl

/-- Settles O45: a FLASH_WRITE by the bytes it writes and those its erase reaches; FUSE_PROGRAM by the bit it programs. -/
theorem flashAndFuses : Obligations.FlashAndFuses := by
  unfold Obligations.FlashAndFuses
  intro s
  refine ⟨fun offset data hmem hstage hok => ?_, fun offset data h => ?_, fun offset data h => State.flashWriteOk_bounds h,
    fun hbusy => congrArg Host.Outcome.next (if_pos hbusy), fun hbusy => ?_, fun hlt => ?_, fun heq => ?_, fun hdone => ?_⟩
  · intro a
    have hwf : s.flash.wf = true := by
      simp only [State.memOk, Bool.and_eq_true] at hmem
      exact hmem.1.2
    have hextent : data.length ≤ 65536 := by
      obtain ⟨-, -, -, hmax, -⟩ := State.flashWriteOk_bounds hok
      omega
    refine ⟨_, exec_flashWrite hstage hok, Memory.readBytes_writeBytes _ _ _ (Memory.eraseBlock_wf _ _ _ hwf), rfl,
      fun b hb => ?_, fun b hzero hlo hhi => ?_, fun b hne hlo => ?_, rfl⟩
    · change Memory.read (Memory.writeBytes _ a data) b = _
      rw [Memory.read_writeBytes_outside _ _ (by omega)]
      exact Memory.read_eraseBlock_outside _ (.inr (by change b < a ∨ a + 65536 ≤ b; omega))
    · change Memory.read (Memory.writeBytes _ a data) b = _
      rw [Memory.read_writeBytes_outside _ _ (.inr hlo), Memory.eraseBlock, if_pos hzero]
      exact Memory.read_writeBytes_replicate _ _ _ _ _ hwf (by change a ≤ b; omega) hhi
    · change Memory.read (Memory.writeBytes _ a data) b = _
      rw [Memory.read_writeBytes_outside _ _ (.inr hlo)]
      exact Memory.read_eraseBlock_outside _ (.inl hne)
  · refine congrArg Host.Outcome.next (if_neg ?_)
    rintro ⟨hstage, hok⟩
    rcases h with h | h
    · exact h hstage
    · exact Bool.false_ne_true (h.symm.trans hok)
  · exact congrArg Host.Outcome.next (if_neg (by rw [hbusy]; exact Bool.false_ne_true))
  · rw [exec_fuseProgram_of_floor (by omega), if_neg (by omega)]
  · rw [exec_fuseProgram_of_floor (by omega), if_pos heq, heq]
  · refine ⟨fun hnil => ?_, fun k rest hcons hk => ?_, fun k rest hcons hk => ?_⟩
    · rw [exec_fuseProgram_of_done hdone, hnil]
    · rw [exec_fuseProgram_of_done hdone, hcons]
      dsimp only
      rw [if_neg (by simpa using hk)]
    · rw [exec_fuseProgram_of_done hdone, hcons]
      dsimp only
      rw [if_pos (by simpa using hk)]

end Sys2Proof.Machine
end

section
namespace Sys2Proof.Machine

/-! ## Refills at the start of an energy window -/

/-- The energy of context d after its refill. -/
def State.refilledEnergy (s : State) (d : Nat) : CtxEnergy :=
  { (s.ctx d).energy with
    refill := s.refillOf d, balance := min ((s.ctx d).energy.balance + s.refillOf d) (s.balanceCap d) }

theorem State.refill_eq (s : State) (n : Nat) : s.refill n = { s with ctxs := (s.refill n).ctxs } := by
  unfold State.refill
  split <;> rfl

theorem State.refill_ctx_ne (s : State) {n d : Nat} (hd : d ≠ n) : (s.refill n).ctx d = s.ctx d := by
  unfold State.refill
  split
  · exact s.updCtx_ctx_ne n d _ hd
  · rfl

theorem State.refill_ctx (s : State) (n : Nat) : (s.refill n).ctx n =
    { s.ctx n with energy := if s.refilled n then s.refilledEnergy n else (s.ctx n).energy } := by
  unfold State.refill
  split
  · exact s.updCtx_ctx n _
  · rfl

theorem State.foldl_refill_eq (l : List Nat) (s : State) :
    l.foldl (fun s n => State.refill s n) s = { s with ctxs := (l.foldl (fun s n => State.refill s n) s).ctxs } := by
  induction l generalizing s with
  | nil => rfl
  | cons n l ih =>
    have hrest := ih (s.refill n)
    rw [State.refill_eq] at hrest
    rw [List.foldl_cons, State.refill_eq, hrest]

/-- Each context of the list has its refill, and nothing of a context changes but its energy. -/
theorem State.foldl_refill_ctx (l : List Nat) (hl : l.Nodup) (s : State) (d : Nat) :
    (l.foldl (fun s n => State.refill s n) s).ctx d =
      { s.ctx d with energy := if d ∈ l ∧ s.refilled d = true then s.refilledEnergy d else (s.ctx d).energy } := by
  induction l generalizing s with
  | nil =>
    rw [if_neg fun h => List.not_mem_nil h.1]
    rfl
  | cons n l ih =>
    obtain ⟨hn, hl'⟩ := List.nodup_cons.1 hl
    rw [List.foldl_cons, ih hl']
    by_cases hd : d = n
    · subst hd
      rw [if_neg fun h => hn h.1, State.refill_ctx]
      simp only [List.mem_cons, true_or, true_and]
    · have hctx := s.refill_ctx_ne hd
      have hrefilled : (s.refill n).refilled d = s.refilled d := by simp only [State.refilled, hctx]
      have henergy : (s.refill n).refilledEnergy d = s.refilledEnergy d := by
        unfold State.refilledEnergy
        rw [hctx, State.refill_eq]
        rfl
      rw [hctx, hrefilled, henergy]
      simp only [List.mem_cons, hd, false_or]

/-- With no command deferred nothing starts at a window's start. -/
theorem State.startAllDeferred_of_none {s : State} (h : ∀ c x, x ∈ (s.ctx c).cmds → x.phase ≠ .deferred) :
    s.startAllDeferred = s := by
  refine foldl_eq_self fun c _ => ?_
  have hnil : ((s.ctx c).cmds.filter fun x => x.phase == .deferred) = [] :=
    List.filter_eq_nil_iff.2 fun x hx => by simpa using h c x hx
  rw [hnil, List.foldl_nil]

/-! ## An energy window starts -/

/-- The accounts after a window in which an energy was measured. -/
def State.reconciled (s : State) (m : Nat) : Energy :=
  { s.energy with
    measured := m, reconError := s.reconAfter m, scale := (s.scaleAfter (s.reconAfter m)).1
    quietWindows := (s.scaleAfter (s.reconAfter m)).2 }

theorem State.reconcile_eq (s : State) (m : Nat) : s.reconcile m = { s with
    energy := s.reconciled m, fw := (s.reconcile m).fw, out := (s.reconcile m).out } := by
  unfold State.reconcile
  dsimp only
  split
  · rw [State.logEvent_eq]
    rfl
  · rfl

/-- The state in which the new values of a window are in force. -/
def State.openWindow (s : State) (m : Nat) : State := (s.reconcile m).latchShares

/-- The state after the refills of a window. -/
def State.refillAll (s : State) : State := (List.range 64).foldl (fun s n => s.refill n) s

/-- The accounts at the start of a window. -/
def State.startWindow (s : State) : State :=
  { s with energy := { s.energy with
    powerState := s.powerNow, windowStart := s.tick.now, windowDebits := 0, windowDeferred := false } }

theorem State.startWindow_ctx (s : State) (d : Nat) : s.startWindow.ctx d = s.ctx d := rfl

theorem State.refillAll_ctx (s : State) (d : Nat) : s.refillAll.ctx d =
    { s.ctx d with energy := if d < 64 ∧ s.refilled d = true then s.refilledEnergy d else (s.ctx d).energy } := by
  unfold State.refillAll
  rw [State.foldl_refill_ctx _ List.nodup_range]
  simp only [List.mem_range]

theorem State.refillAll_eq (s : State) : s.refillAll = { s with ctxs := s.refillAll.ctxs } := by
  unfold State.refillAll
  rw [State.foldl_refill_eq]

theorem exec_energyWindowStart {s : State} {measured : Nat} (hwindow : s.now % s.cfgNum 0x3000 4 = 0)
    (hfirst : s.energy.windowStart ≠ s.tick.now) (hlocked : s.tick.rootLocked = true) :
    exec (.energyWindowStart measured) s = .next ((s.openWindow measured).refillAll.startWindow.startAllDeferred) := by
  change execEnergyWindowStart measured s = _
  unfold execEnergyWindowStart State.startWindow State.refillAll State.openWindow
  rw [if_neg (by simp [hwindow, hfirst, hlocked])]

theorem State.openWindow_eq (s : State) (m : Nat) : ∃ f o, s.openWindow m = { s with
    energy := { s.reconciled m with
      capW := s.cfgNum 0x3000 1, windowGt := s.cfgNum 0x3000 4, carry := s.cfgNum 0x3000 5
      shares := (List.range 63).map fun n => (n + 1, s.cfgNum (0x3101 + n) 1) }
    fw := f, out := o } := by
  unfold State.openWindow
  rw [State.reconcile_eq]
  exact ⟨_, _, rfl⟩

theorem exec_energyWindowStart_fields {s : State} {measured : Nat} (hwindow : s.now % s.cfgNum 0x3000 4 = 0)
    (hfirst : s.energy.windowStart ≠ s.tick.now) (hlocked : s.tick.rootLocked = true)
    (hcmds : ∀ c x, x ∈ (s.ctx c).cmds → x.phase ≠ .deferred) :
    ∃ t : State, exec (.energyWindowStart measured) s = .next t ∧ t.energy.measured = measured ∧
      t.energy.reconError = s.reconAfter measured ∧ t.energy.scale = (s.scaleAfter (s.reconAfter measured)).1 ∧
      t.energy.capW = s.cfgNum 0x3000 1 ∧ t.energy.windowGt = s.cfgNum 0x3000 4 ∧ t.energy.carry = s.cfgNum 0x3000 5 ∧
      t.energy.windowStart = s.tick.now ∧ t.energy.windowDebits = 0 ∧ t.energy.windowDeferred = false ∧
      (∀ c : CtxId, s.refilled c.val = true → (t.ctx c.val).energy = { (s.ctx c.val).energy with
        refill := (s.openWindow measured).refillOf c.val
        balance := min ((s.ctx c.val).energy.balance + (s.openWindow measured).refillOf c.val)
          ((s.openWindow measured).balanceCap c.val) }) ∧
      (∀ c : CtxId, s.refilled c.val = false → (t.ctx c.val).energy = (s.ctx c.val).energy) ∧
      (∀ c, (t.ctx c).cmds = (s.ctx c).cmds ∧ (t.ctx c).life = (s.ctx c).life) ∧ t.cores = s.cores := by
  obtain ⟨f, o, hopen⟩ := s.openWindow_eq measured
  have hopenCtx : ∀ d, (s.openWindow measured).ctx d = s.ctx d := fun d => State.ctx_congr (by rw [hopen]) d
  have hrefilled : ∀ d, (s.openWindow measured).refilled d = s.refilled d := fun d => by
    simp only [State.refilled, hopenCtx]
  have hctx : ∀ d, ((s.openWindow measured).refillAll.startWindow).ctx d = { s.ctx d with
      energy := if d < 64 ∧ s.refilled d = true then (s.openWindow measured).refilledEnergy d
        else (s.ctx d).energy } := fun d => by
    rw [State.startWindow_ctx, State.refillAll_ctx, hopenCtx, hrefilled]
  have hnone : (s.openWindow measured).refillAll.startWindow.startAllDeferred =
      (s.openWindow measured).refillAll.startWindow :=
    State.startAllDeferred_of_none fun c x hx => hcmds c x (by rwa [hctx] at hx)
  obtain ⟨m, hall⟩ : ∃ m, (s.openWindow measured).refillAll = { s.openWindow measured with ctxs := m } :=
    ⟨_, State.refillAll_eq _⟩
  have henergy : (s.openWindow measured).refillAll.energy = (s.openWindow measured).energy := by rw [hall]
  refine ⟨_, (exec_energyWindowStart hwindow hfirst hlocked).trans (congrArg Host.Outcome.next hnone), ?_⟩
  have hfields : (s.openWindow measured).refillAll.startWindow.energy = { s.reconciled measured with
      capW := s.cfgNum 0x3000 1, windowGt := s.cfgNum 0x3000 4, carry := s.cfgNum 0x3000 5
      shares := (List.range 63).map fun n => (n + 1, s.cfgNum (0x3101 + n) 1)
      powerState := (s.openWindow measured).refillAll.powerNow, windowStart := s.tick.now, windowDebits := 0
      windowDeferred := false } := by
    have htick : (s.openWindow measured).refillAll.tick = s.tick := by rw [hall, hopen]
    unfold State.startWindow
    dsimp only
    rw [henergy, htick]
    generalize (s.openWindow measured).refillAll.powerNow = p
    rw [hopen]
  rw [hfields]
  refine ⟨rfl, rfl, rfl, rfl, rfl, rfl, rfl, rfl, rfl, fun c hc => ?_, fun c hc => ?_, fun c => ?_, ?_⟩
  · rw [hctx, if_pos ⟨c.isLt, hc⟩, State.refilledEnergy, hopenCtx]
  · rw [hctx, if_neg fun h => Bool.false_ne_true (hc.symm.trans h.2)]
  · rw [hctx]
    exact ⟨rfl, rfl⟩
  · rw [show ∀ u : State, u.startWindow.cores = u.cores from fun _ => rfl, hall, hopen]

/-! ## Samples -/

section
variable {s : State}

/-- A condition that is met with none pending is noted with its cause and tick. -/
theorem State.trip_of_met (hpor : s.pins.por = true) (htripped : s.safety.tripped = false)
    (hpending : s.safety.tripPending = none) (cause : Nat) : ∃ f, s.trip cause = { s with safety := f } ∧
      f.tripPending = some (cause, s.tick.now) ∧ f.tripped = false := by
  refine ⟨_, if_neg (by simp [hpor, htripped, hpending]), rfl, htripped⟩

/-- A condition changes the safety partition alone; of what it keeps here, the rails. -/
theorem State.trip_eq (s : State) (cause : Nat) : ∃ f, s.trip cause = { s with safety := f } ∧
    f.railMv = s.safety.railMv ∧ f.railBad = s.safety.railBad := by
  unfold State.trip
  split
  · exact ⟨_, rfl, rfl, rfl⟩
  · exact ⟨_, rfl, rfl, rfl⟩

/-- The state after a sample of the junction, before its limit is compared. -/
def State.sampleThermal (s : State) (mC : Int) : State := { s with energy := s.energy.thermal mC s.tick.now }

theorem exec_thermalSample (hpor : s.pins.por = true) (mC : Int) : exec (.thermalSample mC) s =
    .next (if (BitVec.ofNat 32 (s.cfgNum 0x8000 1)).toInt ≤ mC then (s.sampleThermal mC).trip 1 else s.sampleThermal mC) :=
  congrArg Host.Outcome.next (if_pos hpor)

theorem Energy.thermal_coolSince (e : Energy) (mC : Int) (now : Word) :
    (e.thermal mC now).coolSince = if mC < 90000 then some (e.coolSince.getD now) else none := rfl

theorem Energy.thermal_warn_of_hot (e : Energy) {mC : Int} (now : Word) (h : 90000 ≤ mC) :
    (e.thermal mC now).thermalWarn = (decide (95000 ≤ mC) || e.thermalWarn) := by
  simp [Energy.thermal, Int.not_lt.2 h]

theorem Energy.thermal_warn_of_calm {e : Energy} {mC : Int} {now d : Word} (h : mC < 90000) (hcool : e.coolSince = some d)
    (hlong : 65536 ≤ (now - d).toNat) : (e.thermal mC now).thermalWarn = false := by
  have hwarm : ¬ 95000 ≤ mC := by omega
  unfold Energy.thermal
  dsimp only
  rw [if_pos h, hcool]
  dsimp only [Option.getD]
  rw [decide_eq_true hlong, decide_eq_false hwarm]
  simp

/-- A sample of the junction, whatever its limit: the accounts it leaves, and the partition unless the limit is reached. -/
theorem exec_thermalSample_fields (hpor : s.pins.por = true) (mC : Int) : ∃ t : State,
    exec (.thermalSample mC) s = .next t ∧ t.energy = s.energy.thermal mC s.tick.now ∧
      (mC < (BitVec.ofNat 32 (s.cfgNum 0x8000 1)).toInt → t.safety = s.safety) ∧
      ((BitVec.ofNat 32 (s.cfgNum 0x8000 1)).toInt ≤ mC → s.safety.tripped = false → s.safety.tripPending = none →
        t.safety.tripPending = some (1, s.tick.now) ∧ t.safety.tripped = false ∧ t.ctxs = s.ctxs ∧ t.cores = s.cores) := by
  refine ⟨_, exec_thermalSample hpor mC, ?_⟩
  split
  · next hlimit =>
    obtain ⟨f, htrip, -⟩ := (s.sampleThermal mC).trip_eq 1
    refine ⟨by rw [htrip]; rfl, fun h => absurd hlimit (Int.not_le.2 h), fun _ htripped hpending => ?_⟩
    obtain ⟨g, hmet, hnoted, hstill⟩ := State.trip_of_met (s := s.sampleThermal mC) hpor htripped hpending 1
    rw [hmet]
    exact ⟨hnoted, hstill, rfl, rfl⟩
  · next hlimit => exact ⟨rfl, fun _ => rfl, fun h => absurd h hlimit⟩

/-- The state after a sample of a rail, with its count of samples out of range. -/
def State.sampleRail (s : State) (r : Fin 16) (mV : BitVec 16) (bad : Nat) : State :=
  { s with safety := { s.safety with railMv := s.safety.railMv.put r.val mV, railBad := s.safety.railBad.put r.val bad } }

theorem exec_railSample_of_in {r : Fin 16} {mV : BitVec 16} (h : s.pins.por = false ∨ s.railOut r.val mV.toNat = false) :
    exec (.railSample r mV) s = .next (s.sampleRail r mV 0) := by
  have hgood : (s.pins.por && s.railOut r.val mV.toNat) = false := by
    rw [Bool.and_eq_false_iff]
    exact h
  change execRailSample r mV s = _
  simp only [execRailSample, hgood]
  rfl

theorem exec_railSample_of_out {r : Fin 16} {mV : BitVec 16} (hpor : s.pins.por = true)
    (hout : s.railOut r.val mV.toNat = true) : exec (.railSample r mV) s =
      .next (if 3 ≤ s.safety.railBad.get 0 r.val then
        (s.sampleRail r mV (s.safety.railBad.get 0 r.val + 1)).trip 2
      else s.sampleRail r mV (s.safety.railBad.get 0 r.val + 1)) := by
  change execRailSample r mV s = _
  simp only [execRailSample, hpor, hout, Bool.and_self, if_true]
  have hiff : 4 ≤ s.safety.railBad.get 0 r.val + 1 ↔ 3 ≤ s.safety.railBad.get 0 r.val := by omega
  simp only [hiff]
  rfl

theorem exec_railSample_fields (hpor : s.pins.por = true) (r : Fin 16) (mV : BitVec 16) : ∃ t : State,
    exec (.railSample r mV) s = .next t ∧ t.safety.railMv = s.safety.railMv.put r.val mV ∧
      (s.railOut r.val mV.toNat = false → t.safety.railBad.get 0 r.val = 0 ∧ t.safety.tripPending = s.safety.tripPending) ∧
      (s.railOut r.val mV.toNat = true → t.safety.railBad.get 0 r.val = s.safety.railBad.get 0 r.val + 1) ∧
      (s.railOut r.val mV.toNat = true → s.safety.railBad.get 0 r.val < 3 → t.safety.tripPending = s.safety.tripPending) ∧
      (s.railOut r.val mV.toNat = true → 3 ≤ s.safety.railBad.get 0 r.val → s.safety.tripped = false →
        s.safety.tripPending = none →
        t.safety.tripPending = some (2, s.tick.now) ∧ t.safety.tripped = false ∧ t.ctxs = s.ctxs ∧ t.cores = s.cores) := by
  cases hout : s.railOut r.val mV.toNat with
  | false =>
    refine ⟨_, exec_railSample_of_in (.inr hout), rfl, fun _ => ⟨SMap.get_put .., rfl⟩, ?_, ?_, ?_⟩ <;>
      exact fun h => absurd h Bool.false_ne_true
  | true =>
    refine ⟨_, exec_railSample_of_out hpor hout, ?_⟩
    split
    · next hthird =>
      obtain ⟨f, htrip, hmv, hbad⟩ := (s.sampleRail r mV (s.safety.railBad.get 0 r.val + 1)).trip_eq 2
      refine ⟨by rw [htrip, hmv]; rfl, fun h => absurd h.symm Bool.false_ne_true, fun _ => ?_, fun _ h => by omega,
        fun _ _ htripped hpending => ?_⟩
      · rw [htrip, hbad]
        exact SMap.get_put ..
      · obtain ⟨g, hmet, hnoted, hstill⟩ := State.trip_of_met
          (s := s.sampleRail r mV (s.safety.railBad.get 0 r.val + 1)) hpor htripped hpending 2
        rw [hmet]
        exact ⟨hnoted, hstill, rfl, rfl⟩
    · next hthird =>
      exact ⟨rfl, fun h => absurd h.symm Bool.false_ne_true, fun _ => SMap.get_put .., fun _ _ => rfl,
        fun _ h => absurd h hthird⟩

theorem State.raise_out (s : State) (f v : Nat) : s.out ⊆ (s.raise f v).out := by
  unfold State.raise
  split
  · exact fun _ h => h
  · dsimp only
    split
    · exact fun _ h => h
    · exact List.subset_cons_self ..

theorem exec_tripAssert_fields {cause : Nat} {d : Word} (h : s.safety.tripPending = some (cause, d)) : ∃ t : State,
    exec .tripAssert s = .next t ∧
      t.safety = { s.safety with tripPending := none, tripped := true, tripCause := cause, tripTick := d } ∧
      t.pins = { s.pins with tripN := true } ∧ Output.aer 0 3 ∈ t.out ∧
      (s.silent 0 = false → (t.ctx 0).host.intStatus = (s.ctx 0).host.intStatus ||| ((1 : BitVec 11) <<< 10)) ∧
      t.cores = s.cores ∧ t.hbmMem = s.hbmMem := by
  refine ⟨State.raise (State.emit { s with
    safety := { s.safety with tripPending := none, tripped := true, tripCause := cause, tripTick := d }
    pins := { s.pins with tripN := true } } (.aer 0 3)) 0 10, ?_, ?_, ?_, State.raise_out _ 0 10 List.mem_cons_self,
    fun hsilent => ?_, ?_, ?_⟩
  · change execTripAssert s = _
    simp only [execTripAssert, h]
    rfl
  · rw [State.raise_eq]
    rfl
  · rw [State.raise_eq]
    rfl
  · exact congrArg HostFn.intStatus (State.raise_host (s := State.emit { s with
      safety := { s.safety with tripPending := none, tripped := true, tripCause := cause, tripTick := d }
      pins := { s.pins with tripN := true } } (.aer 0 3)) hsilent 10)
  · rw [State.raise_eq]
    rfl
  · rw [State.raise_eq]
    rfl

theorem State.logEvent_logSeq {s : State} {severity : Nat} (h : s.cfgNum 0x7020 4 ≤ severity) (source code : Nat)
    (args : List Nat) : (s.logEvent severity source code args).fw.logSeq = s.fw.logSeq + 1 := by
  unfold State.logEvent
  rw [if_neg (Nat.not_lt.2 h), State.raiseQueue_eq]

end

/-- Settles O48: a window's start by its refills; samples and trips each by its lemma. -/
theorem energyAndTrips : Obligations.EnergyAndTrips := by
  unfold Obligations.EnergyAndTrips
  intro s
  refine ⟨fun measured hwindow hfirst hlocked hcmds => exec_energyWindowStart_fields hwindow hfirst hlocked hcmds,
    fun measured h => congrArg Host.Outcome.next (if_pos h), ?_, fun hpor => ?_, fun h => ?_, fun cause d h => exec_tripAssert_fields h,
    fun h => ?_, fun htripped hstopped => ?_, fun h => ?_⟩
  · intro pends
    refine ⟨fun mC hpor => ?_, fun r mV hpor => exec_railSample_fields hpor r mV, fun hpor htripped hpending => ?_⟩
    · obtain ⟨t, hexec, henergy, hbelow, hmet⟩ := exec_thermalSample_fields hpor mC
      refine ⟨t, hexec, by rw [henergy]; rfl, fun h => ?_, fun h => ?_, fun h hwarn => ?_, fun h hcool => ?_,
        fun d h hcool hlong => ?_, hbelow, hmet⟩
      · rw [henergy, Energy.thermal_warn_of_hot _ _ (by omega), decide_eq_true h, Bool.true_or]
      · rw [henergy, Energy.thermal_coolSince, if_neg (Int.not_lt.2 h)]
      · rw [henergy, Energy.thermal_warn_of_hot _ _ h, hwarn, Bool.or_true]
      · rw [henergy, Energy.thermal_coolSince, if_pos h, hcool]
        rfl
      · rw [henergy, Energy.thermal_warn_of_calm h hcool hlong]
    · obtain ⟨f, hmet, hnoted, hstill⟩ := State.trip_of_met hpor htripped hpending 3
      exact ⟨_, congrArg Host.Outcome.next hmet, ⟨hnoted, hstill, rfl, rfl⟩, rfl⟩
  · exact ⟨congrArg Host.Outcome.next (if_pos (by simp [hpor])),
      fun mC => congrArg Host.Outcome.next (if_neg (by simp [hpor])), fun r mV => exec_railSample_of_in (.inl hpor)⟩
  · refine congrArg Host.Outcome.next (if_pos ?_)
    rcases h with h | h
    · simp [h]
    · simp [Option.isSome_iff_ne_none.2 h]
  · change execTripAssert s = _
    simp only [execTripAssert, h]
  · refine ⟨_, congrArg Host.Outcome.next (if_pos (by simp [htripped, hstopped])), ?_, ?_,
      fun hlog => State.logEvent_logSeq (s := { s with
        safety := { s.safety with stopped := true }, hbm := { s.hbm with selfRefresh := true } }) hlog _ _ _, ?_, ?_⟩ <;>
    rw [State.logEvent_eq]
  · refine congrArg Host.Outcome.next (if_neg ?_)
    rcases h with h | h <;> simp [h]

end Sys2Proof.Machine
end

section
namespace Sys2Proof.Machine

/-! ## SPDM and IDE -/

section
variable {s : State}

theorem exec_getMeasurements (hlink : s.pcie.linkUp = true) (i : BitVec 8) : exec (.getMeasurements i) s =
    .next (if i = 0 then s.spdmAnswer (toLe 1 6)
      else if i = 0xFF then s.spdmAnswer ((List.range 6).flatMap fun i => s.measureBlock (i + 1))
      else s.spdmAnswer (if i.toNat ≤ 6 then s.measureBlock i.toNat else [])) :=
  congrArg Host.Outcome.next (if_neg (by simp [hlink]))

theorem exec_getMeasurements_of_one (hlink : s.pcie.linkUp = true) {i : BitVec 8} (hzero : i ≠ 0) (hall : i ≠ 0xFF) :
    exec (.getMeasurements i) s =
      .next (s.spdmAnswer (if i.toNat ≤ 6 then s.measureBlock i.toNat else [])) := by
  rw [exec_getMeasurements hlink, if_neg hzero, if_neg hall]

theorem exec_ideKm_of_session (hlink : s.pcie.linkUp = true) (hsession : s.pcie.spdmSession ≠ none) (st : Fin 4) (key : Bytes) :
    exec (.ideKm st key) s = .next { s with pcie := { s.pcie with
      ideKeys := s.pcie.ideKeys.put st.val (some key), ideInsecure := s.pcie.ideInsecure.filter (· != st.val) } } :=
  congrArg Host.Outcome.next (if_pos (by rw [hlink, Option.isSome_iff_ne_none.2 hsession]; rfl))

theorem exec_ideKm_of_none (h : s.pcie.linkUp = false ∨ s.pcie.spdmSession = none) (st : Fin 4) (key : Bytes) :
    exec (.ideKm st key) s = .next s := by
  refine congrArg Host.Outcome.next (if_neg ?_)
  rcases h with h | h <;> simp [h]

end

/-! ## The I²C target -/

theorem exec_i2cRead_eq (s : State) (n : Nat) : exec (.i2cRead n) s = .next (State.emit
    { s with pins := { s.pins with i2cPointer := s.pins.i2cPointer + BitVec.ofNat 8 n } }
    (.i2c (tabulate (fun i => s.i2cByte ((s.pins.i2cPointer.toNat + i) % 256)) n))) := by
  have hpointer : BitVec.ofNat 8 (s.pins.i2cPointer.toNat + n) = s.pins.i2cPointer + BitVec.ofNat 8 n := by
    rw [BitVec.ofNat_add, BitVec.ofNat_toNat, BitVec.setWidth_eq]
  rw [← hpointer]
  rfl

/-- Settles O49: each answer is what its definition emits; the I²C bytes are those of the map from the pointer on. -/
theorem attestationAndPorts : Obligations.AttestationAndPorts := by
  unfold Obligations.AttestationAndPorts
  intro s
  refine ⟨?_, ⟨rfl, rfl, rfl, rfl⟩, fun hlink => ?_, fun st => ?_, fun st key hlink hsession => ?_,
    fun st key h => exec_ideKm_of_none h st key, fun hstage => ?_, fun hstage => ?_, fun n => ?_, ?_, rfl,
    fun p => rfl, fun p q rest => rfl⟩
  · intro answers all hlink
    refine ⟨?_, ?_, fun i hzero hle => ?_, fun i hall hlt => ?_, fun nonce => congrArg Host.Outcome.next (if_pos hlink),
      fun peer => congrArg Host.Outcome.next (if_pos hlink)⟩
    · exact exec_getMeasurements hlink 0
    · exact exec_getMeasurements hlink 0xFF
    · refine (exec_getMeasurements_of_one hlink hzero (by rintro rfl; exact absurd hle (by decide))).trans ?_
      rw [if_pos hle]
      rfl
    · refine (exec_getMeasurements_of_one hlink (by rintro rfl; exact absurd hlt (by decide)) hall).trans ?_
      rw [if_neg (Nat.not_le.2 hlt)]
      rfl
  · exact ⟨fun i => congrArg Host.Outcome.next (if_pos (by simp [hlink])),
      fun nonce => congrArg Host.Outcome.next (if_neg (by simp [hlink])),
      fun peer => congrArg Host.Outcome.next (if_neg (by simp [hlink]))⟩
  · refine ⟨_, rfl, ?_, fun x hx => ?_, rfl⟩ <;> dsimp only <;> split
    · next h => simpa using h
    · exact List.mem_cons_self
    · exact Iff.rfl
    · rw [List.mem_cons, or_iff_right hx]
  · refine ⟨_, exec_ideKm_of_session hlink hsession st key, SMap.get_put .., ?_, fun x hx => ⟨?_, ?_⟩⟩
    · simp
    · simp [hx]
    · exact SMap.get_put_ne _ _ _ _ _ hx
  · have hanswers : s.portAnswers = true := decide_eq_true hstage
    refine ⟨fun src => congrArg Host.Outcome.next (if_pos hanswers), fun src b => congrArg Host.Outcome.next (if_pos hanswers),
      fun a ha => congrArg Host.Outcome.next (if_pos ?_), fun a ha => congrArg Host.Outcome.next (if_neg ?_)⟩
    · rw [hanswers, ha]
      rfl
    · simp [ha]
  · have hsilent : s.portAnswers = false := decide_eq_false hstage
    refine ⟨fun src => congrArg Host.Outcome.next (if_neg ?_), fun src b => congrArg Host.Outcome.next (if_neg ?_),
      fun a => congrArg Host.Outcome.next (if_neg ?_)⟩ <;>
    simp [hsilent]
  · refine ⟨_, exec_i2cRead_eq s n, tabulate_length .., fun i hi => ?_⟩
    rw [tabulate_getD _ _ hi]
  · exact ⟨rfl, rfl⟩

end Sys2Proof.Machine
end

section
namespace Sys2Proof.Machine

/-! ## Control messages queued on links -/

theorem mem_insertBy {α : Type} (key : α → Nat) (x y : α) (l : List α) : y ∈ insertBy key x l ↔ y = x ∨ y ∈ l := by
  induction l with
  | nil => simp [insertBy]
  | cons z l ih =>
    unfold insertBy
    split
    · simp
    · rw [List.mem_cons, ih, List.mem_cons]
      exact or_left_comm

theorem State.queueControl_link (s : State) (l : Nat) (msg : Bytes) : (s.queueControl l msg).link l =
    { s.link l with control := insertBy (fun m => (m.headD 0).toNat) msg (s.link l).control } :=
  s.updLink_link l _

/-- Links that differ from those of the state by control messages added to their queues. -/
def State.LinksQueued (s : State) (m : SMap Link) : Prop :=
  ∀ l, ∃ q, m.get {} l = { s.link l with control := q } ∧ ∀ x ∈ (s.link l).control, x ∈ q

theorem State.LinksQueued.refl (s : State) : s.LinksQueued s.links := fun _ => ⟨_, rfl, fun _ h => h⟩

theorem State.LinksQueued.trans {s : State} {m m' : SMap Link} (h : s.LinksQueued m)
    (h' : State.LinksQueued { s with links := m } m') : s.LinksQueued m' := fun l => by
  obtain ⟨q, hq, hold⟩ := h l
  obtain ⟨q', hq', hold'⟩ := h' l
  have hlink : State.link { s with links := m } l = { s.link l with control := q } := hq
  rw [hlink] at hq' hold'
  exact ⟨q', hq', fun x hx => hold' x (hold x hx)⟩

theorem State.LinksQueued.mem {s : State} {m : SMap Link} (h : s.LinksQueued m) {l : Nat} {x : Bytes}
    (hx : x ∈ (s.link l).control) : x ∈ (m.get {} l).control := by
  obtain ⟨q, hq, hold⟩ := h l
  rw [hq]
  exact hold x hx

theorem State.linksQueued_queueControl (s : State) (l : Nat) (msg : Bytes) : s.LinksQueued (s.queueControl l msg).links := by
  intro j
  by_cases hj : j = l
  · subst hj
    exact ⟨_, s.queueControl_link j msg, fun x hx => (mem_insertBy _ _ _ _).2 (.inr hx)⟩
  · exact ⟨_, State.updLink_link_ne _ _ _ _ hj, fun x hx => hx⟩

/-- A message, the same whatever the links hold, queued on each link of a list. -/
theorem State.foldl_queueControl (f : State → Bytes) (ls : List Nat) (s : State) (hf : ∀ m, f { s with links := m } = f s) :
    ∃ m, ls.foldl (fun s l => s.queueControl l (f s)) s = { s with links := m } ∧ s.LinksQueued m ∧
      (∀ l ∈ ls, f s ∈ (m.get {} l).control) ∧ (∀ l, l ∉ ls → m.get {} l = s.link l) := by
  induction ls generalizing s with
  | nil => exact ⟨_, rfl, .refl s, fun l h => absurd h List.not_mem_nil, fun _ _ => rfl⟩
  | cons k ls ih =>
    have hsame : f (s.queueControl k (f s)) = f s := hf _
    obtain ⟨m, hm, hqueued, hin, hout⟩ := ih (s.queueControl k (f s)) fun m => (hf m).trans hsame.symm
    refine ⟨m, hm, (s.linksQueued_queueControl k (f s)).trans hqueued, fun l hl => ?_, fun l hl => ?_⟩
    · rcases List.mem_cons.1 hl with rfl | hrest
      · refine State.LinksQueued.mem hqueued ?_
        rw [State.queueControl_link]
        exact (mem_insertBy _ _ _ _).2 (.inl rfl)
      · rw [← hsame]
        exact hin l hrest
    · rw [List.mem_cons, not_or] at hl
      rw [hout l hl.2, State.queueControl, State.updLink_link_ne _ _ _ _ hl.1]

/-- The same over links by their numbers. -/
theorem State.foldl_queueControl_links (f : State → Bytes) (ls : List LinkId) (s : State)
    (hf : ∀ m, f { s with links := m } = f s) :
    ∃ m, ls.foldl (fun s l => s.queueControl l.val (f s)) s = { s with links := m } ∧ s.LinksQueued m ∧
      (∀ l ∈ ls, f s ∈ (m.get {} l.val).control) ∧ (∀ l : LinkId, l ∉ ls → m.get {} l.val = s.link l.val) := by
  obtain ⟨m, hm, hqueued, hin, hout⟩ := State.foldl_queueControl f (ls.map Fin.val) s hf
  rw [List.foldl_map] at hm
  refine ⟨m, hm, hqueued, fun l hl => hin _ (List.mem_map_of_mem hl), fun l hl => hout _ fun hmem => hl ?_⟩
  obtain ⟨k, hk, he⟩ := List.mem_map.1 hmem
  rwa [← Fin.ext he]

/-! ## The tick unit -/

section
variable {s : State}

theorem State.updTick_congr {f g : TickUnit → TickUnit} (h : f s.tick = g s.tick) : s.updTick f = s.updTick g := by
  unfold State.updTick
  rw [h]

theorem exec_tickMarkerSend_fields (hstate : s.tick.state ≠ 0) (hsent : s.tick.markerSent.toNat ≠ s.now / 1024 * 1024) :
    ∃ t : State, exec .tickMarkerSend s = .next t ∧
      (∀ l ∈ s.tick.downstream, s.markerBytes (controlTick (s.now / 1024 * 1024)) ∈ (t.link l.val).control) ∧
      (∀ l : LinkId, l ∉ s.tick.downstream → t.link l.val = s.link l.val) ∧
      t.tick = { s.tick with markerSent := BitVec.ofNat 64 (s.now / 1024 * 1024) } ∧ t.ctxs = s.ctxs ∧ t.cores = s.cores := by
  obtain ⟨m, hm, -, hin, hout⟩ :=
    State.foldl_queueControl_links (fun u => u.markerBytes (controlTick (s.now / 1024 * 1024))) s.tick.downstream s fun _ => rfl
  refine ⟨_, congrArg Host.Outcome.next (if_neg (not_or.2 ⟨hstate, hsent⟩)), ?_⟩
  dsimp only
  rw [hm]
  exact ⟨hin, hout, rfl, rfl, rfl⟩

/-- The tick unit of a mirroring secondary takes its depth from a marker of its primary. -/
def TickUnit.deepen (t : TickUnit) (secondary : Bool) (m : Marker) : TickUnit :=
  if secondary then { t with depth := m.depth + 1 } else t

theorem TickUnit.deepen_eq (t : TickUnit) (b : Bool) (m : Marker) : t.deepen b m = { t with depth := (t.deepen b m).depth } := by
  unfold TickUnit.deepen
  split <;> rfl

@[simp] theorem TickUnit.deepen_state (t : TickUnit) (b : Bool) (m : Marker) : (t.deepen b m).state = t.state := by
  rw [TickUnit.deepen_eq]

@[simp] theorem TickUnit.deepen_byMarker (t : TickUnit) (b : Bool) (m : Marker) : (t.deepen b m).byMarker = t.byMarker := by
  rw [TickUnit.deepen_eq]

@[simp] theorem TickUnit.deepen_measured (t : TickUnit) (b : Bool) (m : Marker) : (t.deepen b m).measured = t.measured := by
  rw [TickUnit.deepen_eq]

@[simp] theorem TickUnit.deepen_now (t : TickUnit) (b : Bool) (m : Marker) : (t.deepen b m).now = t.now := by
  rw [TickUnit.deepen_eq]

/-- What a marker does to a tick unit that takes it. -/
def TickUnit.takeMarker (t : TickUnit) (m : Marker) (r : Nat) (up : Bool) : TickUnit :=
  if (m.state = 3 ∨ m.state = 4) ∧ (t.state = 2 ∨ t.state = 5) then
    { t with state := 3, holdover := true, elapsed := m.elapsed, downAt := none, byMarker := true }
  else if (m.state = 1 ∨ m.state = 2 ∨ m.state = 5) ∧ (t.state = 3 ∨ t.state = 4) ∧ t.byMarker = true ∧ up = true then
    t.toSlewing r
  else if (m.state = 1 ∨ m.state = 2 ∨ m.state = 5) ∧ (t.state = 2 ∨ t.state = 5) ∧ t.measured = true then
    { t with residual := r }
  else t

/-- The primary of a mirroring secondary is at link 8. -/
def State.fromPrimary (s : State) (l : LinkId) : Bool := decide (s.pair.role = 2 ∧ s.pair.state = 1 ∧ l = 8)

theorem State.takeMarker_eq (s : State) (l : LinkId) (m : Marker) (arrival : Nat) : s.takeMarker l.val m arrival =
    s.updTick fun t => (t.deepen (s.fromPrimary l) m).takeMarker m (t.markerResidual l.val m arrival)
      ((s.link l.val).state == .up) := by
  unfold State.takeMarker
  refine State.updTick_congr ?_
  have hlink : l.val = 8 ↔ l = 8 := ⟨fun h => Fin.ext h, fun h => congrArg Fin.val h⟩
  simp only [TickUnit.takeMarker, TickUnit.deepen, State.fromPrimary, hlink, decide_eq_true_eq, Bool.and_eq_true,
    Bool.or_eq_true, beq_iff_eq, and_assoc, or_assoc]

theorem exec_tickMarkerReceive (l : LinkId) (m : Marker) (arrival : Nat) : exec (.tickMarkerReceive l m arrival) s =
    .next (if s.tick.upstream = some l ∧ s.tick.state ≠ 0 ∧ s.tick.state ≠ 1 then s.updTick fun t =>
      (t.deepen (s.fromPrimary l) m).takeMarker m (t.markerResidual l.val m arrival) ((s.link l.val).state == .up)
    else s) := by
  rw [← State.takeMarker_eq]
  rfl

/-! What a marker does, by the states of the sender and of the follower. -/

section
variable {t : TickUnit} {m : Marker} {r : Nat} {up : Bool}

theorem TickUnit.takeMarker_of_held (hm : m.state = 3 ∨ m.state = 4) (ht : t.state = 2 ∨ t.state = 5) : t.takeMarker m r up =
    { t with state := 3, holdover := true, elapsed := m.elapsed, downAt := none, byMarker := true } :=
  if_pos ⟨hm, ht⟩

theorem TickUnit.takeMarker_of_free (hm : m.state = 1 ∨ m.state = 2 ∨ m.state = 5) : t.takeMarker m r up =
    if (t.state = 3 ∨ t.state = 4) ∧ t.byMarker = true ∧ up = true then t.toSlewing r
    else if (t.state = 2 ∨ t.state = 5) ∧ t.measured = true then { t with residual := r }
    else t := by
  have hheld : ¬(m.state = 3 ∨ m.state = 4) := by
    rcases hm with hm | hm | hm <;> rw [hm] <;> decide
  unfold TickUnit.takeMarker
  rw [if_neg fun h => hheld h.1]
  simp only [hm, true_and]

theorem TickUnit.takeMarker_of_release (hm : m.state = 1 ∨ m.state = 2 ∨ m.state = 5) (ht : t.state = 3 ∨ t.state = 4)
    (hby : t.byMarker = true) : t.takeMarker m r true = t.toSlewing r := by
  rw [TickUnit.takeMarker_of_free hm, if_pos ⟨ht, hby, rfl⟩]

theorem TickUnit.takeMarker_of_own (hm : m.state = 1 ∨ m.state = 2 ∨ m.state = 5) (ht : t.state = 3 ∨ t.state = 4)
    (hby : t.byMarker = false ∨ up = false) : t.takeMarker m r up = t := by
  have hfollow : ¬(t.state = 2 ∨ t.state = 5) := by
    rcases ht with ht | ht <;> rw [ht] <;> decide
  rw [TickUnit.takeMarker_of_free hm, if_neg ?_, if_neg fun h => hfollow h.1]
  rintro ⟨-, hby', hup⟩
  rcases hby with h | h
  · exact Bool.false_ne_true (h.symm.trans hby')
  · exact Bool.false_ne_true (h.symm.trans hup)

theorem TickUnit.takeMarker_of_follow (hm : m.state = 1 ∨ m.state = 2 ∨ m.state = 5) (ht : t.state = 2 ∨ t.state = 5)
    (hmeasured : t.measured = true) : t.takeMarker m r up = { t with residual := r } := by
  have hheld : ¬(t.state = 3 ∨ t.state = 4) := by
    rcases ht with ht | ht <;> rw [ht] <;> decide
  rw [TickUnit.takeMarker_of_free hm, if_neg fun h => hheld h.1, if_pos ⟨ht, hmeasured⟩]

end

theorem TickUnit.holdoverDue_of_some {t : TickUnit} {d : Word} (h : t.downAt = some d) :
    t.holdoverDue = decide (d.toNat + 16 ≤ t.now.toNat) := by
  simp only [TickUnit.holdoverDue, h]

theorem TickUnit.holdoverDue_of_none {t : TickUnit} (h : t.downAt = none) : t.holdoverDue = false := by
  simp only [TickUnit.holdoverDue, h]

theorem TickUnit.enterHoldover_of_follow {t : TickUnit} (h : t.state = 2 ∨ t.state = 5) : t.enterHoldover =
    { t with state := 3, holdover := true, elapsed := 0, downAt := none, byMarker := false } :=
  if_pos (by simpa only [Bool.or_eq_true, beq_iff_eq] using h)

theorem TickUnit.longDue_iff (t : TickUnit) : t.longDue = true ↔ t.state = 3 ∧ 6250000 ≤ t.elapsed.toNat := by
  simp only [TickUnit.longDue, Bool.and_eq_true, beq_iff_eq, decide_eq_true_eq]
  rfl

theorem TickUnit.slewDue_iff (t : TickUnit) : t.slewDue = true ↔
    t.slewTick.toNat + 1024 ≤ t.now.toNat ∧ (t.state = 2 ∨ (t.state = 5 ∧ t.measured = true)) := by
  simp only [TickUnit.slewDue, Bool.and_eq_true, Bool.or_eq_true, beq_iff_eq, decide_eq_true_eq]

theorem TickUnit.slew_eq (t : TickUnit) : t.slew =
    if t.state = 5 ∧ t.residual - 1024 ≤ 1024 then
      { t with residual := t.residual - 1024, slewTick := t.now, state := 2, holdover := false, elapsed := 0 }
    else { t with residual := t.residual - 1024, slewTick := t.now } := by
  simp only [TickUnit.slew, Bool.and_eq_true, beq_iff_eq, decide_eq_true_eq]
  rfl

end

/-- Settles O31: a marker by the states of its sender and of the follower; the other events of the tick unit by their
conditions. -/
theorem tickUnitEvents : Obligations.TickUnitEvents := by
  unfold Obligations.TickUnitEvents
  intro s
  refine ⟨?_, fun l m arrival => ?_, fun d hd => ⟨fun hdue hstate => ?_, fun hnot => ?_⟩, fun hnone => ?_,
    fun hstate hlong => congrArg Host.Outcome.next (if_pos (s.tick.longDue_iff.2 ⟨hstate, hlong⟩)), fun h => ?_,
    fun htime => ⟨fun hstate hmeasured hres => ?_, fun hstate hmeasured hres => ?_, fun hstate => ?_⟩, fun h => ?_,
    fun l hup hlink => ?_, fun l hup hlink => ?_, fun hnone => ?_⟩
  · exact ⟨exec_tickMarkerSend_fields, fun h => congrArg Host.Outcome.next (if_pos h)⟩
  · intro r free secondary deep
    refine ⟨fun h => ?_, fun hup h0 h1 => ?_⟩
    · rw [exec_tickMarkerReceive, if_neg]
      rintro ⟨hup, h0, h1⟩
      exact h.elim (fun h => h hup) fun h => h.elim h0 h1
    · have hdeep : deep = fun t => t.deepen (s.fromPrimary l) m := by
        funext t
        simp only [TickUnit.deepen, State.fromPrimary, decide_eq_true_eq, deep, secondary]
      rw [hdeep, exec_tickMarkerReceive, if_pos ⟨hup, h0, h1⟩]
      refine ⟨fun hm ht => ?_, fun hm ht hby hlink => ?_, fun hm ht hby => ?_, fun hm ht hmeasured => ?_⟩ <;>
        refine congrArg Host.Outcome.next (State.updTick_congr ?_)
      · exact TickUnit.takeMarker_of_held hm (by rwa [TickUnit.deepen_state])
      · rw [hlink]
        refine (TickUnit.takeMarker_of_release hm (by rwa [TickUnit.deepen_state]) (by rwa [TickUnit.deepen_byMarker])).trans ?_
        simp only [TickUnit.toSlewing, TickUnit.deepen_now]
        rfl
      · exact TickUnit.takeMarker_of_own hm (by rwa [TickUnit.deepen_state])
          (by rw [TickUnit.deepen_byMarker]; exact hby.imp_right fun h => beq_eq_false_iff_ne.2 h)
      · exact TickUnit.takeMarker_of_follow hm (by rwa [TickUnit.deepen_state]) (by rwa [TickUnit.deepen_measured])
  · refine (congrArg Host.Outcome.next (if_pos ?_)).trans
      (congrArg Host.Outcome.next (State.updTick_congr (TickUnit.enterHoldover_of_follow hstate)))
    rw [TickUnit.holdoverDue_of_some hd]
    exact decide_eq_true hdue
  · refine congrArg Host.Outcome.next (if_neg ?_)
    rw [TickUnit.holdoverDue_of_some hd, decide_eq_true_eq]
    exact Nat.not_le.2 hnot
  · refine congrArg Host.Outcome.next (if_neg ?_)
    rw [TickUnit.holdoverDue_of_none hnone]
    exact Bool.false_ne_true
  · refine congrArg Host.Outcome.next (if_neg ?_)
    rw [TickUnit.longDue_iff]
    rintro ⟨hstate, hlong⟩
    exact h.elim (fun h => h hstate) fun h => absurd hlong (Nat.not_le.2 h)
  · refine (congrArg Host.Outcome.next (if_pos (s.tick.slewDue_iff.2 ⟨htime, .inr ⟨hstate, hmeasured⟩⟩))).trans
      (congrArg Host.Outcome.next (State.updTick_congr ?_))
    rw [TickUnit.slew_eq, if_neg fun h => by omega]
  · refine (congrArg Host.Outcome.next (if_pos (s.tick.slewDue_iff.2 ⟨htime, .inr ⟨hstate, hmeasured⟩⟩))).trans
      (congrArg Host.Outcome.next (State.updTick_congr ?_))
    rw [TickUnit.slew_eq, if_pos ⟨hstate, by omega⟩]
  · refine (congrArg Host.Outcome.next (if_pos (s.tick.slewDue_iff.2 ⟨htime, .inl hstate⟩))).trans
      (congrArg Host.Outcome.next (State.updTick_congr ?_))
    rw [TickUnit.slew_eq, if_neg fun h => by rw [hstate] at h; exact absurd h.1 (by decide)]
  · refine congrArg Host.Outcome.next (if_neg ?_)
    rw [TickUnit.slewDue_iff]
    rintro ⟨htime, hstate⟩
    rcases h with h | ⟨h2, h5⟩
    · exact absurd htime (Nat.not_le.2 h)
    · rcases hstate with hstate | ⟨hstate, hmeasured⟩
      · exact h2 hstate
      · exact h5.elim (fun h => h hstate) fun h => Bool.false_ne_true (h.symm.trans hmeasured)
  · change execFrequencyLock s = _
    simp only [execFrequencyLock, hup, hlink, if_true]
  · change execFrequencyLock s = _
    simp only [execFrequencyLock, hup, hlink, if_false]
  · change execFrequencyLock s = _
    simp only [execFrequencyLock, hnone]

end Sys2Proof.Machine
end

section
namespace Sys2Proof.Machine

/-! ## What the lead's map operations leave: messages queued on links, the tree links and the topology -/

section
variable (s : State)

theorem State.flood_eq (msg : Bytes) : ∃ m, s.flood msg = { s with links := m } ∧ s.LinksQueued m ∧
    ∀ l < 12, (s.link l).state = .up → msg ∈ (m.get {} l).control := by
  obtain ⟨m, hm, hqueued, hin, -⟩ := State.foldl_queueControl (fun _ => msg) s.upLinks s fun _ => rfl
  refine ⟨m, hm, hqueued, fun l hl hup => hin l ?_⟩
  exact List.mem_filter.2 ⟨List.mem_range.2 hl, beq_iff_eq.2 hup⟩

theorem State.foldl_flood (f : State → Nat × Nat × Nat → Bytes) (ls : List (Nat × Nat × Nat)) :
    ∃ m, ls.foldl (fun s d => s.flood (f s d)) s = { s with links := m } ∧ s.LinksQueued m := by
  induction ls generalizing s with
  | nil => exact ⟨_, rfl, .refl s⟩
  | cons d ls ih =>
    obtain ⟨m, hm, hqueued, -⟩ := s.flood_eq (f s d)
    obtain ⟨m', hm', hqueued'⟩ := ih { s with links := m }
    rw [List.foldl_cons, hm]
    exact ⟨m', hm', hqueued.trans hqueued'⟩

/-- The downstream links of the tree that the lead chooses. -/
def State.leadLinks : List LinkId :=
  ((List.range 12).filter (bit (s.treeDown s.tree s.topo.selfAddr.toNat (s.mapEntry s.topo.selfAddr.toNat)))).map
    (Fin.ofNat 12)

theorem State.chooseTree_eq : ∃ m d, s.chooseTree = { s with links := m, tick := { s.tick with downstream := d } } ∧
    s.LinksQueued m := by
  obtain ⟨m, hm, hqueued⟩ := State.foldl_flood (s.updTick fun t => { t with downstream := s.leadLinks })
    (fun u d => ctlBytes 5 (toLe 2 d.1 ++ toLe 1 d.2.2 ++ toLe 1 d.2.1 ++ toLe 2 (u.treeDown s.tree d.1 (u.mapEntry d.1))))
    (s.tree.filter fun d => d.1 != s.topo.selfAddr.toNat)
  exact ⟨m, _, hm, hqueued⟩

theorem State.newRoutes_eq : ∃ m, s.newRoutes = { s with
    links := m, topo := { s.topo with routeChange := some s.tick.now, nextRoutes := s.routeEntries } } ∧ s.LinksQueued m := by
  obtain ⟨m, hm, hqueued, -⟩ := State.flood_eq
    { s with topo := { s.topo with routeChange := some s.tick.now, nextRoutes := s.routeEntries } } (ctlBytes 5 (toLe 8 s.now))
  exact ⟨m, hm, hqueued⟩

theorem State.mapChanged_eq (addrs : List Nat) : ∃ m, s.mapChanged addrs = { s with
    links := m, topo := { s.topo with mapVersion := s.topo.mapVersion + 1 } } ∧ s.LinksQueued m := by
  obtain ⟨m, hm, hqueued, -⟩ := State.flood_eq { s with topo := { s.topo with mapVersion := s.topo.mapVersion + 1 } }
    (mapBytes (s.topo.mapVersion + 1) (addrs.map fun a => (BitVec.ofNat 16 a, BitVec.ofNat 64 (s.mapEntry a).word)))
  exact ⟨m, hm, hqueued⟩

/-- The map has changed and the tree is chosen anew. -/
theorem State.mapChanged_chooseTree_eq (addrs : List Nat) : ∃ m d, (s.mapChanged addrs).chooseTree = { s with
    links := m, tick := { s.tick with downstream := d }, topo := { s.topo with mapVersion := s.topo.mapVersion + 1 } } ∧
    s.LinksQueued m := by
  obtain ⟨m, hm, hqueued⟩ := s.mapChanged_eq addrs
  obtain ⟨m', d, hm', hqueued'⟩ := (s.mapChanged addrs).chooseTree_eq
  rw [hm] at hm' hqueued'
  rw [hm]
  exact ⟨m', d, hm', hqueued.trans hqueued'⟩

/-- The map has changed, the tree is chosen anew and a new route table waits. -/
theorem State.mapChanged_newRoutes_eq (addrs : List Nat) : ∃ m d r, (s.mapChanged addrs).chooseTree.newRoutes = { s with
    links := m, tick := { s.tick with downstream := d }
    topo := { s.topo with
      mapVersion := s.topo.mapVersion + 1, routeChange := some s.tick.now, nextRoutes := r } } ∧ s.LinksQueued m := by
  obtain ⟨m, d, hm, hqueued⟩ := s.mapChanged_chooseTree_eq addrs
  obtain ⟨m', hm', hqueued'⟩ := (s.mapChanged addrs).chooseTree.newRoutes_eq
  rw [hm] at hm' hqueued'
  rw [hm]
  exact ⟨m', d, _, hm', hqueued.trans hqueued'⟩

/-! ## Entries of the map -/

/-- The tick of the DEPARTED mark that an entry gets. -/
def State.departTick (addr : Nat) (e : MapEntry) : Option Word :=
  if e.dev ≠ .departed then none
  else if (s.mapEntry addr).dev = .departed then (s.mapEntry addr).departedAt else some s.tick.now

theorem State.putEntry_eq (addr : Nat) (e : MapEntry) : s.putEntry addr e = { s with
    topo := { s.topo with map := s.topo.map.put addr { e with departedAt := s.departTick addr e } } } := rfl

/-- The entry of the map that a report gives. -/
def State.reportEntry (r : Report) : MapEntry :=
  let old := s.mapEntry r.addr.toNat
  { dev := s.reportedState old r (old.conflicts r), linkMask := r.linkMask
    serialDigest := BitVec.ofNat 32 (leNat ((Sha.sha384 (toLe 16 r.serial.toNat)).take 4)), serial := r.serial
    signature := r.signature, extents := r.extents, express := r.express, pairRole := r.pairRole
    downSince := if r.linkMask ≠ 0 then none else if old.linkMask ≠ 0 then some s.tick.now else old.downSince
    conflict := old.conflicts r }

theorem State.takeReport_of_reportEntry (r : Report) : s.takeReport r =
    if (s.mapEntry r.addr.toNat).word = (s.reportEntry r).word then s.putEntry r.addr.toNat (s.reportEntry r)
    else if (s.mapEntry r.addr.toNat).linkMask = (s.reportEntry r).linkMask ∧
        (s.mapEntry r.addr.toNat).dev = (s.reportEntry r).dev then
      ((s.putEntry r.addr.toNat (s.reportEntry r)).mapChanged [r.addr.toNat]).chooseTree
    else ((s.putEntry r.addr.toNat (s.reportEntry r)).mapChanged [r.addr.toNat]).chooseTree.newRoutes := rfl

/-- The topology after a report, but for its waiting routes. -/
def State.reportedTopo (r : Report) : Topo :=
  { s.topo with
    map := s.topo.map.put r.addr.toNat { s.reportEntry r with departedAt := s.departTick r.addr.toNat (s.reportEntry r) }
    mapVersion := if (s.mapEntry r.addr.toNat).word = (s.reportEntry r).word then s.topo.mapVersion
      else s.topo.mapVersion + 1 }

/-- A report of the map's old word changes its entry alone; another is flooded, and leads to new routes where the links or
the state of the device changed. -/
theorem State.takeReport_eq (r : Report) : ∃ m d c n, s.takeReport r = { s with
    links := m, tick := { s.tick with downstream := d }
    topo := { s.reportedTopo r with routeChange := c, nextRoutes := n } } ∧ s.LinksQueued m ∧
    ((s.mapEntry r.addr.toNat).word ≠ (s.reportEntry r).word →
      ((s.mapEntry r.addr.toNat).linkMask ≠ r.linkMask ∨ (s.mapEntry r.addr.toNat).dev ≠ (s.reportEntry r).dev) →
      c = some s.tick.now) := by
  rw [State.takeReport_of_reportEntry]
  by_cases hword : (s.mapEntry r.addr.toNat).word = (s.reportEntry r).word
  · rw [if_pos hword, State.putEntry_eq]
    refine ⟨s.links, s.tick.downstream, s.topo.routeChange, s.topo.nextRoutes, ?_, .refl s, fun h => absurd hword h⟩
    rw [State.reportedTopo, if_pos hword]
  · rw [if_neg hword]
    by_cases hsame : (s.mapEntry r.addr.toNat).linkMask = (s.reportEntry r).linkMask ∧
        (s.mapEntry r.addr.toNat).dev = (s.reportEntry r).dev
    · obtain ⟨m, d, hm, hqueued⟩ := (s.putEntry r.addr.toNat (s.reportEntry r)).mapChanged_chooseTree_eq [r.addr.toNat]
      rw [if_pos hsame, hm, State.putEntry_eq]
      refine ⟨m, d, s.topo.routeChange, s.topo.nextRoutes, ?_, hqueued,
        fun _ h => absurd hsame (Classical.not_and_iff_not_or_not.2 h)⟩
      rw [State.reportedTopo, if_neg hword]
    · obtain ⟨m, d, n, hm, hqueued⟩ := (s.putEntry r.addr.toNat (s.reportEntry r)).mapChanged_newRoutes_eq [r.addr.toNat]
      rw [if_neg hsame, hm, State.putEntry_eq]
      refine ⟨m, d, some s.tick.now, n, ?_, hqueued, fun _ _ => rfl⟩
      rw [State.reportedTopo, if_neg hword]

theorem State.passReport_eq (r : Report) : ∃ m o, s.passReport r = { s with links := m, out := o } ∧ s.LinksQueued m := by
  unfold State.passReport
  split
  · exact ⟨_, _, rfl, .refl s⟩
  · exact ⟨_, _, rfl, s.linksQueued_queueControl _ _⟩

/-- A report of the own links: messages on links, the tree links, the topology. On a device that does not lead the topology
stays. -/
theorem State.reportLinks_eq : ∃ m d p o, s.reportLinks = { s with
    links := m, tick := { s.tick with downstream := d }, topo := p, out := o } ∧ s.LinksQueued m ∧
    (s.topo.role ≠ 1 → p = s.topo ∧ d = s.tick.downstream) := by
  unfold State.reportLinks
  split
  · next hrole =>
    obtain ⟨m, d, c, n, hm, hqueued, -⟩ := s.takeReport_eq s.ownReport
    rw [hm]
    exact ⟨m, d, _, s.out, rfl, hqueued, fun h => absurd hrole h⟩
  · split
    · obtain ⟨m, o, hm, hqueued⟩ := s.passReport_eq s.ownReport
      rw [hm]
      exact ⟨m, s.tick.downstream, s.topo, o, rfl, hqueued, fun _ => ⟨rfl, rfl⟩⟩
    · exact ⟨s.links, s.tick.downstream, s.topo, s.out, rfl, .refl s, fun _ => ⟨rfl, rfl⟩⟩

theorem State.reportLinks_of_unplaced {s : State} (hrole : s.topo.role ≠ 1) (hplaced : s.topo.positioned = false) :
    s.reportLinks = s := by
  unfold State.reportLinks
  rw [if_neg hrole, if_neg (by simp [hplaced])]

/-- A report leaves every field of a link but its control messages. -/
theorem State.reportLinks_link (l : Nat) : ∃ q, s.reportLinks.link l = { s.link l with control := q } := by
  obtain ⟨m, d, p, o, hm, hqueued, -⟩ := s.reportLinks_eq
  obtain ⟨q, hq, -⟩ := hqueued l
  rw [hm]
  exact ⟨q, hq⟩

end

end Sys2Proof.Machine
end

section
namespace Sys2Proof.Machine

/-! ## The lead's map after reports and departures -/

section
variable {s : State} {r : Report}

theorem State.reportEntry_dev (s : State) (r : Report) : (s.reportEntry r).dev =
    s.reportedState (s.mapEntry r.addr.toNat) r ((s.mapEntry r.addr.toNat).conflicts r) := rfl

/-- What a report claims is wrong. -/
def State.badReport (s : State) (r : Report) : Bool :=
  (s.mapEntry r.addr.toNat).conflicts r || r.signature != BitVec.ofNat 128 (leNat s.signature) || r.extents != s.topo.extents

theorem State.badReport_iff (s : State) (r : Report) : s.badReport r = true ↔ (s.mapEntry r.addr.toNat).conflicts r = true ∨
    r.signature ≠ BitVec.ofNat 128 (leNat s.signature) ∨ r.extents ≠ s.topo.extents := by
  simp only [State.badReport, Bool.or_eq_true, bne_iff_ne, or_assoc]

theorem State.reportedState_eq (s : State) (r : Report) :
    s.reportedState (s.mapEntry r.addr.toNat) r ((s.mapEntry r.addr.toNat).conflicts r) =
      match (s.mapEntry r.addr.toNat).dev with
      | .admitted => if s.badReport r then .quarantined else .admitted
      | .quarantined => .quarantined
      | .departed => .quarantined
      | _ => if s.badReport r || s.mapLocked then .quarantined else .present := by
  unfold State.reportedState State.badReport
  rfl

/-- An entry of the map after another, or itself, was replaced. -/
theorem State.mapEntry_put {s : State} {m : SMap MapEntry} {addr : Nat} {e : MapEntry} (h : s.topo.map = m.put addr e) :
    s.mapEntry addr = e ∧ ∀ a, a ≠ addr → s.mapEntry a = m.get {} a := by
  unfold State.mapEntry
  rw [h]
  exact ⟨SMap.get_put .., fun a ha => SMap.get_put_ne _ _ _ _ _ ha⟩

/-- What tells links and state of a device apart is in its word. -/
theorem MapEntry.word_inj {a b : MapEntry} (h : a.word = b.word) : a.linkMask = b.linkMask ∧ a.dev = b.dev := by
  have hcode : ∀ d : DevState, d.code < 8 := fun d => by cases d <;> decide
  have ha := hcode a.dev
  have hb := hcode b.dev
  have hla := a.linkMask.isLt
  have hlb := b.linkMask.isLt
  unfold MapEntry.word at h
  refine ⟨BitVec.eq_of_toNat_eq (by omega), ?_⟩
  have hdev : a.dev.code = b.dev.code := by omega
  revert hdev
  cases a.dev <;> cases b.dev <;> simp [DevState.code]

theorem exec_discoveryReport (hrole : s.topo.role = 1) (r : Report) : exec (.discoveryReport r) s = .next (s.takeReport r) :=
  congrArg Host.Outcome.next (if_neg fun h => h hrole)

/-- The lead's state after the departure of a device. -/
def State.markDeparted (s : State) (a : Nat) : State :=
  ((s.putEntry a { s.mapEntry a with dev := .departed }).mapChanged [a]).chooseTree.newRoutes

theorem State.markDeparted_eq (s : State) (a : Nat) (h : (s.mapEntry a).dev ≠ .departed) : ∃ m l n, s.markDeparted a = { s with
    links := m, tick := { s.tick with downstream := l }
    topo := { s.topo with
      map := s.topo.map.put a { s.mapEntry a with dev := .departed, departedAt := some s.tick.now }
      mapVersion := s.topo.mapVersion + 1, routeChange := some s.tick.now, nextRoutes := n } } := by
  obtain ⟨m, l, n, hm, -⟩ := (s.putEntry a { s.mapEntry a with dev := .departed }).mapChanged_newRoutes_eq [a]
  have htick : s.departTick a { s.mapEntry a with dev := .departed } = some s.tick.now :=
    (if_neg fun hne => hne rfl).trans (if_neg h)
  refine ⟨m, l, n, hm.trans ?_⟩
  rw [State.putEntry_eq, htick]

theorem exec_deviceDepart {a : BitVec 16} {d : Word} (hdown : (s.mapEntry a.toNat).downSince = some d) :
    exec (.deviceDepart a) s = .next (if s.topo.role ≠ 1 ∨ s.now < d.toNat + 65536 ∨ (s.mapEntry a.toNat).dev = .absent ∨
      (s.mapEntry a.toNat).dev = .departed then s else s.markDeparted a.toNat) := by
  change execDeviceDepart a s = _
  unfold execDeviceDepart State.markDeparted
  simp only [hdown]

theorem exec_routeTableSwitch {d : Word} (hd : s.topo.routeChange = some d) : exec .routeTableSwitch s =
    .next (if s.now < d.toNat + 65536 then s else { s with topo := { s.topo with
      routeMap := s.topo.nextRoutes, routeChange := none, nextRoutes := [] } }) := by
  change execRouteTableSwitch s = _
  simp only [execRouteTableSwitch, hd]

end

/-- Settles O36: a report by the entry that it gives and what its change leads to; a departure in the same way. -/
theorem topologyFollowsReports : Obligations.TopologyFollowsReports := by
  unfold Obligations.TopologyFollowsReports
  intro s
  refine ⟨fun r hrole => ?_, fun r hrole => congrArg Host.Outcome.next (if_pos hrole), fun a d hdown => ?_,
    fun a hnone => ?_, fun d hd => ?_, fun hnone => ?_⟩
  · intro old bad
    obtain ⟨m, d, c, n, hm, -, hroutes⟩ := s.takeReport_eq r
    have hbad : s.badReport r = true ↔ bad := s.badReport_iff r
    have hput : (s.takeReport r).topo.map = s.topo.map.put r.addr.toNat
        { s.reportEntry r with departedAt := s.departTick r.addr.toNat (s.reportEntry r) } := by
      rw [hm]
      rfl
    obtain ⟨hentry, hother⟩ := State.mapEntry_put hput
    have hdev := (s.reportEntry_dev r).trans (s.reportedState_eq r)
    refine ⟨_, exec_discoveryReport hrole r, ?_⟩
    rw [hentry]
    dsimp only
    refine ⟨rfl, rfl, fun h hnot => ?_, fun h hyes => ?_, fun h => ?_, fun h hnot hlock => ?_, fun h hyes => ?_,
      hother, ?_, ?_, fun h => ?_, ?_, ?_, ?_⟩
    · rw [hdev, show (s.mapEntry r.addr.toNat).dev = _ from h]
      exact if_neg fun hb => hnot (hbad.1 hb)
    · rw [hdev, show (s.mapEntry r.addr.toNat).dev = _ from h]
      exact if_pos (hbad.2 hyes)
    · rw [hdev]
      rcases h with h | h <;> rw [show (s.mapEntry r.addr.toNat).dev = _ from h]
    · have hclean : (s.badReport r || s.mapLocked) = false := by
        rw [Bool.or_eq_false_iff, ← Bool.not_eq_true, hbad]
        exact ⟨hnot, hlock⟩
      rw [hdev]
      rcases h with h | h <;> rw [show (s.mapEntry r.addr.toNat).dev = _ from h] <;> simp [hclean]
    · have hdirty : (s.badReport r || s.mapLocked) = true := by
        rw [Bool.or_eq_true, hbad]
        exact hyes
      rw [hdev]
      rcases h with h | h <;> rw [show (s.mapEntry r.addr.toNat).dev = _ from h] <;> simp [hdirty]
    · rw [hm]
      rfl
    · rw [hm]
      rfl
    · have hword : (s.mapEntry r.addr.toNat).word ≠ (s.reportEntry r).word := fun hword => by
        obtain ⟨hmask, hstate⟩ := MapEntry.word_inj hword
        exact h.elim (fun h => h hmask) fun h => h hstate
      rw [hm]
      exact hroutes hword h
    all_goals rw [hm]
  · refine ⟨fun hrole htime habsent hdeparted => ?_, fun h => ?_⟩
    · obtain ⟨m, l, n, hm⟩ := s.markDeparted_eq a.toNat hdeparted
      have hput : (s.markDeparted a.toNat).topo.map = s.topo.map.put a.toNat
          { s.mapEntry a.toNat with dev := .departed, departedAt := some s.tick.now } := by rw [hm]
      obtain ⟨hentry, hother⟩ := State.mapEntry_put hput
      refine ⟨s.markDeparted a.toNat, ?_, by rw [hentry], by rw [hentry], hother, ?_, ?_, ?_, ?_, ?_⟩
      · rw [exec_deviceDepart hdown, if_neg]
        rintro (h | h | h | h)
        · exact h hrole
        · exact absurd htime (Nat.not_le.2 h)
        · exact habsent h
        · exact hdeparted h
      all_goals rw [hm]
    · rw [exec_deviceDepart hdown, if_pos h]
  · change execDeviceDepart a s = _
    simp only [execDeviceDepart, hnone]
  · refine ⟨fun htime => ?_, fun htime => ?_⟩
    · rw [exec_routeTableSwitch hd, if_neg (Nat.not_lt.2 htime)]
    · rw [exec_routeTableSwitch hd, if_pos htime]
  · change execRouteTableSwitch s = _
    simp only [execRouteTableSwitch, hnone]

end Sys2Proof.Machine
end

section
namespace Sys2Proof.Machine

/-! ## Training states of a link -/

section
variable {l : LinkId} {s : State}

theorem State.inTime_of_limit {n : Nat} (h : (s.link l.val).state.limit = some n) :
    s.inTime l.val = decide (s.now ≤ (s.link l.val).since.toNat + n) := by
  simp only [State.inTime, h]

/-- A state that has a limit goes on to the next only within it. -/
theorem inTime_iff {st : LinkState} {n : Nat} (hlimit : st.limit = some n) :
    ((s.link l.val).state = st ∧ s.inTime l.val = true) ↔
      (s.link l.val).state = st ∧ s.now ≤ (s.link l.val).since.toNat + n := by
  refine and_congr_right fun hst => ?_
  rw [State.inTime_of_limit (hst ▸ hlimit), decide_eq_true_eq]

theorem exec_linkEqualised_of_not (h : (s.link l.val).state ≠ .equalise ∨ (s.link l.val).since.toNat + 31250000 < s.now) :
    exec (.linkEqualised l) s = .next s := by
  refine congrArg Host.Outcome.next (if_neg ?_)
  rw [inTime_iff rfl]
  rintro ⟨hst, htime⟩
  exact h.elim (fun h => h hst) fun h => absurd htime (Nat.not_le.2 h)

theorem exec_linkAligned_of_not (h : (s.link l.val).state ≠ .align ∨ (s.link l.val).since.toNat + 62500 < s.now) :
    exec (.linkAligned l) s = .next s := by
  refine congrArg Host.Outcome.next (if_neg ?_)
  rw [inTime_iff rfl]
  rintro ⟨hst, htime⟩
  exact h.elim (fun h => h hst) fun h => absurd htime (Nat.not_le.2 h)

theorem exec_linkAligned (hst : (s.link l.val).state = .align) (htime : s.now ≤ (s.link l.val).since.toNat + 62500) :
    exec (.linkAligned l) s = .next (((s.updLink l.val Link.resetSeries).enter l.val .identity).sendIdentity l.val) :=
  congrArg Host.Outcome.next (if_pos ((inTime_iff rfl).2 ⟨hst, htime⟩))

theorem State.enter_link (s : State) (l : Nat) (st : LinkState) :
    (s.enter l st).link l = { s.link l with state := st, since := s.tick.now } := s.updLink_link l _

theorem exec_linkStateTimeout {n : Nat} (h : (s.link l.val).state.limit = some n) : exec (.linkStateTimeout l) s =
    .next (if s.now < (s.link l.val).since.toNat + n then s
      else s.updLink l.val fun k => { k with state := .down, since := s.tick.now, retryAt := s.tick.now + 625000 }) := by
  change execLinkStateTimeout l s = _
  simp only [execLinkStateTimeout, h]

/-! ## Identity blocks -/

/-- The peer that an identity block names is noted. -/
def State.notePeer (s : State) (l : Nat) (b : IdBlock) : State :=
  s.updLink l fun k => { k with
    peerAddr := if b.role = 0 then 0xFFFF else b.addr, peerLink := b.sendLink, peerRole := b.role, peerId := some b }

theorem State.notePeer_link_state (s : State) (l : Nat) (b : IdBlock) : ((s.notePeer l b).link l).state = (s.link l).state := by
  unfold State.notePeer
  rw [State.updLink_link]

theorem State.miswired_of_sendLink {s : State} {l : Nat} {b : IdBlock} (h : b.sendLink.toNat ≠ peerLink l) :
    s.miswired l b = true := by
  simp [State.miswired, h]

/-- A block on a link that takes none. -/
theorem exec_identityReceive_of_not {b : IdBlock} (hid : (s.link l.val).state ≠ .identity)
    (hup : (s.link l.val).state ≠ .up) (hq : (s.link l.val).state ≠ .quarantined) :
    exec (.identityReceive l b) s = .next s :=
  congrArg Host.Outcome.next (if_pos ⟨hid, hup, hq⟩)

theorem identityTaken_iff : ((s.link l.val).state = .identity ∨ (s.link l.val).state = .up ∨
    (s.link l.val).state = .quarantined) ↔ ¬((s.link l.val).state ≠ .identity ∧ (s.link l.val).state ≠ .up ∧
      (s.link l.val).state ≠ .quarantined) := by
  rw [ne_eq, ne_eq, ne_eq, ← not_or, ← not_or, Classical.not_not]

/-- A block whose signature fails. -/
theorem exec_identityReceive_of_unsigned {b : IdBlock} (htaken : (s.link l.val).state = .identity ∨
    (s.link l.val).state = .up ∨ (s.link l.val).state = .quarantined) (hsig : b.sigOk = false) :
    exec (.identityReceive l b) s = .next (if (s.link l.val).state = .identity then
      s.updLink l.val fun k => { k with idFailures := satAdd k.idFailures 1 } else s) :=
  (congrArg Host.Outcome.next (if_neg (identityTaken_iff.1 htaken))).trans
    (congrArg Host.Outcome.next (if_pos (by rw [hsig]; rfl)))

/-- A block whose signature holds. -/
theorem exec_identityReceive_of_signed {b : IdBlock} (htaken : (s.link l.val).state = .identity ∨
    (s.link l.val).state = .up ∨ (s.link l.val).state = .quarantined) (hsig : b.sigOk = true) :
    exec (.identityReceive l b) s = .next (if s.miswired l.val b then ((s.notePeer l.val b).enter l.val .miswired).reportLinks
      else if (s.link l.val).state = .identity then (s.notePeer l.val b).enter l.val .delay
      else (s.notePeer l.val b).reportLinks) :=
  (congrArg Host.Outcome.next (if_neg (identityTaken_iff.1 htaken))).trans
    (congrArg Host.Outcome.next (if_neg (by rw [hsig]; exact Bool.false_ne_true)))

theorem State.reportLinks_link_state (s : State) (l : Nat) : (s.reportLinks.link l).state = (s.link l).state := by
  obtain ⟨q, hq⟩ := s.reportLinks_link l
  rw [hq]

end

/-- Settles O32: each state of a link within and after its time; an identity block by its signature and its wiring. -/
theorem linksTrain : Obligations.LinksTrain := by
  unfold Obligations.LinksTrain
  intro l s k moved
  refine ⟨fun hst hstage hen htime => congrArg Host.Outcome.next (if_pos ⟨hst, hstage, hen, htime⟩), fun h => ?_,
    fun hst htime => congrArg Host.Outcome.next (if_pos ((inTime_iff rfl).2 ⟨hst, htime⟩)), exec_linkEqualised_of_not,
    fun hst htime => ?_, exec_linkAligned_of_not, fun n hn => ⟨fun htime => ?_, fun htime => ?_⟩, fun hnone => ?_, rfl, rfl,
    rfl, rfl, fun b => ?_⟩
  · refine congrArg Host.Outcome.next (if_neg ?_)
    rintro ⟨hst, hstage, hen, htime⟩
    rcases h with h | h | h | h
    · exact h hst
    · exact h hstage
    · exact Bool.false_ne_true (h.symm.trans hen)
    · exact absurd htime (Nat.not_le.2 h)
  · have hlink : (((s.updLink l.val Link.resetSeries).enter l.val .identity).sendIdentity l.val).link l.val =
        { (s.link l.val).resetSeries with state := .identity, since := s.tick.now } :=
      (State.enter_link _ l.val .identity).trans (by rw [State.updLink_link]; rfl)
    refine ⟨_, exec_linkAligned hst htime, hlink, ?_, ?_, ?_, ?_, fun m hm => ?_, rfl⟩
    · rw [hlink]
      rfl
    · rw [hlink]
      rfl
    · rw [hlink]
      rfl
    · have hself : Fin.ofNat 12 l.val = l := Fin.ext (Nat.mod_eq_of_lt l.isLt)
      unfold State.sendIdentity
      rw [hself]
      rfl
    · rw [State.sendIdentity, show ∀ (u : State) o, (u.emit o).link m = u.link m from fun _ _ => rfl, State.enter,
        State.updLink_link_ne _ _ _ _ hm, State.updLink_link_ne _ _ _ _ hm]
  · rw [exec_linkStateTimeout hn, if_neg (Nat.not_lt.2 htime)]
  · rw [exec_linkStateTimeout hn, if_pos htime]
  · change execLinkStateTimeout l s = _
    have hlimit : (s.link l.val).state.limit = none := hnone
    simp only [execLinkStateTimeout, hlimit]
  · intro noted
    refine ⟨fun hst hsig => ?_, fun hst hsig => ?_, fun hst hsig hwire => ?_, fun hst hsig hwire => ?_,
      fun hst hsig hwire => ?_, State.miswired_of_sendLink, exec_identityReceive_of_not⟩
    · rw [exec_identityReceive_of_unsigned (.inl hst) hsig, if_pos hst]
    · have hid : (s.link l.val).state ≠ .identity := by
        rcases hst with hst | hst <;> rw [show (s.link l.val).state = _ from hst] <;> decide
      rw [exec_identityReceive_of_unsigned (.inr hst) hsig, if_neg hid]
    · refine (exec_identityReceive_of_signed (.inl hst) hsig).trans ?_
      rw [if_neg (by rw [hwire]; exact Bool.false_ne_true), if_pos hst]
      rfl
    · have hexec := exec_identityReceive_of_signed hst hsig
      rw [if_pos hwire] at hexec
      refine ⟨hexec, ?_, fun hrole hplaced => hexec.trans (congrArg Host.Outcome.next (State.reportLinks_of_unplaced hrole hplaced))⟩
      rw [State.reportLinks_link_state]
      exact congrArg Link.state (State.enter_link _ l.val .miswired)
    · have hid : (s.link l.val).state ≠ .identity := by
        rcases hst with hst | hst <;> rw [show (s.link l.val).state = _ from hst] <;> decide
      have hexec := exec_identityReceive_of_signed (.inr hst) hsig
      rw [if_neg (by rw [hwire]; exact Bool.false_ne_true), if_neg hid] at hexec
      refine ⟨hexec, ?_, fun hrole hplaced => hexec.trans (congrArg Host.Outcome.next (State.reportLinks_of_unplaced hrole hplaced))⟩
      rw [State.reportLinks_link_state]
      exact s.notePeer_link_state l.val b

end Sys2Proof.Machine
end

section
namespace Sys2Proof.Machine

/-! ## Identity blocks sent, and a device that becomes lead -/

theorem State.foldl_sendIdentity (ls : List Nat) (s : State) :
    ∃ o, ls.foldl (fun s l => s.sendIdentity l) s = { s with out := o } := by
  induction ls generalizing s with
  | nil => exact ⟨_, rfl⟩
  | cons l ls ih =>
    obtain ⟨o, h⟩ := ih (s.sendIdentity l)
    exact ⟨o, h⟩

theorem State.logPosition_eq (s : State) : ∃ f o, s.logPosition = { s with fw := f, out := o } := by
  unfold State.logPosition
  rw [State.logEvent_eq]
  exact ⟨_, _, rfl⟩

/-- A device that becomes lead: its role and address as lead, its tick as master, its map, and messages on its links. -/
theorem State.becomeLead_eq (s : State) : ∃ m d p, s.becomeLead = { s with
    links := m, tick := { s.tick.toMaster s.topo.selfAddr with downstream := d }
    topo := { s.topo with role := 1, leadAddr := s.topo.selfAddr, map := p, mapVersion := s.topo.mapVersion + 1 } } ∧
    s.LinksQueued m := by
  obtain ⟨m, d, hm, hqueued⟩ := State.mapChanged_chooseTree_eq (State.putEntry { s with
    topo := { s.topo with role := 1, leadAddr := s.topo.selfAddr }, tick := s.tick.toMaster s.topo.selfAddr }
    s.topo.selfAddr.toNat (State.ownEntry { s with
      topo := { s.topo with role := 1, leadAddr := s.topo.selfAddr }, tick := s.tick.toMaster s.topo.selfAddr }))
    [s.topo.selfAddr.toNat]
  exact ⟨m, d, _, hm, hqueued⟩

section
variable {s : State}

/-- The device that leads from address 0. -/
def State.leadsFromZero (s t : State) : Prop :=
  t.topo.positioned = true ∧ t.topo.selfAddr = 0 ∧ t.topo.role = 1 ∧ t.topo.leadAddr = 0 ∧ t.topo.elected = true ∧
    t.topo.extents = 0 ∧ t.tick.state = 1 ∧ t.tick.now = s.tick.now ∧ t.ctxs = s.ctxs

/-- The device takes address 0. -/
def State.takeZero (s : State) : State :=
  { s with topo := { s.topo with elected := true, positioned := true, selfAddr := 0, extents := 0 } }

theorem State.leadsFromZero_becomeLead (s : State) : s.leadsFromZero s.takeZero.becomeLead.logPosition := by
  obtain ⟨m, d, p, hlead, -⟩ := s.takeZero.becomeLead_eq
  obtain ⟨f, o, hlog⟩ := s.takeZero.becomeLead.logPosition_eq
  rw [hlog, hlead]
  exact ⟨rfl, rfl, rfl, rfl, rfl, rfl, rfl, rfl, rfl⟩

/-- A lower SERIAL has been received. -/
def State.lowerSerial (s : State) : Bool :=
  match s.topo.lowestSerial with
  | none => false
  | some x => decide (x.toNat < s.ident.serial.toNat)

theorem exec_electionComplete {d : Word} (hd : s.topo.lastTorusUp = some d) : exec .electionComplete s =
    .next (if s.topo.elected ∨ s.topo.positioned ∨ s.fw.stage ≠ 2 ∨ s.now < d.toNat + 65536 then s
      else if s.lowerSerial then { s with topo := { s.topo with elected := true } }
      else (s.takeZero.becomeLead.logPosition.upLinks.foldl (fun s l => s.sendIdentity l) s.takeZero.becomeLead.logPosition)) := by
  change execElectionComplete s = _
  unfold execElectionComplete State.lowerSerial State.takeZero
  rw [hd] <;> rfl

theorem exec_soloLead (hstage : s.fw.stage = 2) (hplaced : s.topo.positioned = false) (hup : s.topo.lastTorusUp = none)
    (htime : s.fw.startTick.toNat + 156250000 ≤ s.now) :
    exec .soloLead s = .next s.takeZero.becomeLead.logPosition := by
  refine congrArg Host.Outcome.next (if_neg ?_)
  simp [hstage, hplaced, hup, htime]

/-! ## Positions -/

theorem coordOf_le (addr : Nat) {a : Nat} (h : a < 4) : coordOf addr a ≤ 15 := by
  have hwidth : 15 - 4 * a + 1 - (12 - 4 * a) = 4 := by omega
  unfold coordOf bits
  rw [hwidth]
  exact Nat.le_of_lt_succ (Nat.mod_lt _ (by decide))

/-- The lead learns the extent of an axis from an offer over its minus link with no coordinate on another axis. -/
theorem State.closeAxis_of_closing {l peer : Nat} (hl : l < 8) (hminus : l % 2 = 0)
    (haxis : ∀ b < 4, b ≠ l / 2 → coordOf peer b = 0) : s.closeAxis l peer = { s with topo := { s.topo with
      extents := BitVec.ofNat 16 (withCoord s.topo.extents.toNat (l / 2) (coordOf peer (l / 2))) } } := by
  have hany : ((List.range 4).any fun b => b != l / 2 && coordOf peer b != 0) = false := by
    rw [List.any_eq_false]
    intro b hb
    rw [List.mem_range] at hb
    by_cases hbl : b = l / 2
    · simp [hbl]
    · simp [haxis b hb hbl]
  have hle := coordOf_le peer (a := l / 2) (by omega)
  unfold State.closeAxis
  dsimp only
  rw [if_neg (by rw [hany]; simp [hminus]), if_neg (by omega)]

theorem State.closeAxis_of_other {l peer : Nat} (h : l % 2 = 1 ∨ ∃ b < 4, b ≠ l / 2 ∧ coordOf peer b ≠ 0) :
    s.closeAxis l peer = s := by
  refine if_pos (h.imp_right fun ⟨b, hb, hbl, hco⟩ => ?_)
  exact List.any_eq_true.2 ⟨b, List.mem_range.2 hb, by simp [hbl, hco]⟩

theorem exec_positionAssign {l : LinkId} (hl : l.val < 8) (hstage : s.fw.stage = 2) (hup : (s.link l.val).state = .up)
    (hfailed : s.topo.positionFailed = false) (peer ext : BitVec 16) : exec (.positionAssign l peer ext) s =
      .next (if s.topo.role = 1 then s.closeAxis l.val peer.toNat
        else if !s.topo.positioned then s.takePosition (impliedAddr ext.toNat l.val peer.toNat) ext
        else if s.topo.selfAddr.toNat = impliedAddr ext.toNat l.val peer.toNat then
          { s with topo := { s.topo with extents := ext } }
        else { s with topo := { s.topo with positioned := false, positionFailed := true, role := 0 } }) := by
  refine congrArg Host.Outcome.next (if_neg ?_)
  simp [hstage, hup, hfailed, Nat.not_le.2 hl]

theorem State.takePosition_eq (s : State) (addr : Nat) (ext : BitVec 16) : ∃ f o, s.takePosition addr ext = { s with
    topo := { s.topo with
      positioned := true, selfAddr := BitVec.ofNat 16 addr, extents := ext
      role := if s.cfgNum 0x9010 2 = addr then 2 else 3 }
    fw := f, out := o } := by
  obtain ⟨f, o, hlog⟩ := State.logPosition_eq { s with topo := { s.topo with
    positioned := true, selfAddr := BitVec.ofNat 16 addr, extents := ext
    role := if s.cfgNum 0x9010 2 = addr then 2 else 3 } }
  unfold State.takePosition
  dsimp only
  rw [hlog]
  obtain ⟨o', hid⟩ := State.foldl_sendIdentity _ _
  exact ⟨f, o', hid⟩

end

/-- Settles O37: the election by the serials received, and a position by the offer of a peer. -/
theorem positionsAreTaken : Obligations.PositionsAreTaken := by
  unfold Obligations.PositionsAreTaken
  intro s leads
  refine ⟨fun d hd helected hplaced hstage htime => ?_, fun d hd htime => ?_, fun h => ?_, fun hstage hplaced hup htime => ?_,
    fun h => congrArg Host.Outcome.next (if_pos h), fun l peer ext hl hstage hup hfailed => ?_, fun l peer ext h => ?_⟩
  · have hgo : ¬(s.topo.elected = true ∨ s.topo.positioned = true ∨ s.fw.stage ≠ 2 ∨ s.now < d.toNat + 65536) := by
      simp [helected, hplaced, hstage, htime]
    refine ⟨fun hlow => ?_, fun x hx hlt => ?_⟩
    · have hlowest : s.lowerSerial = false := by
        unfold State.lowerSerial
        split
        · rfl
        · next x hx => exact decide_eq_false (Nat.not_lt.2 (hlow x hx))
      obtain ⟨o, hid⟩ := State.foldl_sendIdentity s.takeZero.becomeLead.logPosition.upLinks s.takeZero.becomeLead.logPosition
      refine ⟨{ s.takeZero.becomeLead.logPosition with out := o }, ?_, s.leadsFromZero_becomeLead⟩
      rw [exec_electionComplete hd, if_neg hgo, hlowest, if_neg Bool.false_ne_true, hid]
    · have hlower : s.lowerSerial = true := by
        unfold State.lowerSerial
        rw [hx]
        exact decide_eq_true hlt
      rw [exec_electionComplete hd, if_neg hgo, if_pos hlower]
  · rw [exec_electionComplete hd, if_pos (.inr (.inr (.inr htime)))]
  · cases hd : s.topo.lastTorusUp with
    | none =>
      change execElectionComplete s = _
      simp only [execElectionComplete, hd]
    | some d =>
      rw [exec_electionComplete hd, if_pos]
      rcases h with h | h | h | h
      · exact absurd (hd.symm.trans h) (by simp)
      · exact .inl h
      · exact .inr (.inl h)
      · exact .inr (.inr (.inl h))
  · exact ⟨_, exec_soloLead hstage hplaced hup htime, s.leadsFromZero_becomeLead⟩
  · intro a
    have hexec := exec_positionAssign hl hstage hup hfailed peer ext
    refine ⟨fun hrole hplaced => ?_, fun hrole hplaced hself => ?_, fun hrole hplaced hself => ?_, fun hrole hminus haxis => ?_,
      fun hrole h => ?_⟩
    · rw [if_neg hrole, if_pos (by simp [hplaced])] at hexec
      obtain ⟨f, o, htake⟩ := s.takePosition_eq a ext
      refine ⟨_, hexec, ?_⟩
      rw [show s.takePosition (impliedAddr ext.toNat l.val peer.toNat) ext = _ from htake]
      exact ⟨rfl, rfl, rfl⟩
    · rw [hexec, if_neg hrole, if_neg (by simp [hplaced]), if_pos hself]
    · rw [hexec, if_neg hrole, if_neg (by simp [hplaced]), if_neg hself]
    · rw [hexec, if_pos hrole, State.closeAxis_of_closing hl hminus haxis]
    · rw [hexec, if_pos hrole, State.closeAxis_of_other h]
  · exact congrArg Host.Outcome.next (if_pos h)

end Sys2Proof.Machine
end

section
namespace Sys2Proof.Machine

/-! ## Taking the lead, and obeying a new one -/

section
variable (s : State)

/-- The next epoch begins at this tick. -/
def State.nextEpoch : State :=
  { s with topo := { s.topo with leadEpoch := s.topo.leadEpoch + 1, leadChangeTick := s.tick.now } }

theorem State.takeLeadRole_of_nextEpoch : s.takeLeadRole =
    s.nextEpoch.becomeLead.newRoutes.flood (leadChangeBytes (s.topo.leadEpoch + 1) s.topo.selfAddr) := rfl

/-- The device that leads in the next epoch, with its map and waiting routes. -/
theorem State.nextEpoch_becomeLead_eq : ∃ m d p n, s.nextEpoch.becomeLead.newRoutes = { s with
    links := m, tick := { s.tick.toMaster s.topo.selfAddr with downstream := d }
    topo := { s.topo with
      leadEpoch := s.topo.leadEpoch + 1, leadChangeTick := s.tick.now, role := 1, leadAddr := s.topo.selfAddr, map := p
      mapVersion := s.topo.mapVersion + 1, routeChange := some s.tick.now, nextRoutes := n } } ∧ s.LinksQueued m := by
  obtain ⟨m, d, p, hlead, hqueued⟩ := s.nextEpoch.becomeLead_eq
  obtain ⟨m', hroutes, hqueued'⟩ := s.nextEpoch.becomeLead.newRoutes_eq
  generalize s.nextEpoch.becomeLead.routeEntries = n at hroutes
  rw [hlead] at hroutes hqueued'
  exact ⟨m', d, p, n, by rw [hlead, hroutes]; rfl, State.LinksQueued.trans (s := s) hqueued hqueued'⟩

/-- The device that takes the lead: the next epoch, the tick as its master, the map and waiting routes, and its message on
every link that is UP. -/
theorem State.takeLeadRole_eq : ∃ m d p n, s.takeLeadRole = { s with
    links := m, tick := { s.tick.toMaster s.topo.selfAddr with downstream := d }
    topo := { s.topo with
      leadEpoch := s.topo.leadEpoch + 1, leadChangeTick := s.tick.now, role := 1, leadAddr := s.topo.selfAddr, map := p
      mapVersion := s.topo.mapVersion + 1, routeChange := some s.tick.now, nextRoutes := n } } ∧ s.LinksQueued m ∧
    ∀ l < 12, (s.link l).state = .up → leadChangeBytes (s.topo.leadEpoch + 1) s.topo.selfAddr ∈ (m.get {} l).control := by
  obtain ⟨m, d, p, n, hlead, hqueued⟩ := s.nextEpoch_becomeLead_eq
  obtain ⟨m', hflood, hqueued', hin⟩ := s.nextEpoch.becomeLead.newRoutes.flood_eq
    (leadChangeBytes (s.topo.leadEpoch + 1) s.topo.selfAddr)
  rw [hlead] at hflood hqueued' hin
  refine ⟨m', d, p, n, ?_, State.LinksQueued.trans (s := s) hqueued hqueued', fun l hl hup => hin l hl ?_⟩
  · rw [State.takeLeadRole_of_nextEpoch, hlead, hflood]
  · obtain ⟨q, hq, -⟩ := hqueued l
    exact (congrArg Link.state hq).trans hup

theorem State.cfgTerminal_eq (status reason entry : Nat) : ∃ m p o, s.cfgTerminal status reason entry =
    { s with sets := p, ctxs := m, out := o } := by
  unfold State.cfgTerminal
  rw [State.raise_eq]
  exact ⟨_, _, _, rfl⟩

theorem State.leadChanged_eq : ∃ m p o, s.leadChanged = { s with sets := p, ctxs := m, out := o } := by
  unfold State.leadChanged
  split
  · obtain ⟨m, p, o, h⟩ := State.cfgTerminal_eq { s with sets := { s.sets with
      draft := [], draftState := .empty, preparedEpoch := none
      service := if s.sets.groupActTick.isSome then none else s.sets.service, groupActTick := none } } 0x0A 19 0
    exact ⟨m, p, o, h⟩
  · exact ⟨_, _, _, rfl⟩

/-- The tick unit of a lead that meets a higher epoch. -/
def TickUnit.yields (t : TickUnit) : TickUnit := { t with state := 5, measured := false, downstream := [] }

theorem State.takeLead_of_lower {s : State} {epoch : BitVec 32} (h : epoch.toNat ≤ s.topo.leadEpoch.toNat) (addr : BitVec 16) :
    s.takeLead epoch addr = s :=
  if_pos h

/-- A lead of a higher epoch is obeyed. -/
theorem State.takeLead_of_higher {s : State} {epoch : BitVec 32} (h : s.topo.leadEpoch.toNat < epoch.toNat)
    (addr : BitVec 16) : ∃ m p o, s.takeLead epoch addr = { s with
      topo := { s.topo with
        role := if s.topo.role = 1 then 3 else s.topo.role, leadEpoch := epoch, leadAddr := addr, lastBeat := s.tick.now
        leadChangeTick := s.tick.now }
      tick := { (if s.topo.role = 1 then s.tick.yields else s.tick) with masterAddr := addr }
      sets := p, ctxs := m, out := o } := by
  unfold State.takeLead
  rw [if_neg (Nat.not_le.2 h)]
  by_cases hrole : s.topo.role = 1
  · simp only [if_pos hrole]
    obtain ⟨m, p, o, hlead⟩ := State.leadChanged_eq { s with
      topo := { s.topo with
        role := 3, leadEpoch := epoch, leadAddr := addr, lastBeat := s.tick.now, leadChangeTick := s.tick.now }
      tick := { s.tick.yields with masterAddr := addr } }
    exact ⟨m, p, o, hlead⟩
  · simp only [if_neg hrole]
    obtain ⟨m, p, o, hlead⟩ := State.leadChanged_eq { s with
      topo := { s.topo with
        leadEpoch := epoch, leadAddr := addr, lastBeat := s.tick.now, leadChangeTick := s.tick.now }
      tick := { s.tick with masterAddr := addr } }
    exact ⟨m, p, o, hlead⟩

end

/-! ## Beats -/

section
variable {s : State}

/-- The state after the beat of the lead: it is noted and relayed down the tree. -/
def State.relayBeat (s : State) (epoch mapVersion : BitVec 32) : State :=
  s.tick.downstream.foldl (fun u l => u.queueControl l.val (leadBeatBytes epoch mapVersion))
    { s with topo := { s.topo with lastBeat := s.tick.now, mapVersion := mapVersion } }

theorem State.relayBeat_eq (s : State) (epoch mapVersion : BitVec 32) : ∃ m, s.relayBeat epoch mapVersion = { s with
    links := m, topo := { s.topo with lastBeat := s.tick.now, mapVersion := mapVersion } } ∧
    ∀ l ∈ s.tick.downstream, leadBeatBytes epoch mapVersion ∈ (m.get {} l.val).control := by
  obtain ⟨m, hm, -, hin, -⟩ := State.foldl_queueControl_links (fun _ => leadBeatBytes epoch mapVersion) s.tick.downstream
    { s with topo := { s.topo with lastBeat := s.tick.now, mapVersion := mapVersion } } fun _ => rfl
  exact ⟨m, hm, hin⟩

theorem exec_leadBeatReceive (l : LinkId) (e : BitVec 32) (a : BitVec 16) (v : BitVec 32) :
    exec (.leadBeatReceive l e a v) s = .next (if (s.link l.val).state ≠ .up ∨ e.toNat < s.topo.leadEpoch.toNat then s
      else if (s.takeLead e a).topo.role = 1 then s.takeLead e a else (s.takeLead e a).relayBeat e v) := rfl

theorem exec_leadBeatReceive_of_obeyed {l : LinkId} {e : BitVec 32} (hup : (s.link l.val).state = .up)
    (hle : s.topo.leadEpoch.toNat ≤ e.toNat) (a : BitVec 16) (v : BitVec 32) : exec (.leadBeatReceive l e a v) s =
      .next (if (s.takeLead e a).topo.role = 1 then s.takeLead e a else (s.takeLead e a).relayBeat e v) := by
  rw [exec_leadBeatReceive, if_neg]
  rintro (h | h)
  · exact h hup
  · exact absurd hle (Nat.not_le.2 h)

/-- A follower that obeys a beat notes and relays it. -/
theorem exec_leadBeatReceive_of_follower {l : LinkId} {e : BitVec 32} (hup : (s.link l.val).state = .up)
    (hle : s.topo.leadEpoch.toNat ≤ e.toNat) (hrole : s.topo.role ≠ 1) (a : BitVec 16) (v : BitVec 32) :
    ∃ t : State, exec (.leadBeatReceive l e a v) s = .next t ∧ t.topo.leadEpoch = e ∧ t.topo.lastBeat = s.tick.now ∧
      t.topo.mapVersion = v ∧ (s.topo.leadEpoch.toNat < e.toNat → t.topo.leadAddr = a) ∧ t.topo.role = s.topo.role ∧
      (∀ d ∈ s.tick.downstream, leadBeatBytes e v ∈ (t.link d.val).control) ∧ t.cores = s.cores := by
  have hexec := exec_leadBeatReceive_of_obeyed hup hle a v
  by_cases hlt : s.topo.leadEpoch.toNat < e.toNat
  · obtain ⟨m, p, o, hlead⟩ := State.takeLead_of_higher hlt a
    simp only [if_neg hrole] at hlead
    rw [hlead, if_neg hrole] at hexec
    obtain ⟨m', hrelay, hin⟩ := State.relayBeat_eq { s with
      topo := { s.topo with
        role := s.topo.role, leadEpoch := e, leadAddr := a, lastBeat := s.tick.now, leadChangeTick := s.tick.now }
      tick := { s.tick with masterAddr := a }, sets := p, ctxs := m, out := o } e v
    exact ⟨_, hexec.trans (congrArg Host.Outcome.next hrelay), rfl, rfl, rfl, fun _ => rfl, rfl, hin, rfl⟩
  · have heq : s.topo.leadEpoch = e := BitVec.eq_of_toNat_eq (by omega)
    rw [State.takeLead_of_lower (by omega), if_neg hrole] at hexec
    obtain ⟨m', hrelay, hin⟩ := s.relayBeat_eq e v
    exact ⟨_, hexec.trans (congrArg Host.Outcome.next hrelay), heq, rfl, rfl, fun h => absurd h hlt, rfl, hin, rfl⟩

/-- A lead that obeys a beat of a higher epoch follows it. -/
theorem exec_leadBeatReceive_of_lead {l : LinkId} {e : BitVec 32} (hup : (s.link l.val).state = .up)
    (hlt : s.topo.leadEpoch.toNat < e.toNat) (hrole : s.topo.role = 1) (a : BitVec 16) (v : BitVec 32) :
    ∃ t : State, exec (.leadBeatReceive l e a v) s = .next t ∧ t.topo.role = 3 ∧ t.topo.leadEpoch = e ∧
      t.topo.leadAddr = a ∧ t.tick.state = 5 ∧ t.tick.measured = false ∧ t.tick.now = s.tick.now := by
  have hexec := exec_leadBeatReceive_of_obeyed hup (by omega : s.topo.leadEpoch.toNat ≤ e.toNat) a v
  obtain ⟨m, p, o, hlead⟩ := State.takeLead_of_higher hlt a
  simp only [if_pos hrole] at hlead
  have h31 : ¬(3 : BitVec 8) = 1 := by decide
  rw [hlead, if_neg h31] at hexec
  obtain ⟨m', hrelay, -⟩ := State.relayBeat_eq { s with
    topo := { s.topo with role := 3, leadEpoch := e, leadAddr := a, lastBeat := s.tick.now, leadChangeTick := s.tick.now }
    tick := { s.tick.yields with masterAddr := a }, sets := p, ctxs := m, out := o } e v
  exact ⟨_, hexec.trans (congrArg Host.Outcome.next hrelay), rfl, rfl, rfl, rfl, rfl, rfl⟩

theorem exec_leadBeatSend_fields (hrole : s.topo.role = 1) (htime : s.topo.beatSent.toNat + 65536 ≤ s.now) :
    ∃ t : State, exec .leadBeatSend s = .next t ∧
      (∀ l ∈ s.tick.downstream, leadBeatBytes s.topo.leadEpoch s.topo.mapVersion ∈ (t.link l.val).control) ∧
      t.topo = { s.topo with beatSent := s.tick.now } ∧ t.tick = s.tick ∧ t.ctxs = s.ctxs := by
  obtain ⟨m, hm, -, hin, -⟩ := State.foldl_queueControl_links
    (fun u => leadBeatBytes u.topo.leadEpoch u.topo.mapVersion) s.tick.downstream s fun _ => rfl
  refine ⟨_, congrArg Host.Outcome.next (if_pos ⟨hrole, htime⟩), ?_⟩
  dsimp only
  rw [hm]
  exact ⟨hin, rfl, rfl, rfl⟩

/-- The beats of a primary on the pair links that are UP. -/
theorem foldl_pairBeat (s : State) : ([8, 9].filter fun l => (s.link l).state == .up).foldl
    (fun s l => State.emit s (.pairBeat (Fin.ofNat 12 l))) s = { s with
      out := (if (s.link 9).state = .up then [.pairBeat 9] else []) ++
        (if (s.link 8).state = .up then [.pairBeat 8] else []) ++ s.out } := by
  by_cases h8 : (s.link 8).state = .up
  · by_cases h9 : (s.link 9).state = .up
    · simp [h8, h9, State.emit]
    · simp [h8, h9, State.emit]
  · by_cases h9 : (s.link 9).state = .up
    · simp [h8, h9, State.emit]
    · simp [h8, h9]

theorem exec_pairBeatSend (hrole : s.pair.role = 1) (hstate : s.pair.state = 1)
    (htime : s.pair.beatSent.toNat + 1024 ≤ s.now) : exec .pairBeatSend s = .next { s with
      pair := { s.pair with beatSent := s.tick.now }
      out := (if (s.link 9).state = .up then [.pairBeat 9] else []) ++
        (if (s.link 8).state = .up then [.pairBeat 8] else []) ++ s.out } := by
  refine (congrArg Host.Outcome.next (if_pos ⟨hrole, hstate, htime⟩)).trans ?_
  dsimp only
  rw [foldl_pairBeat]
  rfl

theorem exec_partnerLost_of_primary (hstate : s.pair.state = 1) (hrole : s.pair.role ≠ 2) :
    exec .partnerLost s = .next s.primaryAlone :=
  (congrArg Host.Outcome.next (if_neg fun h => h hstate)).trans (congrArg Host.Outcome.next (if_neg hrole))

theorem exec_partnerLost_of_secondary (hstate : s.pair.state = 1) (hrole : s.pair.role = 2) : exec .partnerLost s =
    .next (if s.now < s.pair.lastBeat.toNat + 16384 then s
      else s.updPair fun p => { p with
        state := 3, partnerLostTick := s.tick.now
        primaryWasLead := s.topo.positioned && s.topo.leadAddr == (s.link 8).peerAddr }) :=
  (congrArg Host.Outcome.next (if_neg fun h => h hstate)).trans (congrArg Host.Outcome.next (if_pos hrole))

end

/-- Settles O38: beats by the epoch they carry and the role of the device that takes them; the partner's loss by its role. -/
theorem beatsAndTakeover : Obligations.BeatsAndTakeover := by
  unfold Obligations.BeatsAndTakeover
  intro s
  refine ⟨exec_leadBeatSend_fields, fun h => ?_, fun l e a v => ⟨fun h => ?_,
    fun hup hle hrole => exec_leadBeatReceive_of_follower hup hle hrole a v,
    fun hup hlt hrole => exec_leadBeatReceive_of_lead hup hlt hrole a v, fun heq hrole => ?_⟩,
    fun hplaced hrole hstandby htime => ?_, fun h => ?_, exec_pairBeatSend, fun h => ?_,
    fun l hrole hl hup => congrArg Host.Outcome.next (if_pos ⟨hrole, hl, hup⟩), fun l h => ?_,
    fun hstate hrole htime => ?_, fun hstate hrole h8 h9 => ?_, fun h => ?_⟩
  · refine congrArg Host.Outcome.next (if_neg ?_)
    rintro ⟨hrole, htime⟩
    exact h.elim (fun h => h hrole) fun h => absurd htime (Nat.not_le.2 h)
  · rw [exec_leadBeatReceive, if_pos h]
  · have hsame : s.takeLead e a = s := State.takeLead_of_lower (Nat.le_of_eq (by rw [heq])) a
    rw [exec_leadBeatReceive, hsame, if_pos hrole, ite_self]
  · obtain ⟨m, d, p, n, hlead, -, hin⟩ := s.takeLeadRole_eq
    refine ⟨_, (congrArg Host.Outcome.next (if_pos ⟨hplaced, hrole, hstandby, htime⟩)).trans
      (congrArg Host.Outcome.next hlead), rfl, rfl, rfl, rfl, rfl, rfl, rfl, rfl, hin⟩
  · refine congrArg Host.Outcome.next (if_neg ?_)
    rintro ⟨hplaced, hrole, hstandby, htime⟩
    rcases h with h | h | h | h
    · exact Bool.false_ne_true (h.symm.trans hplaced)
    · exact hrole h
    · exact h hstandby
    · exact absurd htime (Nat.not_le.2 h)
  · refine congrArg Host.Outcome.next (if_neg ?_)
    rintro ⟨hrole, hstate, htime⟩
    rcases h with h | h | h
    · exact h hrole
    · exact h hstate
    · exact absurd htime (Nat.not_le.2 h)
  · refine congrArg Host.Outcome.next (if_neg ?_)
    rintro ⟨hrole, hl, hup⟩
    rcases h with h | ⟨h8, h9⟩ | h
    · exact h hrole
    · exact hl.elim h8 h9
    · exact h hup
  · refine ⟨_, (exec_partnerLost_of_secondary hstate hrole).trans
      (congrArg Host.Outcome.next (if_neg (Nat.not_lt.2 htime))), rfl, rfl, ?_, rfl, rfl, rfl⟩
    rw [State.updPair, Bool.and_eq_true, beq_iff_eq]
  · refine (exec_partnerLost_of_primary hstate (by rw [hrole]; decide)).trans (congrArg Host.Outcome.next ?_)
    exact if_pos ⟨hrole, hstate, h8, h9⟩
  · by_cases hstate : s.pair.state = 1
    · rcases h with h | ⟨hrole, htime⟩ | ⟨hrole, h⟩
      · exact absurd hstate h
      · rw [exec_partnerLost_of_secondary hstate hrole, if_pos htime]
      · refine (exec_partnerLost_of_primary hstate hrole).trans (congrArg Host.Outcome.next (if_neg ?_))
        rintro ⟨h1, -, h8, h9⟩
        rcases h with h | h | h
        · exact h h1
        · exact h8 h
        · exact h9 h
    · exact congrArg Host.Outcome.next (if_pos hstate)

end Sys2Proof.Machine
end

section
namespace Sys2Proof.Machine

/-! ## The hop delay of a link -/

theorem linkId_ofNat (l : LinkId) : Fin.ofNat 12 l.val = l := Fin.ext (Nat.mod_eq_of_lt l.isLt)

section
variable {l : LinkId} {s : State} {stamps : List Stamps}

theorem State.hopMayStart_iff : s.hopMayStart l.val = true ↔ l ∉ s.tick.downstream ∨ s.tick.aligned = true := by
  simp [State.hopMayStart]

/-- The upstream link of a frequency-locked follower: its delay is used by the tick unit. -/
def State.hopMeasures (s : State) (l : LinkId) : Prop :=
  s.tick.upstream = some l ∧ s.tick.state ≠ 1 ∧ s.tick.freqLocked = true

/-- What a measurement with an offset makes of the tick unit: the first aligns it, a later one starts SLEWING. -/
def TickUnit.MeasuredAs (a : TickUnit) (offset : Int) (b : TickUnit) : Prop :=
  (a.aligned = true → b.state = 5 ∧ b.residual = offset.natAbs ∧ b.measured = true ∧
    b.now = a.now ∧ b.phase = a.phase ∧ b.slewTick = a.now) ∧
  (a.aligned = false →
    let root : Int := 16384 * a.now.toNat + a.phase - offset
    b.state = 2 ∧ b.aligned = true ∧ b.residual = 0 ∧ b.holdover = false ∧
    b.now = BitVec.ofNat 64 (root / 16384).toNat ∧ b.phase = (root % 16384).toNat)

theorem State.useDelay_of_not (h : ¬s.hopMeasures l) (offset : Int) : s.useDelay l.val offset = s := by
  unfold State.useDelay
  refine if_pos ?_
  rw [linkId_ofNat, ← Bool.not_eq_true]
  simpa only [State.hopMeasures, Classical.not_and_iff_not_or_not, Decidable.not_not] using h

theorem State.alignTick_eq (s : State) (offset : Int) : ∃ f o, s.alignTick offset = { s with
    tick := s.tick.align offset, fw := f, out := o } := by
  unfold State.alignTick
  dsimp only
  rw [State.logEvent_eq]
  exact ⟨_, _, rfl⟩

theorem State.useDelay_of_measures (h : s.hopMeasures l) (offset : Int) : ∃ k f o, s.useDelay l.val offset = { s with
    tick := k, fw := f, out := o } ∧ k.hopDelay = s.tick.hopDelay ∧ s.tick.MeasuredAs offset k := by
  obtain ⟨hup, hstate, hlocked⟩ := h
  have hmeasures : ¬(s.tick.upstream ≠ some (Fin.ofNat 12 l.val) ∨ s.tick.state = 1 ∨ s.tick.freqLocked = false) := by
    rw [linkId_ofNat, hup, hlocked]
    exact not_or.2 ⟨Classical.not_not.2 rfl, not_or.2 ⟨hstate, Bool.noConfusion⟩⟩
  unfold State.useDelay
  rw [if_neg hmeasures]
  cases haligned : s.tick.aligned with
  | true =>
    refine ⟨_, _, _, rfl, rfl, fun _ => ⟨rfl, rfl, rfl, rfl, rfl, rfl⟩, fun h => ?_⟩
    rw [haligned] at h
    cases h
  | false =>
    obtain ⟨f, o, halign⟩ := s.alignTick_eq offset
    refine ⟨_, f, o, halign, rfl, fun h => ?_, fun _ => ⟨rfl, rfl, rfl, rfl, rfl, rfl⟩⟩
    rw [haligned] at h
    cases h

/-- The measured delay of a link is noted. -/
def State.noteDelay (s : State) (l : LinkId) (stamps : List Stamps) : State :=
  s.updTick fun t => { t with hopDelay := t.hopDelay.put l.val (BitVec.ofNat 32 (hopDelay stamps)) }

/-- A link's training ends. -/
def State.endTraining (s : State) (l : LinkId) : State :=
  let t := s.updLink l.val fun k => { k with
    state := s.trainedState l.val, since := s.tick.now, peerSerial := k.peerId.map (·.serial) }
  State.reportLinks (if l.val < 8 ∧ s.trainedState l.val = .up then
    { t with topo := { t.topo with lastTorusUp := some t.tick.now } } else t)

/-- A choice between QUARANTINED and UP. -/
theorem LinkState.ite_cases {p : Prop} [Decidable p] :
    (if p then LinkState.quarantined else .up) = .up ∨ (if p then LinkState.quarantined else .up) = .quarantined := by
  split
  · exact .inr rfl
  · exact .inl rfl

theorem State.trainedState_cases (s : State) (l : Nat) : s.trainedState l = .up ∨ s.trainedState l = .quarantined := by
  unfold State.trainedState
  exact LinkState.ite_cases

theorem State.endTraining_eq (s : State) (l : LinkId) : ∃ m d p o, s.endTraining l = { s with
      links := m, tick := { s.tick with downstream := d }, topo := p, out := o } ∧
    (∃ q, (s.endTraining l).link l.val = { s.link l.val with
      state := s.trainedState l.val, since := s.tick.now, peerSerial := (s.link l.val).peerId.map (·.serial), control := q }) ∧
    (∀ j, j ≠ l.val → ∃ q, (s.endTraining l).link j = { s.link j with control := q }) ∧
    (s.topo.role ≠ 1 → p = if l.val < 8 ∧ s.trainedState l.val = .up then { s.topo with lastTorusUp := some s.tick.now }
      else s.topo) := by
  have htrained : ∃ p, s.endTraining l = State.reportLinks { (s.updLink l.val fun k => { k with
        state := s.trainedState l.val, since := s.tick.now, peerSerial := k.peerId.map (·.serial) }) with topo := p } ∧
      p = (if l.val < 8 ∧ s.trainedState l.val = .up then { s.topo with lastTorusUp := some s.tick.now } else s.topo) ∧
      p.role = s.topo.role := by
    unfold State.endTraining
    dsimp only
    split
    · exact ⟨_, rfl, rfl, rfl⟩
    · exact ⟨_, rfl, rfl, rfl⟩
  obtain ⟨p, hend, hp, hrole⟩ := htrained
  rw [hend]
  generalize hu : ({ (s.updLink l.val fun k => { k with
    state := s.trainedState l.val, since := s.tick.now, peerSerial := k.peerId.map (·.serial) }) with topo := p } : State) = u
  obtain ⟨m, d, p', o, hreport, -, hother⟩ := u.reportLinks_eq
  have hlink (j : Nat) : u.link j = (s.updLink l.val fun k => { k with
      state := s.trainedState l.val, since := s.tick.now, peerSerial := k.peerId.map (·.serial) }).link j := by
    subst hu
    rfl
  refine ⟨m, d, p', o, ?_, ?_, fun j hj => ?_, fun h => ?_⟩
  · rw [hreport, ← hu]
    rfl
  · obtain ⟨q, hq⟩ := u.reportLinks_link l.val
    refine ⟨q, ?_⟩
    rw [hq, hlink, State.updLink_link]
  · obtain ⟨q, hq⟩ := u.reportLinks_link j
    refine ⟨q, ?_⟩
    rw [hq, hlink, State.updLink_link_ne _ _ _ _ hj]
  · rw [← hp, (hother ?_).1, ← hu]
    rw [← hu]
    exact fun h' => h (hrole ▸ h')

theorem exec_delayComplete_of_delay (hlen : stamps.length = 1024) (hready : l ∉ s.tick.downstream ∨ s.tick.aligned = true)
    (hst : (s.link l.val).state = .delay) : exec (.delayComplete l stamps) s =
    .next (let t := (s.noteDelay l stamps).endTraining l
      if (t.link l.val).state = .up then t.useDelay l.val (hopOffset stamps (hopDelay stamps)) else t) := by
  have hgoes : ¬(stamps.length ≠ 1024 ∨ s.hopMayStart l.val = false ∨
      ((s.link l.val).state ≠ .delay ∧ ¬((s.link l.val).state = .up ∧ s.tick.upstream = some l))) := by
    rw [hlen, State.hopMayStart_iff.2 hready, hst]
    simp
  refine congrArg Host.Outcome.next ((if_neg hgoes).trans ?_)
  dsimp only
  rw [if_neg (Classical.not_not.2 hst)]
  rfl

theorem exec_delayComplete_of_up (hlen : stamps.length = 1024) (hready : l ∉ s.tick.downstream ∨ s.tick.aligned = true)
    (hst : (s.link l.val).state = .up) (hup : s.tick.upstream = some l) : exec (.delayComplete l stamps) s =
    .next ((s.noteDelay l stamps).useDelay l.val (hopOffset stamps (hopDelay stamps))) := by
  have hgoes : ¬(stamps.length ≠ 1024 ∨ s.hopMayStart l.val = false ∨
      ((s.link l.val).state ≠ .delay ∧ ¬((s.link l.val).state = .up ∧ s.tick.upstream = some l))) := by
    rw [hlen, State.hopMayStart_iff.2 hready, hup, hst]
    simp
  have hnot : (s.link l.val).state ≠ .delay := by
    rw [hst]
    decide
  refine congrArg Host.Outcome.next ((if_neg hgoes).trans ?_)
  dsimp only
  rw [if_pos hnot]
  exact if_pos hst

theorem exec_delayComplete_of_not (h : stamps.length ≠ 1024 ∨ ¬(l ∉ s.tick.downstream ∨ s.tick.aligned = true) ∨
    ((s.link l.val).state ≠ .delay ∧ ((s.link l.val).state ≠ .up ∨ s.tick.upstream ≠ some l))) :
    exec (.delayComplete l stamps) s = .next s := by
  refine congrArg Host.Outcome.next (if_pos ?_)
  rw [← State.hopMayStart_iff, Bool.not_eq_true] at h
  exact h.imp_right (Or.imp_right (And.imp_right Classical.not_and_iff_not_or_not.2))

/-- The end of a link's training: its state, the other links, and what its delay does to the tick unit. -/
theorem exec_delayComplete_trained (hlen : stamps.length = 1024) (hready : l ∉ s.tick.downstream ∨ s.tick.aligned = true)
    (hst : (s.link l.val).state = .delay) : ∃ m k p f o, exec (.delayComplete l stamps) s = .next { s with
      links := m, tick := k, topo := p, fw := f, out := o } ∧
    (∃ q, m.get {} l.val = { s.link l.val with
      state := s.trainedState l.val, since := s.tick.now, peerSerial := (s.link l.val).peerId.map (·.serial), control := q }) ∧
    (∀ j, j ≠ l.val → ∃ q, m.get {} j = { s.link j with control := q }) ∧
    k.hopDelay = s.tick.hopDelay.put l.val (BitVec.ofNat 32 (hopDelay stamps)) ∧
    (s.topo.role ≠ 1 → p = if l.val < 8 ∧ s.trainedState l.val = .up then { s.topo with lastTorusUp := some s.tick.now }
      else s.topo) ∧
    ((¬s.hopMeasures l ∨ s.trainedState l.val ≠ .up) →
      { k with hopDelay := s.tick.hopDelay, downstream := s.tick.downstream } = s.tick) ∧
    (s.hopMeasures l → s.trainedState l.val = .up → s.tick.MeasuredAs (hopOffset stamps (hopDelay stamps)) k) := by
  rw [exec_delayComplete_of_delay hlen hready hst]
  obtain ⟨m, d, p, o, hend, hlink, hothers, htopo⟩ := (s.noteDelay l stamps).endTraining_eq l
  rw [hend] at hlink hothers ⊢
  obtain ⟨q, hq⟩ := hlink
  have hstate : (m.get {} l.val).state = s.trainedState l.val := congrArg Link.state hq
  have hidle : { ({ s.tick with hopDelay := s.tick.hopDelay.put l.val (BitVec.ofNat 32 (hopDelay stamps)), downstream := d } :
      TickUnit) with hopDelay := s.tick.hopDelay, downstream := s.tick.downstream } = s.tick := rfl
  by_cases hup : s.trainedState l.val = .up
  · by_cases hmeasures : s.hopMeasures l
    · obtain ⟨k, f, o', huse, hdelay, hmeasured⟩ := State.useDelay_of_measures (s := { s.noteDelay l stamps with
        links := m, tick := { (s.noteDelay l stamps).tick with downstream := d }, topo := p, out := o })
        hmeasures (hopOffset stamps (hopDelay stamps))
      exact ⟨m, k, p, f, o', congrArg Host.Outcome.next ((if_pos (hstate.trans hup)).trans huse), ⟨q, hq⟩, hothers, hdelay, htopo,
        fun h => (h.elim (absurd hmeasures) (absurd hup)), fun _ _ => hmeasured⟩
    · exact ⟨m, _, p, _, o, congrArg Host.Outcome.next ((if_pos (hstate.trans hup)).trans
        (State.useDelay_of_not (s := { s.noteDelay l stamps with
          links := m, tick := { (s.noteDelay l stamps).tick with downstream := d }, topo := p, out := o }) hmeasures _)),
        ⟨q, hq⟩, hothers, rfl, htopo, fun _ => hidle, fun h => absurd h hmeasures⟩
  · have hnot : ¬(m.get {} l.val).state = .up := fun h => hup (hstate.symm.trans h)
    exact ⟨m, _, p, _, o, congrArg Host.Outcome.next (if_neg hnot), ⟨q, hq⟩, hothers, rfl, htopo, fun _ => hidle,
      fun _ h => absurd h hup⟩

end

/-! ## A link declared down -/

theorem satAdd_zero {w : Nat} (x : BitVec w) : satAdd x 0 = x := by
  have hx := x.isLt
  refine BitVec.eq_of_toNat_eq ?_
  rw [satAdd, BitVec.toNat_ofNat, Nat.mod_eq_of_lt (by omega)]
  omega

theorem satAdd_satAdd {w : Nat} (x : BitVec w) (a b : Nat) : satAdd (satAdd x a) b = satAdd x (a + b) := by
  have hpos : 0 < 2 ^ w := Nat.two_pow_pos w
  have hsum : (satAdd x a).toNat = min (x.toNat + a) (2 ^ w - 1) := by
    rw [satAdd, BitVec.toNat_ofNat, Nat.mod_eq_of_lt (by omega)]
  unfold satAdd at hsum ⊢
  rw [hsum]
  congr 1
  omega

theorem State.countLost_eq (l : List Nat) (s : State) : s.countLost l = { s with ctxs := (s.countLost l).ctxs } := by
  induction l generalizing s with
  | nil => rfl
  | cons c l ih => exact ih (s.updCtx c fun x => { x with unroutable := satAdd x.unroutable 1 })

theorem State.countLost_unroutable (l : List Nat) (s : State) (d : Nat) :
    ((s.countLost l).ctx d).unroutable = satAdd (s.ctx d).unroutable (l.count d) := by
  induction l generalizing s with
  | nil => exact (satAdd_zero _).symm
  | cons c l ih =>
    refine (ih (s.updCtx c fun x => { x with unroutable := satAdd x.unroutable 1 })).trans ?_
    by_cases hd : d = c
    · subst hd
      rw [State.updCtx_ctx, List.count_cons_self, satAdd_satAdd, Nat.add_comm]
    · rw [State.updCtx_ctx_ne _ _ _ _ hd, List.count_cons_of_ne (Ne.symm hd)]

/-- Every operation of a context counts a row that it may have lost. -/
def CtxQuill.loseRows (q : CtxQuill) : CtxQuill := { q with moves := q.moves.map fun m =>
  (m.1, { m.2 with scatterOut := m.2.scatterOut.map (· + 1), returnOut := m.2.returnOut.map (· + 1) }) }

theorem State.loseRows_unroutable (s : State) (c d : Nat) : ((s.loseRows c).ctx d).unroutable = (s.ctx d).unroutable := by
  change ((s.updCtx c fun x => { x with quill := x.quill.loseRows }).ctx d).unroutable = _
  by_cases hd : d = c
  · subst hd
    rw [State.updCtx_ctx]
  · rw [State.updCtx_ctx_ne _ _ _ _ hd]

theorem State.foldl_loseRows (l : List Nat) (s : State) : ∃ c g, l.foldl State.loseRows s = { s with ctxs := c, groups := g } ∧
    ∀ d, ((l.foldl State.loseRows s).ctx d).unroutable = (s.ctx d).unroutable := by
  induction l generalizing s with
  | nil => exact ⟨_, _, rfl, fun _ => rfl⟩
  | cons c l ih =>
    obtain ⟨x, g, h, hctx⟩ := ih (s.loseRows c)
    exact ⟨x, g, h, fun d => (hctx d).trans (s.loseRows_unroutable c d)⟩

theorem State.primaryAlone_eq (s : State) : s.primaryAlone = { s with pair := s.primaryAlone.pair } := by
  unfold State.primaryAlone
  split <;> rfl

theorem State.primaryAlone_congr {s t : State} (hpair : s.pair = t.pair) (hlinks : s.links = t.links)
    (hnow : s.tick.now = t.tick.now) : s.primaryAlone.pair = t.primaryAlone.pair := by
  have hpairOf (u : State) : u.primaryAlone.pair = if u.pair.role = 1 ∧ u.pair.state = 1 ∧ (u.link 8).state ≠ .up ∧
      (u.link 9).state ≠ .up then { u.pair with state := 3, partnerLostTick := u.tick.now } else u.pair :=
    apply_ite State.pair _ _ _
  rw [hpairOf, hpairOf, State.link, State.link, hpair, hlinks, hnow]
  rfl

theorem State.primaryAlone_pair_of_alone {s : State} (hrole : s.pair.role = 1) (hstate : s.pair.state = 1)
    (h8 : (s.link 8).state ≠ .up) (h9 : (s.link 9).state ≠ .up) :
    s.primaryAlone.pair = { s.pair with state := 3, partnerLostTick := s.tick.now } :=
  congrArg State.pair (if_pos ⟨hrole, hstate, h8, h9⟩)

theorem State.primaryAlone_pair_of_not {s : State} (h : s.pair.role ≠ 1 ∨ s.pair.state ≠ 1 ∨ (s.link 8).state = .up ∨
    (s.link 9).state = .up) : s.primaryAlone.pair = s.pair := by
  refine congrArg State.pair (if_neg ?_)
  rintro ⟨hrole, hstate, h8, h9⟩
  rcases h with h | h | h | h
  · exact h hrole
  · exact h hstate
  · exact h8 h
  · exact h9 h

/-- The port of a link that is declared down. -/
def Link.cut (k : Link) (now : Word) : Link :=
  { k.resetSeries with
    state := .down, since := now, retryAt := now, downEvents := satAdd k.downEvents 1, lastDownTick := now, queue := [] }

/-- The tick unit whose upstream link is declared down. -/
def TickUnit.loseUpstream (t : TickUnit) : TickUnit :=
  { t with downAt := some t.now, freqLocked := false, byMarker := false }

/-- The port's packets and its rows are lost, the port is cut, and a tick unit behind it loses its upstream link. -/
def State.cutPort (s : State) (l : LinkId) : State :=
  let k := s.link l.val
  let t := (((k.queue ++ k.replayBuf.map (·.1)).filter fun f => carries f.ctx.val f).map (·.ctx.val)).eraseDups.foldl
    State.loseRows ((s.updLink l.val fun k => k.cut s.tick.now).countLost ((lostPackets k.queue).map (·.ctx.val)))
  if t.tick.upstream = some (Fin.ofNat 12 l.val) then t.updTick TickUnit.loseUpstream else t

theorem State.cutPort_eq (s : State) (l : LinkId) : ∃ c g, s.cutPort l = { s with
      links := (s.updLink l.val fun k => k.cut s.tick.now).links
      tick := if s.tick.upstream = some l then s.tick.loseUpstream else s.tick, ctxs := c, groups := g } ∧
    ∀ d, (c.get {} d).unroutable = satAdd (s.ctx d).unroutable
      ((lostPackets (s.link l.val).queue).countP fun f => f.ctx.val == d) := by
  let lost := (lostPackets (s.link l.val).queue).map (·.ctx.val)
  let u := (s.updLink l.val fun k => k.cut s.tick.now).countLost lost
  obtain ⟨c, g, hrows, hctx⟩ := State.foldl_loseRows (((((s.link l.val).queue ++ (s.link l.val).replayBuf.map (·.1)).filter
    fun f => carries f.ctx.val f).map (·.ctx.val)).eraseDups) u
  have hu : u = { s with links := (s.updLink l.val fun k => k.cut s.tick.now).links, ctxs := u.ctxs } := State.countLost_eq ..
  rw [hrows] at hctx
  refine ⟨c, g, ?_, fun d => (hctx d).trans ((State.countLost_unroutable lost _ d).trans ?_)⟩
  · unfold State.cutPort
    dsimp only
    rw [hrows, hu, linkId_ofNat]
    by_cases hup : s.tick.upstream = some l
    · rw [if_pos hup, if_pos hup]
      rfl
    · rw [if_neg hup, if_neg hup]
  · rw [List.count, List.countP_map]
    rfl

section
variable {l : LinkId} {s : State}

/-- A link declared down, part for part. -/
theorem State.declareDown_eq (hdown : (s.link l.val).state ≠ .down) (hdisabled : (s.link l.val).state ≠ .disabled) :
    ∃ m d p o c g, s.declareDown l.val = { s with
      links := m, tick := { (if s.tick.upstream = some l then s.tick.loseUpstream else s.tick) with downstream := d }
      topo := p, out := o, ctxs := c, groups := g, pair := (s.updLink l.val fun k => k.cut s.tick.now).primaryAlone.pair } ∧
    (∃ q, m.get {} l.val = { (s.link l.val).cut s.tick.now with control := q }) ∧
    (∀ j, j ≠ l.val → ∃ q, m.get {} j = { s.link j with control := q }) ∧
    ∀ d, (c.get {} d).unroutable = satAdd (s.ctx d).unroutable
      ((lostPackets (s.link l.val).queue).countP fun f => f.ctx.val == d) := by
  have hdeclare : s.declareDown l.val = (((s.cutPort l).detectAll 2 fun t => t.links.contains l.val).primaryAlone).reportLinks := by
    unfold State.declareDown
    split
    · next h => exact absurd h hdown
    · next h => exact absurd h hdisabled
    · rfl
  obtain ⟨c, g, hcut, hlost⟩ := s.cutPort_eq l
  obtain ⟨g', o', hdetect⟩ : ∃ g' o', (s.cutPort l).detectAll 2 (fun t => t.links.contains l.val) =
      { s.cutPort l with groups := g', out := o' } := ⟨_, _, State.detectAll_eq ..⟩
  rw [hcut] at hdetect hdeclare
  rw [hdetect] at hdeclare
  have hnow : (if s.tick.upstream = some l then s.tick.loseUpstream else s.tick).now = s.tick.now :=
    (apply_ite TickUnit.now ..).trans (ite_self _)
  have hpair := State.primaryAlone_congr (s := { s with
    links := (s.updLink l.val fun k => k.cut s.tick.now).links
    tick := if s.tick.upstream = some l then s.tick.loseUpstream else s.tick, ctxs := c, groups := g', out := o' })
    (t := s.updLink l.val fun k => k.cut s.tick.now) rfl rfl hnow
  rw [State.primaryAlone_eq, hpair] at hdeclare
  obtain ⟨m, d, p, o, hreport, hqueued, -⟩ := State.reportLinks_eq { s with
    links := (s.updLink l.val fun k => k.cut s.tick.now).links
    tick := if s.tick.upstream = some l then s.tick.loseUpstream else s.tick, ctxs := c, groups := g', out := o'
    pair := (s.updLink l.val fun k => k.cut s.tick.now).primaryAlone.pair }
  refine ⟨m, d, p, o, c, g', hdeclare.trans hreport, ?_, fun j hj => ?_, hlost⟩
  · obtain ⟨q, hq, -⟩ := hqueued l.val
    have hself := s.updLink_link l.val fun k => k.cut s.tick.now
    exact ⟨q, hq.trans (congrArg (fun k : Link => { k with control := q }) hself)⟩
  · obtain ⟨q, hq, -⟩ := hqueued j
    have hother := s.updLink_link_ne l.val j (fun k => k.cut s.tick.now) hj
    exact ⟨q, hq.trans (congrArg (fun k : Link => { k with control := q }) hother)⟩

theorem State.declareDown_of_gone (h : (s.link l.val).state = .down ∨ (s.link l.val).state = .disabled) :
    s.declareDown l.val = s := by
  unfold State.declareDown
  rcases h with h | h <;> rw [h]

end

/-- Settles O33: the end of training and a link declared down, each by what it makes of the links, the tick unit, the
topology and the pair; the report that follows adds only control messages and tree links. -/
theorem linksComeUpAndGoDown : Obligations.LinksComeUpAndGoDown := by
  intro l s k ready sameLink
  refine ⟨?_, fun stamps h => exec_delayComplete_of_not h, ?_, fun h => ?_⟩
  · intro stamps hlen hready delay offset st noted measures measured
    refine ⟨fun hst => ?_, fun hst hup => ?_⟩
    · obtain ⟨m, k', p, f, o, hexec, ⟨q, hq⟩, hothers, hdelay, htopo, hidle, hmeasured⟩ :=
        exec_delayComplete_trained hlen hready hst
      refine ⟨_, hexec, ?_, fun j hj => ?_, s.trainedState_cases _, hdelay, htopo, hidle, hmeasured, rfl, rfl, rfl⟩
      · exact congrArg (fun x : Link => { x with control := (s.link l.val).control }) hq
      · obtain ⟨q', hq'⟩ := hothers j hj
        exact congrArg (fun x : Link => { x with control := (s.link j).control }) hq'
    · rw [exec_delayComplete_of_up hlen hready hst hup]
      by_cases hmeasures : s.hopMeasures l
      · obtain ⟨k', f, o, huse, hdelay, hmeasured⟩ :=
          State.useDelay_of_measures (s := s.noteDelay l stamps) hmeasures (hopOffset stamps (hopDelay stamps))
        exact ⟨_, congrArg Host.Outcome.next huse, rfl, rfl, hdelay, fun _ => hmeasured, fun h => absurd hmeasures h⟩
      · exact ⟨_, congrArg Host.Outcome.next (State.useDelay_of_not (s := s.noteDelay l stamps) hmeasures _), rfl, rfl, rfl,
          fun h => absurd h hmeasures, fun _ => rfl⟩
  · intro hdown hdisabled
    obtain ⟨m, d, p, o, c, g, hcut, ⟨q, hq⟩, hothers, hlost⟩ := State.declareDown_eq hdown hdisabled
    have hlink (j : Nat) (hj : j ≠ l.val) : (s.updLink l.val fun k => k.cut s.tick.now).link j = s.link j :=
      State.updLink_link_ne _ _ _ _ hj
    have hself : ((s.updLink l.val fun k => k.cut s.tick.now).link l.val).state ≠ .up := by
      rw [State.updLink_link]
      exact LinkState.noConfusion
    have hnotUp (j : Nat) (h : l.val = j ∨ (s.link j).state ≠ .up) :
        ((s.updLink l.val fun k => k.cut s.tick.now).link j).state ≠ .up := by
      by_cases hj : j = l.val
      · rw [hj]
        exact hself
      · rw [hlink j hj]
        exact h.resolve_left (Ne.symm hj)
    refine ⟨_, congrArg Host.Outcome.next hcut, congrArg Host.Outcome.next hcut,
      congrArg (fun x : Link => { x with control := (s.link l.val).control }) hq, fun j hj => ?_, fun h => ?_, fun h => ?_,
      fun hrole hstate h8 h9 => State.primaryAlone_pair_of_alone hrole hstate (hnotUp 8 h8) (hnotUp 9 h9), fun h => ?_, hlost,
      rfl, rfl, rfl⟩
    · obtain ⟨q', hq'⟩ := hothers j hj
      exact congrArg (fun x : Link => { x with control := (s.link j).control }) hq'
    · dsimp only
      rw [if_pos h]
      rfl
    · dsimp only
      rw [if_neg h]
    · refine State.primaryAlone_pair_of_not (h.imp_right (Or.imp_right (Or.imp ?_ ?_)))
      · exact fun h8 => (hlink 8 (Ne.symm h8.1)).symm ▸ h8.2
      · exact fun h9 => (hlink 9 (Ne.symm h9.1)).symm ▸ h9.2
  · exact ⟨congrArg Host.Outcome.next (State.declareDown_of_gone h), congrArg Host.Outcome.next (State.declareDown_of_gone h)⟩

end Sys2Proof.Machine
end

section
namespace Sys2Proof.Machine

/-! ## What a context's own events leave: other contexts' lives, the tick, the topology and the pair's role in it -/

/-- From s to t only context c has changed in its life, neither the tick unit nor the topology has, and the pair only in
its digests and by records kept back. -/
structure State.Within (c : Nat) (s t : State) : Prop where
  lives : ∀ d, d ≠ c → (t.ctx d).life = (s.ctx d).life
  tick : t.tick = s.tick
  topo : t.topo = s.topo
  pair : ∃ g h, t.pair = { s.pair with digests := g, heldRecords := s.pair.heldRecords ++ h }

namespace State.Within
variable {c : Nat} {s t u : State}

theorem of_same (hctxs : t.ctxs = s.ctxs) (htick : t.tick = s.tick) (htopo : t.topo = s.topo) (hpair : t.pair = s.pair) :
    s.Within c t :=
  ⟨fun d _ => congrArg (Ctx.life) (State.ctx_congr hctxs d), htick, htopo, s.pair.digests, [], by
    rw [hpair, List.append_nil]⟩

theorem refl (c : Nat) (s : State) : s.Within c s := of_same rfl rfl rfl rfl

theorem trans (h : s.Within c t) (h' : t.Within c u) : s.Within c u := by
  obtain ⟨g, l, hpair⟩ := h.pair
  obtain ⟨g', l', hpair'⟩ := h'.pair
  refine ⟨fun d hd => (h'.lives d hd).trans (h.lives d hd), h'.tick.trans h.tick, h'.topo.trans h.topo, g', l ++ l', ?_⟩
  rw [hpair', hpair, List.append_assoc]

theorem foldl {α : Type} {f : State → α → State} (l : List α) (h : ∀ s : State, ∀ x ∈ l, s.Within c (f s x)) (s : State) :
    s.Within c (l.foldl f s) := by
  induction l generalizing s with
  | nil => exact refl c s
  | cons x l ih => exact (h s x (.head l)).trans (ih (fun s y hy => h s y (.tail x hy)) (f s x))

theorem ite {p : Prop} [Decidable p] (h : s.Within c t) (h' : s.Within c u) : s.Within c (if p then t else u) := by
  by_cases hp : p
  · rwa [if_pos hp]
  · rwa [if_neg hp]

end State.Within

section
variable (s : State) (c : Nat)

theorem State.updCtx_within (f : Ctx → Ctx) : s.Within c (s.updCtx c f) :=
  ⟨fun d hd => congrArg (Ctx.life) (s.updCtx_ctx_ne c d f hd), rfl, rfl, s.pair.digests, [], by
    rw [List.append_nil]; rfl⟩

theorem State.emit_within (o : Output) : s.Within c (s.emit o) := .of_same rfl rfl rfl rfl

theorem State.updCore_within (k : Nat) (f : Core → Core) : s.Within c (s.updCore k f) := .of_same rfl rfl rfl rfl

theorem State.raiseQueue_within (q : QueueId) (cap before after : Nat) : s.Within c (s.raiseQueue q cap before after) := by
  rw [State.raiseQueue_eq]
  exact .of_same rfl rfl rfl rfl

theorem State.raise_within (f v : Nat) : s.Within c (s.raise f v) := by
  refine ⟨fun d _ => ?_, ?_, ?_, s.pair.digests, [], ?_⟩
  · obtain ⟨i, hi⟩ := s.raise_ctx d f v
    rw [hi]
  all_goals rw [State.raise_eq]
  rw [List.append_nil]

theorem State.raiseStateChange_within : s.Within c (s.raiseStateChange c) := by
  unfold State.raiseStateChange
  exact (s.raise_within c c 2).trans (.ite (.refl c _) (State.raise_within _ c 0 9))

theorem State.updRing_within (r : Nat) (f : Ring → Ring) : s.Within c (s.updRing c r f) :=
  (s.updCtx_within c _).trans (State.raiseQueue_within _ c _ _ _ _)

theorem State.hostWrite_within (a : Nat) (b : Bytes) : s.Within c (s.hostWrite a b) := by
  rw [State.hostWrite_eq]
  exact .of_same rfl rfl rfl rfl

theorem State.detectAll_within (code : BitVec 8) (p : CollStep → Bool) : s.Within c (s.detectAll code p) := by
  rw [State.detectAll_eq]
  exact .of_same rfl rfl rfl rfl

theorem State.addSem_within (n amount : Nat) : s.Within c (s.addSem c n amount).1 := by
  refine ⟨fun d hd => congrArg (Ctx.life) (s.addSem_ctx_ne c n amount hd), ?_, ?_, s.pair.digests, [], ?_⟩
  all_goals rw [State.addSem_eq]
  rw [List.append_nil]

variable (x : Cmd)

theorem State.trueUp_within : s.Within c (s.trueUp c x) := by
  refine ⟨fun d hd => congrArg (Ctx.life) (s.trueUp_ctx_ne c x hd), ?_, ?_, s.pair.digests, [], ?_⟩
  all_goals rw [State.trueUp_eq]
  rw [List.append_nil]

theorem State.sendDigest_within (status : Nat) : s.Within c (s.sendDigest c x status) := by
  refine ⟨fun d _ => congrArg (Ctx.life) (s.sendDigest_ctx c x status d), ?_, ?_, ?_⟩
  · rw [State.sendDigest_eq]
  · rw [State.sendDigest_eq]
  · by_cases h : s.mirrored c = true
    · rw [State.sendDigest_of_mirrored c x status h]
      unfold State.passDigest
      have hpair (d : BitVec 256) : (s.stepDigest c x d).pair = s.pair := by
        rw [State.stepDigest_eq]
      split
      · exact ⟨_, [], by rw [List.append_nil, ← hpair]⟩
      · exact ⟨s.pair.digests, [], by rw [List.append_nil]; exact hpair _⟩
    · rw [show s.sendDigest c x status = s from if_pos (by simpa using h)]
      exact ⟨s.pair.digests, [], by rw [List.append_nil]⟩

theorem State.writeRecord_within (r : Nat) (b : Bytes) (v : Nat) : s.Within c (s.writeRecord c r b v) := by
  rw [State.writeRecord_of_deliverRecord]
  refine .trans (.trans ?_ (State.updRing_within _ c r _)) (State.raise_within _ c c v)
  unfold State.deliverRecord
  refine .ite ⟨fun _ _ => rfl, rfl, rfl, s.pair.digests, _, rfl⟩ (s.hostWrite_within c _ b)

theorem State.recordCmd_within (status : Nat) (written : Bool) : s.Within c (s.recordCmd c x status written) := by
  have hsettle : s.Within c (s.settleCmd c x status) :=
    ((s.updCtx_within c _).trans (State.trueUp_within _ c x)).trans (State.sendDigest_within _ c x status)
  unfold State.recordCmd
  exact .ite (hsettle.trans (State.writeRecord_within _ c _ _ _)) hsettle

theorem State.terminal_within (status : Nat) (written : Bool) : s.Within c (s.terminal c x status written).1 := by
  by_cases h : s.safety.tripped = true ∨ (s.cmd c x.uid).isNone = true
  · rw [State.terminal_of_gone h]
    exact .refl c s
  · rw [not_or, Bool.not_eq_true, Bool.not_eq_true] at h
    rw [State.terminal_of_live h.1 h.2]
    have hrecord := s.recordCmd_within c x status written
    split
    · exact hrecord
    · exact hrecord.trans (State.addSem_within _ c _ _)

theorem State.teardown_within (cause : Nat) : s.Within c (s.teardown c cause) := by
  by_cases h : (s.ctx c).life.state = .free ∨ (s.ctx c).life.state = .tearingDown
  · rw [State.teardown_of_gone h]
    exact .refl c s
  · obtain ⟨hfree, htearing⟩ := not_or.1 h
    have hcmds : s.Within c (s.cutCmds c cause) :=
      (s.updCtx_within c _).trans (.foldl _ (fun t x _ => t.terminal_within c x _ true) _)
    rw [State.teardown_of_there hfree htearing]
    exact ((hcmds.trans (State.updCtx_within _ c _)).trans (State.detectAll_within _ c _ _)).trans
      (State.raiseStateChange_within _ c)

theorem State.finishCmd_within (status : Nat) : s.Within c (s.finishCmd c x status) := by
  have h := s.terminal_within c x status true
  unfold State.finishCmd
  split
  · next hterminal =>
    rw [hterminal] at h
    exact h.trans (State.teardown_within _ c 2)
  · next hterminal =>
    rwa [hterminal] at h

theorem State.signalSem_within (n amount : Nat) : s.Within c (s.signalSem c n amount) := by
  have h := s.addSem_within c n amount
  unfold State.signalSem
  split
  · next hadd =>
    rw [hadd] at h
    exact h.trans (State.teardown_within _ c 2)
  · next hadd =>
    rwa [hadd] at h

theorem State.stopCommand_within (uid : Nat) : s.Within c (s.stopCommand c uid) := by
  unfold State.stopCommand
  exact .trans (.foldl _ (fun t k _ => .foldl _ (fun u key _ => .ite (u.updCore_within c k _) (.refl c u)) t) s)
    (State.updCtx_within _ c _)

theorem State.writeMem_within (m : ScrubMem) (a : Nat) (b : Bytes) : s.Within c (s.writeMem m a b) := by
  cases m <;> exact .of_same rfl rfl rfl rfl

theorem State.putResult_within (k key uid : Nat) (f : Stream → Stream) : s.Within c (s.putResult k key uid f) :=
  .ite (s.updCore_within c k _) (.refl c s)

theorem State.countOob_within (n : Nat) : s.Within c (s.countOob c n) :=
  .ite (.refl c s) ((s.updCtx_within c _).trans (State.updCtx_within _ c _))

theorem State.meter_within (d uid pj : Nat) : s.Within c (s.meter d uid pj) := by
  refine ⟨fun e _ => ?_, rfl, rfl, s.pair.digests, [], ?_⟩
  · by_cases hd : e = d
    · subst hd
      unfold State.meter State.updCmd
      rw [State.updCtx_ctx]
    · exact congrArg (Ctx.life) (s.updCtx_ctx_ne d e _ hd)
  · rw [List.append_nil]
    rfl

theorem State.raiseFlags_within (f : BitVec 16) : s.Within c (s.raiseFlags c f) := s.updCtx_within c _

theorem State.updQuill_within (f : CtxQuill → CtxQuill) : s.Within c (s.updQuill c f) := s.updCtx_within c _

theorem State.updCmd_within (uid : Nat) (f : Cmd → Cmd) : s.Within c (s.updCmd c uid f) := s.updCtx_within c _

theorem State.updHost_within (f : HostFn → HostFn) : s.Within c (s.updHost c f) := s.updCtx_within c _

end

section
variable (s : State) {c key : Nat} (hkey : keyCtx key = c)
include hkey

/-- An effect of an operation of context c is within it. -/
theorem State.apply_within (k uid : Nat) (e : Effect) : s.Within c (s.apply k key uid e) := by
  subst hkey
  cases e with
  | mem m a b => exact .ite (s.writeMem_within _ m a b) (.refl _ s)
  | atomXa m a w anchor x =>
    exact .ite (.refl _ s) ((s.writeMem_within _ m a _).trans (State.raiseFlags_within _ _ _))
  | atomF32 m a x => exact .ite (.refl _ s) ((s.writeMem_within _ m a _).trans (State.raiseFlags_within _ _ _))
  | vreg v l => exact s.putResult_within _ k key uid _
  | lane v i x => exact s.putResult_within _ k key uid _
  | tile a t => exact s.putResult_within _ k key uid _
  | flags f => exact s.raiseFlags_within _ f
  | oob n w =>
    exact .ite (.refl _ s) (.ite ((s.countOob_within _ n).trans (State.updCmd_within _ _ _ _)) (s.countOob_within _ n))
  | sem n amount => exact s.signalSem_within _ n.toNat amount
  | bar2 f a n => exact s.emit_within _ _
  | moved key' e' =>
    have hafter : s.Within (keyCtx key) (s.updQuill (keyCtx key) fun q => q.after key' e') :=
      s.updQuill_within _ _
    cases e' with
    | arrival q _ _ _ => exact hafter.trans (State.raiseQueue_within _ _ _ _ _ _)
    | landing _ _ => exact hafter
    | combined _ => exact hafter
  | balRow layer n => exact s.updQuill_within _ _
  | collWritten g gen n => exact .of_same rfl rfl rfl rfl
  | irq v => exact s.raise_within _ _ v
  | copied => exact s.updHost_within _ _

omit hkey in
theorem State.applyAll_within {op : InFlight} (hkey : keyCtx op.stream = c) (k : Nat) : s.Within c (s.applyAll k op) :=
  .foldl op.effects (fun t e _ => t.apply_within hkey k op.uid e) s

theorem State.saveStream_within (k : Nat) : s.Within c (s.saveStream k key) := by
  unfold State.saveStream
  refine .trans (.foldl _ (fun t u hu => (t.meter_within c u.2.ctx.val u.2.uid u.2.picojoule).trans ?_) s) (State.updCore_within _ c k _)
  have hstream : u.2.stream = key := by
    obtain ⟨v, -, hv⟩ := List.mem_filterMap.1 (List.mem_filter.1 hu).1
    revert hv
    cases v.2 with
    | none => exact fun h => (nomatch h)
    | some op =>
      dsimp only
      split
      · next h =>
        intro hop
        rw [← Option.some.inj hop]
        exact h.1
      · exact fun h => (nomatch h)
  subst hstream
  exact State.applyAll_within _ hkey k

end

theorem State.suspend_within (s : State) (c : Nat) : s.Within c (s.suspend c) := by
  unfold State.suspend
  split
  · exact s.updCtx_within c _
  · refine .trans (.trans (.foldl _ (fun t k _ => .foldl _ (fun u key hkey => .ite (u.saveStream_within ?_ k) (.refl c u)) t) s)
      (State.updCtx_within _ c _)) (State.raiseStateChange_within _ c)
    unfold keyCtx
    simp only [List.mem_cons, List.not_mem_nil, or_false] at hkey
    omega
  · exact .refl c s

theorem State.suspend_state {s : State} {c : Nat} (h : (s.ctx c).life.state = .live ∨ (s.ctx c).life.state = .suspended) :
    ((s.suspend c).ctx c).life.state = .suspended := by
  unfold State.suspend
  rcases h with h | h
  · rw [h]
    dsimp only
    generalize (List.range 32).foldl _ s = u
    obtain ⟨i, hi⟩ := State.raiseStateChange_ctx (u.updLife c fun l =>
      { l with state := .suspended, suspendedAt := u.tick.now }) c c
    rw [hi]
    exact congrArg (fun x : Ctx => x.life.state) (u.updCtx_ctx c _)
  · rw [h]
    exact h

/-- A list of contexts that are LIVE or SUSPENDED is SUSPENDED one after the other. -/
theorem State.foldl_suspend_state (l : List Nat) (s : State) {d : Nat}
    (h : (s.ctx d).life.state = .live ∧ d ∈ l ∨ (s.ctx d).life.state = .suspended) :
    ((l.foldl State.suspend s).ctx d).life.state = .suspended := by
  induction l generalizing s with
  | nil => exact h.resolve_left fun h => (nomatch h.2)
  | cons c l ih =>
    refine ih (s.suspend c) ?_
    by_cases hd : d = c
    · subst hd
      exact .inr (State.suspend_state (h.imp_left And.left))
    · rw [(s.suspend_within c).lives d hd]
      exact h.imp_left (And.imp_right fun hmem => (List.mem_cons.1 hmem).resolve_left hd)

/-! ## Divergence -/

/-- What a step leaves of the tick unit, the topology and the pair. -/
structure State.Aside (s t : State) : Prop where
  tick : t.tick = s.tick
  topo : t.topo = s.topo
  pair : ∃ g h, t.pair = { s.pair with digests := g, heldRecords := s.pair.heldRecords ++ h }

theorem State.Within.aside {c : Nat} {s t : State} (h : s.Within c t) : s.Aside t := ⟨h.tick, h.topo, h.pair⟩

theorem State.Aside.refl (s : State) : s.Aside s := (State.Within.refl 0 s).aside

theorem State.Aside.trans {s t u : State} (h : s.Aside t) (h' : t.Aside u) : s.Aside u := by
  obtain ⟨g, l, hpair⟩ := h.pair
  obtain ⟨g', l', hpair'⟩ := h'.pair
  refine ⟨h'.tick.trans h.tick, h'.topo.trans h.topo, g', l ++ l', ?_⟩
  rw [hpair', hpair, List.append_assoc]

theorem State.Aside.foldl {α : Type} {f : State → α → State} (l : List α) (h : ∀ (s : State) x, s.Aside (f s x)) (s : State) :
    s.Aside (l.foldl f s) := by
  induction l generalizing s with
  | nil => exact .refl s
  | cons x l ih => exact (h s x).trans (ih (f s x))

/-- The pair has diverged at a command. -/
def Pair.diverged (p : Pair) (now : Word) (c : CtxId) (id : BitVec 32) : Pair :=
  { p with state := 2, divergeTick := now, divergeCtx := c, divergeCmd := id }

/-- The contexts that a divergence stops. -/
def State.heldContexts (s : State) : List Nat := ((List.range 64).drop 1).filter fun c => (s.ctx c).life.state == .live ||
  (s.ctx c).life.state == .suspended || (s.ctx c).life.state == .creating

theorem State.mem_heldContexts {s : State} {d : CtxId} (h0 : d ≠ 0)
    (h : (s.ctx d.val).life.state = .live ∨ (s.ctx d.val).life.state = .suspended) : d.val ∈ s.heldContexts := by
  have hmem : ∀ d : Fin 64, d ≠ 0 → d.val ∈ (List.range 64).drop 1 := by decide
  refine List.mem_filter.2 ⟨hmem d h0, ?_⟩
  rcases h with h | h <;> simp [h]

theorem State.diverge_of_primary {s : State} (hrole : s.pair.role ≠ 2) (c : CtxId) (id : BitVec 32) :
    s.diverge c id = { s with pair := s.pair.diverged s.tick.now c id } :=
  if_pos hrole

/-- A secondary that diverges stops its contexts. -/
theorem State.diverge_of_secondary {s : State} (hrole : s.pair.role = 2) (c : CtxId) (id : BitVec 32) :
    (∃ g h, (s.diverge c id).pair = { s.pair.diverged s.tick.now c id with
      digests := g, heldRecords := s.pair.heldRecords ++ h, suspended := s.heldContexts }) ∧
    ∀ d : CtxId, d ≠ 0 → ((s.ctx d.val).life.state = .live ∨ (s.ctx d.val).life.state = .suspended) →
      ((s.diverge c id).ctx d.val).life.state = .suspended := by
  have hdiverge : s.diverge c id = (s.heldContexts.foldl State.suspend
      { s with pair := s.pair.diverged s.tick.now c id }).updPair fun p => { p with suspended := s.heldContexts } :=
    if_neg (Classical.not_not.2 hrole)
  rw [hdiverge]
  refine ⟨?_, fun d h0 h => ?_⟩
  · obtain ⟨g, l, hpair⟩ := (State.Aside.foldl s.heldContexts (fun t c => (t.suspend_within c).aside)
      { s with pair := s.pair.diverged s.tick.now c id }).pair
    exact ⟨g, l, congrArg (fun p : Pair => { p with suspended := s.heldContexts }) hpair⟩
  · exact State.foldl_suspend_state s.heldContexts { s with pair := s.pair.diverged s.tick.now c id }
      (h.imp_left fun hlive => ⟨hlive, State.mem_heldContexts h0 (.inl hlive)⟩)

section
variable {s : State} {c : CtxId} {id : BitVec 32} {digest : BitVec 256} {terminal : Word}

/-- The records kept back of a command that diverged are marked. -/
def markDiverged (c : CtxId) (id : BitVec 32) (h : CtxId × Nat × Nat × Bytes × Word) : CtxId × Nat × Nat × Bytes × Word :=
  if h.1 = c then (h.1, h.2.1, h.2.2.1, divergedRecord id h.2.2.2.1, h.2.2.2.2) else h

/-- A comparison counts while the pair mirrors, and in the tick of the partner's loss. -/
def State.compares (s : State) : Prop := s.pair.state = 1 ∨ (s.pair.state = 3 ∧ s.pair.partnerLostTick = s.tick.now)

theorem State.compares_iff (s : State) : s.compares ↔
    ¬(s.pair.state ≠ 1 ∧ ¬(s.pair.state = 3 ∧ s.pair.partnerLostTick = s.tick.now)) := by
  rw [State.compares, Classical.not_and_iff_not_or_not, Decidable.not_not, Decidable.not_not]

theorem exec_digestCompare_of_secondary {own : CtxId × BitVec 32 × BitVec 256 × Word} (hcompares : s.compares)
    (hrole : s.pair.role = 2) (hown : s.pair.digests.find? (fun d => d.1 == c && d.2.1 == id) = some own) :
    exec (.digestCompare c id digest terminal) s =
      .next (if own.2.2.1 = digest ∧ own.2.2.2.toNat = terminal.toNat + s.pairLag then
          { s with pair := { s.pair with digests := s.pair.digests.erase own } }
        else State.diverge { s with pair := { s.pair with
          digests := s.pair.digests.erase own, heldRecords := s.pair.heldRecords.map (markDiverged c id) } } c id) := by
  have hnot : ¬s.pair.role = 1 := by
    rw [hrole]
    decide
  change execDigestCompare c id digest terminal s = _
  unfold execDigestCompare
  rw [if_neg ((s.compares_iff).1 hcompares), if_neg hnot, if_neg (Classical.not_not.2 hrole), hown]
  exact congrArg Host.Outcome.next (ite_congr rfl (fun _ => rfl) fun _ => rfl)

theorem exec_digestCompare_of_primary (hcompares : s.compares) (hrole : s.pair.role = 1) :
    exec (.digestCompare c id digest terminal) s = .next { s with pair := s.pair.diverged s.tick.now c id } := by
  have hnot : s.pair.role ≠ 2 := by
    rw [hrole]
    decide
  exact congrArg Host.Outcome.next (((if_neg ((s.compares_iff).1 hcompares)).trans (if_pos hrole)).trans
    (State.diverge_of_primary hnot c id))

theorem exec_digestCompare_of_none (hrole : s.pair.role = 2)
    (hown : s.pair.digests.find? (fun d => d.1 == c && d.2.1 == id) = none) :
    exec (.digestCompare c id digest terminal) s = .next s := by
  have hnot : ¬s.pair.role = 1 := by
    rw [hrole]
    decide
  change execDigestCompare c id digest terminal s = _
  unfold execDigestCompare
  rw [if_neg hnot, if_neg (Classical.not_not.2 hrole), hown]
  exact congrArg Host.Outcome.next (ite_self s)

end

/-! ## Promotion -/

section
variable (s : State)

theorem State.abortForwarded_aside (i : FwdInput) : s.Aside (s.abortForwarded i) := by
  unfold State.abortForwarded
  split
  · next c r b =>
    exact (((s.updCtx_within c.val _).trans (State.updRing_within _ _ _ _)).trans (State.finishCmd_within _ _ _ _)).aside
  · exact .refl s

theorem State.deliverHeld_eq (h : CtxId × Nat × Nat × Bytes × Word) : ∃ c w o, s.deliverHeld h =
    { s with ctxs := c, hostMem := w, out := o } := by
  unfold State.deliverHeld
  split
  · exact ⟨_, _, _, rfl⟩
  · rw [State.raise_eq, State.hostWrite_eq]
    exact ⟨_, _, _, rfl⟩

theorem State.foldl_deliverHeld (l : List (CtxId × Nat × Nat × Bytes × Word)) : ∃ c w o,
    l.foldl (fun s h => s.deliverHeld h) s = { s with ctxs := c, hostMem := w, out := o } := by
  induction l generalizing s with
  | nil => exact ⟨_, _, _, rfl⟩
  | cons h l ih =>
    obtain ⟨c, w, o, hs⟩ := s.deliverHeld_eq h
    obtain ⟨c', w', o', hl⟩ := ih (s.deliverHeld h)
    refine ⟨c', w', o', hl.trans ?_⟩
    rw [hs]

theorem State.foldl_updCtx (f : Ctx → Ctx) (l : List Nat) : ∃ m, l.foldl (fun s c => s.updCtx c f) s = { s with ctxs := m } := by
  induction l generalizing s with
  | nil => exact ⟨_, rfl⟩
  | cons c l ih => exact ih (s.updCtx c f)

/-- Every command of a context is stopped and ends with ABORTED. -/
def State.abortCmds (s : State) (c : Nat) : State := (s.ctx c).cmds.foldl (fun s x => (s.stopCommand c x.uid).finishCmd c x 2) s

theorem State.abortCmds_within (c : Nat) : s.Within c (s.abortCmds c) := by
  unfold State.abortCmds
  refine .foldl _ (fun u x _ => ?_) s
  exact .trans (u.stopCommand_within c x.uid) ((u.stopCommand c x.uid).finishCmd_within c x 2)

/-- Every command of the tenants has ended with ABORTED. -/
def State.abortTenants (s : State) : State := ((List.range 64).drop 1).foldl State.abortCmds s

/-- Every descriptor that was forwarded has ended with ABORTED. -/
def State.abortInputs (s : State) : State := s.pair.forwarded.foldl (fun s i => s.abortForwarded i.2) s

theorem State.abortTenants_aside : s.Aside s.abortTenants := by
  unfold State.abortTenants
  refine .foldl _ (fun t c => ?_) s
  exact (t.abortCmds_within c).aside

theorem State.abortInputs_aside : s.Aside s.abortInputs := by
  unfold State.abortInputs
  refine .foldl _ (fun t i => ?_) s
  exact t.abortForwarded_aside i.2

/-- The pair is PROMOTED from this tick. -/
def State.beginPromotion (s : State) : State := s.updPair fun p =>
  { p with state := 5, promoteTick := s.tick.now, forwarded := [], digests := [] }

/-- The request records that a primary handed on are dropped. -/
def State.dropHanded (s : State) : State := ((List.range 64).drop 1).foldl (fun (s : State) c => s.updCtx c fun x =>
  { x with serving := { x.serving with handed := [] } }) s

theorem State.dropHanded_eq : ∃ m, s.dropHanded = { s with ctxs := m } := by
  unfold State.dropHanded
  exact s.foldl_updCtx (fun x => { x with serving := { x.serving with handed := [] } }) _

/-- Every record kept back is delivered or dropped. -/
def State.deliverAll (s : State) : State :=
  (s.pair.heldRecords.foldl (fun s h => s.deliverHeld h) s).updPair fun p => { p with heldRecords := [] }

/-- The promoted device, but for the lead. -/
def State.promoteHere (s : State) : State := s.abortTenants.abortInputs.beginPromotion.dropHanded.deliverAll

theorem State.promoteNow_of_promoteHere :
    s.promoteNow = if s.promoteHere.pair.primaryWasLead then s.promoteHere.takeLeadRole else s.promoteHere := by
  unfold State.promoteNow State.promoteHere State.deliverAll State.dropHanded State.beginPromotion State.abortInputs
    State.abortTenants State.abortCmds
  dsimp only

/-- The pair after a promotion. -/
def Pair.promoted (p : Pair) (now : Word) : Pair :=
  { p with state := 5, promoteTick := now, forwarded := [], digests := [], heldRecords := [] }

theorem State.promoteHere_fields : s.promoteHere.pair = s.pair.promoted s.tick.now ∧ s.promoteHere.topo = s.topo := by
  obtain ⟨htick, htopo, g, h, hpair⟩ := s.abortTenants_aside.trans s.abortTenants.abortInputs_aside
  unfold State.promoteHere
  generalize s.abortTenants.abortInputs = u at htick htopo hpair
  obtain ⟨m, hdrop⟩ := u.beginPromotion.dropHanded_eq
  rw [hdrop]
  unfold State.deliverAll
  obtain ⟨c, w, o, hdeliver⟩ := State.foldl_deliverHeld { u.beginPromotion with ctxs := m } u.beginPromotion.pair.heldRecords
  rw [hdeliver]
  refine ⟨?_, htopo⟩
  change u.pair.promoted u.tick.now = _
  rw [hpair, htick]
  rfl

end

/-- What a promotion leaves: the pair is PROMOTED, and the device leads where its primary did. -/
theorem State.promoteNow_fields (s : State) : s.promoteNow.pair = s.pair.promoted s.tick.now ∧
    (s.pair.primaryWasLead = true → s.promoteNow.topo.role = 1 ∧ s.promoteNow.topo.leadEpoch = s.topo.leadEpoch + 1 ∧
      s.promoteNow.tick.state = 1) ∧
    (s.pair.primaryWasLead = false → s.promoteNow.topo = s.topo) := by
  obtain ⟨hpair, htopo⟩ := s.promoteHere_fields
  have hlead : s.promoteHere.pair.primaryWasLead = s.pair.primaryWasLead :=
    (congrArg Pair.primaryWasLead hpair :)
  rw [State.promoteNow_of_promoteHere, hlead]
  cases hwas : s.pair.primaryWasLead with
  | true =>
    obtain ⟨m, d, p, n, htake, -⟩ := s.promoteHere.takeLeadRole_eq
    rw [if_pos rfl, htake]
    refine ⟨hpair, fun _ => ⟨rfl, ?_, rfl⟩, Bool.noConfusion⟩
    exact congrArg (fun x : Topo => x.leadEpoch + 1) htopo
  | false => exact ⟨hpair, Bool.noConfusion, fun _ => htopo⟩

/-! ## Forwarded inputs -/

section
variable {s : State}

theorem exec_forwardedInputReceive (stamp : Word) (i : FwdInput) : exec (.forwardedInputReceive stamp i) s =
    .next (if s.pair.role ≠ 2 ∨ s.pair.state ≠ 1 then s
      else if stamp.toNat + s.pairLag < s.now + 1024 then { s with pair := { s.pair with state := 4 } }
      else { s with pair := { s.pair with forwarded := s.pair.forwarded ++ [(stamp, i)] } }) := rfl

theorem exec_forwardedInputApply {stamp : Word} {i : FwdInput} {rest : List (Word × FwdInput)}
    (h : s.pair.forwarded = (stamp, i) :: rest) : exec .forwardedInputApply s =
    .next (if s.pair.role = 2 ∧ (s.pair.state = 1 ∨ s.pair.state = 3) ∧ stamp.toNat + s.pairLag ≤ s.now then
      State.applyInput { s with pair := { s.pair with forwarded := rest } } i else s) := by
  change execForwardedInputApply s = _
  unfold execForwardedInputApply
  rw [h] <;> rfl

theorem exec_forwardedInputApply_of_nil (h : s.pair.forwarded = []) : exec .forwardedInputApply s = .next s := by
  change execForwardedInputApply s = _
  unfold execForwardedInputApply
  rw [h]

end

/-- Settles O39: the forwarded inputs and the digests by the cases of their events, the divergence by what stopping a
context leaves of the others, and the promotion by what it leaves of the pair, the tick unit and the topology. -/
theorem pairMirrors : Obligations.PairMirrors := by
  intro s lag
  refine ⟨fun stamp i => ⟨fun hrole hstate htime => ?_, fun hrole hstate htime => ?_, fun h => ?_⟩,
    fun stamp i rest hfwd => ?_, exec_forwardedInputApply_of_nil, fun hrole hstate => ?_, fun h => ?_,
    fun c id digest terminal own hcompares hrole hown => ⟨fun hdigest hterminal => ?_, fun hdiffers => ?_⟩,
    fun _ _ _ _ hrole hown => exec_digestCompare_of_none hrole hown,
    fun _ _ _ _ hcompares hrole => exec_digestCompare_of_primary hcompares hrole, fun c id digest terminal hstate h => ?_,
    ?_, fun h => ?_, fun h => ?_, fun h => ?_⟩
  · rw [exec_forwardedInputReceive, if_neg (by simp [hrole, hstate])]
    exact congrArg Host.Outcome.next (if_neg (Nat.not_lt.2 htime))
  · rw [exec_forwardedInputReceive, if_neg (by simp [hrole, hstate])]
    exact congrArg Host.Outcome.next (if_pos htime)
  · exact (exec_forwardedInputReceive stamp i).trans (congrArg Host.Outcome.next (if_pos h))
  · intro u ready
    have happly (h : ready) : exec .forwardedInputApply s = .next (u.applyInput i) :=
      (exec_forwardedInputApply hfwd).trans (congrArg Host.Outcome.next (if_pos h))
    refine ⟨happly, fun c r b h hi => ?_, fun c off b h hi => ?_, fun c off v h hi => ?_, fun c b h hi => ?_,
      fun p h hi haccepts => ?_, fun p h hi haccepts => ?_, fun c h hi => ?_, fun h => ?_⟩
    · subst hi
      exact ⟨_, happly h, rfl⟩
    · subst hi
      exact happly h
    · subst hi
      exact happly h
    · subst hi
      exact happly h
    · subst hi
      exact (happly h).trans (congrArg Host.Outcome.next (if_pos haccepts))
    · subst hi
      exact (happly h).trans (congrArg Host.Outcome.next (if_neg (Bool.not_eq_true _ ▸ haccepts)))
    · subst hi
      exact happly h
    · exact (exec_forwardedInputApply hfwd).trans (congrArg Host.Outcome.next (if_neg h))
  · exact congrArg Host.Outcome.next (if_pos ⟨hrole, hstate⟩)
  · exact congrArg Host.Outcome.next (if_neg (Classical.not_and_iff_not_or_not.2 h))
  · exact (exec_digestCompare_of_secondary hcompares hrole hown).trans
      (congrArg Host.Outcome.next (if_pos ⟨hdigest, hterminal⟩))
  · obtain ⟨⟨g, h, hpair⟩, hlives⟩ := State.diverge_of_secondary (s := { s with pair := { s.pair with
      digests := s.pair.digests.erase own, heldRecords := s.pair.heldRecords.map (markDiverged c id) } }) hrole c id
    refine ⟨_, (exec_digestCompare_of_secondary hcompares hrole hown).trans
      (congrArg Host.Outcome.next (if_neg (Classical.not_and_iff_not_or_not.2 hdiffers))), ?_, ?_, ?_, ?_, fun d h0 hlife => ?_,
      fun vector addr b at_ hmem hfield => ?_⟩
    · rw [hpair]
      rfl
    · rw [hpair]
      rfl
    · rw [hpair]
      rfl
    · rw [hpair]
      rfl
    · refine ⟨hlives d h0 hlife, ?_⟩
      rw [hpair]
      exact State.mem_heldContexts (s := s) h0 hlife
    · rw [hpair]
      refine List.mem_append_left _ (List.mem_map.2 ⟨_, hmem, ?_⟩)
      simp [markDiverged, divergedRecord, hfield]
  · refine congrArg Host.Outcome.next (if_pos ⟨hstate, ?_⟩)
    exact Classical.not_and_iff_not_or_not.2 h
  · intro promoted
    obtain ⟨hpair, hlead, hfollow⟩ := s.promoteNow_fields
    have hpromoted : promoted s.promoteNow := by
      refine ⟨?_, ?_, ?_, ?_, ?_, hlead, hfollow⟩
      all_goals rw [hpair] <;> rfl
    refine ⟨fun d hrole hstate hd hlt hlate => ⟨_, congrArg Host.Outcome.next (if_pos ⟨hrole, hstate, ?_, hlate⟩), hpromoted⟩,
      fun hrole hstate hup => ⟨_, congrArg Host.Outcome.next (if_pos ⟨hrole, hstate, hup⟩), hpromoted⟩⟩
    unfold State.primaryDeparted
    rw [hd]
    exact decide_eq_true hlt
  · have hnot (p : Prop) : ¬(s.pair.role = 2 ∧ s.pair.state = 3 ∧ p) := fun ⟨hrole, hstate, _⟩ => h.elim (· hrole) (· hstate)
    exact ⟨congrArg Host.Outcome.next (if_neg (hnot _)), congrArg Host.Outcome.next (if_neg (hnot _))⟩
  · refine congrArg Host.Outcome.next (if_neg ?_)
    rintro ⟨-, -, hdeparted, hlate⟩
    rcases h with h | ⟨hwas, htime⟩
    · unfold State.primaryDeparted at hdeparted
      rw [h] at hdeparted
      cases hdeparted
    · rcases hlate with hlate | hlate
      · rw [hwas] at hlate
        cases hlate
      · exact absurd hlate (Nat.not_lt.2 htime)
  · exact congrArg Host.Outcome.next (if_neg fun h' => h h'.2.2)

end Sys2Proof.Machine
end

section
namespace Sys2Proof.Machine

/-! ## Commands that are stopped and finished -/

section
variable (s : State) (c : Nat)

/-- A stopped command: its streams, and what its context's rosters and Quill hold of it. -/
theorem State.stopCommand_eq (uid : Nat) : ∃ k m r q, s.stopCommand c uid = { s with cores := k, ctxs := m } ∧
    m = s.ctxs.put c { s.ctx c with rosters := r, quill := q } := by
  have hcores (l : List Nat) (keys : List Nat) (t : State) : ∃ k, l.foldl (fun s k => keys.foldl (fun s key =>
      let st := (s.core k).stream key
      if st.uid = uid ∧ !st.free then s.updCore k fun x => x.stopStream key else s) s) t = { t with cores := k } := by
    induction l generalizing t with
    | nil => exact ⟨_, rfl⟩
    | cons a l ih =>
      have hkeys (t : State) : ∃ k, keys.foldl (fun s key =>
          let st := (s.core a).stream key
          if st.uid = uid ∧ !st.free then s.updCore a fun x => x.stopStream key else s) t = { t with cores := k } := by
        clear ih
        induction keys generalizing t with
        | nil => exact ⟨_, rfl⟩
        | cons key keys ih =>
          rw [List.foldl_cons]
          dsimp only
          split
          · exact ih _
          · exact ih t
      obtain ⟨k, hk⟩ := hkeys t
      obtain ⟨k', hk'⟩ := ih { t with cores := k }
      refine ⟨k', ?_⟩
      rw [List.foldl_cons, hk]
      exact hk'
  obtain ⟨k, hk⟩ := hcores (List.range 32) [2 * c, 2 * c + 1] s
  unfold State.stopCommand
  rw [hk]
  exact ⟨k, _, _, _, rfl, rfl⟩

theorem State.stopCommand_ctx_ne (uid : Nat) {d : Nat} (hd : d ≠ c) : (s.stopCommand c uid).ctx d = s.ctx d := by
  obtain ⟨k, m, r, q, hstop, hm⟩ := s.stopCommand_eq c uid
  rw [hstop, hm]
  exact SMap.get_put_ne _ _ _ _ _ hd

theorem State.stopCommand_ctx (uid : Nat) : ∃ r q, (s.stopCommand c uid).ctx c = { s.ctx c with rosters := r, quill := q } := by
  obtain ⟨k, m, r, q, hstop, hm⟩ := s.stopCommand_eq c uid
  rw [hstop, hm]
  exact ⟨r, q, SMap.get_put ..⟩

variable (x : Cmd) (status : Nat)

theorem State.finishCmd_cases : s.finishCmd c x status = (s.terminal c x status).1 ∨
    s.finishCmd c x status = (s.terminal c x status).1.teardown c 2 := by
  unfold State.finishCmd
  split
  · next h => exact .inr (by rw [h]; rfl)
  · next h => exact .inl (by rw [h])

theorem State.finishCmd_eq : s.finishCmd c x status = { s with
    ctxs := (s.finishCmd c x status).ctxs, energy := (s.finishCmd c x status).energy, hbm := (s.finishCmd c x status).hbm
    pair := (s.finishCmd c x status).pair, hostMem := (s.finishCmd c x status).hostMem
    groups := (s.finishCmd c x status).groups, out := (s.finishCmd c x status).out } := by
  rcases s.finishCmd_cases c x status with h | h
  · rw [h, State.terminal_eq]
  · rw [h, State.teardown_eq, State.terminal_eq]

/-- Another context, but for its interrupts. -/
theorem State.finishCmd_ctx_ne {d : Nat} (hd : d ≠ c) :
    ∃ i, (s.finishCmd c x status).ctx d = { s.ctx d with host := { (s.ctx d).host with intStatus := i } } := by
  rcases s.finishCmd_cases c x status with h | h
  · rw [h, State.terminal_ctx_ne _ _ _ _ _ hd]
    exact ⟨_, rfl⟩
  · obtain ⟨i, hi⟩ := (s.terminal c x status).1.teardown_ctx_ne c 2 hd
    rw [State.terminal_ctx_ne _ _ _ _ _ hd] at hi
    rw [h]
    exact ⟨i, hi⟩

variable {s}

/-- A context torn down has no command. -/
theorem State.mem_teardown_cmds (htripped : s.safety.tripped = false) (cause : Nat) {y : Cmd}
    (h : y ∈ ((s.teardown c cause).ctx c).cmds) : y ∈ (s.ctx c).cmds := by
  by_cases hgone : (s.ctx c).life.state = .free ∨ (s.ctx c).life.state = .tearingDown
  · rwa [State.teardown_of_gone hgone] at h
  · obtain ⟨hfree, htearing⟩ := not_or.1 hgone
    obtain ⟨j, e, i, rings, q, hctx⟩ := State.teardown_ctx hfree htearing htripped cause
    rw [hctx] at h
    cases h

/-- A finished command is gone. -/
theorem State.mem_finishCmd_cmds (htripped : s.safety.tripped = false) {y : Cmd}
    (h : y ∈ ((s.finishCmd c x status).ctx c).cmds) : y ∈ (s.ctx c).cmds ∧ y.uid ≠ x.uid := by
  obtain ⟨j, e, i, rings, q, hctx⟩ := State.terminal_ctx htripped c x status true
  have hterminal : y ∈ ((s.terminal c x status).1.ctx c).cmds := by
    rcases s.finishCmd_cases c x status with hfinish | hfinish <;> rw [hfinish] at h
    · exact h
    · refine State.mem_teardown_cmds c ?_ 2 h
      rw [State.terminal_eq]
      exact htripped
  rw [hctx] at hterminal
  obtain ⟨hmem, hne⟩ := List.mem_filter.1 hterminal
  exact ⟨hmem, bne_iff_ne.1 hne⟩

/-- A list of a context's commands is stopped and ends with ABORTED. -/
def State.abortList (s : State) (c : Nat) (l : List Cmd) : State :=
  l.foldl (fun s x => (s.stopCommand c x.uid).finishCmd c x 2) s

theorem State.abortList_cons (s : State) (x : Cmd) (l : List Cmd) :
    s.abortList c (x :: l) = ((s.stopCommand c x.uid).finishCmd c x 2).abortList c l := by
  unfold State.abortList
  rw [List.foldl_cons]

theorem State.abortList_frame (l : List Cmd) (s : State) :
    (s.abortList c l).pcie = s.pcie ∧
    ∀ d, d ≠ c → ((s.abortList c l).ctx d).life = (s.ctx d).life ∧ ((s.abortList c l).ctx d).cmds = (s.ctx d).cmds := by
  induction l generalizing s with
  | nil => exact ⟨rfl, fun _ _ => ⟨rfl, rfl⟩⟩
  | cons x l ih =>
    obtain ⟨k, m, r, q, hstop, -⟩ := s.stopCommand_eq c x.uid
    have hne (d : Nat) (hd : d ≠ c) := s.stopCommand_ctx_ne c x.uid hd
    rw [State.abortList_cons]
    generalize s.stopCommand c x.uid = u at hstop hne
    obtain ⟨hpcie, hothers⟩ := ih (u.finishCmd c x 2)
    refine ⟨hpcie.trans ?_, fun d hd => ?_⟩
    · rw [u.finishCmd_eq c x 2, hstop]
    · obtain ⟨i, hi⟩ := u.finishCmd_ctx_ne c x 2 hd
      obtain ⟨hlife, hcmds⟩ := hothers d hd
      rw [hi, hne d hd] at hlife hcmds
      exact ⟨hlife, hcmds⟩

theorem State.mem_abortList_cmds (l : List Cmd) (s : State) (htripped : s.safety.tripped = false) {y : Cmd}
    (h : y ∈ ((s.abortList c l).ctx c).cmds) : y ∈ (s.ctx c).cmds ∧ ∀ x ∈ l, y.uid ≠ x.uid := by
  induction l generalizing s with
  | nil => exact ⟨h, fun x hx => nomatch hx⟩
  | cons x l ih =>
    obtain ⟨k, m, r, q, hstop, -⟩ := s.stopCommand_eq c x.uid
    obtain ⟨r', q', hctx⟩ := s.stopCommand_ctx c x.uid
    rw [State.abortList_cons] at h
    generalize s.stopCommand c x.uid = u at hstop hctx h
    have hstopped : u.safety.tripped = false := by
      rw [hstop]
      exact htripped
    obtain ⟨hmem, hnone⟩ := ih (u.finishCmd c x 2) (by
      rw [u.finishCmd_eq c x 2]
      exact hstopped) h
    obtain ⟨hmem, hnot⟩ := State.mem_finishCmd_cmds c x 2 hstopped hmem
    rw [hctx] at hmem
    exact ⟨hmem, List.forall_mem_cons.2 ⟨hnot, hnone⟩⟩

end

/-! ## Resets of a function -/

section
variable {s : State}

theorem State.teardown_life {c : Nat} (hfree : (s.ctx c).life.state ≠ .free) (htearing : (s.ctx c).life.state ≠ .tearingDown)
    (cause : Nat) : ((s.teardown c cause).ctx c).life.state = .tearingDown ∧ ((s.teardown c cause).ctx c).life.cause = cause := by
  cases htripped : s.safety.tripped with
  | false =>
    obtain ⟨j, e, i, rings, q, hctx⟩ := State.teardown_ctx hfree htearing htripped cause
    rw [hctx]
    exact ⟨rfl, rfl⟩
  | true =>
    have hend (l : List Cmd) (t : State) (ht : t.safety.tripped = true) : t.endCmds c (teardownStatus cause) l = t := by
      unfold State.endCmds
      exact foldl_eq_self fun x _ => congrArg Prod.fst (State.terminal_of_gone (.inl ht) _ _)
    rw [State.teardown_of_there hfree htearing]
    obtain ⟨i, hi⟩ := State.raiseStateChange_ctx ((s.cutEnergy c cause).detectAll 4 fun t => t.ctx.val == c) c c
    have hcut : (s.cutEnergy c cause).ctx c = _ := State.updCtx_ctx ..
    have hbegin : (s.beginTeardown c cause).ctx c = _ := State.updCtx_ctx ..
    rw [State.cutCmds, hend _ (s.beginTeardown c cause) htripped, hbegin] at hcut
    rw [hi, State.detectAll_ctx, hcut]
    exact ⟨rfl, rfl⟩

/-- A context whose function's BAR0 has been reset. -/
def Ctx.resetBar (x : Ctx) : Ctx := { x with host := {}, serving := { x.serving with reqTail := 0, reqHead := 0 } }

theorem State.resetBar0_eq (s : State) (f : Nat) : s.resetBar0 f = { s.updCtx f Ctx.resetBar with
    pcie := if f = 0 then { s.pcie with bar2Window := 0 } else s.pcie } := by
  unfold State.resetBar0
  by_cases hf : f = 0
  · rw [if_pos hf, if_pos hf]
    rfl
  · rw [if_neg hf, if_neg hf]
    rfl

theorem State.resetBar0_ctx (s : State) (f : Nat) : (s.resetBar0 f).ctx f = (s.ctx f).resetBar := by
  rw [State.resetBar0_eq]
  exact s.updCtx_ctx f Ctx.resetBar

theorem State.resetBar0_ctx_ne (s : State) {f d : Nat} (hd : d ≠ f) : (s.resetBar0 f).ctx d = s.ctx d := by
  rw [State.resetBar0_eq]
  exact s.updCtx_ctx_ne f d Ctx.resetBar hd

/-- The tear-down of a tenant with cause FLR, and its reset. -/
theorem State.vfFlr_eq (s : State) {c : Nat} (hc : c ≠ 0) : ∃ m e q p w g o, s.vfFlr c = { s with
    ctxs := m, energy := e, hbm := q, pair := p, hostMem := w, groups := g, out := o } := by
  unfold State.vfFlr
  rw [State.resetBar0_eq, if_neg hc, State.teardown_eq]
  exact ⟨_, _, _, _, _, _, _, rfl⟩

theorem State.vfFlr_life_ne (s : State) {c d : Nat} (hd : d ≠ c) : ((s.vfFlr c).ctx d).life = (s.ctx d).life := by
  obtain ⟨i, hi⟩ := s.teardown_ctx_ne c 4 hd
  unfold State.vfFlr
  rw [State.resetBar0_ctx_ne _ hd, hi]

theorem State.vfFlr_ctx (s : State) (c : Nat) : (s.vfFlr c).ctx c = ((s.teardown c 4).ctx c).resetBar :=
  State.resetBar0_ctx _ c

/-- A context that the loss of the host tears down. -/
def Life.there (l : Life) : Prop := l.state = .creating ∨ l.state = .live ∨ l.state = .suspended

theorem State.vfFlr_life {c : Nat} (h : (s.ctx c).life.there) :
    ((s.vfFlr c).ctx c).life.state = .tearingDown ∧ ((s.vfFlr c).ctx c).life.cause = 4 := by
  rw [State.vfFlr_ctx]
  refine State.teardown_life ?_ ?_ 4
  · rcases h with h | h | h <;> rw [h] <;> decide
  · rcases h with h | h | h <;> rw [h] <;> decide

/-- One context at the loss of the host. -/
def State.loseTenant (s : State) (c : Nat) : State :=
  if c ≠ 0 ∧ ((s.ctx c).life.state = .creating ∨ (s.ctx c).life.state = .live ∨ (s.ctx c).life.state = .suspended) then
    s.vfFlr c
  else s

theorem State.loseTenant_life_ne (s : State) {c d : Nat} (hd : d ≠ c) : ((s.loseTenant c).ctx d).life = (s.ctx d).life := by
  unfold State.loseTenant
  split
  · exact s.vfFlr_life_ne hd
  · rfl

theorem State.loseTenant_life {c : Nat} (hc : c ≠ 0) (h : (s.ctx c).life.there) :
    ((s.loseTenant c).ctx c).life.state = .tearingDown ∧ ((s.loseTenant c).ctx c).life.cause = 4 := by
  rw [State.loseTenant, if_pos ⟨hc, h⟩]
  exact State.vfFlr_life h

theorem State.loseTenant_of_gone {c : Nat} (h : (s.ctx c).life.state = .tearingDown) : s.loseTenant c = s := by
  refine if_neg fun hthere => ?_
  rw [h] at hthere
  rcases hthere.2 with h | h | h <;> cases h

theorem State.loseTenant_pcie (s : State) (c : Nat) : (s.loseTenant c).pcie = s.pcie ∧ (s.loseTenant c).safety = s.safety := by
  unfold State.loseTenant
  split
  · next h =>
    obtain ⟨m, e, q, p, w, g, o, hflr⟩ := s.vfFlr_eq h.1
    rw [hflr]
    exact ⟨rfl, rfl⟩
  · exact ⟨rfl, rfl⟩

theorem State.foldl_loseTenant (l : List Nat) (s : State) :
    (l.foldl State.loseTenant s).pcie = s.pcie ∧
    ∀ c, c ≠ 0 → (c ∈ l ∧ (s.ctx c).life.there ∨ (s.ctx c).life.state = .tearingDown ∧ (s.ctx c).life.cause = 4) →
      ((l.foldl State.loseTenant s).ctx c).life.state = .tearingDown ∧ ((l.foldl State.loseTenant s).ctx c).life.cause = 4 := by
  induction l generalizing s with
  | nil => exact ⟨rfl, fun c _ h => h.resolve_left fun h => nomatch h.1⟩
  | cons d l ih =>
    obtain ⟨hpcie, hlife⟩ := ih (s.loseTenant d)
    refine ⟨hpcie.trans (s.loseTenant_pcie d).1, fun c hc h => hlife c hc ?_⟩
    by_cases hd : c = d
    · subst hd
      refine .inr (h.elim (fun h => State.loseTenant_life hc h.2) fun h => ?_)
      rw [State.loseTenant_of_gone h.1]
      exact h
    · rw [s.loseTenant_life_ne hd]
      exact h.imp_left (And.imp_left fun hmem => (List.mem_cons.1 hmem).resolve_left hd)

theorem State.loseTenants_of_loseTenant (s : State) : s.loseTenants = (List.range 64).foldl State.loseTenant s := by
  unfold State.loseTenants
  generalize List.range 64 = l
  rfl

theorem State.loseTenants_life (s : State) (c : CtxId) (hc : c ≠ 0) (h : (s.ctx c.val).life.there) :
    (s.loseTenants.ctx c.val).life.state = .tearingDown ∧ (s.loseTenants.ctx c.val).life.cause = 4 := by
  rw [State.loseTenants_of_loseTenant]
  exact (State.foldl_loseTenant (List.range 64) s).2 c.val (fun h0 => hc (Fin.ext h0)) (.inl ⟨List.mem_range.2 c.isLt, h⟩)

theorem State.loseTenants_pcie (s : State) : s.loseTenants.pcie = s.pcie := by
  rw [State.loseTenants_of_loseTenant]
  exact (State.foldl_loseTenant (List.range 64) s).1

/-- A PF FLR: the PF's commands end and its registers are reset. -/
theorem State.pfReset_of_abortList (s : State) : s.pfReset = (s.abortList 0 (s.ctx 0).cmds).resetBar0 0 := by
  unfold State.pfReset State.abortList
  dsimp only

theorem State.pfReset_host (s : State) : (s.pfReset.ctx 0).host = {} := by
  rw [State.pfReset_of_abortList, State.resetBar0_ctx]
  rfl

theorem State.pfReset_cmds {s : State} (htripped : s.safety.tripped = false) : (s.pfReset.ctx 0).cmds = [] := by
  have hgone (y : Cmd) (h : y ∈ ((s.abortList 0 (s.ctx 0).cmds).ctx 0).cmds) : False :=
    (State.mem_abortList_cmds 0 _ s htripped h).2 y (State.mem_abortList_cmds 0 _ s htripped h).1 rfl
  rw [State.pfReset_of_abortList, State.resetBar0_ctx]
  exact List.eq_nil_iff_forall_not_mem.2 hgone

theorem State.pfReset_frame (s : State) : s.pfReset.pcie = { s.pcie with bar2Window := 0 } ∧
    ∀ c, c ≠ 0 → (s.pfReset.ctx c).life = (s.ctx c).life ∧ (s.pfReset.ctx c).cmds = (s.ctx c).cmds := by
  obtain ⟨hpcie, hothers⟩ := State.abortList_frame 0 (s.ctx 0).cmds s
  rw [State.pfReset_of_abortList]
  generalize s.abortList 0 (s.ctx 0).cmds = u at hpcie hothers
  refine ⟨?_, fun c hc => ?_⟩
  · rw [State.resetBar0_eq]
    exact congrArg (fun p : Pcie => { p with bar2Window := 0 }) hpcie
  · rw [State.resetBar0_ctx_ne _ hc]
    exact hothers c hc

/-! ## The loss of the host -/

/-- The PCIe side after the loss of the host. -/
def Pcie.lose (p : Pcie) (perst : Bool) (now : Word) : Pcie :=
  { p with
    perst := p.perst || perst, linkUp := false, rate := 0, width := 0, flit := false
    hostLossCount := satAdd p.hostLossCount 1, hostLossTick := now }

/-- The input that a primary forwards at the loss of the host. -/
def State.forwardLoss (s : State) : State :=
  if s.pair.role == 1 && decide (s.pair.state = 1) then s.emit (.forward s.tick.now .hostLoss) else s

theorem State.forwardLoss_eq (s : State) : s.forwardLoss = { s with out := s.forwardLoss.out } := by
  unfold State.forwardLoss
  split <;> rfl

/-- The tenants and the PF after the loss of the host. -/
def State.dropHost (s : State) : State := (if s.ignoresHost then s else s.loseTenants).pfReset

theorem State.dropHost_fields (s : State) : s.dropHost.pcie = { s.pcie with bar2Window := 0 } ∧ (s.dropHost.ctx 0).host = {} ∧
    (s.ignoresHost = true → ∀ c, c ≠ 0 → (s.dropHost.ctx c).life = (s.ctx c).life) ∧
    (s.ignoresHost = false → ∀ c : CtxId, c ≠ 0 → (s.ctx c.val).life.there →
      (s.dropHost.ctx c.val).life.state = .tearingDown ∧ (s.dropHost.ctx c.val).life.cause = 4) := by
  cases hignores : s.ignoresHost with
  | true =>
    obtain ⟨hpcie, hothers⟩ := s.pfReset_frame
    rw [State.dropHost, if_pos hignores]
    exact ⟨hpcie, s.pfReset_host, fun _ c hc => (hothers c hc).1, Bool.noConfusion⟩
  | false =>
    have hlost := s.loseTenants_life
    have hkept := s.loseTenants_pcie
    rw [State.dropHost, hignores, if_neg Bool.false_ne_true]
    generalize s.loseTenants = u at hlost hkept
    obtain ⟨hpcie, hothers⟩ := u.pfReset_frame
    refine ⟨hpcie.trans (congrArg (fun p : Pcie => { p with bar2Window := 0 }) hkept), u.pfReset_host,
      Bool.noConfusion, fun _ c hc h => ?_⟩
    rw [(hothers c.val fun h0 => hc (Fin.ext h0)).1]
    exact hlost c hc h

/-- The host has been there, and is lost. -/
theorem exec_hostLoss_of_there {kind : HostLossKind} (h : (match kind with
      | .perst => s.pcie.perst || !s.pins.por
      | .dll => !s.pcie.linkUp) = false) : ∃ t : State, exec (.hostLoss kind) s = .next t ∧
    t.pcie = { s.pcie.lose (kind == .perst) s.tick.now with bar2Window := 0 } ∧ (t.ctx 0).host = {} ∧
    (s.ignoresHost = true → ∀ c, c ≠ 0 → (t.ctx c).life = (s.ctx c).life) ∧
    (s.ignoresHost = false → ∀ c : CtxId, c ≠ 0 → (s.ctx c.val).life.there →
      (t.ctx c.val).life.state = .tearingDown ∧ (t.ctx c.val).life.cause = 4) := by
  obtain ⟨o, hloss⟩ : ∃ o, s.forwardLoss = { s with out := o } := ⟨_, s.forwardLoss_eq⟩
  let u : State := { s with pcie := s.pcie.lose (kind == .perst) s.tick.now, out := o }
  obtain ⟨hpcie, hhost, hstays, hlost⟩ := u.dropHost_fields
  have hexec : exec (.hostLoss kind) s = .next (u.dropHost.logEvent 3 1 (Config.logField 0) (freeArgs 0)) := by
    change execHostLoss kind s = _
    unfold execHostLoss
    refine congrArg Host.Outcome.next ((if_neg (Bool.not_eq_true _ ▸ h)).trans ?_)
    unfold State.forwardLoss at hloss
    dsimp only
    rw [hloss]
    unfold State.dropHost
    rfl
  refine ⟨_, hexec, ?_⟩
  rw [State.logEvent_eq]
  exact ⟨hpcie, hhost, hstays, hlost⟩

/-! ## The PCIe link -/

theorem exec_vfFlr {c : CtxId} (hc : c ≠ 0) (hup : s.pcie.linkUp = true) :
    exec (.vfFlr c) s = .next ((s.forwardIn c.val (.flr c)).vfFlr c.val) :=
  congrArg Host.Outcome.next (if_neg (not_or.2 ⟨hc, by simp [hup]⟩))

theorem State.forwardIn_eq (s : State) (c : Nat) (i : FwdInput) : s.forwardIn c i = { s with out := (s.forwardIn c i).out } := by
  unfold State.forwardIn
  split <;> rfl

/-- A rate and a width at which the interface may train. -/
def linkTrains (rate : BitVec 4) (width : BitVec 5) (flit : Bool) : Bool :=
  decide (1 ≤ rate.toNat) && decide (rate.toNat ≤ 6) && [1, 2, 4, 8, 16].contains width.toNat && (rate.toNat != 6 || flit)

theorem linkTrains_iff {rate : BitVec 4} {width : BitVec 5} {flit : Bool} : linkTrains rate width flit = true ↔
    1 ≤ rate.toNat ∧ rate.toNat ≤ 6 ∧ width.toNat ∈ [1, 2, 4, 8, 16] ∧ (rate.toNat = 6 → flit = true) := by
  simp only [linkTrains, Bool.and_eq_true, decide_eq_true_eq, List.contains_iff_mem, Bool.or_eq_true, bne_iff_ne, and_assoc]
  refine and_congr_right fun _ => and_congr_right fun _ => and_congr_right fun _ => ?_
  exact ⟨fun h h6 => h.resolve_left (Classical.not_not.2 h6), fun h => Classical.or_iff_not_imp_left.2 fun h6 => h (Classical.not_not.1 h6)⟩

theorem exec_pcieLinkUp (rate : BitVec 4) (width : BitVec 5) (flit : Bool) : exec (.pcieLinkUp rate width flit) s =
    .next (if linkTrains rate width flit && s.pins.por && !s.pcie.perst then
      { s with pcie := { s.pcie with linkUp := true, rate := rate, width := width, flit := flit } }.logEvent 1 1 0x0308
        [rate.toNat, width.toNat, b2n flit]
    else s) := rfl

theorem exec_perstDeassert : exec .perstDeassert s = .next { s with pcie := { s.pcie with
    perst := false, numVfs := if s.cfgNum 0x8000 3 == 1 then 63 else if s.pcie.perst then 0 else s.pcie.numVfs
    vfEnable := s.cfgNum 0x8000 3 == 1 || (!s.pcie.perst && s.pcie.vfEnable) } } := rfl

theorem exec_sriovControlWrite (n : BitVec 16) (e : Bool) : exec (.sriovControlWrite n e) s =
    .next (if !s.pcie.linkUp then s
      else if s.cfgNum 0x8000 3 = 1 then s.logEvent 2 6 0x0102 (freeArgs 1)
      else { s with pcie := { s.pcie with numVfs := n, vfEnable := e } }) := rfl

end

/-- Settles O42: the resets by what a tear-down and the end of a function's commands leave, the loss of the host by the
turn of each tenant in it, and the link by the cases of its events. -/
theorem hostResetsAndLoss : Obligations.HostResetsAndLoss := by
  intro s
  refine ⟨fun c hc hup htripped => ?_, fun c h => congrArg Host.Outcome.next (if_pos h), fun hup htripped => ?_,
    fun hup => congrArg Host.Outcome.next (if_neg (by simp [hup])), fun hup => ?_, fun hpor hperst => ?_, fun hup => ?_,
    fun h => ?_, fun hlock => ?_, fun hlock hperst => ?_, fun hlock hperst => ?_,
    fun rate width flit h1 h6 hwidth hflit hpor hperst => ?_, fun rate width flit h => ?_, fun n e hup hlock => ?_,
    fun n e hup hlock => ?_, fun n e hup => ?_⟩
  · have hc0 : c.val ≠ 0 := fun h0 => hc (Fin.ext h0)
    refine ⟨_, exec_vfFlr hc hup, ?_⟩
    rw [State.forwardIn_eq]
    generalize (s.forwardIn c.val (.flr c)).out = o
    obtain ⟨m, e, q, p, w, g, o', hflr⟩ := State.vfFlr_eq { s with out := o } hc0
    have hctx := State.vfFlr_ctx { s with out := o } c.val
    refine ⟨?_, fun hfree htearing => ?_, fun h => ?_, ?_, ?_⟩
    · rw [hctx]
      rfl
    · obtain ⟨j, e, i, rings, q, htear⟩ := State.teardown_ctx (s := { s with out := o }) hfree htearing htripped 4
      rw [hctx, htear]
      exact ⟨rfl, rfl, rfl, rfl⟩
    · rw [hctx, State.teardown_of_gone (s := { s with out := o }) h]
      rfl
    · rw [hflr]
    · rw [hflr]
  · obtain ⟨hpcie, hothers⟩ := s.pfReset_frame
    exact ⟨_, congrArg Host.Outcome.next (if_pos hup), s.pfReset_host, State.pfReset_cmds htripped, hpcie,
      fun c hc => hothers c.val fun h0 => hc (Fin.ext h0)⟩
  · obtain ⟨t, hexec, hpcie, hhost, hstays, hlost⟩ := exec_hostLoss_of_there (s := s) (kind := .dll) (by simp [hup])
    refine ⟨t, hexec, ?_, fun h c hc hthere => hlost ?_ c hc hthere, fun hrole hstate c hc => hstays ?_ c.val ?_, hhost⟩
    · rw [hpcie, Pcie.lose, show (HostLossKind.dll == HostLossKind.perst) = false from rfl, Bool.or_false]
    · rw [State.ignoresHost, ← Bool.not_eq_true, Bool.and_eq_true, beq_iff_eq, decide_eq_true_eq]
      exact h
    · rw [State.ignoresHost, hrole, hstate]
      rfl
    · exact fun h0 => hc (Fin.ext h0)
  · obtain ⟨t, hexec, hpcie, -⟩ := exec_hostLoss_of_there (s := s) (kind := .perst) (by simp [hpor, hperst])
    refine ⟨t, hexec, ?_, ?_, ?_, ?_⟩ <;> rw [hpcie]
    · exact Bool.or_true _
    all_goals rfl
  · exact congrArg Host.Outcome.next (if_pos (by simp [hup]))
  · exact congrArg Host.Outcome.next (if_pos (by simpa using h))
  · rw [exec_perstDeassert, hlock]
    rfl
  · rw [exec_perstDeassert, beq_false_of_ne hlock, hperst]
    rfl
  · rw [exec_perstDeassert, beq_false_of_ne hlock, hperst]
    have hkeep : { s.pcie with perst := false } = s.pcie := by rw [← hperst]
    exact congrArg (fun p => Host.Outcome.next { s with pcie := p }) hkeep
  · refine ⟨_, (exec_pcieLinkUp rate width flit).trans (congrArg Host.Outcome.next (if_pos ?_)), ?_⟩
    · rw [linkTrains_iff.2 ⟨h1, h6, hwidth, hflit⟩, hpor, hperst]
      rfl
    · rw [State.logEvent_eq]
      exact ⟨rfl, rfl, rfl⟩
  · refine (exec_pcieLinkUp rate width flit).trans (congrArg Host.Outcome.next (if_neg fun hgo => ?_))
    simp only [Bool.and_eq_true, linkTrains_iff, Bool.not_eq_true'] at hgo
    obtain ⟨⟨⟨h1, h6, hwidth, hflit⟩, hpor⟩, hperst⟩ := hgo
    rcases h with h | h | h | h | h | ⟨h6', h⟩
    · simp [hpor] at h
    · simp [hperst] at h
    · omega
    · omega
    · exact h hwidth
    · simp [hflit h6'] at h
  · rw [exec_sriovControlWrite, hup]
    exact congrArg Host.Outcome.next (if_neg hlock)
  · refine ⟨s.logEvent 2 6 0x0102 (freeArgs 1), (exec_sriovControlWrite n e).trans ?_, State.logEvent_eq ..,
      fun hlog => State.logEvent_logSeq hlog _ _ _⟩
    rw [hup]
    exact congrArg Host.Outcome.next (if_pos hlock)
  · exact (exec_sriovControlWrite n e).trans (congrArg Host.Outcome.next (if_pos (by simp [hup])))

end Sys2Proof.Machine
end

section
namespace Sys2Proof.Machine

/-! ## Fields of a record -/

/-- A slice behind the first part of a record. -/
theorem slice_append_right {a b : Bytes} {off n : Nat} (h : a.length ≤ off) : slice (a ++ b) off n = slice b (off - a.length) n := by
  rw [slice, slice, List.drop_append, List.drop_eq_nil_of_le h, List.nil_append]

/-- A slice that is the first part of a record. -/
theorem slice_append_left {a b : Bytes} {n : Nat} (h : a.length = n) : slice (a ++ b) 0 n = a := by
  simp [slice, ← h]

@[simp] theorem toLe_length (n v : Nat) : (toLe n v).length = n := by
  induction n generalizing v with
  | zero => rfl
  | succ n ih => rw [toLe, List.length_cons, ih]

theorem leNat_toLe (n v : Nat) : leNat (toLe n v) = v % 256 ^ n := by
  induction n generalizing v with
  | zero => simp [toLe, leNat, Nat.mod_one]
  | succ n ih =>
    rw [toLe, leNat, ih, BitVec.toNat_ofNat, show (2 : Nat) ^ 8 = 256 from rfl, Nat.pow_succ', Nat.mod_mul]

/-- The completion record, field for field. -/
theorem completionRecord_fields (id : BitVec 32) {status : Nat} (tick : Word) (result : BitVec 32) (h : status < 256) :
    let r := completionRecord id status tick result
    r.length = 32 ∧ field r 0 4 = id.toNat ∧ field r 4 1 = status ∧ zeros r 5 3 = true ∧ field r 8 8 = tick.toNat ∧
      field r 16 4 = result.toNat ∧ zeros r 20 12 = true := by
  have hlast : slice (List.replicate 12 (0 : BitVec 8)) 0 12 = List.replicate 12 0 := rfl
  simp only [completionRecord, List.append_assoc, field, zeros, slice_append_right, slice_append_left, toLe_length,
    List.length_replicate, leNat_toLe, hlast, Nat.reduceLeDiff, Nat.reduceSub]
  refine ⟨rfl, Nat.mod_eq_of_lt id.isLt, Nat.mod_eq_of_lt h, rfl, Nat.mod_eq_of_lt tick.isLt, Nat.mod_eq_of_lt result.isLt, rfl⟩

/-! ## The streams of a stopped command -/

/-- One stream of a command that stops. -/
def State.stopOne (uid : Nat) (s : State) (k key : Nat) : State :=
  if ((s.core k).stream key).uid = uid ∧ !((s.core k).stream key).free then s.updCore k fun x => x.stopStream key else s

/-- A stream whose command stops. -/
def Stream.stopped (st : Stream) : Stream := { st with status := .ended, liveV := [], loops := [], paused := [] }

theorem Core.stopStream_stream (x : Core) (key j : Nat) :
    (x.stopStream key).stream j = (x.updStream key Stream.stopped).stream j := rfl

theorem State.stopOne_stream_same (uid : Nat) (s : State) (k key : Nat) : (((s.stopOne uid k key).core k).stream key) =
    if ((s.core k).stream key).uid = uid ∧ !((s.core k).stream key).free then
      ((s.core k).stream key).stopped else (s.core k).stream key := by
  unfold State.stopOne
  split
  · rw [State.updCore_core]
    exact (s.core k).updStream_stream key Stream.stopped
  · rfl

theorem State.stopOne_stream_ne (uid : Nat) (s : State) {k key k' key' : Nat} (h : k' ≠ k ∨ key' ≠ key) :
    ((s.stopOne uid k key).core k').stream key' = (s.core k').stream key' := by
  unfold State.stopOne
  split
  · by_cases hk : k' = k
    · subst hk
      rw [State.updCore_core, Core.stopStream_stream]
      exact (s.core k').updStream_stream_ne key key' _ (h.resolve_left fun h => h rfl)
    · rw [State.updCore_core_ne _ _ _ _ hk]
  · rfl

/-- What stopping leaves of a stream: another command's as it was; one of the command stays with it, and once free stays
free. -/
theorem State.stopOne_stream (uid : Nat) (s : State) (k key k' key' : Nat) :
    (((s.core k').stream key').uid ≠ uid → ((s.stopOne uid k key).core k').stream key' = (s.core k').stream key') ∧
    (((s.stopOne uid k key).core k').stream key').uid = ((s.core k').stream key').uid ∧
    (((s.core k').stream key').free = true → (((s.stopOne uid k key).core k').stream key').free = true) := by
  by_cases h : k' = k ∧ key' = key
  · obtain ⟨rfl, rfl⟩ := h
    rw [State.stopOne_stream_same]
    refine ⟨fun hne => if_neg fun h => hne h.1, ?_, fun hfree => ?_⟩
    · split <;> rfl
    · rw [if_neg (by simp [hfree])]
      exact hfree
  · rw [State.stopOne_stream_ne uid s (Classical.not_and_iff_not_or_not.1 h)]
    exact ⟨fun _ => rfl, rfl, id⟩

/-- A list of streams is stopped. -/
theorem State.foldl_stopOne (uid : Nat) (l : List (Nat × Nat)) (s : State) (k key : Nat) :
    let t := l.foldl (fun s p => State.stopOne uid s p.1 p.2) s
    (((s.core k).stream key).uid ≠ uid → (t.core k).stream key = (s.core k).stream key) ∧
    (((s.core k).stream key).uid = uid → ((k, key) ∈ l ∨ ((s.core k).stream key).free = true) →
      ((t.core k).stream key).free = true) := by
  induction l generalizing s with
  | nil => exact ⟨fun _ => rfl, fun _ h => h.resolve_left fun h => nomatch h⟩
  | cons p l ih =>
    obtain ⟨hother, huid, hfree⟩ := State.stopOne_stream uid s p.1 p.2 k key
    obtain ⟨hkeep, hend⟩ := ih (s.stopOne uid p.1 p.2)
    refine ⟨fun hne => (hkeep (huid ▸ hne)).trans (hother hne), fun heq h => hend (huid.trans heq) ?_⟩
    by_cases hp : (k, key) = p
    · subst hp
      right
      rw [State.stopOne_stream_same]
      by_cases hf : ((s.core k).stream key).free = true
      · rwa [if_neg (by simp [hf])]
      · rw [if_pos ⟨heq, by simpa using hf⟩]
        rfl
    · exact h.imp (fun hmem => (List.mem_cons.1 hmem).resolve_left hp) hfree

/-- The streams that may run a context's commands. -/
def ctxStreams (c : Nat) : List (Nat × Nat) := (List.range 32).flatMap fun k => [(k, 2 * c), (k, 2 * c + 1)]

theorem mem_ctxStreams {c k key : Nat} (hkey : keyCtx key = c) (hk : k < 32) : (k, key) ∈ ctxStreams c := by
  refine List.mem_flatMap.2 ⟨k, List.mem_range.2 hk, ?_⟩
  unfold keyCtx at hkey
  simp only [List.mem_cons, Prod.mk.injEq, true_and, List.not_mem_nil, or_false]
  omega

theorem State.stopCommand_core (s : State) (c uid k : Nat) :
    (s.stopCommand c uid).core k = ((ctxStreams c).foldl (fun s p => State.stopOne uid s p.1 p.2) s).core k := by
  unfold State.stopCommand ctxStreams
  generalize List.range 32 = l
  rw [List.foldl_flatMap]
  rfl

theorem State.stopCommand_free {s : State} {c uid k key : Nat} (hkey : keyCtx key = c) (hk : k < 32)
    (huid : ((s.core k).stream key).uid = uid) : (((s.stopCommand c uid).core k).stream key).free = true := by
  rw [State.stopCommand_core]
  exact (State.foldl_stopOne uid (ctxStreams c) s k key).2 huid (.inl (mem_ctxStreams hkey hk))

theorem State.stopCommand_stream {s : State} {c uid k key : Nat} (huid : ((s.core k).stream key).uid ≠ uid) :
    ((s.stopCommand c uid).core k).stream key = (s.core k).stream key := by
  rw [State.stopCommand_core]
  exact (State.foldl_stopOne uid (ctxStreams c) s k key).1 huid

/-! ## ABORT and terminal status -/

section
variable {c : CtxId} {uid : Nat} {s : State} {x : Cmd}

theorem State.cmd_uid {c : Nat} (h : s.cmd c uid = some x) : x.uid = uid ∧ x ∈ (s.ctx c).cmds :=
  ⟨beq_iff_eq.1 (List.find?_some h :), List.mem_of_find?_eq_some h⟩

theorem exec_abort (h : s.cmd c.val uid = some x) : exec (.abort c uid) s =
    .next (if x.type ≠ 6 ∨ s.now ≤ x.acceptTick.toNat ∨ s.accepting c.val = false then s
      else match x.target.bind (s.cmd c.val) with
        | none => s.finishCmd c.val x 1
        | some y =>
          if y.uid < uid then ((s.stopCommand c.val y.uid).finishCmd c.val y 2).finishCmd c.val x 0
          else ((s.stopCommand c.val y.uid).finishCmd c.val x 0).finishCmd c.val y 2) := by
  change execAbort c uid s = _
  unfold execAbort
  rw [h] <;> rfl

theorem exec_commandTerminal (h : s.cmd c.val uid = some x) (ats : Bool) : exec (.commandTerminal c uid ats) s =
    .next (if s.cmdReady c.val x = false ∨
        ((s.ctx c.val).cmds.any fun y => y.ring == x.ring && decide (y.uid < uid) && s.cmdReady c.val y) ∨
        s.doomed c.val uid = true ∨ s.accepting c.val = false then s
      else if ats then (s.terminal c.val x x.status false).1.ctxFault c.val else s.finishCmd c.val x x.status) := by
  change execCommandTerminal c uid ats s = _
  unfold execCommandTerminal
  rw [h]

theorem exec_commandTerminal_of_ready (h : s.cmd c.val uid = some x) (haccepts : s.accepting c.val = true)
    (hready : s.cmdReady c.val x = true)
    (hfirst : ∀ y ∈ (s.ctx c.val).cmds, y.ring = x.ring → y.uid < uid → s.cmdReady c.val y = false)
    (hdoomed : s.doomed c.val uid = false) (ats : Bool) : exec (.commandTerminal c uid ats) s =
    .next (if ats then (s.terminal c.val x x.status false).1.ctxFault c.val else s.finishCmd c.val x x.status) := by
  refine (exec_commandTerminal h ats).trans (congrArg Host.Outcome.next (if_neg ?_))
  rintro (hno | hearlier | hno | hno)
  · simp [hready] at hno
  · obtain ⟨y, hy, hgoes⟩ := List.any_eq_true.1 hearlier
    simp only [Bool.and_eq_true, beq_iff_eq, decide_eq_true_eq] at hgoes
    obtain ⟨⟨hring, hlt⟩, hyready⟩ := hgoes
    rw [hfirst y hy hring hlt] at hyready
    cases hyready
  · simp [hdoomed] at hno
  · simp [haccepts] at hno

end

/-! ## The completion record in the host's memory -/

section
variable {c : Nat} {s : State} {x : Cmd}

theorem State.settleCmd_of_unmirrored (hmirrored : s.mirrored c = false) (status : Nat) :
    s.settleCmd c x status = (s.leaveCmd c x).trueUp c x := by
  have hsilent : ((s.leaveCmd c x).trueUp c x).mirrored c = false := by
    rw [State.trueUp_eq]
    exact hmirrored
  exact if_pos (by simp [hsilent])

/-- A record that goes to the host. -/
theorem State.writeRecord_host (hsilent : s.silent c = false) (hup : s.pcie.linkUp = true) (r v : Nat) (b : Bytes) :
    (s.writeRecord c r b v).hostMem = s.hostMem.writeBytes (s.ring c r).cqSlot b ∧
    ∃ i, (s.writeRecord c r b v).ctx c = { s.ctx c with host := { (s.ctx c).host with
      rings := (s.ctx c).host.rings.put r { s.ring c r with cqTail := (s.ring c r).cqTail + 1 }, intStatus := i } } := by
  have hdeliver : s.deliverRecord c r b v = { s with
      hostMem := s.hostMem.writeBytes (s.ring c r).cqSlot b, out := .hostWrite (s.ring c r).cqSlot b :: s.out } := by
    unfold State.deliverRecord State.hostWrite
    rw [hsilent, if_neg Bool.false_ne_true, if_pos hup]
    rfl
  rw [State.writeRecord_of_deliverRecord, hdeliver]
  refine ⟨?_, ?_⟩
  · rw [State.raise_eq, State.updRing_eq]
    rfl
  · generalize hu : ({ s with
      hostMem := s.hostMem.writeBytes (s.ring c r).cqSlot b, out := .hostWrite (s.ring c r).cqSlot b :: s.out } : State) = u
    have hring : u.ring c r = s.ring c r ∧ u.ctx c = s.ctx c := by
      subst hu
      exact ⟨rfl, rfl⟩
    obtain ⟨i, hi⟩ := (u.updRing c r fun x => { x with cqTail := x.cqTail + 1 }).raise_ctx c c v
    rw [State.updRing_ctx, hring.1, hring.2] at hi
    exact ⟨i, hi⟩

/-- A command whose record goes to the host. -/
theorem State.recordCmd_host (hmirrored : s.mirrored c = false) (hsilent : s.silent c = false) (hup : s.pcie.linkUp = true)
    (status : Nat) : ∃ t, t = s.recordCmd c x status true ∧
    t.hostMem = s.hostMem.writeBytes (s.ring c x.ring.val).cqSlot (completionRecord x.cmdId status s.tick.now x.result) ∧
    (t.ring c x.ring.val).cqTail = (s.ring c x.ring.val).cqTail + 1 ∧
    (t.ctx c).cmds = (s.ctx c).cmds.filter (fun y => y.uid != x.uid) ∧
    (t.ctx c).life.jobs = (if x.type = 1 then (s.ctx c).life.jobs + 1 else (s.ctx c).life.jobs) := by
  have hsettle : s.settleCmd c x status = { s with
      ctxs := (s.settleCmd c x status).ctxs, energy := (s.settleCmd c x status).energy } := by
    rw [State.settleCmd_of_unmirrored hmirrored, State.trueUp_eq]
    rfl
  obtain ⟨e, hctx⟩ := State.trueUp_ctx (s.leaveCmd c x) c x
  have hleave : (s.leaveCmd c x).ctx c = _ := s.updCtx_ctx c _
  rw [hleave, ← State.settleCmd_of_unmirrored hmirrored status] at hctx
  refine ⟨_, rfl, ?_⟩
  unfold State.recordCmd
  dsimp only
  rw [if_pos rfl]
  generalize s.settleCmd c x status = u at hsettle hctx
  obtain ⟨m, e', hu⟩ : ∃ m e', u = { s with ctxs := m, energy := e' } := ⟨_, _, hsettle⟩
  have hsame : u.silent c = s.silent c ∧ u.pcie = s.pcie ∧ u.tick = s.tick ∧ u.hostMem = s.hostMem := by
    rw [hu]
    exact ⟨rfl, rfl, rfl, rfl⟩
  obtain ⟨husilent, hpcie, htick, hmem⟩ := hsame
  have hring : u.ring c x.ring.val = s.ring c x.ring.val := by
    rw [State.ring, hctx]
    rfl
  obtain ⟨hmemory, i, hi⟩ := State.writeRecord_host (husilent.trans hsilent) (by rw [hpcie]; exact hup) x.ring.val
    (4 + x.ring.val) (completionRecord x.cmdId status u.tick.now x.result)
  rw [hring, hmem] at hmemory
  rw [hring] at hi
  generalize u.writeRecord c x.ring.val (completionRecord x.cmdId status u.tick.now x.result) (4 + x.ring.val) = w at hmemory hi ⊢
  refine ⟨?_, ?_, ?_, ?_⟩
  · rw [hmemory, htick]
  · refine (congrArg (fun y : Ctx => (y.host.rings.get {} x.ring.val).cqTail) hi).trans ?_
    dsimp only
    rw [SMap.get_put]
  · rw [hi, hctx]
  · rw [hi, hctx]

end

/-- Settles O26: an ABORT by its target, terminal status by the readiness of its command, the record in the host's memory
by the steps of terminal status, and its bytes field by field. -/
theorem commandsEnd : Obligations.CommandsEnd := by
  refine ⟨fun c uid s x hx haccepts => ?_, fun id status tick result h => completionRecord_fields id tick result h⟩
  obtain ⟨huid, hmem⟩ := State.cmd_uid hx
  refine ⟨fun htype htime => ?_, fun h => ?_, fun hready hfirst hdoomed => ?_, fun ats h => ?_⟩
  · have habort := (exec_abort hx).trans (congrArg Host.Outcome.next (if_neg (by
      rintro (hno | hno | hno)
      · exact hno htype
      · exact absurd htime (Nat.not_lt.2 hno)
      · simp [haccepts] at hno)))
    refine ⟨fun hnone => ?_, fun y hy => ?_⟩
    · rw [habort, hnone]
    · obtain ⟨u, hu, hyu⟩ := Option.bind_eq_some_iff.1 hy
      obtain ⟨hyuid, hymem⟩ := State.cmd_uid hyu
      rw [habort, hy]
      exact ⟨⟨hymem, hu.trans (congrArg some hyuid.symm)⟩, fun hlt => congrArg Host.Outcome.next (if_pos hlt),
        fun hle => congrArg Host.Outcome.next (if_neg (Nat.not_lt.2 hle)),
        fun k key hkey hk => State.stopCommand_free hkey hk, fun k key => State.stopCommand_stream⟩
  · exact (exec_abort hx).trans (congrArg Host.Outcome.next (if_pos (h.imp_right Or.inl)))
  · have hexec := exec_commandTerminal_of_ready hx haccepts hready hfirst hdoomed
    refine ⟨hexec false, hexec true, fun htripped hsilent hmirrored hup hsem => ?_⟩
    have hthere : (s.cmd c.val x.uid).isNone = false := by
      rw [huid, hx]
      rfl
    have hfinish : s.finishCmd c.val x x.status = s.recordCmd c.val x x.status true := by
      have hadd : (s.recordCmd c.val x x.status true).addSem c.val x.sem.toNat 1 = (s.recordCmd c.val x x.status true, false) := by
        rw [hsem]
        rfl
      have hterminal := State.terminal_of_live htripped hthere x.status true
      rw [hadd, ite_self] at hterminal
      unfold State.finishCmd
      rw [hterminal]
    obtain ⟨t, ht, hmemory, htail, hcmds, hjobs⟩ := State.recordCmd_host (x := x) hmirrored hsilent hup x.status
    have hframe := State.recordCmd_eq s c.val x x.status true
    rw [← ht] at hframe hfinish
    refine ⟨t, (hexec false).trans (congrArg Host.Outcome.next hfinish), hmemory, htail, huid ▸ hcmds, hjobs, ?_, ?_, ?_⟩ <;>
      rw [hframe]
  · refine (exec_commandTerminal hx ats).trans (congrArg Host.Outcome.next (if_pos ?_))
    exact h.imp_right fun hdoomed => .inr (.inl hdoomed)

end Sys2Proof.Machine
end

section
namespace Sys2Proof.Machine

/-! ## A command changed in its context -/

theorem find?_mapIf {α : Type} {p : α → Bool} {f : α → α} (hf : ∀ x, p x = true → p (f x) = true) (l : List α) :
    (mapIf p f l).find? p = (l.find? p).map f := by
  induction l with
  | nil => rfl
  | cons x l ih =>
    unfold mapIf at ih ⊢
    cases hx : p x with
    | true => simp [hx, hf x hx]
    | false => simp [hx, ih]

section
variable (s : State) (c uid : Nat) {f : Cmd → Cmd}

theorem State.updCmd_ctx (f : Cmd → Cmd) : (s.updCmd c uid f).ctx c = { s.ctx c with
    cmds := mapIf (fun y => y.uid == uid) f (s.ctx c).cmds } := s.updCtx_ctx c _

theorem State.updCmd_cmd (hf : ∀ x : Cmd, (f x).uid = x.uid) : (s.updCmd c uid f).cmd c uid = (s.cmd c uid).map f := by
  unfold State.cmd
  rw [State.updCmd_ctx]
  exact find?_mapIf (fun x hx => by rwa [hf]) _

/-- A change of a context that leaves its commands. -/
theorem State.updCtx_cmd {g : Ctx → Ctx} (hg : (g (s.ctx c)).cmds = (s.ctx c).cmds) :
    (s.updCtx c g).cmd c uid = s.cmd c uid := by
  unfold State.cmd
  rw [State.updCtx_ctx, hg]

end

/-! ## COMMAND_START -/

section
variable {c : CtxId} {uid : Nat} {s : State} {x : Cmd}

/-- The command is taken, and its turn to start has come. -/
def State.startTurn (s : State) (c : Nat) (x : Cmd) : Prop :=
  x.phase = .accepted ∧ x.type ≠ 6 ∧ (s.ctx c).life.state = .live ∧ s.ringReady c x = true ∧
    ∀ y ∈ (s.ctx c).cmds, y.phase = .deferred → y.before x = false

/-- A command whose tag is above the balance. -/
def State.deferCmd (s : State) (c uid : Nat) : State :=
  (State.updCtx { s with energy := { s.energy with windowDeferred := true } } c fun y =>
    { y with energy := { y.energy with deferrals := y.energy.deferrals + 1 } }).updCmd c uid fun y => { y with phase := .deferred }

theorem State.startTurn_iff (s : State) (c : Nat) (x : Cmd) : s.startTurn c x ↔
    ¬(x.phase ≠ .accepted ∨ x.type = 6 ∨ (s.ctx c).life.state ≠ .live ∨ s.ringReady c x = false ∨
      (s.ctx c).cmds.any (fun y => y.phase == .deferred && y.before x) = true) := by
  simp only [State.startTurn, not_or, Classical.not_not, Bool.not_eq_false, Bool.not_eq_true, List.any_eq_false, Bool.and_eq_true,
    beq_iff_eq, not_and, ne_eq]

theorem exec_commandStart (hx : s.cmd c.val uid = some x) : exec (.commandStart c uid) s =
    .next (if x.phase ≠ .accepted ∨ x.type = 6 ∨ (s.ctx c.val).life.state ≠ .live ∨ s.ringReady c.val x = false ∨
        (s.ctx c.val).cmds.any (fun y => y.phase == .deferred && y.before x) then s
      else if s.urgentOk c.val x = false then s.ctxFault c.val
      else if x.tagged c.val then
        if s.balanceCap c.val < x.tag then s.ctxFault c.val
        else if x.tag ≠ 0 ∧ (s.ctx c.val).energy.balance < x.tag then s.deferCmd c.val uid
        else (s.debit c.val x).startNow c.val { x with debited := true } false
      else s.startNow c.val x false) := by
  change execCommandStart c uid s = _
  unfold execCommandStart
  rw [hx] <;> rfl

theorem exec_commandStart_of_not (hx : s.cmd c.val uid = some x) (h : ¬s.startTurn c.val x) :
    exec (.commandStart c uid) s = .next s := by
  rw [State.startTurn_iff, Classical.not_not] at h
  exact (exec_commandStart hx).trans (congrArg Host.Outcome.next (if_pos h))

theorem exec_commandStart_of_turn (hx : s.cmd c.val uid = some x) (h : s.startTurn c.val x)
    (hurgent : s.urgentOk c.val x = true) : exec (.commandStart c uid) s =
    .next (if x.tagged c.val then
        if s.balanceCap c.val < x.tag then s.ctxFault c.val
        else if x.tag ≠ 0 ∧ (s.ctx c.val).energy.balance < x.tag then s.deferCmd c.val uid
        else (s.debit c.val x).startNow c.val { x with debited := true } false
      else s.startNow c.val x false) := by
  refine (exec_commandStart hx).trans (congrArg Host.Outcome.next ?_)
  rw [if_neg ((s.startTurn_iff c.val x).1 h), hurgent]
  exact if_neg (by decide)

theorem Cmd.tagged_iff (x : Cmd) (c : Nat) : x.tagged c = true ↔ c ≠ 0 ∧ (x.type = 1 ∨ x.type = 4) := by
  simp [Cmd.tagged]

theorem State.startNow_of_started {c : Nat} (s : State) (h : x.type ≠ 1) (deferred : Bool) :
    s.startNow c x deferred = s.updCmd c x.uid fun y => { y with phase := .started } := if_pos h

/-- A LAUNCH is armed. -/
def State.arm (s : State) (c uid : Nat) : State :=
  (s.updCmd c uid fun y => { y with phase := .armed, armOrder := (s.ctx c).armed }).updCtx c fun y =>
    { y with armed := y.armed + 1 }

theorem State.startNow_of_armed {c : Nat} (s : State) (htype : x.type = 1) (h : x.launchTick = 0 ∨ s.now + 8 ≤ x.launchTick.toNat) :
    s.startNow c x false = s.arm c x.uid := by
  refine (if_neg (Classical.not_not.2 htype)).trans (if_neg ?_)
  rintro ⟨hne, -, hle⟩
  rcases h with h | h
  · exact hne (congrArg BitVec.toNat h)
  · omega

theorem State.startNow_of_late {c : Nat} (s : State) (htype : x.type = 1) (hne : x.launchTick ≠ 0)
    (h : x.launchTick.toNat < s.now + 8) : s.startNow c x false = s.finishCmd c x ({ x with
      late := true, refused := x.agreed && decide (x.launchTick.toNat ≤ s.now) && !s.tick.agrees }).status := by
  refine (if_neg (Classical.not_not.2 htype)).trans (if_pos ⟨fun h0 => hne (BitVec.eq_of_toNat_eq h0), by decide, ?_⟩)
  omega

theorem State.arm_fields (s : State) (c uid : Nat) :
    (s.arm c uid).cmd c uid = (s.cmd c uid).map (fun y => { y with phase := .armed, armOrder := (s.ctx c).armed }) ∧
    ((s.arm c uid).ctx c).armed = (s.ctx c).armed + 1 ∧ s.arm c uid = { s with ctxs := (s.arm c uid).ctxs } ∧
    ((s.arm c uid).ctx c).energy = (s.ctx c).energy := by
  have hcmd := State.updCtx_cmd (s.updCmd c uid fun y => { y with phase := .armed, armOrder := (s.ctx c).armed }) c uid
    (g := fun y => { y with armed := y.armed + 1 }) rfl
  have hctx := (s.updCmd c uid fun y => { y with phase := .armed, armOrder := (s.ctx c).armed }).updCtx_ctx c
    fun y => { y with armed := y.armed + 1 }
  rw [State.updCmd_ctx] at hctx
  refine ⟨hcmd.trans (State.updCmd_cmd s c uid fun _ => rfl), ?_, rfl, ?_⟩
  · exact (congrArg Ctx.armed hctx :)
  · exact (congrArg Ctx.energy hctx :)

theorem State.debit_fields (s : State) (c : Nat) (x : Cmd) :
    (s.debit c x).cmd c x.uid = (s.cmd c x.uid).map (fun y => { y with debited := true }) ∧
    ((s.debit c x).ctx c).armed = (s.ctx c).armed ∧
    ((s.debit c x).ctx c).energy = { (s.ctx c).energy with balance := (s.ctx c).energy.balance - x.tag } ∧
    s.debit c x = { s with
      ctxs := (s.debit c x).ctxs, energy := { s.energy with windowDebits := s.energy.windowDebits + x.tag } } := by
  let u : State := { s with energy := { s.energy with windowDebits := s.energy.windowDebits + x.tag } }
  have hcmd := u.updCtx_cmd c x.uid (g := fun y =>
    { y with energy := { y.energy with balance := y.energy.balance - x.tag } }) rfl
  have hctx := u.updCtx_ctx c fun y => { y with energy := { y.energy with balance := y.energy.balance - x.tag } }
  have hdebit := (u.updCtx c fun y => { y with energy := { y.energy with balance := y.energy.balance - x.tag } }).updCmd_ctx
    c x.uid fun y => { y with debited := true }
  rw [hctx] at hdebit
  refine ⟨(State.updCmd_cmd (f := fun y => { y with debited := true }) _ c x.uid fun _ => rfl).trans (congrArg _ hcmd),
    ?_, ?_, rfl⟩
  · exact (congrArg Ctx.armed hdebit :)
  · exact (congrArg Ctx.energy hdebit :)

theorem State.deferCmd_fields (s : State) (c uid : Nat) :
    (s.deferCmd c uid).cmd c uid = (s.cmd c uid).map (fun y => { y with phase := .deferred }) ∧
    ((s.deferCmd c uid).ctx c).energy = { (s.ctx c).energy with deferrals := (s.ctx c).energy.deferrals + 1 } ∧
    s.deferCmd c uid = { s with ctxs := (s.deferCmd c uid).ctxs, energy := { s.energy with windowDeferred := true } } := by
  let u : State := { s with energy := { s.energy with windowDeferred := true } }
  have hcmd := u.updCtx_cmd c uid (g := fun y => { y with energy := { y.energy with deferrals := y.energy.deferrals + 1 } }) rfl
  have hctx := u.updCtx_ctx c fun y => { y with energy := { y.energy with deferrals := y.energy.deferrals + 1 } }
  have hdefer := (u.updCtx c fun y => { y with energy := { y.energy with deferrals := y.energy.deferrals + 1 } }).updCmd_ctx
    c uid fun y => { y with phase := .deferred }
  rw [hctx] at hdefer
  exact ⟨(State.updCmd_cmd (f := fun y => { y with phase := .deferred }) _ c uid fun _ => rfl).trans (congrArg _ hcmd),
    (congrArg Ctx.energy hdefer :), rfl⟩

end

/-- Settles O23: the turn, the tag against the balance, and the launch tick decide what starts. -/
theorem commandsStart : Obligations.CommandsStart := by
  intro c uid s x hx turn
  obtain ⟨huid, -⟩ := State.cmd_uid hx
  refine ⟨exec_commandStart_of_not hx, fun hturn hurgent => ?_, fun hturn hurgent => ?_⟩
  · refine (exec_commandStart hx).trans (congrArg Host.Outcome.next ?_)
    rw [if_neg ((s.startTurn_iff c.val x).1 hturn), if_pos hurgent]
  have hexec := exec_commandStart_of_turn hx hturn hurgent
  have huntagged (h : ¬(c.val ≠ 0 ∧ (x.type = 1 ∨ x.type = 4))) : exec (.commandStart c uid) s = .next (s.startNow c.val x false) :=
    hexec.trans (congrArg Host.Outcome.next (if_neg fun ht => h ((x.tagged_iff c.val).1 ht)))
  have htagged (hc : c.val ≠ 0) (ht : x.type = 1 ∨ x.type = 4) := hexec.trans
    (congrArg Host.Outcome.next (if_pos ((x.tagged_iff c.val).2 ⟨hc, ht⟩)))
  have hdebited (hc : c.val ≠ 0) (ht : x.type = 1 ∨ x.type = 4) (hcap : x.tag ≤ s.balanceCap c.val)
      (hbalance : x.tag = 0 ∨ x.tag ≤ (s.ctx c.val).energy.balance) : exec (.commandStart c uid) s =
      .next ((s.debit c.val x).startNow c.val { x with debited := true } false) := by
    have hcovers : ¬(x.tag ≠ 0 ∧ (s.ctx c.val).energy.balance < x.tag) := fun ⟨h0, hlt⟩ =>
      hbalance.elim h0 (Int.not_le.2 hlt)
    rw [htagged hc ht, if_neg (Int.not_lt.2 hcap), if_neg hcovers]
  obtain ⟨hdebit, hdarmed, hdenergy, hdeq⟩ := s.debit_fields c.val x
  rw [huid, hx] at hdebit
  refine ⟨fun h1 h4 => ⟨_, ?_, ?_, rfl⟩, fun hc ht hcap => ?_, fun hc ht hcap h0 hbalance => ?_,
    fun hc ht hcap hbalance => ?_, fun ht hcovered => ?_⟩
  · rw [huntagged fun h => h.2.elim h1 fun ht => h4.elim (· ht) h.1, State.startNow_of_started s h1, huid]
  · rw [State.updCmd_cmd (f := fun y => { y with phase := .started }) s c.val uid fun _ => rfl, hx]
    rfl
  · rw [htagged hc ht, if_pos hcap]
  · obtain ⟨hcmd, henergy, heq⟩ := s.deferCmd_fields c.val uid
    rw [hx] at hcmd
    refine ⟨_, ?_, hcmd, henergy, heq⟩
    rw [htagged hc ht, if_neg (Int.not_lt.2 hcap), if_pos ⟨h0, hbalance⟩]
  · have hstart := State.startNow_of_started (c := c.val) (x := { x with debited := true }) (s.debit c.val x)
      (by rw [ht]; decide) false
    refine ⟨_, (hdebited hc (.inr ht) hcap hbalance).trans (congrArg Host.Outcome.next hstart), ?_, ?_, ?_⟩
    · dsimp only
      rw [huid, State.updCmd_cmd (f := fun y => { y with phase := .started }) _ c.val uid fun _ => rfl, hdebit, ← huid]
      rfl
    · rw [State.updCmd_ctx]
      exact hdenergy
    · rw [hdeq]
      rfl
  · intro d started z
    have hstart : exec (.commandStart c uid) s = .next (started.startNow c.val z false) := by
      by_cases hc : c.val = 0
      · have hd : d = false := decide_eq_false (Classical.not_not.2 hc)
        simp only [started, z, hd]
        exact huntagged fun h => h.1 hc
      · have hd : d = true := decide_eq_true hc
        simp only [started, z, hd]
        exact hdebited hc (.inl ht) (hcovered hc).1 (hcovered hc).2
    have hz : z.uid = uid ∧ z.type = 1 ∧ z.launchTick = x.launchTick ∧ z.agreed = x.agreed := by
      simp only [z]
      split <;> exact ⟨huid, ht, rfl, rfl⟩
    have hs : started.cmd c.val uid = some z ∧ (started.ctx c.val).armed = (s.ctx c.val).armed ∧ started.tick = s.tick ∧
        (started.ctx c.val).energy.balance = (s.ctx c.val).energy.balance - (if d then (x.tag : Int) else 0) := by
      simp only [started, z]
      cases d with
      | false => exact ⟨hx, rfl, rfl, (Int.sub_zero _).symm⟩
      | true => exact ⟨hdebit, hdarmed, (congrArg State.tick hdeq :), (congrArg CtxEnergy.balance hdenergy :)⟩
    obtain ⟨hzuid, hztype, hztick, hzagreed⟩ := hz
    obtain ⟨hscmd, hsarmed, hstick, hsbalance⟩ := hs
    have hnow : started.now = s.now := congrArg (fun t : TickUnit => t.now.toNat) hstick
    refine ⟨fun hearly => ?_, fun hne hlate hok => ?_, fun hne hagreed hlate hrefuses => ?_⟩
    · obtain ⟨hcmd, harmed, heq, henergy⟩ := started.arm_fields c.val uid
      rw [hscmd, hsarmed] at hcmd
      refine ⟨_, hstart.trans (congrArg Host.Outcome.next ?_), hcmd, harmed.trans (congrArg (· + 1) hsarmed), heq,
        (congrArg CtxEnergy.balance henergy :).trans hsbalance⟩
      rw [State.startNow_of_armed started hztype (by rw [hztick, hnow]; exact hearly), hzuid]
    · have hlate' := State.startNow_of_late (c := c.val) started hztype (hztick ▸ hne) (by rw [hztick, hnow]; exact hlate)
      have hrefused : (z.agreed && decide (z.launchTick.toNat ≤ started.now) && !started.tick.agrees) = false := by
        rw [hztick, hzagreed, hnow, hstick, ← Bool.not_eq_true]
        simpa [and_assoc] using hok
      rw [hrefused] at hlate'
      exact hstart.trans (congrArg Host.Outcome.next hlate')
    · have hlt : x.launchTick.toNat < s.now + 8 := by omega
      have hlate' := State.startNow_of_late (c := c.val) started hztype (hztick ▸ hne) (by rw [hztick, hnow]; exact hlt)
      have hrefused : (z.agreed && decide (z.launchTick.toNat ≤ started.now) && !started.tick.agrees) = true := by
        rw [hztick, hzagreed, hnow, hstick, hagreed, hrefuses]
        simpa using hlate
      rw [hrefused] at hlate'
      exact hstart.trans (congrArg Host.Outcome.next hlate')

end Sys2Proof.Machine
end

section
namespace Sys2Proof.Machine

/-! ## The stream of a launch -/

theorem get_foldl_args (x : Cmd) (m n : Nat) : SMap.get (0 : Word) ((List.range m).foldl (fun m i =>
      if x.arg i = 0 then m else m.put (8 + i) (BitVec.ofNat 64 (x.arg i))) []) n =
    if 8 ≤ n ∧ n < 8 + m then BitVec.ofNat 64 (x.arg (n - 8)) else 0 := by
  induction m with
  | zero => rw [if_neg (by omega)]; rfl
  | succ m ih =>
    rw [List.range_succ, List.foldl_append, List.foldl_cons, List.foldl_nil]
    by_cases hn : n = 8 + m
    · subst hn
      have harg : 8 + m - 8 = m := by omega
      rw [if_pos (by omega : 8 ≤ 8 + m ∧ 8 + m < 8 + (m + 1)), harg]
      split
      · next h0 =>
        rw [ih, if_neg (by omega), h0]
        rfl
      · exact SMap.get_put ..
    · have hsame : (8 ≤ n ∧ n < 8 + (m + 1)) ↔ (8 ≤ n ∧ n < 8 + m) := by omega
      simp only [hsame]
      rw [← ih]
      split
      · rfl
      · exact SMap.get_put_ne _ _ _ _ _ hn

theorem Cmd.stream_s (x : Cmd) (n : Nat) : x.stream.s n =
    if 8 ≤ n ∧ n < 16 then BitVec.ofNat 64 (x.arg (n - 8)) else 0 := get_foldl_args x 8 n

/-- A stream is put on a list of cores. -/
def State.putStream (s : State) (key : Nat) (st : Stream) (l : List Nat) : State :=
  l.foldl (fun s k => s.updStream k key fun _ => st) s

theorem State.putStream_eq (l : List Nat) (s : State) (key : Nat) (st : Stream) :
    ∃ m, s.putStream key st l = { s with cores := m } ∧
    (∀ k ∈ l, ((s.putStream key st l).core k).stream key = st) ∧
    (∀ k, k ∉ l → (s.putStream key st l).core k = s.core k) ∧
    (∀ k other, other ≠ key → ((s.putStream key st l).core k).stream other = (s.core k).stream other) ∧
    ∀ k, ((s.putStream key st l).core k).units = (s.core k).units ∧ ((s.putStream key st l).core k).cur = (s.core k).cur := by
  induction l generalizing s with
  | nil => exact ⟨_, rfl, fun k h => (nomatch h), fun _ _ => rfl, fun _ _ _ => rfl, fun _ => ⟨rfl, rfl⟩⟩
  | cons j l ih =>
    obtain ⟨m, hput, hin, hout, hother, hunits⟩ := ih (s.updStream j key fun _ => st)
    have hcore (k : Nat) : (s.updStream j key fun _ => st).core k = if k = j then (s.core j).updStream key fun _ => st
        else s.core k := by
      by_cases hk : k = j
      · subst hk
        rw [if_pos rfl]
        exact s.updCore_core k _
      · rw [if_neg hk]
        exact s.updCore_core_ne j k _ hk
    refine ⟨m, hput, fun k hk => ?_, fun k hk => ?_, fun k other ho => (hother k other ho).trans ?_, fun k => ?_⟩
    · by_cases hmem : k ∈ l
      · exact hin k hmem
      · have hkj : k = j := (List.mem_cons.1 hk).resolve_right hmem
        refine (congrArg (fun x : Core => x.stream key) (hout k hmem)).trans ?_
        rw [hcore, if_pos hkj]
        exact Core.updStream_stream ..
    · refine (hout k fun h => hk (List.mem_cons_of_mem j h)).trans ?_
      rw [hcore, if_neg fun h : k = j => hk (List.mem_cons.2 (.inl h))]
    · rw [hcore]
      split
      · next hk =>
        rw [hk]
        exact Core.updStream_stream_ne _ _ _ _ ho
      · rfl
    · obtain ⟨hu, hc⟩ := hunits k
      have hsame : ((s.updStream j key fun _ => st).core k).units = (s.core k).units ∧
          ((s.updStream j key fun _ => st).core k).cur = (s.core k).cur := by
        rw [hcore]
        split
        · next hk =>
          rw [hk]
          exact ⟨rfl, rfl⟩
        · exact ⟨rfl, rfl⟩
      exact ⟨hu.trans hsame.1, hc.trans hsame.2⟩

section
variable {c : CtxId} {uid : Nat} {s : State} {x : Cmd}

theorem State.launchRun_of_refused {c : Nat} {u : State} (hagreed : x.agreed = true) (hno : u.tick.agrees = false) :
    u.launchRun c x = u.finishCmd c x ({ x with refused := true }).status :=
  if_pos (by rw [hagreed, hno]; rfl)

theorem State.launchRun_of_agreed {c : Nat} {u : State} (h : x.agreed = false ∨ u.tick.agrees = true) :
    u.launchRun c x = if x.cores.all fun k => ((u.core k).stream (x.key c)).free then
      (u.putStream (x.key c) x.stream x.cores).updCmd c x.uid fun y => { y with phase := .running } else u :=
  if_neg (by rcases h with h | h <;> simp [h])

theorem exec_launch (hx : s.cmd c.val uid = some x) : exec (.launch c uid) s =
    .next (if x.type = 1 ∧ x.phase = .armed ∧ x.launchTick = 0 ∧ s.launchTurn c.val x = true ∧
      (s.ctx c.val).life.state = .live then s.launchRun c.val x else s) := by
  change execLaunch c uid s = _
  unfold execLaunch
  rw [hx]

theorem exec_launchStart (hx : s.cmd c.val uid = some x) : exec (.launchStart c uid) s =
    .next (if x.type = 1 ∧ x.phase = .armed ∧ x.launchTick ≠ 0 ∧ x.launchTick.toNat ≤ s.now ∧ s.armedBefore c.val x = false ∧
      s.launchTurn c.val x = true ∧ (s.ctx c.val).life.state = .live then (s.updTick TickUnit.settle).launchRun c.val x
      else s) := by
  change execLaunchStart c uid s = _
  unfold execLaunchStart
  rw [hx]

/-- A launch whose cores are free. -/
theorem State.launchRun_fields (u : State) {c : Nat} (hx : u.cmd c uid = some x)
    (hagrees : x.agreed = false ∨ u.tick.agrees = true)
    (hfree : ∀ k ∈ x.cores, ((u.core k).stream (x.key c)).free = true) :
    (u.launchRun c x).cmd c uid = some { x with phase := .running } ∧
    (∀ k ∈ x.cores, ((u.launchRun c x).core k).stream (x.key c) = x.stream) ∧
    (∀ k, k ∉ x.cores → (u.launchRun c x).core k = u.core k) ∧
    (∀ k key, key ≠ x.key c → ((u.launchRun c x).core k).stream key = (u.core k).stream key) ∧
    (∀ k, ((u.launchRun c x).core k).units = (u.core k).units ∧ ((u.launchRun c x).core k).cur = (u.core k).cur) ∧
    u.launchRun c x = { u with cores := (u.launchRun c x).cores, ctxs := (u.launchRun c x).ctxs } ∧
    ∀ d, d ≠ c → (u.launchRun c x).ctx d = u.ctx d := by
  obtain ⟨huid, -⟩ := State.cmd_uid hx
  obtain ⟨m, hput, hin, hout, hother, hunits⟩ := State.putStream_eq x.cores u (x.key c) x.stream
  rw [State.launchRun_of_agreed hagrees, if_pos (List.all_eq_true.2 hfree)]
  refine ⟨?_, hin, hout, hother, hunits, ?_, fun d hd => ?_⟩
  · rw [huid, State.updCmd_cmd (f := fun y => { y with phase := .running }) _ c uid fun _ => rfl, hput, ← huid]
    rw [← huid] at hx
    exact congrArg (Option.map fun y : Cmd => { y with phase := .running }) hx
  · rw [hput]
    rfl
  · exact (State.updCtx_ctx_ne _ c d _ hd).trans (State.ctx_congr (by rw [hput]) d)

end

/-- Settles O24: what a launch makes of its cores, of a state whose tick unit agrees, and the two events that run it. -/
theorem launchesRun : Obligations.LaunchesRun := by
  intro c uid s x hx turn run
  have hrun (i : Instr) (u : State) (hu : ∃ k, u = { s with tick := k }) (hexec : exec i s = .next (u.launchRun c.val x)) :
      run i u := by
    obtain ⟨k', rfl⟩ := hu
    refine ⟨fun hagrees hfree => ?_, fun hagreed hno => ?_, fun hagrees hbusy => ?_⟩
    · obtain ⟨hcmd, hin, hout, hother, hunits, heq, hctx⟩ :=
        State.launchRun_fields (uid := uid) { s with tick := k' } hx hagrees hfree
      refine ⟨_, hexec, hcmd, fun k hk => ?_, hout, hother, hunits, heq, hctx⟩
      rw [hin k hk]
      exact ⟨rfl, rfl, rfl, rfl, rfl, x.stream_s, rfl, rfl, rfl, rfl⟩
    · rw [hexec, State.launchRun_of_refused hagreed hno]
    · obtain ⟨k, hk, hkbusy⟩ := hbusy
      rw [hexec, State.launchRun_of_agreed hagrees]
      refine congrArg Host.Outcome.next (if_neg fun hall => ?_)
      have hfree := List.all_eq_true.1 hall k hk
      rw [show State.core { s with tick := k' } k = s.core k from rfl, hkbusy] at hfree
      cases hfree
  refine ⟨fun ⟨htype, hphase, hlive, hturn⟩ h0 => hrun _ s ⟨s.tick, rfl⟩ ?_,
    fun ⟨htype, hphase, hlive, hturn⟩ hne hle hbefore => hrun _ _ ⟨s.tick.settle, rfl⟩ ?_, fun h => ?_, fun h => ?_⟩
  · exact (exec_launch hx).trans (congrArg Host.Outcome.next (if_pos ⟨htype, hphase, h0, hturn, hlive⟩))
  · exact (exec_launchStart hx).trans
      (congrArg Host.Outcome.next (if_pos ⟨htype, hphase, hne, hle, hbefore, hturn, hlive⟩))
  · refine (exec_launch hx).trans (congrArg Host.Outcome.next (if_neg ?_))
    rintro ⟨htype, hphase, h0, hturn, hlive⟩
    exact h.elim (· ⟨htype, hphase, hlive, hturn⟩) (· h0)
  · refine (exec_launchStart hx).trans (congrArg Host.Outcome.next (if_neg ?_))
    rintro ⟨htype, hphase, hne, hle, hbefore, hturn, hlive⟩
    rcases h with h | h | h | h
    · exact h ⟨htype, hphase, hlive, hturn⟩
    · exact hne h
    · exact absurd hle (Nat.not_le.2 h)
    · rw [hbefore] at h
      cases h

end Sys2Proof.Machine
end

section
namespace Sys2Proof.Machine

/-! ## The target of an ABORT -/

/-- Aiming changes nothing of a command but its target, and that of an ABORT only. -/
theorem Cmd.aim_eq (a x : Cmd) (l : List Cmd) : a.aim x l = { a with target := (a.aim x l).target } ∧
    (a.type ≠ 6 → a.aim x l = a) := by
  unfold Cmd.aim
  split
  · next h =>
    refine ⟨?_, fun hne => absurd h.1 hne⟩
    split
    · rfl
    · split <;> rfl
  · exact ⟨rfl, fun _ => rfl⟩

theorem foldl_aim_eq (l m : List Cmd) (a : Cmd) :
    m.foldl (fun a x => a.aim x l) a = { a with target := (m.foldl (fun a x => a.aim x l) a).target } ∧
    (a.type ≠ 6 → m.foldl (fun a x => a.aim x l) a = a) := by
  induction m generalizing a with
  | nil => exact ⟨rfl, fun _ => rfl⟩
  | cons x m ih =>
    obtain ⟨haim, hsame⟩ := a.aim_eq x l
    obtain ⟨hfold, hstays⟩ := ih (a.aim x l)
    refine ⟨?_, fun hne => ?_⟩
    · rw [List.foldl_cons, hfold, haim]
    · have hx := hsame hne
      rw [List.foldl_cons, hx]
      rw [hx] at hstays
      exact hstays hne

/-- One command when the descriptor of `uid` is taken. -/
def Cmd.aimed (a : Cmd) (l : List Cmd) (uid : Nat) (now : Word) : Cmd :=
  if a.uid = uid then l.foldl (fun a x => a.aim x l) a
  else if a.acceptTick = now then (l.filter fun x => x.uid == uid).foldl (fun a x => a.aim x l) a
  else a

theorem aimAborts_of_aimed (l : List Cmd) (uid : Nat) (now : Word) : aimAborts l uid now = l.map fun a => a.aimed l uid now := rfl

theorem Cmd.aimed_eq (a : Cmd) (l : List Cmd) (uid : Nat) (now : Word) :
    a.aimed l uid now = { a with target := (a.aimed l uid now).target } ∧ (a.type ≠ 6 → a.aimed l uid now = a) := by
  unfold Cmd.aimed
  split
  · exact foldl_aim_eq l l a
  · split
    · exact foldl_aim_eq l _ a
    · exact ⟨rfl, fun _ => rfl⟩

theorem aimAborts_map (l : List Cmd) (uid : Nat) (now : Word) :
    (aimAborts l uid now).map (fun y => { y with target := none }) = l.map fun y => { y with target := none } := by
  rw [aimAborts_of_aimed, List.map_map]
  refine List.map_congr_left fun a _ => ?_
  rw [Function.comp_apply, (a.aimed_eq l uid now).1]

theorem aimAborts_of_none {l : List Cmd} (h : ∀ y ∈ l, y.type ≠ 6) (uid : Nat) (now : Word) : aimAborts l uid now = l := by
  rw [aimAborts_of_aimed]
  exact (List.map_congr_left fun a ha => (a.aimed_eq l uid now).2 (h a ha)).trans (List.map_id l)

/-- An ABORT with one command of its CMD_ID aims at that command. -/
theorem aim_target {a e y : Cmd} {l : List Cmd} (htype : a.type = 6) (hid : e.cmdId.toNat = a.arg 0 → e.uid ≠ a.uid → e = y)
    (hy : y.uid ≠ a.uid) (hyid : y.cmdId.toNat = a.arg 0) (htime : y.acceptTick.toNat ≤ a.acceptTick.toNat)
    (htarget : a.target = none ∨ a.target = some y.uid) :
    ((a.aim e l).target = none ∨ (a.aim e l).target = some y.uid) ∧
    ((e = y ∨ a.target = some y.uid) → (a.aim e l).target = some y.uid) := by
  by_cases haims : a.type = 6 ∧ e.uid ≠ a.uid ∧ e.cmdId.toNat = (a.args.getD 0 0).toNat ∧
      e.acceptTick.toNat ≤ a.acceptTick.toNat
  · have hey : e = y := hid haims.2.2.1 haims.2.1
    subst hey
    have hgets : (a.aim e l).target = some e.uid := by
      rw [Cmd.aim, if_pos haims]
      split
      · rfl
      · next z hz =>
        split
        · rfl
        · rcases htarget with h | h
          · rw [h] at hz
            cases hz
          · exact h
    exact ⟨.inr hgets, fun _ => hgets⟩
  · rw [Cmd.aim, if_neg haims]
    refine ⟨htarget, fun h => h.elim (fun hey => absurd ⟨htype, ?_, ?_, ?_⟩ haims) id⟩
    · exact hey ▸ hy
    · exact hey ▸ hyid
    · exact hey ▸ htime

theorem foldl_aim_target {a y : Cmd} {l m : List Cmd} (htype : a.type = 6)
    (hid : ∀ e ∈ m, e.cmdId.toNat = a.arg 0 → e.uid ≠ a.uid → e = y) (hy : y.uid ≠ a.uid) (hyid : y.cmdId.toNat = a.arg 0)
    (htime : y.acceptTick.toNat ≤ a.acceptTick.toNat) (htarget : a.target = none ∨ a.target = some y.uid)
    (h : y ∈ m ∨ a.target = some y.uid) : (m.foldl (fun a x => a.aim x l) a).target = some y.uid := by
  induction m generalizing a with
  | nil => exact h.resolve_left fun h => nomatch h
  | cons e m ih =>
    obtain ⟨hnext, hgets⟩ := aim_target (l := l) htype (hid e List.mem_cons_self) hy hyid htime htarget
    obtain ⟨hsame, -⟩ := a.aim_eq e l
    rw [List.foldl_cons]
    generalize a.aim e l = a' at hnext hgets hsame
    obtain ⟨u, rfl⟩ : ∃ u, a' = { a with target := u } := ⟨_, hsame⟩
    refine ih htype (fun e' he' => hid e' (List.mem_cons_of_mem e he')) hy hyid htime hnext ?_
    by_cases hey : e = y
    · exact .inr (hgets (.inl hey))
    · exact h.imp (fun hmem => (List.mem_cons.1 hmem).resolve_left (Ne.symm hey)) fun ht => hgets (.inr ht)

/-! ## A descriptor taken -/

section
variable (s : State) (c : CtxId) (r : RingId) (b : Bytes)

/-- The command of the descriptor at HEAD; that of ring 2 is of a serving step. -/
def State.takenCmd : Cmd :=
  let posted := (s.ctx c.val).serving.posted
  { parseCmd b (s.ctx c.val).nextUid r s.tick.now with
    step := if r.val = 2 then posted.head?.map (·.1) else none
    picojoule := if r.val = 2 then (posted.head?.map fun e => e.2 * s.cfgNum 0x3010 9).getD 0 else 0 }

/-- The context that has taken a command. -/
def Ctx.take (y : Ctx) (r : RingId) (x : Cmd) (now : Word) : Ctx :=
  { y with
    cmds := aimAborts (y.cmds ++ [x]) y.nextUid now, nextUid := y.nextUid + 1
    serving := if r.val = 2 then { y.serving with posted := y.serving.posted.drop 1 } else y.serving }

/-- The ring that has given up its descriptor at HEAD. -/
def Ring.take (y : Ring) (now : Word) : Ring :=
  { y with head := y.head + 1, takeTick := now, takes := if y.takeTick = now then y.takes + 1 else 1 }

/-- The state in which the descriptor has been taken. -/
def State.takeDesc : State :=
  ((s.updCtx c.val fun y => y.take r (s.takenCmd c r b) s.tick.now).updRing c.val r.val fun y => y.take s.tick.now).forwardIn
    c.val (.descriptor c r b)

theorem State.takeDesc_eq : ∃ m o, s.takeDesc c r b = { s with ctxs := m, out := o } ∧
    m.get {} c.val = { (s.ctx c.val).take r (s.takenCmd c r b) s.tick.now with host := { (s.ctx c.val).host with
      rings := (s.ctx c.val).host.rings.put r.val ((s.ring c.val r.val).take s.tick.now) } } := by
  let u := s.updCtx c.val fun y => y.take r (s.takenCmd c r b) s.tick.now
  have hu : u.ctx c.val = (s.ctx c.val).take r (s.takenCmd c r b) s.tick.now := s.updCtx_ctx c.val _
  have hring : u.ring c.val r.val = s.ring c.val r.val := (congrArg (fun y : Ctx => y.host.rings.get ({} : Ring) r.val) hu :)
  have hctx := u.updRing_ctx c.val r.val fun y => y.take s.tick.now
  rw [hring, hu] at hctx
  have htake : s.takeDesc c r b = (u.updRing c.val r.val fun y => y.take s.tick.now).forwardIn c.val (.descriptor c r b) := rfl
  rw [htake, State.forwardIn_eq, State.updRing_eq]
  refine ⟨_, _, rfl, ?_⟩
  refine Eq.trans ?_ hctx
  rw [State.updRing_eq]
  rfl

theorem State.acceptDescriptor_eq : s.acceptDescriptor c r b =
    if s.badDescriptor b || !s.urgentOk c.val (s.takenCmd c r b) || s.mixedDma c.val (s.takenCmd c r b) then
      (s.takeDesc c r b).ctxFault c.val
    else if (((s.takenCmd c r b).type == 1 || (s.takenCmd c r b).type == 4) && (s.takenCmd c r b).mask == 0) ||
        s.emptyDma c.val (s.takenCmd c r b) then (s.takeDesc c r b).finishCmd c.val (s.takenCmd c r b) 0
    else s.takeDesc c r b := by
  obtain ⟨m, o, htake, hctx⟩ := s.takeDesc_eq c r b
  have hdesc (i : Nat) : (s.takeDesc c r b).desc c.val i = s.desc c.val i := by
    rw [htake]
    exact (congrArg (fun y : Ctx => y.descs.get none i) hctx :)
  have hbad : (s.takeDesc c r b).badDescriptor b = s.badDescriptor b := by
    rw [htake]
    rfl
  have hurgent (x : Cmd) : (s.takeDesc c r b).urgentOk c.val x = s.urgentOk c.val x := by
    rw [htake]
    rfl
  have hmixed (x : Cmd) : (s.takeDesc c r b).mixedDma c.val x = s.mixedDma c.val x := by
    rw [State.mixedDma, State.mixedDma, hdesc, hdesc]
  have hempty (x : Cmd) : (s.takeDesc c r b).emptyDma c.val x = s.emptyDma c.val x := by
    rw [State.emptyDma, State.emptyDma, hdesc, hdesc]
  have hcmd : s.takenCmd c r b = { parseCmd b (s.ctx c.val).nextUid r s.tick.now with
      step := (if r.val = 2 then (s.ctx c.val).serving.posted.head? else none).map (·.1)
      picojoule := (if r.val = 2 then (s.ctx c.val).serving.posted.head? else none).elim 0 fun e => e.2 * s.cfgNum 0x3010 9 } := by
    unfold State.takenCmd
    dsimp only
    cases (s.ctx c.val).serving.posted.head? <;> split <;> rfl
  rw [← hbad, ← hurgent, ← hmixed, ← hempty]
  unfold State.takeDesc
  rw [hcmd]
  rfl

end

/-- Settles O22: what the command taken leaves of the context and its ring, the target of an ABORT by the commands that
carry its CMD_ID, and the rules that refuse a descriptor. -/
theorem descriptorsTaken : Obligations.DescriptorsTaken := by
  intro c r s y ready
  have hiff : ready ↔ (y.enable && y.head != y.tail && y.mayTake s.tick.now && s.accepting c.val && s.slotFree c.val r.val &&
      s.pcie.linkUp && !(s.pair.role == 2 && decide (s.pair.state = 1)) && !s.safety.stopped) = true := by
    simp only [ready, Bool.and_eq_true, bne_iff_ne, ne_eq, Bool.not_eq_true', Bool.and_eq_false_iff, beq_eq_false_iff_ne,
      decide_eq_false_iff_not, and_assoc, Classical.not_and_iff_not_or_not]
  have hexec (fetched : Option Bytes) : exec (.descriptorTake c r fetched) s =
      .next (if (y.enable && y.head != y.tail && y.mayTake s.tick.now && s.accepting c.val && s.slotFree c.val r.val &&
        s.pcie.linkUp && !(s.pair.role == 2 && decide (s.pair.state = 1)) && !s.safety.stopped) = true then
        match fetched with
        | none => s.ctxFault c.val
        | some b => s.acceptDescriptor c r b
      else s) := rfl
  refine ⟨fun h => (hexec none).trans (congrArg Host.Outcome.next (if_pos (hiff.1 h))), fun fetched h =>
    (hexec fetched).trans (congrArg Host.Outcome.next (if_neg fun hgo => h (hiff.2 hgo))), fun b h => ?_⟩
  have haccept := (hexec (some b)).trans (congrArg Host.Outcome.next ((if_pos (hiff.1 h)).trans (s.acceptDescriptor_eq c r b)))
  intro posted x bad done
  obtain ⟨m, o, htake, hctx⟩ := s.takeDesc_eq c r b
  have htctx : (s.takeDesc c r b).ctx c.val = m.get {} c.val := by rw [htake]; rfl
  rw [hctx] at htctx
  have htring : (s.takeDesc c r b).ring c.val r.val = (s.ring c.val r.val).take s.tick.now := by
    refine (congrArg (fun z : Ctx => z.host.rings.get ({} : Ring) r.val) htctx :).trans ?_
    exact SMap.get_put ..
  have hcmds : ((s.takeDesc c r b).ctx c.val).cmds = aimAborts ((s.ctx c.val).cmds ++ [x]) (s.ctx c.val).nextUid s.tick.now :=
    (congrArg Ctx.cmds htctx :)
  have hbad : bad ↔ (s.badDescriptor b || !s.urgentOk c.val (s.takenCmd c r b) || s.mixedDma c.val (s.takenCmd c r b)) = true := by
    simp only [bad, Bool.or_eq_true, Bool.not_eq_true', or_assoc]
    rfl
  have hdone : done ↔ ((((s.takenCmd c r b).type == 1 || (s.takenCmd c r b).type == 4) && (s.takenCmd c r b).mask == 0) ||
      s.emptyDma c.val (s.takenCmd c r b)) = true := by
    simp only [done, Bool.or_eq_true, Bool.and_eq_true, beq_iff_eq]
    rfl
  refine ⟨s.takeDesc c r b, ?_, fun hnone hx => ?_, fun z hz hx hne hid htime honly => ?_, (congrArg Ctx.nextUid htctx :), ?_, ?_,
    (congrArg Ctx.life htctx :), fun hr => ?_, by rw [htake], by rw [htake], by rw [htake], fun hb => ?_, fun hb hd => ?_,
    fun hb hd => ?_⟩
  · rw [hcmds, aimAborts_map]
  · rw [hcmds, aimAborts_of_none]
    exact List.forall_mem_append.2 ⟨hnone, List.forall_mem_singleton.2 hx⟩
  · have hmem : x ∈ (s.ctx c.val).cmds ++ [x] := List.mem_append_right _ (List.mem_singleton.2 rfl)
    refine ⟨x.aimed ((s.ctx c.val).cmds ++ [x]) (s.ctx c.val).nextUid s.tick.now, ?_, ?_, ?_, ?_⟩
    · rw [hcmds, aimAborts_of_aimed]
      exact List.mem_map_of_mem hmem
    · rw [(x.aimed_eq _ _ _).1]
    · rw [(x.aimed_eq _ _ _).1]
      exact hx
    · have huid : x.uid = (s.ctx c.val).nextUid := rfl
      rw [Cmd.aimed, if_pos huid]
      refine foldl_aim_target hx (fun e he heid heuid => ?_) hne hid htime (.inl rfl) (.inl (List.mem_append_left _ hz))
      rcases List.mem_append.1 he with he | he
      · exact honly e he heid
      · exact absurd (congrArg Cmd.uid (List.mem_singleton.1 he)) heuid
  · exact congrArg Ring.head htring
  · exact (congrArg Ring.tail htring :)
  · refine (congrArg (fun z : Ctx => z.serving.posted) htctx :).trans ?_
    change (if r.val = 2 then _ else _ : Serving).posted = _
    rw [if_pos hr]
  · exact haccept.trans (congrArg Host.Outcome.next (if_pos (hbad.1 hb)))
  · exact haccept.trans (congrArg Host.Outcome.next ((if_neg fun h => hb (hbad.2 h)).trans (if_pos (hdone.1 hd))))
  · exact haccept.trans (congrArg Host.Outcome.next ((if_neg fun h => hb (hbad.2 h)).trans (if_neg fun h => hd (hdone.2 h))))

end Sys2Proof.Machine
end

section
namespace Sys2Proof.Machine

/-! ## The lowest free descriptor entry -/

/-- Below a bound no more keys hold a value than the table has values. -/
theorem SMap.count_isSome_le {α : Type} (m : SMap (Option α)) (n : Nat) :
    ((List.range n).filter fun i => (m.get none i).isSome).length ≤ (m.filter fun e => e.2.isSome).length := by
  have hsub : ((List.range n).filter fun i => (m.get none i).isSome) ⊆ (m.filter fun e => e.2.isSome).map Prod.fst := by
    intro i hi
    have hsome : (m.get none i).isSome = true := (List.mem_filter.1 hi).2
    rcases SMap.get_eq_or_mem none m i with h | h
    · rw [h] at hsome
      cases hsome
    · exact List.mem_map.2 ⟨_, List.mem_filter.2 ⟨h, hsome⟩, rfl⟩
  have hnodup : ((List.range n).filter fun i => (m.get none i).isSome).Nodup := List.nodup_range.filter _
  exact Nat.le_trans (hnodup.length_le_of_subset hsub) (Nat.le_of_eq (List.length_map _))

section
variable {s : State} {c : Nat}

theorem State.used_of_descReason {d : Desc} (h : s.descReason c d = 0) :
    ((s.ctx c).descs.filter fun e => e.2.isSome).length < s.quota c := by
  refine Nat.lt_of_not_le fun hfull => ?_
  unfold State.descReason at h
  simp only [if_pos hfull] at h
  repeat (split at h; · exact absurd h (by decide))
  exact absurd h (by decide)

/-- A context with a free entry has a lowest one. -/
theorem State.freeEntry_fields (h : ((s.ctx c).descs.filter fun e => e.2.isSome).length < s.quota c) :
    s.freeEntry c < s.quota c ∧ s.desc c (s.freeEntry c) = none ∧ ∀ j < s.freeEntry c, s.desc c j ≠ none := by
  have hfree : ∃ i ∈ List.range (s.quota c), (s.desc c i).isNone = true := by
    refine Classical.byContradiction fun hnone => ?_
    have hall : ((List.range (s.quota c)).filter fun i => ((s.ctx c).descs.get none i).isSome) = List.range (s.quota c) :=
      List.filter_eq_self.2 fun i hi => by
        have hi' : ¬(s.desc c i).isNone = true := fun h => hnone ⟨i, hi, h⟩
        exact Option.isSome_iff_ne_none.2 fun h => hi' (Option.isNone_iff_eq_none.2 h)
    have hcount := SMap.count_isSome_le (s.ctx c).descs (s.quota c)
    rw [hall, List.length_range] at hcount
    omega
  obtain ⟨i, hi⟩ := Option.isSome_iff_exists.1 (List.find?_isSome.2 hfree)
  have hentry : s.freeEntry c = i := by
    rw [State.freeEntry, hi]
    rfl
  rw [hentry]
  obtain ⟨hnone, hmem, hlow⟩ := List.find?_range_eq_some.1 hi
  exact ⟨List.mem_range.1 hmem, Option.isNone_iff_eq_none.1 hnone, fun j hj hnone => by simpa [hnone] using hlow j hj⟩

end

/-! ## A started command -/

section
variable {c : CtxId} {uid : Nat} {s : State} {x : Cmd}

theorem onCommand_of_started (hx : s.cmd c.val uid = some x) {type : Nat} (htype : x.type = type) (hphase : x.phase = .started)
    (hlive : (s.ctx c.val).life.state = .live) (hdoomed : s.doomed c.val uid = false) (f : Cmd → State) :
    onCommand c uid type s f = f x := by
  unfold onCommand
  rw [hx]
  exact if_pos ⟨htype, hphase, hdoomed, hlive⟩

/-- A command that has done its work. -/
theorem State.doneCmd_cmd {t : State} (ht : t.cmd c.val uid = some x) (n : Nat) : (t.doneCmd c.val uid n).cmd c.val uid =
    some { x with phase := .finished, result := BitVec.ofNat 32 n } := by
  unfold State.doneCmd
  rw [State.updCmd_cmd (f := fun y => { y with phase := .finished, result := BitVec.ofNat 32 n }) t c.val uid fun _ => rfl, ht]
  rfl

theorem State.doneCmd_ctx (t : State) (c uid n : Nat) : ((t.doneCmd c uid n).ctx c).descs = (t.ctx c).descs ∧
    ((t.doneCmd c uid n).ctx c).dists = (t.ctx c).dists ∧ ((t.doneCmd c uid n).ctx c).sems = (t.ctx c).sems := by
  unfold State.doneCmd
  rw [State.updCmd_ctx]
  exact ⟨rfl, rfl, rfl⟩

/-- The record that a DESC_CREATE names. -/
def State.recordDesc (s : State) (c : Nat) (x : Cmd) : Desc := parseDesc (s.sramShare c (s.cmdCore x).val (x.arg 0) 64)

/-- A descriptor is made at the lowest free entry. -/
def State.makeDesc (s : State) (c uid : Nat) (i : Nat) (d : Desc) : State :=
  (s.updCtx c fun y => { y with descs := y.descs.put i (some d) }).doneCmd c uid i

theorem exec_descCreate (hx : s.cmd c.val uid = some x) (htype : x.type = 2) (hphase : x.phase = .started)
    (hlive : (s.ctx c.val).life.state = .live) (hdoomed : s.doomed c.val uid = false) : exec (.descCreate c uid) s =
    .next (if !s.inShare c.val 0 (x.arg 0) 64 then s.ctxFault c.val
      else if s.descReason c.val (s.recordDesc c.val x) = 0 then
        s.makeDesc c.val uid (s.freeEntry c.val) (s.recordDesc c.val x)
      else s.doneCmd c.val uid (0xFFFF + 65536 * s.descReason c.val (s.recordDesc c.val x))) :=
  congrArg Host.Outcome.next (onCommand_of_started hx htype hphase hlive hdoomed _)

/-- The descriptor made. -/
theorem State.makeDesc_fields (hx : s.cmd c.val uid = some x) (i : Nat) (d : Desc) :
    let t := s.makeDesc c.val uid i d
    t.desc c.val i = some d ∧ (∀ j, j ≠ i → t.desc c.val j = s.desc c.val j) ∧
    t.cmd c.val uid = some { x with phase := .finished, result := BitVec.ofNat 32 i } ∧
    t.cores = s.cores ∧ t.sramMem = s.sramMem ∧ t.hbmMem = s.hbmMem := by
  intro t
  have hdescs : (t.ctx c.val).descs = (s.ctx c.val).descs.put i (some d) := by
    refine (State.doneCmd_ctx _ c.val uid i).1.trans ?_
    rw [State.updCtx_ctx]
  refine ⟨?_, fun j hj => ?_, State.doneCmd_cmd ?_ i, rfl, rfl, rfl⟩
  · rw [State.desc, hdescs, SMap.get_put]
  · rw [State.desc, hdescs, SMap.get_put_ne _ _ _ _ _ hj]
    rfl
  · rw [State.updCtx_cmd s c.val uid (g := fun y => { y with descs := y.descs.put i (some d) }) rfl, hx]

theorem exec_descDestroy (hx : s.cmd c.val uid = some x) (htype : x.type = 3) (hphase : x.phase = .started)
    (hlive : (s.ctx c.val).life.state = .live) (hdoomed : s.doomed c.val uid = false) : exec (.descDestroy c uid) s =
    .next (if (s.desc c.val (x.arg 0)).isNone then s.ctxFault c.val
      else (s.updCtx c.val fun y => { y with descs := y.descs.del (x.arg 0) }).doneCmd c.val uid 0) :=
  congrArg Host.Outcome.next (onCommand_of_started hx htype hphase hlive hdoomed _)

theorem exec_signal (hx : s.cmd c.val uid = some x) (htype : x.type = 5) (hphase : x.phase = .started)
    (hlive : (s.ctx c.val).life.state = .live) (hdoomed : s.doomed c.val uid = false) : exec (.signal c uid) s =
    .next (if Config.semaphores ≤ x.arg 0 then s.ctxFault c.val
      else (s.doneCmd c.val uid 0).signalSem c.val (x.arg 0) (x.arg 1)) :=
  congrArg Host.Outcome.next (onCommand_of_started hx htype hphase hlive hdoomed _)

theorem exec_fence (hx : s.cmd c.val uid = some x) (htype : x.type = 7) (hphase : x.phase = .started)
    (hlive : (s.ctx c.val).life.state = .live) (hdoomed : s.doomed c.val uid = false) : exec (.fence c uid) s =
    .next (if (s.ctx c.val).cmds.any fun y => y.ring == x.ring && decide (y.uid < uid) then s else s.doneCmd c.val uid 0) :=
  congrArg Host.Outcome.next (onCommand_of_started hx htype hphase hlive hdoomed _)

/-- The distribution records after a DIST_SET. -/
def State.setDist (s : State) (c i : Nat) (b : Bytes) : State :=
  if s.distReason c b i ≠ 0 then s else s.updCtx c fun y =>
    { y with dists := if field b 0 1 = 0xFF then y.dists.del i else y.dists.put i (some (parseDist b)) }

theorem exec_distSet (hx : s.cmd c.val uid = some x) (htype : x.type = 8) (hphase : x.phase = .started)
    (hlive : (s.ctx c.val).life.state = .live) (hdoomed : s.doomed c.val uid = false) : exec (.distSet c uid) s =
    .next (if !s.inShare c.val 0 (x.arg 0) 64 then s.ctxFault c.val
      else (s.setDist c.val (x.arg 1) (s.sramShare c.val (s.cmdCore x).val (x.arg 0) 64)).doneCmd c.val uid
        (s.distReason c.val (s.sramShare c.val (s.cmdCore x).val (x.arg 0) 64) (x.arg 1))) :=
  congrArg Host.Outcome.next (onCommand_of_started hx htype hphase hlive hdoomed _)

theorem State.setDist_fields (i : Nat) (b : Bytes) :
    (s.setDist c.val i b).cmd c.val uid = s.cmd c.val uid ∧
    (s.distReason c.val b i ≠ 0 → ((s.setDist c.val i b).ctx c.val).dists = (s.ctx c.val).dists) ∧
    (s.distReason c.val b i = 0 → ((s.setDist c.val i b).ctx c.val).dists =
      if field b 0 1 = 0xFF then (s.ctx c.val).dists.del i else (s.ctx c.val).dists.put i (some (parseDist b))) ∧
    (s.setDist c.val i b).cores = s.cores ∧ (s.setDist c.val i b).sramMem = s.sramMem := by
  unfold State.setDist
  by_cases h : s.distReason c.val b i = 0
  · rw [if_neg (Classical.not_not.2 h)]
    refine ⟨State.updCtx_cmd s c.val uid rfl, fun hne => absurd h hne, fun _ => ?_, rfl, rfl⟩
    rw [State.updCtx_ctx]
  · rw [if_pos h]
    exact ⟨rfl, fun _ => rfl, fun h0 => absurd h0 h, rfl, rfl⟩

/-- A DIST_SET whose record lies in the share. -/
theorem exec_distSet_of_inside (hx : s.cmd c.val uid = some x) (htype : x.type = 8) (hphase : x.phase = .started)
    (hlive : (s.ctx c.val).life.state = .live) (hdoomed : s.doomed c.val uid = false)
    (hshare : s.inShare c.val 0 (x.arg 0) 64 = true) {b : Bytes}
    (hb : s.sramShare c.val (s.cmdCore x).val (x.arg 0) 64 = b) : ∃ t : State, exec (.distSet c uid) s = .next t ∧
      t.cmd c.val uid = some { x with phase := .finished, result := BitVec.ofNat 32 (s.distReason c.val b (x.arg 1)) } ∧
      (s.distReason c.val b (x.arg 1) ≠ 0 → (t.ctx c.val).dists = (s.ctx c.val).dists) ∧
      (s.distReason c.val b (x.arg 1) = 0 → (t.ctx c.val).dists =
        if field b 0 1 = 0xFF then (s.ctx c.val).dists.del (x.arg 1)
        else (s.ctx c.val).dists.put (x.arg 1) (some (parseDist b))) ∧ t.cores = s.cores ∧ t.sramMem = s.sramMem := by
  obtain ⟨hcmd, hkeeps, hsets, hcores, hsram⟩ := State.setDist_fields (s := s) (c := c) (uid := uid) (x.arg 1) b
  have hdists := (State.doneCmd_ctx (s.setDist c.val (x.arg 1) b) c.val uid (s.distReason c.val b (x.arg 1))).2.1
  refine ⟨_, ?_, State.doneCmd_cmd (hcmd.trans hx) _, fun h => hdists.trans (hkeeps h), fun h => hdists.trans (hsets h),
    hcores, hsram⟩
  rw [exec_distSet hx htype hphase hlive hdoomed, hshare, hb, if_neg (by decide)]

/-! ## The DMA command -/

/-- The copy of a DMA command takes the tensor engine of its core. -/
def State.startCopy (s : State) (c : CtxId) (uid : Nat) (k : CoreId) (op : UnitOp) : State :=
  let r := s.launchOp k (2 * c.val) { uid := uid } op
  let engine : InFlight := { stream := 2 * c.val, ctx := c, uid := uid, cycles := op.cycles }
  (r.1.updCore k.val fun y => { y with
    dmas := y.dmas ++ [r.2], units := y.units.put (unitKey c.val tensorUnit) (some engine) }).updCmd c.val uid fun z =>
    { z with phase := .running }

theorem State.startCopy_fields (hx : s.cmd c.val uid = some x) (k : CoreId) (op : UnitOp) :
    (s.startCopy c uid k op).cmd c.val uid = some { x with phase := .running } ∧
    (((s.startCopy c uid k op).core k.val).units.get none (unitKey c.val tensorUnit)).isSome = true ∧
    ((s.startCopy c uid k op).core k.val).dmas.length = (s.core k.val).dmas.length + 1 ∧
    (s.startCopy c uid k op).sramMem = s.sramMem ∧ (s.startCopy c uid k op).hbmMem = s.hbmMem := by
  have hlaunch := s.launchOp_eq k (2 * c.val) { uid := uid } op
  have hcore := s.launchOp_core k (2 * c.val) { uid := uid } op k.val
  unfold State.startCopy
  dsimp only
  generalize s.launchOp k (2 * c.val) { uid := uid } op = r at hlaunch hcore
  have hupd (f : Core → Core) (g : Cmd → Cmd) : ((r.1.updCore k.val f).updCmd c.val uid g).core k.val = f (r.1.core k.val) :=
    r.1.updCore_core k.val f
  refine ⟨?_, ?_, ?_, ?_, ?_⟩
  · rw [State.updCmd_cmd (f := fun y => { y with phase := .running }) _ c.val uid fun _ => rfl, hlaunch]
    exact congrArg (Option.map fun y : Cmd => { y with phase := .running }) hx
  · rw [hupd, SMap.get_put]
    rfl
  · rw [hupd, hcore, List.length_append]
    rfl
  · rw [hlaunch]
    rfl
  · rw [hlaunch]
    rfl

/-- The DMA command between two descriptors that are there. -/
theorem exec_dmaCommand {a b : Desc} (hx : s.cmd c.val uid = some x) (htype : x.type = 4) (hphase : x.phase = .started)
    (hlive : (s.ctx c.val).life.state = .live) (hdoomed : s.doomed c.val uid = false)
    (ha : s.desc c.val (x.arg 0) = some a) (hb : s.desc c.val (x.arg 1) = some b) : exec (.dmaCommand c uid) s =
    .next (
      let k := s.cmdCore x
      let y := s.core k.val
      let mine := match y.cur with
        | some key => keyCtx key == c.val
        | none => false
      if a.format ≠ b.format then s.ctxFault c.val
      else if a.empty || b.empty then s.doneCmd c.val uid 0
      else if (y.units.get none (unitKey c.val tensorUnit)).isSome ∨ s.doomed c.val uid = true ∨ mine = false ∨
          y.blocked (2 * c.val) = true ∨ s.safety.stopped = true then s
      else s.startCopy c uid k (s.copyOp c.val k.val a b)) := by
  refine congrArg Host.Outcome.next ((onCommand_of_started hx htype hphase hlive hdoomed _).trans ?_)
  rw [ha, hb]
  rfl

theorem exec_dmaCommand_of_absent (hx : s.cmd c.val uid = some x) (htype : x.type = 4) (hphase : x.phase = .started)
    (hlive : (s.ctx c.val).life.state = .live) (hdoomed : s.doomed c.val uid = false)
    (h : s.desc c.val (x.arg 0) = none ∨ s.desc c.val (x.arg 1) = none) :
    exec (.dmaCommand c uid) s = .next (s.ctxFault c.val) := by
  refine congrArg Host.Outcome.next ((onCommand_of_started hx htype hphase hlive hdoomed _).trans ?_)
  rcases h with h | h
  · rw [h]
  · rw [h]
    cases s.desc c.val (x.arg 0) <;> rfl

end

/-- Settles O25: each command's effect where it has started, with the lowest free entry by counting the entries in use. -/
theorem commandEffects : Obligations.CommandEffects := by
  intro c uid s x hx hphase hlive hdoomed
  refine ⟨fun htype => ?_, fun htype => ?_, fun htype => ?_, fun htype => ?_, fun htype => ?_, fun htype => ?_⟩
  · have hexec := exec_descCreate hx htype hphase hlive hdoomed
    refine ⟨fun hshare => ?_, fun hshare => ⟨fun hreason => ?_, fun hreason => ?_⟩⟩
    · exact hexec.trans (congrArg Host.Outcome.next (if_pos (by rw [hshare]; rfl)))
    · obtain ⟨hlt, hnone, hlow⟩ := State.freeEntry_fields (State.used_of_descReason hreason)
      obtain ⟨hmade, hothers, hcmd, hcores, hsram, hhbm⟩ := State.makeDesc_fields hx (s.freeEntry c.val) (s.recordDesc c.val x)
      refine ⟨s.freeEntry c.val, _, ?_, hmade, hlt, hnone, hlow, hothers, hcmd, hcores, hsram, hhbm⟩
      exact hexec.trans (congrArg Host.Outcome.next ((if_neg (by rw [hshare]; decide)).trans (if_pos hreason)))
    · exact hexec.trans (congrArg Host.Outcome.next ((if_neg (by rw [hshare]; decide)).trans (if_neg hreason)))
  · have hexec := exec_descDestroy hx htype hphase hlive hdoomed
    refine ⟨fun hnone => ?_, fun hsome => ⟨_, hexec.trans (congrArg Host.Outcome.next (if_neg ?_)),
      State.doneCmd_cmd ?_ 0, ?_, rfl, rfl⟩⟩
    · exact hexec.trans (congrArg Host.Outcome.next (if_pos (by rw [hnone]; rfl)))
    · rwa [Option.isNone_iff_eq_none]
    · exact (State.updCtx_cmd s c.val uid (g := fun y => { y with descs := y.descs.del (x.arg 0) }) rfl).trans hx
    · refine (State.doneCmd_ctx _ c.val uid 0).1.trans ?_
      rw [State.updCtx_ctx]
  · have hexec := exec_signal hx htype hphase hlive hdoomed
    refine ⟨fun hle => ?_, fun hlt hfits => ?_⟩
    · rw [hexec]
      exact congrArg Host.Outcome.next (if_pos hle)
    · have hsem : (s.doneCmd c.val uid 0).sem c.val (x.arg 0) = s.sem c.val (x.arg 0) := by
        rw [State.sem, (State.doneCmd_ctx s c.val uid 0).2.2]
        rfl
      have hsignal := State.signalSem_of_fits (s := s.doneCmd c.val uid 0) hlt (by rw [hsem]; exact hfits)
      refine ⟨_, hexec.trans (congrArg Host.Outcome.next ((if_neg (Nat.not_le.2 hlt)).trans hsignal)), ?_, ?_, ?_⟩
      · exact (State.updCtx_cmd (s.doneCmd c.val uid 0) c.val uid rfl).trans (State.doneCmd_cmd hx 0)
      · rw [hsem]
        exact State.setSem_sem _ c.val (x.arg 0) hfits
      · rfl
  · have hexec := exec_fence hx htype hphase hlive hdoomed
    refine ⟨fun hnone => ?_, fun ⟨y, hy, hring, hlt⟩ => ?_⟩
    · rw [hexec, if_neg]
      · rfl
      · rw [List.any_eq_true]
        rintro ⟨y, hy, hgoes⟩
        simp only [Bool.and_eq_true, beq_iff_eq, decide_eq_true_eq] at hgoes
        exact absurd hgoes.2 (Nat.not_lt.2 (hnone y hy hgoes.1))
    · rw [hexec, if_pos]
      exact List.any_eq_true.2 ⟨y, hy, by simp [hring, hlt]⟩
  · have hexec := exec_distSet hx htype hphase hlive hdoomed
    refine ⟨fun hshare => ?_, fun hshare => ?_⟩
    · exact hexec.trans (congrArg Host.Outcome.next (if_pos (by rw [hshare]; rfl)))
    · exact exec_distSet_of_inside hx htype hphase hlive hdoomed hshare rfl
  · refine ⟨exec_dmaCommand_of_absent hx htype hphase hlive hdoomed, fun a b ha hb => ?_⟩
    have hexec := exec_dmaCommand hx htype hphase hlive hdoomed ha hb
    refine ⟨fun hfmt => ?_, fun hfmt hempty => ?_, fun key hfmt hae hbe hcur hkey hfree hblocked hstopped => ?_,
      fun hfmt hae hbe hbusy => ?_⟩
    · rw [hexec]
      exact congrArg Host.Outcome.next (if_pos hfmt)
    · rw [hexec]
      exact congrArg Host.Outcome.next ((if_neg (Classical.not_not.2 hfmt)).trans (if_pos (by simpa using hempty)))
    · refine ⟨_, hexec.trans (congrArg Host.Outcome.next ((if_neg (Classical.not_not.2 hfmt)).trans ((if_neg ?_).trans (if_neg ?_)))),
        State.startCopy_fields hx _ _⟩
      · rw [hae, hbe]
        decide
      · rw [hcur, hfree, hdoomed, hblocked, hstopped]
        simp [hkey]
    · rw [hexec]
      refine congrArg Host.Outcome.next ((if_neg (Classical.not_not.2 hfmt)).trans ((if_neg ?_).trans (if_pos (.inl ?_))))
      · rw [hae, hbe]
        decide
      · exact Option.isSome_iff_ne_none.2 hbusy

end Sys2Proof.Machine
end

section
namespace Sys2Proof.Machine

/-! ## Issue of a line -/

theorem foldl_min_some {l : Nat} (m : List Nat) (a : Option Nat) (hle : ∀ x ∈ m, l ≤ x) (ha : ∀ x, a = some x → l ≤ x)
    (hmem : l ∈ m ∨ a = some l) : m.foldl (fun b x => match b with
      | none => some x
      | some y => some (min x y)) a = some l := by
  induction m generalizing a with
  | nil => exact hmem.resolve_left fun h => nomatch h
  | cons x m ih =>
    have hx := hle x List.mem_cons_self
    refine ih _ (fun z hz => hle z (List.mem_cons_of_mem x hz)) (fun z hz => ?_) ?_
    · cases a with
      | none => exact Option.some.inj hz ▸ hx
      | some y =>
        have hy := ha y rfl
        have hz' := Option.some.inj hz
        omega
    · cases a with
      | none =>
        have hin := hmem.resolve_right fun h => nomatch h
        exact (List.mem_cons.1 hin).symm.imp_right fun h => congrArg some h.symm
      | some y =>
        have hy := ha y rfl
        have hmin (h : l = x ∨ l = y) : some (min x y) = some l := congrArg some (by omega)
        rcases hmem with hin | heq
        · exact (List.mem_cons.1 hin).symm.imp_right fun h => hmin (.inl h)
        · exact .inr (hmin (.inr (Option.some.inj heq).symm))

section
variable {c : CtxId} {s : State} {x : Xfer} {l : Nat}

/-- The line that issues: the lowest of the slot's bank target on a free pseudo-channel. -/
theorem Hbm.pickLine_of_lowest (hl : l ∈ x.lines) (hbank : lineBank l = bankAt s.now)
    (hchannel : lineChannel l ∉ s.hbm.usedAt s.tick.now)
    (hlow : ∀ m ∈ x.lines, lineBank m = bankAt s.now → lineChannel m ∉ s.hbm.usedAt s.tick.now → l ≤ m) :
    s.hbm.pickLine x s.tick.now = some l := by
  refine foldl_min_some _ none (fun m hm => ?_) (fun _ h => nomatch h) (.inl (List.mem_filter.2 ⟨hl, ?_⟩))
  · obtain ⟨hmem, hgoes⟩ := List.mem_filter.1 hm
    simp only [Bool.and_eq_true, beq_iff_eq, Bool.not_eq_true', List.contains_eq_mem, decide_eq_false_iff_not] at hgoes
    exact hlow m hmem hgoes.1 hgoes.2
  · simp only [Bool.and_eq_true, beq_iff_eq, Bool.not_eq_true', List.contains_eq_mem, decide_eq_false_iff_not]
    exact ⟨hbank, hchannel⟩

theorem Hbm.pickLine_of_none (h : ∀ m ∈ x.lines, lineBank m = bankAt s.now → lineChannel m ∈ s.hbm.usedAt s.tick.now) :
    s.hbm.pickLine x s.tick.now = none := by
  have hnone : x.lines.filter (fun l => lineBank l == bankAt s.tick.now.toNat &&
      !(s.hbm.usedAt s.tick.now).contains (lineChannel l)) = [] := by
    refine List.filter_eq_nil_iff.2 fun m hm hgoes => ?_
    simp only [Bool.and_eq_true, beq_iff_eq, Bool.not_eq_true', List.contains_eq_mem, decide_eq_false_iff_not] at hgoes
    exact hgoes.2 (h m hm hgoes.1)
  unfold Hbm.pickLine
  rw [hnone]
  rfl

/-- The controller after line l of transfer x has issued. -/
def Hbm.issue (h : Hbm) (c : Nat) (x : Xfer) (l : Nat) (now : Word) : Hbm :=
  { h with
    xfers := mapIf (fun z => z.id == x.id) (fun _ => { x with
      lines := x.lines.filter (· != l), started := true, flying := x.flying ++ [(l, now)] }) h.xfers
    slotUsed := lineChannel l :: h.usedAt now, slotTick := now
    lastDir := if (x.lines.filter (· != l)).isEmpty then h.lastDir.put c (some (x.write, now)) else h.lastDir }

theorem exec_hbmLineIssue (hx : s.hbm.serving c.val = some x) : exec (.hbmLineIssue c) s =
    .next (if framePos s.now = 7 ∨ s.hbmOwner ≠ some c.val ∨ s.hbmIssues c.val x = false ∨ s.hbm.mayStart x s.now = false ∨
        x.lines.length ≤ x.waiting ∨ s.safety.stopped = true ∨ s.hbm.selfRefresh = true then s
      else match s.hbm.pickLine x s.tick.now with
        | none => s
        | some l => { s with hbm := s.hbm.issue c.val x l s.tick.now }) := by
  change execHbmLineIssue c s = _
  unfold execHbmLineIssue
  dsimp only
  rw [hx] <;> rfl

theorem exec_hbmLineIssue_of_none (hx : s.hbm.serving c.val = none) : exec (.hbmLineIssue c) s = .next s := by
  change execHbmLineIssue c s = _
  unfold execHbmLineIssue
  dsimp only
  rw [hx]

theorem exec_hbmLineIssue_of_goes (hx : s.hbm.serving c.val = some x) (hpos : framePos s.now ≠ 7)
    (howner : s.hbmOwner = some c.val) (hissues : s.hbmIssues c.val x = true) (hstart : s.hbm.mayStart x s.now = true)
    (hwaiting : x.waiting < x.lines.length) (hstopped : s.safety.stopped = false) (hself : s.hbm.selfRefresh = false)
    (hpick : s.hbm.pickLine x s.tick.now = some l) :
    exec (.hbmLineIssue c) s = .next { s with hbm := s.hbm.issue c.val x l s.tick.now } := by
  have hgo : ¬(framePos s.now = 7 ∨ s.hbmOwner ≠ some c.val ∨ s.hbmIssues c.val x = false ∨ s.hbm.mayStart x s.now = false ∨
      x.lines.length ≤ x.waiting ∨ s.safety.stopped = true ∨ s.hbm.selfRefresh = true) := by
    simp [hpos, howner, hissues, hstart, hwaiting, hstopped, hself]
  rw [exec_hbmLineIssue hx, if_neg hgo, hpick]

theorem exec_hbmLineIssue_of_nothing (hx : s.hbm.serving c.val = some x)
    (h : framePos s.now = 7 ∨ s.hbmOwner ≠ some c.val ∨ s.hbm.pickLine x s.tick.now = none) :
    exec (.hbmLineIssue c) s = .next s := by
  rw [exec_hbmLineIssue hx]
  refine congrArg Host.Outcome.next ?_
  split
  · rfl
  · next hgo =>
    have hpick := (h.resolve_left fun h => hgo (.inl h)).resolve_left fun h => hgo (.inr (.inl h))
    rw [hpick]

end

/-! ## Return of a read -/

section
variable {s : State} {x : Xfer}

/-- The transfer whose line has left its flight. -/
def Xfer.land (x : Xfer) (line : Nat) (bad : Bool) : Xfer :=
  { x with flying := x.flying.filter (fun g => g.1 != line), poisoned := x.poisoned || bad }

/-- The counters of the errors of a line. -/
def State.countEcc (s : State) (ecc : EccResult) : State :=
  { s with hbm := { s.hbm with
    eccCorrected := if ecc = EccResult.corrected then satAdd s.hbm.eccCorrected 1 else s.hbm.eccCorrected
    eccUncorrectable := if ecc = EccResult.uncorrectable then satAdd s.hbm.eccUncorrectable 1 else s.hbm.eccUncorrectable } }

/-- A line of a context that is gone is counted. -/
def State.countInactive (s : State) (c : Nat) : State :=
  if s.accepting c then s else { s with discardedInactive := satAdd s.discardedInactive 1 }

/-- The transfer's core is in a slot of another context. -/
def State.awaits (s : State) (x : Xfer) : Bool :=
  match x.core with
  | none => false
  | some k => s.accepting x.ctx.val && !s.inSlot k.val x.ctx.val

/-- The line that has returned waits in the landing buffer or retires. -/
def State.takeLine (s : State) (x : Xfer) (line : Nat) : State :=
  if s.awaits x then
    { s with hbm := { s.hbm with
      xfers := mapIf (fun y => y.id == x.id) (fun _ => { x with landed := x.landed ++ [line] }) s.hbm.xfers } }
  else s.retireLines x 1

theorem exec_hbmReadReturn {id line : Nat} {errors : List SymbolError} {f : Nat × Word}
    (hx : s.hbm.xfers.find? (fun z => z.id == id && !z.write) = some x) (hf : x.flying.find? (fun g => g.1 == line) = some f) :
    exec (.hbmReadReturn id line errors) s =
      .next (if s.now < f.2.toNat + 96 then s
        else
          let t := ((s.countEcc (eccResult errors)).countInactive x.ctx.val).takeLine
            (x.land line (eccResult errors == EccResult.uncorrectable)) line
          if eccResult errors = EccResult.uncorrectable then t.ctxFault x.ctx.val else t) := by
  change execHbmReadReturn id line errors s = _
  unfold execHbmReadReturn
  dsimp only
  rw [hx]
  dsimp only
  rw [hf]
  rfl

theorem State.countEcc_clean (s : State) : s.countEcc .clean = s := rfl

theorem State.awaits_of_here (h : ¬∃ k, x.core = some k ∧ s.inSlot k.val x.ctx.val = false) : s.awaits x = false := by
  unfold State.awaits
  split
  · rfl
  · next k hk =>
    have hin : s.inSlot k.val x.ctx.val = true := by
      rw [← Bool.not_eq_false]
      exact fun hno => h ⟨k, hk, hno⟩
    rw [hin]
    exact Bool.and_false _

theorem State.awaits_of_away (hin : s.accepting x.ctx.val = true)
    (h : ∃ k, x.core = some k ∧ s.inSlot k.val x.ctx.val = false) : s.awaits x = true := by
  obtain ⟨k, hk, hno⟩ := h
  unfold State.awaits
  rw [hk]
  dsimp only
  rw [hin, hno]
  rfl

theorem State.awaits_of_gone (hin : s.accepting x.ctx.val = false) : s.awaits x = false := by
  unfold State.awaits
  split
  · rfl
  · rw [hin]
    rfl

/-- The line of a context that is there, in its slot. -/
theorem State.takeLine_here (ecc : EccResult) (line : Nat) (bad : Bool) (hin : s.accepting x.ctx.val = true)
    (h : ¬∃ k, x.core = some k ∧ s.inSlot k.val x.ctx.val = false) :
    ((s.countEcc ecc).countInactive x.ctx.val).takeLine (x.land line bad) line = (s.countEcc ecc).retireLines (x.land line bad) 1 := by
  have hcount : (s.countEcc ecc).countInactive x.ctx.val = s.countEcc ecc := if_pos hin
  have haway : (s.countEcc ecc).awaits (x.land line bad) = false := State.awaits_of_here (s := s) h
  rw [hcount, State.takeLine, haway, if_neg Bool.false_ne_true]

/-! ## The check bytes -/

theorem eccResult_of_length {errors : List SymbolError} {n : Nat}
    (h : ((errors.filter fun e => e.flips != 0).map fun e => e.symbol.val).eraseDups.length = n) :
    (n = 0 → eccResult errors = .clean) ∧ (n = 1 → eccResult errors = .corrected) ∧ (n = 2 → eccResult errors = .uncorrectable) := by
  unfold eccResult
  dsimp only
  rw [h]
  refine ⟨?_, ?_, ?_⟩ <;> rintro rfl <;> rfl

theorem eccResult_of_none {errors : List SymbolError} (h : ∀ e ∈ errors, e.flips = 0) : eccResult errors = .clean := by
  have hnone : (errors.filter fun e => e.flips != 0) = [] := List.filter_eq_nil_iff.2 fun e he => by simp [h e he]
  exact (eccResult_of_length (n := 0) (by rw [hnone]; rfl)).1 rfl

theorem eccResult_of_one {errors : List SymbolError} {a : SymbolError} (ha : a ∈ errors) (hflips : a.flips ≠ 0)
    (h : ∀ e ∈ errors, e.flips ≠ 0 → e.symbol = a.symbol) : eccResult errors = .corrected := by
  have hall : ∀ v ∈ (errors.filter fun e => e.flips != 0).map (fun e => e.symbol.val), v = a.symbol.val := by
    intro v hv
    obtain ⟨e, he, rfl⟩ := List.mem_map.1 hv
    obtain ⟨hmem, hne⟩ := List.mem_filter.1 he
    exact congrArg Fin.val (h e hmem (bne_iff_ne.1 hne))
  have hthere : a.symbol.val ∈ (errors.filter fun e => e.flips != 0).map fun e => e.symbol.val :=
    List.mem_map.2 ⟨a, List.mem_filter.2 ⟨ha, bne_iff_ne.2 hflips⟩, rfl⟩
  refine (eccResult_of_length (n := 1) ?_).2.1 rfl
  generalize (errors.filter fun e => e.flips != 0).map (fun e => e.symbol.val) = l at hall hthere
  cases l with
  | nil => cases hthere
  | cons v l =>
    have hrest : (l.filter fun b => !(b == v)) = [] := by
      refine List.filter_eq_nil_iff.2 fun b hb => ?_
      rw [hall b (List.mem_cons_of_mem v hb), hall v List.mem_cons_self]
      simp
    rw [List.eraseDups_cons, hrest]
    rfl

theorem eccResult_of_two {a b : SymbolError} (ha : a.flips ≠ 0) (hb : b.flips ≠ 0) (hne : a.symbol ≠ b.symbol) :
    eccResult [a, b] = .uncorrectable := by
  refine (eccResult_of_length (n := 2) ?_).2.2 rfl
  have hval : (b.symbol.val == a.symbol.val) = false := beq_false_of_ne fun h => hne (Fin.ext h.symm)
  have hfilter : ([a, b].filter fun e => e.flips != 0) = [a, b] := List.filter_eq_self.2 fun e he => by
    rcases List.mem_cons.1 he with rfl | he
    · exact bne_iff_ne.2 ha
    · rw [List.mem_singleton.1 he]
      exact bne_iff_ne.2 hb
  rw [hfilter]
  simp [List.eraseDups_cons, hval]

/-! ## Retirement -/

theorem State.freeTracker_eq (s : State) (k c n : Nat) : s.freeTracker k c n = { s with cores := (s.freeTracker k c n).cores } := by
  unfold State.freeTracker
  split <;> rfl

/-- The transfer of whose lines some have retired, before its end. -/
theorem State.retireLines_eq (s : State) (x : Xfer) (n : Nat) : ∃ m, s.retireLines x n = State.finishXfer { s with cores := m } x := by
  unfold State.retireLines
  split
  · exact ⟨_, rfl⟩
  · rw [State.freeTracker_eq]
    exact ⟨_, rfl⟩

theorem State.retireLines_mems {s : State} {x : Xfer} (h : x.lines ≠ []) (n : Nat) :
    (s.retireLines x n).sramMem = s.sramMem ∧ (s.retireLines x n).hbmMem = s.hbmMem := by
  obtain ⟨m, hm⟩ := s.retireLines_eq x n
  have hnot : ¬(x.lines.isEmpty && x.flying.isEmpty && x.landed.isEmpty) = true := by
    simp [h]
  rw [hm, State.finishXfer, if_neg hnot]
  exact ⟨rfl, rfl⟩

/-- A transfer that only writes HBM changes nothing more at its end. -/
theorem State.retireLines_hbmMem {s : State} {x : Xfer} (h : ∀ e ∈ x.effects, e.inHbm = true) (n : Nat) :
    (s.retireLines x n).hbmMem = s.hbmMem := by
  obtain ⟨m, hm⟩ := s.retireLines_eq x n
  have hnone : (x.effects.filter fun e => !e.inHbm) = [] := List.filter_eq_nil_iff.2 fun e he => by simp [h e he]
  rw [hm, State.finishXfer, hnone]
  split <;> rfl

theorem exec_hbmWriteRetire {id line : Nat} {f : Nat × Word}
    (hx : s.hbm.xfers.find? (fun z => z.id == id && z.write) = some x) (hf : x.flying.find? (fun g => g.1 == line) = some f) :
    exec (.hbmWriteRetire id line) s = .next (if s.now < f.2.toNat + 64 then s
      else (s.writeLine x line).retireLines { x with flying := x.flying.filter fun g => g.1 != line } 1) := by
  change execHbmWriteRetire id line s = _
  unfold execHbmWriteRetire
  rw [hx]
  dsimp only
  rw [hf]
  rfl

/-- A write of one stretch of bytes inside the line. -/
theorem State.writeLine_of_one {a line : Nat} {b : Bytes} (heffects : x.effects = [.mem .hbm a b]) (hlo : 64 * line ≤ a)
    (hhi : a + b.length ≤ 64 * line + 64) (hne : b ≠ []) (howns : s.ownsShares x.ctx.val = true) :
    s.writeLine x line = s.writeMem .hbm a b := by
  have hpos := List.length_pos_iff.2 hne
  have hmax : max a (64 * line) = a := Nat.max_eq_left hlo
  have hmin : min (a + b.length) (64 * line + 64) = a + b.length := Nat.min_eq_left hhi
  have hbytes : (Effect.mem .hbm a b).lineBytes line = some (a, b) := by
    simp only [Effect.lineBytes, hmax, hmin]
    rw [if_pos (by omega), Nat.sub_self, Nat.add_sub_cancel_left, slice_zero_length]
  rw [State.writeLine, if_pos howns, heffects, List.foldl_cons, List.foldl_nil, hbytes]

end

/-- Settles O30: the line that issues is the lowest of those the slot serves; a return and a retirement by their latency,
the errors of the line and the slot of the transfer's core. -/
theorem hbmTransfers : Obligations.HbmTransfers := by
  refine ⟨fun c s => ⟨fun x l hx hpos howner hissues hstart hwaiting hstopped hself hl hbank hchannel hlow => ?_,
    fun x hx h => exec_hbmLineIssue_of_nothing hx (.inr (.inr (Hbm.pickLine_of_none h))), fun h => ?_, fun hpos hself => ?_,
    fun h => ?_⟩, fun id line errors s x f hf => ?_⟩
  · intro rest
    rw [exec_hbmLineIssue_of_goes hx hpos howner hissues hstart hwaiting hstopped hself
      (Hbm.pickLine_of_lowest hl hbank hchannel hlow)]
    simp only [Hbm.issue, mapIf, beq_iff_eq, List.isEmpty_iff, rest]
  · cases hx : s.hbm.serving c.val with
    | none => exact exec_hbmLineIssue_of_none hx
    | some x =>
      rw [hx] at h
      exact exec_hbmLineIssue_of_nothing hx (h.imp_right (.imp_right fun h => nomatch h))
  · exact congrArg Host.Outcome.next (if_pos ⟨hpos, hself⟩)
  · refine congrArg Host.Outcome.next (if_neg fun h' => ?_)
    rcases h with h | h
    · exact h h'.1
    · rw [h] at h'
      cases h'.2
  intro y ecc away
  refine ⟨fun hx => ⟨fun htime => ?_, fun htime => ?_⟩, fun hx => ⟨fun htime => ?_, fun a b htime heffects hlo hhi hne howns => ?_,
    fun htime => ?_⟩, fun hne => State.retireLines_mems hne 1, eccResult_of_none, fun a ha hflips h => eccResult_of_one ha hflips h,
    fun a b herrors ha hb hne => ?_⟩
  · have hexec (e : EccResult) (he : ecc = e) : exec (.hbmReadReturn id line errors) s =
        .next (let t := ((s.countEcc e).countInactive x.ctx.val).takeLine (x.land line (e == EccResult.uncorrectable)) line
          if e = EccResult.uncorrectable then t.ctxFault x.ctx.val else t) := by
      rw [← he]
      exact (exec_hbmReadReturn hx hf).trans (congrArg Host.Outcome.next (if_neg (Nat.not_lt.2 htime)))
    have hland : x.land line false = y := by
      simp only [Xfer.land, Bool.or_false, y]
    have hbad : x.land line true = { y with poisoned := true } := by
      simp only [Xfer.land, Bool.or_true, y]
    refine ⟨fun hecc hin hhere => ?_, fun hecc hin haway => ?_, fun hecc hin hhere => ?_, fun hecc hin hhere => ?_,
      fun hecc hgone => ?_⟩
    · refine (hexec .clean hecc).trans (congrArg Host.Outcome.next ((if_neg (by decide)).trans ?_))
      exact (State.takeLine_here .clean line false hin hhere).trans (congrArg (s.retireLines · 1) hland)
    · refine (hexec .clean hecc).trans (congrArg Host.Outcome.next ((if_neg (by decide)).trans ?_))
      have hwaits : s.awaits (x.land line false) = true := State.awaits_of_away (x := x.land line false) hin haway
      have hcount : (s.countEcc .clean).countInactive x.ctx.val = s := if_pos hin
      rw [hcount]
      refine (if_pos hwaits).trans ?_
      simp only [mapIf, beq_iff_eq]
      rw [← hland]
      rfl
    · refine (hexec .corrected hecc).trans (congrArg Host.Outcome.next ((if_neg (by decide)).trans ?_))
      exact (State.takeLine_here .corrected line false hin hhere).trans
        (congrArg ((s.countEcc .corrected).retireLines · 1) hland)
    · refine (hexec .uncorrectable hecc).trans (congrArg Host.Outcome.next ((if_pos rfl).trans ?_))
      exact congrArg (State.ctxFault · x.ctx.val) ((State.takeLine_here .uncorrectable line true hin hhere).trans
        (congrArg ((s.countEcc .uncorrectable).retireLines · 1) hbad))
    · refine (hexec .clean hecc).trans (congrArg Host.Outcome.next ((if_neg (by decide)).trans ?_))
      have hcount : (s.countEcc .clean).countInactive x.ctx.val =
          { s with discardedInactive := satAdd s.discardedInactive 1 } := if_neg (by rw [State.countEcc_clean, hgone]; decide)
      have hwaits : State.awaits { s with discardedInactive := satAdd s.discardedInactive 1 } (x.land line false) = false :=
        State.awaits_of_gone hgone
      rw [hcount]
      exact (if_neg (Bool.not_eq_true _ ▸ hwaits)).trans (congrArg (State.retireLines _ · 1) hland)
  · exact (exec_hbmReadReturn hx hf).trans (congrArg Host.Outcome.next (if_pos htime))
  · exact (exec_hbmWriteRetire hx hf).trans (congrArg Host.Outcome.next (if_neg (Nat.not_lt.2 htime)))
  · refine ⟨_, (exec_hbmWriteRetire hx hf).trans (congrArg Host.Outcome.next (if_neg (Nat.not_lt.2 htime))), ?_⟩
    rw [State.writeLine_of_one heffects hlo hhi hne howns]
    refine State.retireLines_hbmMem (fun e he => ?_) 1
    have hmem : e ∈ x.effects := he
    rw [heffects, List.mem_singleton] at hmem
    rw [hmem]
    rfl
  · exact (exec_hbmWriteRetire hx hf).trans (congrArg Host.Outcome.next (if_pos htime))
  · subst herrors
    exact eccResult_of_two ha hb hne

end Sys2Proof.Machine
end

section
namespace Sys2Proof.Machine

/-! ## The start of a slot on a core -/

section
variable (s : State) (e : Nat)

/-- The core's wheel names the owner of the slot that begins. -/
def State.nameOwner : State := s.updWheel e fun w => { w with owner := BitVec.ofNat 8 ((s.wheel e).at s.now) }

/-- A core asleep that the turn wakes, and a context governed whose slot is withheld. -/
def State.openSlot : State :=
  let t := (s.nameOwner e).wakeCore e
  if (s.wheel e).at s.now < 64 && t.withheld ((s.wheel e).at s.now) e then t.govern ((s.wheel e).at s.now) else t

theorem Wheel.at_lt (w : Wheel) (t : Nat) : w.at t < 256 := BitVec.isLt _

theorem State.wakeCore_eq : ∃ m, s.wakeCore e = { s with cores := m } ∧ (∃ a, m.get {} e = { s.core e with asleep := a }) ∧
    ∀ k, k ≠ e → m.get {} k = s.core k := by
  unfold State.wakeCore
  dsimp only
  generalize ((s.core e).asleep && !s.energy.retention && _ && _) = b
  cases b with
  | true => exact ⟨_, rfl, ⟨true && false, SMap.get_put ..⟩, fun k hk => SMap.get_put_ne _ _ _ _ _ hk⟩
  | false => exact ⟨_, rfl, ⟨_, rfl⟩, fun _ _ => rfl⟩

theorem State.openSlot_eq : ∃ m n, s.openSlot e = { s with wheels := (s.nameOwner e).wheels, cores := m, ctxs := n } ∧
    (∃ a, m.get {} e = { s.core e with asleep := a }) ∧ (∀ k, k ≠ e → m.get {} k = s.core k) ∧
    ∀ d, (n.get {} d).cmds = (s.ctx d).cmds ∧ (n.get {} d).life = (s.ctx d).life := by
  obtain ⟨m, hwake, hself, hothers⟩ := (s.nameOwner e).wakeCore_eq e
  unfold State.openSlot
  dsimp only
  rw [hwake]
  split
  · refine ⟨m, _, rfl, hself, hothers, fun d => ?_⟩
    by_cases hd : d = (s.wheel e).at s.now
    · rw [hd, SMap.get_put]
      exact ⟨rfl, rfl⟩
    · rw [SMap.get_put_ne _ _ _ _ _ hd]
      exact ⟨rfl, rfl⟩
  · exact ⟨m, _, rfl, hself, hothers, fun _ => ⟨rfl, rfl⟩⟩

/-- The stream that the slot that begins is given to. -/
def State.slotTarget : Option Nat :=
  let b := (s.wheel e).at s.now
  if b < 64 then
    match if s.yielding b then s.urgentReady e else none with
    | some u => some (2 * u + 1)
    | none => if s.withheld b e then none else some (2 * b)
  else if b = 0x41 then
    match s.urgentReady e with
    | some u => some (2 * u + 1)
    | none =>
      match s.spareTo (s.wheel e) with
      | some c => if (s.ctx c).life.state = .live ∧ ((s.core e).stream (2 * c)).active then some (2 * c) else none
      | none => none
  else none

theorem State.openSlot_pickStream : (s.openSlot e).pickStream e = s.slotTarget e := by
  obtain ⟨m, n, hopen, ⟨a, hself⟩, hothers, hctx⟩ := s.openSlot_eq e
  have hwheel : (s.openSlot e).wheel e = { s.wheel e with owner := BitVec.ofNat 8 ((s.wheel e).at s.now) } := by
    rw [hopen]
    exact s.updWheel_wheel e fun w => { w with owner := BitVec.ofNat 8 ((s.wheel e).at s.now) }
  have hstream (key : Nat) : ((s.openSlot e).core e).stream key = (s.core e).stream key := by
    rw [hopen]
    exact (congrArg (fun x : Core => x.stream key) hself :)
  have hlife (d : Nat) : ((s.openSlot e).ctx d).life = (s.ctx d).life := by
    rw [hopen]
    exact (hctx d).2
  have hcmds (d : Nat) : ((s.openSlot e).ctx d).cmds = (s.ctx d).cmds := by
    rw [hopen]
    exact (hctx d).1
  have hurgent : (s.openSlot e).urgentReady e = s.urgentReady e := by
    unfold State.urgentReady
    simp only [hlife, hstream]
  have hwithheld (d : Nat) : (s.openSlot e).withheld d e = s.withheld d e := by
    unfold State.withheld
    rw [hcmds]
  have hyielding (d : Nat) : (s.openSlot e).yielding d = s.yielding d := by
    rw [hopen]
    rfl
  have hspare : (s.openSlot e).spareTo ((s.openSlot e).wheel e) = s.spareTo (s.wheel e) := by
    rw [hwheel, hopen]
    rfl
  have howner : ((s.openSlot e).wheel e).owner.toNat = (s.wheel e).at s.now := by
    rw [hwheel]
    exact Nat.mod_eq_of_lt ((s.wheel e).at_lt s.now)
  unfold State.pickStream State.slotTarget
  simp only [howner, hurgent, hwithheld, hyielding, hspare, hlife, hstream] <;> rfl

theorem Core.beginSwitch_eq (x : Core) (key : Nat) (v : Option Nat) : ∃ l, x.beginSwitch key v = { x with switches := l } := by
  unfold Core.beginSwitch
  split
  · split
    · exact ⟨_, rfl⟩
    · dsimp only
      split <;> exact ⟨_, rfl⟩
  · dsimp only
    split <;> exact ⟨_, rfl⟩

/-- A slot assigned: its stream, and what a switch adds. -/
theorem State.assignSlot_eq : ∃ m, s.assignSlot e = { s with cores := m } ∧
    (∃ l, m.get {} e = { s.core e with switches := l, cur := s.pickStream e }) ∧ ∀ k, k ≠ e → m.get {} k = s.core k := by
  unfold State.assignSlot
  split
  · next h =>
    rw [h]
    exact ⟨_, rfl, ⟨_, SMap.get_put ..⟩, fun k hk => SMap.get_put_ne _ _ _ _ _ hk⟩
  · next key h =>
    rw [h]
    obtain ⟨l, hl⟩ := (s.core e).beginSwitch_eq key (s.slotContext (s.wheel e))
    refine ⟨_, rfl, ⟨l, (SMap.get_put ..).trans ?_⟩, fun k hk => SMap.get_put_ne _ _ _ _ _ hk⟩
    dsimp only
    rw [hl]

/-- The landing buffer of a stream whose data has all landed is written with nothing. -/
theorem State.writeLanded_of_none {s : State} {e c : Nat} (h : ∀ x ∈ s.hbm.xfers, x.ctx.val = c →
    x.core = some (Fin.ofNat 32 e) → x.landed = []) : s.writeLanded e c = s := by
  have hnone : (s.hbm.xfers.filter fun x => x.ctx.val == c && x.core == some (Fin.ofNat 32 e) && !x.landed.isEmpty) = [] := by
    refine List.filter_eq_nil_iff.2 fun x hx hgoes => ?_
    simp only [Bool.and_eq_true, beq_iff_eq, Bool.not_eq_true'] at hgoes
    rw [h x hx hgoes.1.1 hgoes.1.2] at hgoes
    cases hgoes.2
  unfold State.writeLanded
  rw [hnone]
  rfl

/-- The data in the landing buffer of the slot's stream is written. -/
def State.landSlot (s : State) (e : Nat) : State :=
  match (s.core e).cur with
  | some key => s.writeLanded e (keyCtx key)
  | none => s

end

section
variable {e : EngineId} {s : State}

theorem exec_slotStart_of_core (hcore : e.val < 32) (hstarts : (s.wheel e.val).startsAt s.now = true) :
    exec (.slotStart e) s = .next ((((s.openSlot e.val).assignSlot e.val).landSlot e.val).tryHeld e.val) := by
  have hb : (BitVec.ofNat 8 ((s.wheel e.val).at s.now)).toNat = (s.wheel e.val).at s.now :=
    Nat.mod_eq_of_lt ((s.wheel e.val).at_lt s.now)
  refine congrArg Host.Outcome.next ((if_pos hstarts).trans ((if_pos hcore).trans ?_))
  dsimp only
  rw [hb]
  rfl

/-- What the start of a slot gives, with no data landed and nothing held. -/
theorem exec_slotStart_gives (hcore : e.val < 32) (hstarts : (s.wheel e.val).startsAt s.now = true)
    (h : ∀ key, s.slotTarget e.val = some key → (∀ i, ((s.core e.val).stream key).status ≠ .held i) ∧
      ∀ x ∈ s.hbm.xfers, x.ctx.val = keyCtx key → x.core = some (Fin.ofNat 32 e.val) → x.landed = []) :
    ∃ t : State, exec (.slotStart e) s = .next t ∧ (t.core e.val).cur = s.slotTarget e.val ∧
      (t.wheel e.val).owner = BitVec.ofNat 8 ((s.wheel e.val).at s.now) ∧
      (∀ key, (t.core e.val).stream key = (s.core e.val).stream key) ∧ (∀ k, k ≠ e.val → t.core k = s.core k) ∧
      (∀ d, (t.ctx d).cmds = (s.ctx d).cmds ∧ (t.ctx d).life = (s.ctx d).life) ∧
      t.hbmMem = s.hbmMem ∧ t.sramMem = s.sramMem ∧ t.hbm = s.hbm := by
  obtain ⟨m, n, hopen, ⟨a, hself⟩, hothers, hctx⟩ := s.openSlot_eq e.val
  obtain ⟨m', hassign, ⟨l, hself'⟩, hothers'⟩ := (s.openSlot e.val).assignSlot_eq e.val
  rw [s.openSlot_pickStream e.val] at hself'
  generalize hu : (s.openSlot e.val).assignSlot e.val = u at hassign
  have hcur : (u.core e.val).cur = s.slotTarget e.val := by
    rw [hassign]
    exact (congrArg Core.cur hself' :)
  have hstream (key : Nat) : (u.core e.val).stream key = (s.core e.val).stream key := by
    rw [hassign]
    refine (congrArg (fun x : Core => x.stream key) hself' :).trans ?_
    rw [hopen]
    exact (congrArg (fun x : Core => x.stream key) hself :)
  have hland : (u.landSlot e.val).tryHeld e.val = u := by
    unfold State.landSlot
    rw [hcur]
    cases htarget : s.slotTarget e.val with
    | none =>
      dsimp only
      rw [State.tryHeld, hcur, htarget]
    | some key =>
      obtain ⟨hheld, hlanded⟩ := h key htarget
      have hbuffer : u.writeLanded e.val (keyCtx key) = u := by
        refine State.writeLanded_of_none ?_
        rw [hassign, hopen]
        exact hlanded
      dsimp only
      rw [hbuffer]
      refine State.tryHeld_of_none_held (k := ⟨e.val, hcore⟩) (hcur.trans htarget) fun i => ?_
      rw [hstream]
      exact hheld i
  refine ⟨u, (exec_slotStart_of_core hcore hstarts).trans (congrArg Host.Outcome.next (by rw [hu, hland])), hcur, ?_, hstream,
    fun k hk => ?_, fun d => ?_, ?_, ?_, ?_⟩
  · rw [hassign, hopen]
    exact congrArg Wheel.owner (s.updWheel_wheel e.val fun w => { w with owner := BitVec.ofNat 8 ((s.wheel e.val).at s.now) })
  · rw [hassign]
    refine (hothers' k hk).trans ?_
    rw [hopen]
    exact hothers k hk
  · rw [hassign, hopen]
    exact hctx d
  all_goals rw [hassign, hopen]

/-! ## The stream a slot is given to -/

theorem State.slotTarget_of_owner (hlt : (s.wheel e.val).at s.now < 64)
    (h : s.yielding ((s.wheel e.val).at s.now) = false ∨ s.urgentReady e.val = none) :
    s.slotTarget e.val = if s.withheld ((s.wheel e.val).at s.now) e.val then none else some (2 * (s.wheel e.val).at s.now) := by
  have hnone : (if s.yielding ((s.wheel e.val).at s.now) then s.urgentReady e.val else none) = none := by
    rcases h with h | h
    · rw [h]
      rfl
    · rw [h]
      exact ite_self _
  unfold State.slotTarget
  dsimp only
  rw [if_pos hlt, hnone]

theorem State.slotTarget_of_yielding {u : Nat} (hlt : (s.wheel e.val).at s.now < 64)
    (hy : s.yielding ((s.wheel e.val).at s.now) = true) (hu : s.urgentReady e.val = some u) :
    s.slotTarget e.val = some (2 * u + 1) := by
  unfold State.slotTarget
  dsimp only
  rw [if_pos hlt, if_pos hy, hu]

theorem State.slotTarget_of_spare_urgent {u : Nat} (hb : (s.wheel e.val).at s.now = 0x41) (hu : s.urgentReady e.val = some u) :
    s.slotTarget e.val = some (2 * u + 1) := by
  unfold State.slotTarget
  dsimp only
  rw [hb, if_neg (by decide), if_pos rfl, hu]

theorem State.slotTarget_of_spare (hb : (s.wheel e.val).at s.now = 0x41) (hu : s.urgentReady e.val = none) :
    s.slotTarget e.val = match s.spareTo (s.wheel e.val) with
      | some c => if (s.ctx c).life.state = .live ∧ ((s.core e.val).stream (2 * c)).active then some (2 * c) else none
      | none => none := by
  unfold State.slotTarget
  dsimp only
  rw [hb, if_neg (by decide), if_pos rfl, hu]

theorem State.slotTarget_of_none (h64 : 64 ≤ (s.wheel e.val).at s.now) (hb : (s.wheel e.val).at s.now ≠ 0x41) :
    s.slotTarget e.val = none := by
  unfold State.slotTarget
  dsimp only
  rw [if_neg (Nat.not_lt.2 h64), if_neg hb]

theorem State.urgentReady_spec {k u : Nat} (h : s.urgentReady k = some u) : (s.ctx u).life.state = .live ∧
    ((s.core k).stream (2 * u + 1)).active = true ∧
    ∀ v < u, (s.ctx v).life.state ≠ .live ∨ ((s.core k).stream (2 * v + 1)).active = false := by
  obtain ⟨hu, -, hlow⟩ := List.find?_range_eq_some.1 h
  simp only [Bool.and_eq_true, beq_iff_eq] at hu
  refine ⟨hu.1, hu.2, fun v hv => ?_⟩
  have hno := hlow v hv
  rw [Bool.not_eq_true', Bool.and_eq_false_iff, beq_eq_false_iff_ne] at hno
  exact hno

end

/-! ## Engines that are no core -/

/-- The context an engine that is no core works for: the owner of the slot, or of a SPARE slot the YIELDING context of its
rank. -/
def State.engineByte (s : State) (e : Nat) : Byte :=
  if (s.wheel e).at s.now = 0x41 then
    match s.spareTo (s.wheel e) with
    | some c => BitVec.ofNat 8 c
    | none => 0x40
  else BitVec.ofNat 8 ((s.wheel e).at s.now)

theorem exec_slotStart_of_engine {e : EngineId} {s : State} (he : 32 ≤ e.val)
    (hstarts : (s.wheel e.val).startsAt s.now = true) :
    exec (.slotStart e) s = .next (s.updWheel e.val fun w => { w with owner := s.engineByte e.val }) := by
  have hb : (BitVec.ofNat 8 ((s.wheel e.val).at s.now)).toNat = (s.wheel e.val).at s.now :=
    Nat.mod_eq_of_lt ((s.wheel e.val).at_lt s.now)
  refine (congrArg Host.Outcome.next ((if_pos hstarts).trans (if_neg (Nat.not_lt.2 he)))).trans ?_
  unfold State.engineByte
  rw [hb] <;> rfl

/-! ## Switches -/

section
variable {k : CoreId} {s : State} {w : Switch}

theorem exec_preemptSaveDone (h : (s.core k.val).pendingSwitch true = some w) : exec (.preemptSaveDone k) s =
    .next (((s.updCore k.val fun x => { x with switches := x.switches.filter (· != w) }).saveStream k.val w.stream).tryHeld
      k.val) := by
  change execPreemptSaveDone k s = _
  unfold execPreemptSaveDone
  rw [h]

theorem State.saveStream_saved (s : State) (k key : Nat) : (((s.saveStream k key).core k).stream key).saved = true := by
  unfold State.saveStream
  dsimp only
  rw [State.updCore_core]
  generalize State.core _ k = x
  exact congrArg Stream.saved (x.updStream_stream key fun st => { st with saved := true, paused := _ })

theorem exec_restoreDone (h : (s.core k.val).pendingSwitch false = some w) : exec (.restoreDone k) s =
    .next (if ((s.core k.val).stream w.stream).paused.any (fun u => ((s.core k.val).units.get none u.1).isSome) then s
      else ((s.updCore k.val fun x => { x with switches := x.switches.filter (· != w) }).restoreStream k.val w.stream).tryHeld
        k.val) := by
  change execRestoreDone k s = _
  unfold execRestoreDone
  rw [h]

theorem State.restoreStream_core (s : State) (k key : Nat) : ∃ u, (s.restoreStream k key).core k =
    { (s.core k).updStream key fun st => { st with saved := false, paused := [] } with units := u } :=
  ⟨_, s.updCore_core k _⟩

end

/-- Settles O29: the slot's stream by the byte of its wheel, an engine's owner, the change of a table at a common turn, and
the ends of a save and of a restore. -/
theorem rulingSlots : Obligations.RulingSlots := by
  refine ⟨fun e s hcore hstarts => ?_, fun s => ⟨fun e he hstarts => ?_, fun e h => ?_, fun e ch rest hch => ?_, fun e h => ?_,
    fun k w hw => ?_, fun k w hw => ?_, fun k h => ?_, fun k h => ?_⟩⟩
  · intro b w gives
    have hgives (p : Option Nat) (hp : s.slotTarget e.val = p) : gives p := by
      intro h
      rw [← hp] at h ⊢
      exact exec_slotStart_gives hcore hstarts h
    refine ⟨fun hlt h hw => hgives _ ?_, fun hlt h hw => hgives _ ?_, fun u hlt hy hu => hgives _ (State.slotTarget_of_yielding hlt hy hu),
      fun u hb hu => hgives _ (State.slotTarget_of_spare_urgent hb hu), fun d hb hu hd hlive hactive => hgives _ ?_,
      fun hb hu h => hgives _ ?_, fun h64 hb => hgives _ (State.slotTarget_of_none h64 hb), fun u => State.urgentReady_spec⟩
    · rw [State.slotTarget_of_owner hlt h]
      exact if_neg (by rw [hw]; decide)
    · rw [State.slotTarget_of_owner hlt h]
      exact if_pos hw
    · rw [State.slotTarget_of_spare hb hu, hd]
      exact if_pos ⟨hlive, hactive⟩
    · rw [State.slotTarget_of_spare hb hu]
      cases hd : s.spareTo (s.wheel e.val) with
      | none => rfl
      | some d =>
        refine if_neg fun hgo => (h d hd).elim (· hgo.1) fun hno => ?_
        rw [hno] at hgo
        cases hgo.2
  · have hexec := exec_slotStart_of_engine he hstarts
    unfold State.engineByte at hexec
    intro b
    refine ⟨fun hne => ?_, fun d heq hd => ?_, fun heq hd => ?_⟩
    · rw [hexec, if_neg hne]
    · rw [hexec, if_pos heq, hd]
    · rw [hexec, if_pos heq, hd]
  · exact congrArg Host.Outcome.next (if_neg (by rw [h]; decide))
  · have hexec : exec (.rulingSwitch e) s = .next (if ch.from_.toNat ≤ s.now ∧ s.now % (16 * max (s.wheel e.val).len ch.len) = 0
        then s.updWheel e.val fun w => { w with len := ch.len, table := ch.table, changes := rest } else s) := by
      change execRulingSwitch e s = _
      unfold execRulingSwitch
      dsimp only
      rw [hch]
    refine ⟨fun hle hmod => hexec.trans (congrArg Host.Outcome.next (if_pos ⟨hle, hmod⟩)), fun h =>
      hexec.trans (congrArg Host.Outcome.next (if_neg ?_))⟩
    exact Classical.not_and_iff_not_or_not.2 (h.imp_left Nat.not_le.2)
  · change execRulingSwitch e s = _
    unfold execRulingSwitch
    dsimp only
    rw [h]
  · exact ⟨_, exec_preemptSaveDone hw, State.saveStream_saved _ _ _, rfl⟩
  · refine ⟨fun hfree => ?_, fun ⟨u, hu, hbusy⟩ => ?_⟩
    · have hnone : ¬((s.core k.val).stream w.stream).paused.any (fun u => ((s.core k.val).units.get none u.1).isSome) = true := by
        rw [List.any_eq_true]
        rintro ⟨u, hu, hbusy⟩
        rw [hfree u hu] at hbusy
        cases hbusy
      obtain ⟨u, hcore⟩ := (s.updCore k.val fun x => { x with switches := x.switches.filter (· != w) }).restoreStream_core
        k.val w.stream
      rw [State.updCore_core] at hcore
      have hstream := Core.updStream_stream { s.core k.val with switches := (s.core k.val).switches.filter (· != w) } w.stream
        fun st => { st with saved := false, paused := [] }
      refine ⟨_, (exec_restoreDone hw).trans (congrArg Host.Outcome.next (if_neg hnone)), ?_, ?_, ?_, fun key hkey => ?_, rfl,
        rfl, rfl⟩
      · exact (congrArg (fun x : Core => (x.stream w.stream).saved) hcore).trans (congrArg Stream.saved hstream)
      · exact (congrArg (fun x : Core => (x.stream w.stream).paused) hcore).trans (congrArg Stream.paused hstream)
      · exact congrArg Core.switches hcore
      · exact (congrArg (fun x : Core => x.stream key) hcore).trans (Core.updStream_stream_ne
          { s.core k.val with switches := (s.core k.val).switches.filter (· != w) } w.stream key
          (fun st => { st with saved := false, paused := [] }) hkey)
    · refine (exec_restoreDone hw).trans (congrArg Host.Outcome.next (if_pos ?_))
      exact List.any_eq_true.2 ⟨u, hu, Option.isSome_iff_ne_none.2 hbusy⟩
  · change execPreemptSaveDone k s = _
    unfold execPreemptSaveDone
    rw [h]
  · change execRestoreDone k s = _
    unfold execRestoreDone
    rw [h]

end Sys2Proof.Machine
end

section
/-! Configuration sets: how a command ends, what is reported of failures, and the commands of one device (R671 to R694). -/

namespace Sys2Proof.Machine

/-! ## Terminal status, failures and the vote -/

/-- The sets once a command or a commit has its terminal status. -/
def State.endedSets (s : State) (status reason entry : Nat) : CfgSets :=
  { s.sets with status := status, checkReason := reason, checkEntry := entry, terminalTick := s.tick.now }

theorem State.cfgTerminal_shape (s : State) (status reason entry : Nat) : ∃ m o, s.cfgTerminal status reason entry =
    { s with sets := s.endedSets status reason entry, ctxs := m, out := o } := by
  unfold State.cfgTerminal
  rw [State.raise_eq]
  exact ⟨_, _, rfl⟩

theorem State.trace_fields (s : State) (k : Service) :
    (s.trace k).sets = s.sets ∧ (s.trace k).cfg = s.cfg ∧ (s.trace k).cores = s.cores := by
  rw [s.trace_eq k]
  exact ⟨rfl, rfl, rfl⟩

theorem reported_nil : reported [] = none := rfl

/-- A list with a failure has one that is reported. -/
theorem reported_ne_none {f : Failure} {l : List Failure} (h : f ∈ l) : reported l ≠ none := by
  obtain ⟨pre, post, rfl⟩ := List.append_of_mem h
  unfold reported
  rw [List.foldl_append, List.foldl_cons]
  generalize List.foldl _ none pre = b
  have hkeeps (b : Failure) (post : List Failure) : ∃ x, post.foldl (fun best f => match best with
      | none => some f
      | some b => if failBefore f b then some f else some b) (some b) = some x := by
    induction post generalizing b with
    | nil => exact ⟨b, rfl⟩
    | cons g post ih =>
      simp only [List.foldl_cons]
      split
      · exact ih g
      · exact ih b
  cases b with
  | none =>
    obtain ⟨x, hx⟩ := hkeeps f post
    exact fun h => nomatch hx.symm.trans h
  | some b =>
    dsimp only
    split
    · obtain ⟨x, hx⟩ := hkeeps f post
      exact fun h => nomatch hx.symm.trans h
    · obtain ⟨x, hx⟩ := hkeeps b post
      exact fun h => nomatch hx.symm.trans h

/-- A vote changes nothing but what is prepared, the draft's state and the reason. -/
theorem State.prepareVote_shape (s : State) (id : BitVec 32) (act : Word) (epoch : BitVec 32) : ∃ d r e,
    (s.prepareVote id act epoch).1 = { s with sets := { s.sets with preparedEpoch := some epoch, preparedTick := act
                                                                    preparedId := id, draftState := d, checkReason := r
                                                                    checkEntry := e } } := by
  unfold State.prepareVote
  dsimp only
  split
  · exact ⟨_, _, _, rfl⟩
  · split
    · exact ⟨_, _, _, rfl⟩
    · exact ⟨_, _, _, rfl⟩

theorem State.sendPrepare_shape (s : State) (id : BitVec 32) (act : Word) (epoch : BitVec 32) : ∃ m,
    s.sendPrepare id act epoch = { s with links := m, out := .prepare id act epoch :: s.out } := by
  obtain ⟨m, hm, -⟩ := (s.emit (.prepare id act epoch)).flood_eq (prepareBytes id act epoch)
  exact ⟨m, hm⟩

theorem State.sendDecision_shape (s : State) (v : Option (BitVec 32)) : ∃ m,
    s.sendDecision v = { s with links := m, out := .decision v :: s.out } := by
  obtain ⟨m, hm, -⟩ := (s.emit (.decision v)).flood_eq (decisionBytes v)
  exact ⟨m, hm⟩

/-! ## Commands -/

section
variable {s : State}

theorem State.cmdAllowed_iff (k : Nat) : s.cmdAllowed k = true ↔ s.fw.stage = 2 ∧ s.sets.cmdTick ≠ some s.tick.now ∧
    (k = 5 ∨ (s.sets.service = none ∧ s.sets.draftState ≠ .prepared)) := by
  unfold State.cmdAllowed
  simp only [Bool.and_eq_true, Bool.or_eq_true, beq_iff_eq, bne_iff_ne, Option.isNone_iff_eq_none, and_assoc]

theorem State.runCmd_of_not_allowed {k : Nat} (h : s.cmdAllowed k = false) : s.runCmd k = s :=
  if_pos (by rw [h]; rfl)

theorem exec_commit_of_device (h : s.cmdAllowed 2 = true) (hscope : s.sets.groupScope = false) :
    exec .commit s = .next (s.newCommand.serve .commit .committing) :=
  congrArg Host.Outcome.next ((if_neg (by rw [h]; decide)).trans (if_neg (by rw [hscope]; decide)))

theorem exec_commit_of_group (h : s.cmdAllowed 2 = true) (hscope : s.sets.groupScope = true) :
    exec .commit s = .next s.newCommand.groupCommit :=
  congrArg Host.Outcome.next ((if_neg (by rw [h]; decide)).trans (if_pos hscope))

/-- A group COMMIT off the lead fails: WRONG_LEAD, or a tick too soon. -/
theorem State.groupCommit_of_no_lead (hrole : s.topo.role ≠ 1) : ∃ r e, s.groupCommit = s.cfgTerminal 9 r e ∧ (r = 14 ∨ r = 16) := by
  unfold State.groupCommit
  dsimp only
  generalize (if s.sets.actTick.toNat = 0 then s.now + 786432 else s.sets.actTick.toNat) = t
  rw [show (s.topo.role != 1) = true from bne_iff_ne.2 hrole]
  cases decide (t < s.now + 786432) with
  | true => exact ⟨14, _, rfl, .inl rfl⟩
  | false => exact ⟨16, _, rfl, .inr rfl⟩

/-- The state with a group commit for tick t in service and its PREPARE sent. -/
def State.groupOpened (s : State) (t : Word) : State :=
  { s with sets := { s.sets with
      service := some .commit, serviceDone := true, serviceTick := s.tick.now, serviceActTick := t
      groupActTick := some t, participants := s.participants, votes := [] } }.sendPrepare s.sets.commitId t s.topo.leadEpoch

/-- A group COMMIT on the lead, without an ACT_TICK, is for 786,432 ticks later; a lead that takes part votes at once. -/
theorem State.groupCommit_of_lead (hrole : s.topo.role = 1) (hact : s.sets.actTick = 0) :
    let u := s.groupOpened (s.tick.now + 786432)
    let p := u.prepareVote s.sets.commitId (s.tick.now + 786432) u.topo.leadEpoch
    s.groupCommit = if s.participants.contains u.topo.selfAddr then
      { p.1 with sets := { p.1.sets with votes := [(p.1.topo.selfAddr, p.2)] } } else u := by
  have htick : (BitVec.ofNat 64 (s.now + 786432) : Word) = s.tick.now + 786432 := by
    rw [BitVec.ofNat_add]
    exact congrArg (· + _) (BitVec.ofNat_toNat ..)
  unfold State.groupCommit
  dsimp only
  rw [show s.sets.actTick.toNat = 0 from congrArg BitVec.toNat hact, if_pos rfl, htick,
    show (s.topo.role != 1) = false from bne_eq_false_iff_eq.2 hrole, decide_eq_false (Nat.lt_irrefl _)]
  unfold State.groupOpened
  simp only [failIf, Bool.false_eq_true, if_false, List.append_nil, reported_nil]

/-- What a group COMMIT on the lead notes, and that its PREPARE goes out. -/
theorem State.groupCommit_fields (hrole : s.topo.role = 1) (hact : s.sets.actTick = 0) :
    (s.groupCommit).sets.groupActTick = some (s.tick.now + 786432) ∧ (s.groupCommit).sets.participants = s.participants ∧
      (s.groupCommit).sets.service = some .commit ∧ (s.groupCommit).cfg = s.cfg ∧ (s.groupCommit).cores = s.cores ∧
      .prepare s.sets.commitId (s.tick.now + 786432) s.topo.leadEpoch ∈ (s.groupCommit).out := by
  rw [State.groupCommit_of_lead hrole hact]
  dsimp only
  unfold State.groupOpened
  obtain ⟨m, hsent⟩ := State.sendPrepare_shape { s with sets := { s.sets with
    service := some .commit, serviceDone := true, serviceTick := s.tick.now, serviceActTick := s.tick.now + 786432
    groupActTick := some (s.tick.now + 786432), participants := s.participants, votes := [] } } s.sets.commitId
    (s.tick.now + 786432) s.topo.leadEpoch
  rw [hsent]
  dsimp only
  split
  · obtain ⟨d, r, e, hvote⟩ := State.prepareVote_shape (_ : State) s.sets.commitId (s.tick.now + 786432) s.topo.leadEpoch
    rw [hvote]
    exact ⟨rfl, rfl, rfl, rfl, rfl, List.mem_cons_self⟩
  · exact ⟨rfl, rfl, rfl, rfl, rfl, List.mem_cons_self⟩

/-- ABORT of a group commit that runs here: the set is discarded, and the decision ABORT goes out. -/
theorem State.cfgAbort_of_group (h : s.sets.groupActTick ≠ none) : ∃ d st ctxs links o, s.cfgAbort =
    { s with
      sets := { s.newCommand.sets with
        service := none, groupActTick := none, votes := [], preparedEpoch := none, draft := d, draftState := st
        status := 0, checkReason := 0, checkEntry := 0, terminalTick := s.tick.now }
      ctxs := ctxs, links := links, out := .decision none :: o } := by
  unfold State.cfgAbort State.abortCommit
  dsimp only
  rw [if_pos (show s.newCommand.groupRuns = true from Option.isSome_iff_ne_none.2 h)]
  generalize (if s.newCommand.sets.preparedEpoch.isSome = true then _ else s.newCommand.sets.draft) = d
  generalize (if s.newCommand.sets.preparedEpoch.isSome = true then _ else s.newCommand.sets.draftState) = st
  obtain ⟨m, o, h1⟩ := State.cfgTerminal_shape { s.newCommand with sets := { s.newCommand.sets with
    service := none, groupActTick := none, votes := [], preparedEpoch := none, draft := d, draftState := st } } 2 0 0
  rw [h1]
  obtain ⟨m', o', h2⟩ := State.cfgTerminal_shape _ 0 0 0
  rw [h2]
  obtain ⟨links, h3⟩ := State.sendDecision_shape _ none
  rw [h3]
  exact ⟨_, _, _, _, _, rfl⟩

theorem State.cfgAbort_of_no_group (h : s.sets.groupActTick = none) : s.cfgAbort = match s.sets.pending with
    | none => s.newCommand.cfgTerminal 1 0 0
    | some p =>
      if p.group ∨ p.actTick.toNat ≤ s.now then s.newCommand.cfgTerminal 1 0 0
      else { s.newCommand with sets := { s.newCommand.sets with pending := none, service := none } }.abortCommit := by
  unfold State.cfgAbort
  dsimp only
  have hnot : s.newCommand.groupRuns = false := Option.isSome_eq_false_iff.2 (Option.isNone_iff_eq_none.2 h)
  rw [hnot] <;> rfl

/-! ## The end of a check -/

theorem exec_checkDone (hdone : s.sets.serviceDone = false) {k : CfgCmd} (hk : s.sets.service = some k) :
    exec .checkDone s = .next (s.endService.trace .check) :=
  congrArg Host.Outcome.next (if_neg (by rw [hdone, hk]; exact Bool.false_ne_true))

/-- The failures of the command itself at the end of a check: a pending set, and an ACT_TICK too soon. -/
theorem State.endCheck_of_failure {items : Items} {more : List Failure} {f : Failure}
    (h : s.checkSet items (more ++ s.pendingFailure ++ failIf (s.sets.serviceActTick.toNat != 0 &&
      decide (s.sets.serviceActTick.toNat < s.now + 1024)) 14 0x2000 7) = some f) :
    s.endCheck items more = { s with sets := { s.sets with service := none } }.cfgTerminal 9 f.1 f.2 := by
  unfold State.endCheck
  dsimp only
  rw [h]

theorem State.endCheck_of_passed {items : Items}
    (hsoon : s.sets.serviceActTick = 0 ∨ s.now + 1024 ≤ s.sets.serviceActTick.toNat)
    (h : s.checkSet items s.pendingFailure = none) : s.endCheck items [] =
      s.makePending items (if s.sets.serviceActTick.toNat = 0 then s.now + 1024 else s.sets.serviceActTick.toNat) := by
  have hno : (s.sets.serviceActTick.toNat != 0 && decide (s.sets.serviceActTick.toNat < s.now + 1024)) = false := by
    rcases hsoon with h0 | hle
    · rw [h0]
      rfl
    · rw [decide_eq_false (Nat.not_lt.2 hle), Bool.and_false]
  unfold State.endCheck
  dsimp only
  rw [hno, show [] ++ s.pendingFailure ++ failIf false 14 0x2000 7 = s.pendingFailure from List.append_nil _, h]

/-- At an ACT_TICK too soon the check of a command fails. -/
theorem State.endCheck_of_soon {items : Items} {more : List Failure} (h0 : s.sets.serviceActTick ≠ 0)
    (hlt : s.sets.serviceActTick.toNat < s.now + 1024) : ∃ f : Failure,
      s.endCheck items more = { s with sets := { s.sets with service := none } }.cfgTerminal 9 f.1 f.2 := by
  have hsoon : (s.sets.serviceActTick.toNat != 0 && decide (s.sets.serviceActTick.toNat < s.now + 1024)) = true := by
    rw [decide_eq_true hlt, Bool.and_true, bne_iff_ne]
    exact fun h => h0 (BitVec.eq_of_toNat_eq h)
  obtain ⟨f, hf⟩ := Option.ne_none_iff_exists'.1 (reported_ne_none (f := (14, ekey 0x2000 7))
    (l := (s.checking items).failures ++ (more ++ s.pendingFailure ++ failIf true 14 0x2000 7)) (by simp [failIf]))
  exact ⟨f, State.endCheck_of_failure (by rw [hsoon]; exact hf)⟩

end

section
variable {s : State}

/-- The state with no command in service. -/
def State.outOfService (s : State) : State := { s with sets := { s.sets with service := none } }

theorem State.endService_of_check_failed {f : Failure} (hk : s.sets.service = some .check)
    (hf : s.checkSet s.sets.draft [] = some f) : s.endService =
      { s.outOfService with sets := { s.outOfService.sets with draftState := s.sets.openState } }.cfgTerminal 9 f.1 f.2 := by
  unfold State.endService
  rw [hk]
  dsimp only
  rw [hf]
  rfl

theorem State.endService_of_check_passed (hk : s.sets.service = some .check) (h : s.checkSet s.sets.draft [] = none) :
    s.endService = { s.outOfService with sets := { s.outOfService.sets with
      draftState := if s.sets.draft.isEmpty then DraftState.empty else .checked } }.cfgTerminal 0 0 0 := by
  unfold State.endService
  rw [hk]
  dsimp only
  rw [h]
  rfl

/-- A COMMIT whose check ends with its terminal status opens its draft again. -/
theorem State.endService_of_commit_failed {f : Failure} (hdone : s.sets.serviceDone = false) (hk : s.sets.service = some .commit)
    (h : s.endCheck s.sets.draft [] = s.outOfService.cfgTerminal 9 f.1 f.2) : ∃ m o, s.endService =
      { s with
        sets := { s.outOfService.endedSets 9 f.1 f.2 with draftState := s.sets.openState }
        ctxs := m, out := o } := by
  obtain ⟨m, o, hshape⟩ := s.outOfService.cfgTerminal_shape 9 f.1 f.2
  refine ⟨m, o, ?_⟩
  unfold State.endService
  rw [hk]
  dsimp only
  rw [h, hshape]
  exact if_neg (ne_true_of_eq_false hdone)

theorem State.endService_of_commit_passed {t : Nat} (hk : s.sets.service = some .commit)
    (h : s.endCheck s.sets.draft [] = s.makePending s.sets.draft t) : s.endService =
      { s.makePending s.sets.draft t with sets := { (s.makePending s.sets.draft t).sets with draft := [], draftState := .empty } } := by
  unfold State.endService
  rw [hk]
  dsimp only
  rw [h]
  exact if_pos rfl

theorem State.endService_of_revert {old : SMap DVal} (hk : s.sets.service = some .revert) (h : s.sets.previous = some old) :
    s.endService = s.endCheck (revertItems s.cfg old) [] := by
  unfold State.endService
  rw [hk]
  dsimp only
  rw [h]

/-- A REVERT with no previous set fails. -/
theorem State.endService_of_no_previous (hk : s.sets.service = some .revert) (h : s.sets.previous = none) :
    ∃ f : Failure, s.endService = s.outOfService.cfgTerminal 9 f.1 f.2 := by
  obtain ⟨f, hf⟩ := Option.ne_none_iff_exists'.1 (reported_ne_none (f := (15, ekey 0x2000 6))
    (l := (s.checking []).failures ++ (failIf true 15 0x2000 6 ++ s.pendingFailure ++ failIf (s.sets.serviceActTick.toNat != 0 &&
      decide (s.sets.serviceActTick.toNat < s.now + 1024)) 14 0x2000 7)) (by simp [failIf]))
  refine ⟨f, ?_⟩
  unfold State.endService
  rw [hk]
  dsimp only
  rw [h]
  exact State.endCheck_of_failure hf

/-- Without an ACT_TICK a set is checked for a pending one alone. -/
theorem State.endCheck_of_no_tick {items : Items} {f : Failure} (h0 : s.sets.serviceActTick = 0)
    (h : s.checkSet items s.pendingFailure = some f) : s.endCheck items [] = s.outOfService.cfgTerminal 9 f.1 f.2 := by
  refine State.endCheck_of_failure ?_
  rw [h0]
  exact (congrArg (s.checkSet items) (List.append_nil s.pendingFailure)).trans h

end

/-- What the end of a command leaves of the configuration and the cores, and its status. -/
theorem State.cfgTerminal_ends (s : State) (status reason entry : Nat) :
    (s.cfgTerminal status reason entry).sets = s.endedSets status reason entry ∧
      (s.cfgTerminal status reason entry).cfg = s.cfg ∧ (s.cfgTerminal status reason entry).cores = s.cores := by
  obtain ⟨m, o, h⟩ := s.cfgTerminal_shape status reason entry
  rw [h]
  exact ⟨rfl, rfl, rfl⟩


/-- Settles O46: each command of CMD by its lemma, and the end of a check by whether the set passes. -/
theorem configurationCommands : Obligations.ConfigurationCommands := by
  intro s n serve ends
  have hends (u : State) (a b c : Nat) (htick : u.tick = s.tick) (hcfg : u.cfg = s.cfg) (hcores : u.cores = s.cores) :
      ends (u.cfgTerminal a b c) a b c := by
    obtain ⟨m, o, h⟩ := u.cfgTerminal_shape a b c
    rw [h]
    exact ⟨rfl, rfl, rfl, congrArg TickUnit.now htick, hcfg, hcores⟩
  have htraced (u : State) (a b c : Nat) (h : ends u a b c) : ends (u.trace .check) a b c := by
    obtain ⟨hsets, hcfg, hcores⟩ := u.trace_fields .check
    change (u.trace .check).sets.status = a ∧ _
    rw [hsets, hcfg, hcores]
    exact h
  refine ⟨fun h => congrArg Host.Outcome.next (if_neg (by rw [h]; decide)), exec_commit_of_device,
    fun h hscope => ⟨fun hrole => ?_, fun hrole hact _ => ?_⟩, fun k => s.cmdAllowed_iff k,
    fun h => congrArg Host.Outcome.next (if_neg (by rw [h]; decide)), fun h => ?_, fun h hgroup => ⟨fun hp => ?_, fun p hp hlate => ?_,
      fun p hp hg hlt => ?_⟩, fun h hgroup => ?_, ⟨fun h => congrArg _ (State.runCmd_of_not_allowed h),
      fun h => congrArg _ (State.runCmd_of_not_allowed h), fun h => congrArg _ (State.runCmd_of_not_allowed h),
      fun h => congrArg _ (State.runCmd_of_not_allowed h), fun h => congrArg _ (State.runCmd_of_not_allowed h)⟩,
    fun h => ?_, fun hdone hk => ⟨fun f hf => ?_, fun hpass => ?_⟩, fun hdone hk h0 => ⟨fun f hf => ?_, fun hpass => ?_⟩,
    fun hdone hk h0 hle hpass => ?_, fun hdone hk h0 hlt => ?_, fun hdone hk => ⟨fun hprev => ?_, fun old f hprev h0 hf => ?_,
      fun old hprev h0 hpass => ?_⟩⟩
  · obtain ⟨r, e, hgroup, hr⟩ := State.groupCommit_of_no_lead (s := s.newCommand) hrole
    refine ⟨_, r, e, exec_commit_of_group h hscope, ?_, hr⟩
    rw [hgroup]
    exact hends _ _ _ _ rfl rfl rfl
  · exact ⟨_, exec_commit_of_group h hscope, State.groupCommit_fields (s := s.newCommand) hrole hact⟩
  · refine ⟨s.cfgDiscard, congrArg Host.Outcome.next (if_neg (by rw [h]; decide)), hends _ _ _ _ rfl rfl rfl, ?_⟩
    unfold State.cfgDiscard
    rw [(State.cfgTerminal_ends _ 0 0 0).1]
    exact ⟨rfl, rfl, rfl, rfl⟩
  · refine ⟨s.newCommand.cfgTerminal 1 0 0, congrArg Host.Outcome.next ((if_neg (by rw [h]; decide)).trans ?_),
      hends _ _ _ _ rfl rfl rfl, (congrArg CfgSets.draft (State.cfgTerminal_ends s.newCommand 1 0 0).1 :)⟩
    refine (State.cfgAbort_of_no_group hgroup).trans ?_
    rw [hp]
  · refine ⟨s.newCommand.cfgTerminal 1 0 0, congrArg Host.Outcome.next ((if_neg (by rw [h]; decide)).trans ?_),
      hends _ _ _ _ rfl rfl rfl, (congrArg CfgSets.pending (State.cfgTerminal_ends s.newCommand 1 0 0).1).trans hp⟩
    rw [State.cfgAbort_of_no_group hgroup, hp]
    exact if_pos hlate
  · have hdrop : exec .configAbort s = .next (State.abortCommit
        { s.newCommand with sets := { s.newCommand.sets with pending := none, service := none } }) := by
      refine congrArg Host.Outcome.next ((if_neg (by rw [h]; decide)).trans ?_)
      rw [State.cfgAbort_of_no_group hgroup, hp]
      exact if_neg (not_or.2 ⟨ne_true_of_eq_false hg, Nat.not_le.2 hlt⟩)
    obtain ⟨m, o, hfirst⟩ := State.cfgTerminal_shape
      { s.newCommand with sets := { s.newCommand.sets with pending := none, service := none } } 2 0 0
    unfold State.abortCommit at hdrop
    rw [hfirst] at hdrop
    refine ⟨_, hdrop, hends _ _ _ _ rfl rfl rfl, ?_⟩
    rw [(State.cfgTerminal_ends _ 0 0 0).1]
    exact ⟨rfl, rfl, rfl⟩
  · obtain ⟨d, st, m, links, o, habort⟩ := State.cfgAbort_of_group hgroup
    refine ⟨s.cfgAbort, congrArg Host.Outcome.next (if_neg (by rw [h]; decide)), ?_⟩
    rw [habort]
    exact ⟨⟨rfl, rfl, rfl, rfl, rfl, rfl⟩, rfl, rfl, rfl⟩
  · refine congrArg Host.Outcome.next (if_pos ?_)
    rw [Bool.or_eq_true, Option.isNone_iff_eq_none]
    exact h
  · refine ⟨_, exec_checkDone hdone hk, htraced _ _ _ _ ?_, ?_⟩
    · rw [State.endService_of_check_failed hk hf]
      exact hends _ _ _ _ rfl rfl rfl
    · rw [(State.trace_fields _ _).1, State.endService_of_check_failed hk hf, (State.cfgTerminal_ends _ 9 f.1 f.2).1]
      exact ⟨rfl, rfl⟩
  · refine ⟨_, exec_checkDone hdone hk, htraced _ _ _ _ ?_, ?_⟩
    · rw [State.endService_of_check_passed hk hpass]
      exact hends _ _ _ _ rfl rfl rfl
    · rw [(State.trace_fields _ _).1, State.endService_of_check_passed hk hpass, (State.cfgTerminal_ends _ 0 0 0).1]
      exact ⟨rfl, rfl, fun hdraft => if_neg fun h => hdraft (List.isEmpty_iff.1 h)⟩
  · obtain ⟨m, o, hend⟩ := State.endService_of_commit_failed hdone hk (State.endCheck_of_no_tick h0 hf)
    refine ⟨_, exec_checkDone hdone hk, htraced _ _ _ _ ?_, ?_⟩
    · rw [hend]
      exact ⟨rfl, rfl, rfl, rfl, rfl, rfl⟩
    · rw [(State.trace_fields _ _).1, hend]
      exact ⟨rfl, rfl, rfl⟩
  · have hend := State.endCheck_of_passed (.inl h0) hpass
    rw [h0] at hend
    rw [exec_checkDone hdone hk, State.endService_of_commit_passed hk hend]
    rfl
  · have hend := State.endCheck_of_passed (.inr hle) hpass
    have hne : s.sets.serviceActTick.toNat ≠ 0 := fun h => h0 (BitVec.eq_of_toNat_eq h)
    rw [if_neg hne] at hend
    rw [exec_checkDone hdone hk, State.endService_of_commit_passed hk hend]
    unfold State.makePending
    rw [BitVec.ofNat_toNat, BitVec.setWidth_eq]
  · obtain ⟨f, hfail⟩ := State.endCheck_of_soon (items := s.sets.draft) (more := []) h0 hlt
    obtain ⟨m, o, hend⟩ := State.endService_of_commit_failed hdone hk hfail
    refine ⟨_, f.1, f.2, exec_checkDone hdone hk, htraced _ _ _ _ ?_, ?_⟩
    · rw [hend]
      exact ⟨rfl, rfl, rfl, rfl, rfl, rfl⟩
    · rw [(State.trace_fields _ _).1, hend]
      exact ⟨rfl, rfl, rfl⟩
  · obtain ⟨f, hfail⟩ := State.endService_of_no_previous hk hprev
    refine ⟨_, f.1, f.2, exec_checkDone hdone hk, htraced _ _ _ _ ?_, ?_⟩
    · rw [hfail]
      exact hends _ _ _ _ rfl rfl rfl
    · rw [(State.trace_fields _ _).1, hfail, (State.cfgTerminal_ends _ 9 f.1 f.2).1]
      exact ⟨rfl, rfl⟩
  · have hfail := (State.endService_of_revert hk hprev).trans (State.endCheck_of_no_tick h0 hf)
    refine ⟨_, exec_checkDone hdone hk, htraced _ _ _ _ ?_, ?_⟩
    · rw [hfail]
      exact hends _ _ _ _ rfl rfl rfl
    · rw [(State.trace_fields _ _).1, hfail, (State.cfgTerminal_ends _ 9 f.1 f.2).1]
      exact ⟨rfl, rfl⟩
  · have hend := State.endCheck_of_passed (.inl h0) hpass
    rw [h0] at hend
    rw [exec_checkDone hdone hk, State.endService_of_revert hk hprev, hend]
    rfl

end Sys2Proof.Machine
end

section
/-! The activation of a set: what its changes leave of the configuration, the sets and the device (R679). -/

namespace Sys2Proof.Machine

/-- From s to t the configuration, its sets, the device's identity and its queue have not changed. -/
structure State.SetsKept (s t : State) : Prop where
  cfg : t.cfg = s.cfg
  sets : t.sets = s.sets
  ident : t.ident = s.ident
  pending : t.pending = s.pending

namespace State.SetsKept
variable {s t u : State}

theorem refl (s : State) : s.SetsKept s := ⟨rfl, rfl, rfl, rfl⟩

theorem trans (h : s.SetsKept t) (h' : t.SetsKept u) : s.SetsKept u :=
  ⟨h'.cfg.trans h.cfg, h'.sets.trans h.sets, h'.ident.trans h.ident, h'.pending.trans h.pending⟩

theorem foldl_of_mem {α : Type} {f : State → α → State} (l : List α) (h : ∀ s : State, ∀ x ∈ l, s.SetsKept (f s x)) (s : State) :
    s.SetsKept (l.foldl f s) := by
  induction l generalizing s with
  | nil => exact refl s
  | cons x l ih => exact (h s x (.head l)).trans (ih (fun s y hy => h s y (.tail x hy)) (f s x))

theorem foldl {α : Type} {f : State → α → State} (h : ∀ (s : State) (x : α), s.SetsKept (f s x)) (l : List α) (s : State) :
    s.SetsKept (l.foldl f s) := foldl_of_mem l (fun s x _ => h s x) s

theorem ite {p : Prop} [Decidable p] (h : s.SetsKept t) (h' : s.SetsKept u) : s.SetsKept (if p then t else u) := by
  by_cases hp : p
  · rwa [if_pos hp]
  · rwa [if_neg hp]

end State.SetsKept

section
variable (s : State)

theorem State.teardown_setsKept (c cause : Nat) : s.SetsKept (s.teardown c cause) := by
  rw [State.teardown_eq]
  exact ⟨rfl, rfl, rfl, rfl⟩

theorem State.startCreate_setsKept (c : Nat) : s.SetsKept (s.startCreate c) := by
  rw [State.startCreate_eq]
  exact ⟨rfl, rfl, rfl, rfl⟩

theorem State.raiseStateChange_setsKept (c : Nat) : s.SetsKept (s.raiseStateChange c) := by
  rw [State.raiseStateChange_eq]
  exact ⟨rfl, rfl, rfl, rfl⟩

theorem State.updCore_setsKept (k : Nat) (f : Core → Core) : s.SetsKept (s.updCore k f) := ⟨rfl, rfl, rfl, rfl⟩

theorem State.updCtx_setsKept (c : Nat) (f : Ctx → Ctx) : s.SetsKept (s.updCtx c f) := ⟨rfl, rfl, rfl, rfl⟩

theorem State.signalSem_setsKept (c n amount : Nat) : s.SetsKept (s.signalSem c n amount) := by
  have hadd : s.SetsKept (s.addSem c n amount).1 := by
    rw [State.addSem_eq]
    exact ⟨rfl, rfl, rfl, rfl⟩
  unfold State.signalSem
  split
  · next hfault =>
    rw [hfault] at hadd
    exact hadd.trans (State.teardown_setsKept _ c 2)
  · next hdone =>
    rwa [hdone] at hadd

theorem State.writeMem_setsKept (m : ScrubMem) (a : Nat) (b : Bytes) : s.SetsKept (s.writeMem m a b) := by
  cases m <;> exact ⟨rfl, rfl, rfl, rfl⟩

theorem State.raise_setsKept (f v : Nat) : s.SetsKept (s.raise f v) := by
  rw [State.raise_eq]
  exact ⟨rfl, rfl, rfl, rfl⟩

theorem State.raiseQueue_setsKept (q : QueueId) (cap before after : Nat) : s.SetsKept (s.raiseQueue q cap before after) := by
  rw [State.raiseQueue_eq]
  exact ⟨rfl, rfl, rfl, rfl⟩

theorem State.putResult_setsKept (k key uid : Nat) (f : Stream → Stream) : s.SetsKept (s.putResult k key uid f) :=
  .ite (s.updCore_setsKept k _) (.refl s)

theorem State.countOob_setsKept (c n : Nat) : s.SetsKept (s.countOob c n) :=
  .ite (.refl s) ⟨rfl, rfl, rfl, rfl⟩

theorem State.apply_setsKept (k key uid : Nat) (e : Effect) : s.SetsKept (s.apply k key uid e) := by
  cases e with
  | mem m a b => exact .ite (s.writeMem_setsKept m a b) (.refl s)
  | atomXa m a w anchor x => exact .ite (.refl s) ((s.writeMem_setsKept m a _).trans (State.updCtx_setsKept _ _ _))
  | atomF32 m a x => exact .ite (.refl s) ((s.writeMem_setsKept m a _).trans (State.updCtx_setsKept _ _ _))
  | vreg v l => exact s.putResult_setsKept k key uid _
  | lane v i x => exact s.putResult_setsKept k key uid _
  | tile a t => exact s.putResult_setsKept k key uid _
  | flags f => exact ⟨rfl, rfl, rfl, rfl⟩
  | oob n w =>
    exact .ite (.refl s) (.ite ((s.countOob_setsKept _ n).trans (State.updCtx_setsKept _ _ _)) (s.countOob_setsKept _ n))
  | sem n amount => exact s.signalSem_setsKept _ n.toNat amount
  | bar2 f a n => exact ⟨rfl, rfl, rfl, rfl⟩
  | moved key' e' =>
    have hafter : s.SetsKept (s.updQuill (keyCtx key) fun q => q.after key' e') := s.updCtx_setsKept _ _
    cases e' with
    | arrival q _ _ _ => exact hafter.trans (State.raiseQueue_setsKept _ _ _ _ _)
    | landing _ _ => exact hafter
    | combined _ => exact hafter
  | balRow layer n => exact ⟨rfl, rfl, rfl, rfl⟩
  | collWritten g gen n => exact ⟨rfl, rfl, rfl, rfl⟩
  | irq v => exact s.raise_setsKept _ v
  | copied => exact ⟨rfl, rfl, rfl, rfl⟩

theorem State.applyAll_setsKept (k : Nat) (op : InFlight) : s.SetsKept (s.applyAll k op) :=
  .foldl (fun s e => s.apply_setsKept k op.stream op.uid e) _ s

theorem State.meter_setsKept (c uid pj : Nat) : s.SetsKept (s.meter c uid pj) := ⟨rfl, rfl, rfl, rfl⟩

theorem State.saveStream_setsKept (k key : Nat) : s.SetsKept (s.saveStream k key) := by
  unfold State.saveStream
  refine .trans (.foldl (fun s u => .trans (s.meter_setsKept u.2.ctx.val u.2.uid u.2.picojoule) ?_) _ s) (State.updCore_setsKept _ k _)
  exact State.applyAll_setsKept _ k u.2

theorem State.suspend_setsKept (c : Nat) : s.SetsKept (s.suspend c) := by
  unfold State.suspend
  split
  · exact s.updCtx_setsKept c _
  · exact .trans (.trans (.foldl (fun s k => .foldl (fun s key => .ite (s.saveStream_setsKept k key) (.refl s)) _ s) _ s)
      (State.updCtx_setsKept _ c _)) (State.raiseStateChange_setsKept _ c)
  · exact .refl s

theorem State.assignSlot_setsKept (k : Nat) : s.SetsKept (s.assignSlot k) := by
  unfold State.assignSlot
  split
  · exact s.updCore_setsKept k _
  · exact s.updCore_setsKept k _

theorem State.resume_setsKept (c : Nat) : s.SetsKept (s.resume c) := by
  unfold State.resume
  refine .ite (.refl s) ?_
  split
  · exact s.updCtx_setsKept c _
  · exact .trans (.trans (s.updCtx_setsKept c _) (State.raiseStateChange_setsKept _ c))
      (.foldl (fun s k => .ite (s.assignSlot_setsKept k) (.refl s)) _ _)
  · exact .refl s

theorem State.actOn_setsKept (n action : Nat) : s.SetsKept (s.actOn n action) := by
  unfold State.actOn
  split
  · split
    · exact s.startCreate_setsKept n
    · exact s.updCtx_setsKept n _
    · exact .refl s
  · exact s.teardown_setsKept n 1
  · exact s.suspend_setsKept n
  · exact s.resume_setsKept n
  · exact .refl s

theorem State.changeWheels_setsKept (l : Items) : s.SetsKept (s.changeWheels l) :=
  .foldl (f := fun s e => s.updWheel e fun w => { w with changes := w.changes ++ [{
    len := s.cfgNum (0x4200 + e) 1, table := s.cfgBlob (0x4200 + e) 2, from_ := s.tick.now }] })
    (fun _ _ => ⟨rfl, rfl, rfl, rfl⟩) _ s

theorem State.activateGroups_setsKept (l : Items) : s.SetsKept (s.activateGroups l) :=
  .foldl (f := State.activateGroup) (fun _ _ => .ite ⟨rfl, rfl, rfl, rfl⟩ ⟨rfl, rfl, rfl, rfl⟩) _ s

theorem State.leadMap_setsKept (addrs : List Nat) : s.SetsKept (s.leadMap addrs) := by
  unfold State.leadMap
  refine .ite ?_ (.refl s)
  obtain ⟨m, d, r, hm, -⟩ := s.mapChanged_newRoutes_eq addrs
  rw [hm]
  exact ⟨rfl, rfl, rfl, rfl⟩

theorem State.putEntry_setsKept (a : Nat) (e : MapEntry) : s.SetsKept (s.putEntry a e) := ⟨rfl, rfl, rfl, rfl⟩

theorem State.lockMap_setsKept : s.SetsKept s.lockMap :=
  .trans (.foldl (fun s a => s.putEntry_setsKept a _) _ s) (State.leadMap_setsKept _ _)

theorem State.reportLinks_setsKept : s.SetsKept s.reportLinks := by
  obtain ⟨m, d, p, o, hm, -⟩ := s.reportLinks_eq
  rw [hm]
  exact ⟨rfl, rfl, rfl, rfl⟩

theorem State.updLink_setsKept (l : Nat) (f : Link → Link) : s.SetsKept (s.updLink l f) := ⟨rfl, rfl, rfl, rfl⟩

theorem State.relink_setsKept : s.SetsKept s.relink :=
  .foldl (fun s l => .ite (.refl s) (.ite (s.updLink_setsKept l _) (.ite (.trans (s.updLink_setsKept l _)
    (State.reportLinks_setsKept _)) (.refl s)))) _ s

theorem State.admitOne_setsKept (a : Nat) : s.SetsKept (s.admitOne a) :=
  .trans (.trans (s.putEntry_setsKept a _) (State.relink_setsKept _)) (State.leadMap_setsKept _ _)

theorem State.declareDown_setsKept (l : LinkId) : s.SetsKept (s.declareDown l.val) := by
  by_cases h : (s.link l.val).state = .down ∨ (s.link l.val).state = .disabled
  · rw [State.declareDown_of_gone h]
    exact .refl s
  · obtain ⟨hdown, hdisabled⟩ := not_or.1 h
    obtain ⟨m, d, p, o, c, g, hm, -⟩ := State.declareDown_eq hdown hdisabled
    rw [hm]
    exact ⟨rfl, rfl, rfl, rfl⟩

theorem State.enableLinks_setsKept (l : Items) : s.SetsKept (s.enableLinks l) :=
  .foldl_of_mem (f := fun s k => if s.linkEnabled k then
      if (s.link k).state = .disabled then s.updLink k fun x => { x with state := .down, since := s.tick.now, retryAt := s.tick.now }
      else s
    else (s.declareDown k).enter k .disabled) _ (fun s k hk => .ite (.ite (s.updLink_setsKept k _) (.refl s))
      (.trans (s.declareDown_setsKept ⟨k, List.mem_range.1 (List.mem_filter.1 hk).1⟩) (State.updLink_setsKept _ k _))) s

theorem State.takeLeadRole_setsKept : s.SetsKept s.takeLeadRole := by
  obtain ⟨m, d, p, n, hm, -⟩ := s.takeLeadRole_eq
  rw [hm]
  exact ⟨rfl, rfl, rfl, rfl⟩

theorem State.yieldLead_setsKept : s.SetsKept s.yieldLead := ⟨rfl, rfl, rfl, rfl⟩

theorem State.appointLead_setsKept (l : Items) : s.SetsKept (s.appointLead l) := by
  unfold State.appointLead
  extract_lets lead self u topo s1
  have h1 : s.SetsKept s1 := by
    refine .ite (.refl s) (.ite (.ite (.refl s) s.takeLeadRole_setsKept) ?_)
    exact .trans (t := u) (.ite s.yieldLead_setsKept (.refl s)) ⟨rfl, rfl, rfl, rfl⟩
  exact h1.trans (.ite (.refl s1) ⟨rfl, rfl, rfl, rfl⟩)

theorem State.setPair_setsKept (l : Items) : s.SetsKept (s.setPair l) := by
  unfold State.setPair
  split
  · exact .refl s
  · exact .trans (.foldl (fun s n => s.teardown_setsKept n 1) _ s) ⟨rfl, rfl, rfl, rfl⟩
  · exact .ite ⟨rfl, rfl, rfl, rfl⟩ ⟨rfl, rfl, rfl, rfl⟩

/-- BOOT_SLOT of a set: the slot is tried. -/
def State.tryBoot (s : State) : Option Nat → State
  | none => s
  | some slot => s.writeBoot slot 1 3

/-- BOOT_CONFIRM of a set: the slot that runs is the preferred one. -/
def State.keepBoot (s : State) (o : Option Nat) : State := if o = some 1 then s.writeBoot s.fw.bootSlot 0 0 else s

/-- ROLLBACK_RAISE of a set: the floor goes up to the running image's version. -/
def State.raiseFloor (s : State) (o : Option Nat) : State :=
  if o = some 1 then { s with safety := { s.safety with rollbackTarget := max s.safety.rollbackTarget s.fw.securityVersion } }
  else s

/-- KEY_REVOKE of a set: the slots of the mask wait to be revoked. -/
def State.revokeKeys (s : State) : Option Nat → State
  | none => s
  | some m => { s with safety := { s.safety with revokePending := s.safety.revokePending ++ (List.range 4).filter (bit m) } }

/-- A key of GDP that a set gives. -/
def State.giveKey (s : State) : Option Bytes → State
  | none => s
  | some b =>
    let k := field b 0 1
    { s with mgmt := { s.mgmt with
        keys := s.mgmt.keys.put k (some (slice b 1 32))
        lastSeq := s.mgmt.lastSeq.put k (BitVec.ofNat 64 (s.ident.bootCount.toNat * 2 ^ 40)), kept := s.mgmt.kept.del k } }

theorem State.setSecure_of_parts (l : Items) : s.setSecure l =
    ((((s.tryBoot (l.num 0x7010 3)).keepBoot (l.num 0x7010 5)).raiseFloor (l.num 0x7010 6)).revokeKeys (l.num 0x8000 8)).giveKey
      (l.blob 0x8000 9) := rfl

theorem State.writeBoot_setsKept (a b c : Nat) : s.SetsKept (s.writeBoot a b c) := by
  unfold State.writeBoot
  dsimp only
  exact ⟨rfl, rfl, rfl, rfl⟩

theorem State.tryBoot_setsKept (o : Option Nat) : s.SetsKept (s.tryBoot o) := by
  cases o with
  | none => exact .refl s
  | some slot => exact s.writeBoot_setsKept slot 1 3

theorem State.keepBoot_setsKept (o : Option Nat) : s.SetsKept (s.keepBoot o) := .ite (s.writeBoot_setsKept _ _ _) (.refl s)

theorem State.raiseFloor_setsKept (o : Option Nat) : s.SetsKept (s.raiseFloor o) := .ite ⟨rfl, rfl, rfl, rfl⟩ (.refl s)

theorem State.revokeKeys_setsKept (o : Option Nat) : s.SetsKept (s.revokeKeys o) := by
  cases o <;> exact ⟨rfl, rfl, rfl, rfl⟩

theorem State.giveKey_setsKept (o : Option Bytes) : s.SetsKept (s.giveKey o) := by
  cases o <;> exact ⟨rfl, rfl, rfl, rfl⟩

theorem State.setSecure_setsKept (l : Items) : s.SetsKept (s.setSecure l) := by
  rw [State.setSecure_of_parts]
  exact ((((s.tryBoot_setsKept _).trans (State.keepBoot_setsKept _ _)).trans (State.raiseFloor_setsKept _ _)).trans
    (State.revokeKeys_setsKept _ _)).trans (State.giveKey_setsKept _ _)

/-- POWER_REQUEST of a set. -/
def State.setRetention (s : State) : Option Nat → State
  | some 3 =>
    let s := s.enabledCores.foldl (fun s k => s.updCore k fun x => { x with asleep := true }) s
    { s with energy := { s.energy with retention := true, wakeAt := none } }
  | some _ =>
    if s.energy.retention then { s with energy := { s.energy with retention := false, wakeAt := some (s.tick.now + 1024) } }
    else s
  | none => s

theorem State.setPower_of_parts (l : Items) : s.setPower l =
    let s := s.setRetention (l.num 0x3000 0x0B)
    if s.cfgNum 0x8000 3 = 1 then { s with pcie := { s.pcie with numVfs := 63, vfEnable := true } } else s := rfl

theorem State.setRetention_setsKept (o : Option Nat) : s.SetsKept (s.setRetention o) := by
  unfold State.setRetention
  split
  · exact .trans (.foldl (fun s k => s.updCore_setsKept k _) _ s) ⟨rfl, rfl, rfl, rfl⟩
  · exact .ite ⟨rfl, rfl, rfl, rfl⟩ (.refl s)
  · exact .refl s

theorem State.setPower_setsKept (l : Items) : s.SetsKept (s.setPower l) := by
  rw [State.setPower_of_parts]
  exact (s.setRetention_setsKept _).trans (.ite ⟨rfl, rfl, rfl, rfl⟩ (.refl _))

/-- What a set changes before it may start the ROM. -/
def State.takeItems (s : State) (l : Items) : State :=
  let locked := s.mapLocked
  let s := s.withItems l
  let s := allCtx.foldl (fun s n => s.actOn n (l.action n)) s
  let s := (s.changeWheels l).activateGroups l
  let s := if !locked && s.mapLocked then s.lockMap else s
  let s := match l.num 0x9000 7 with
    | none => s
    | some a => s.admitOne a
  let s := ((s.enableLinks l).appointLead l).setPair l
  (s.setSecure l).setPower l

theorem State.activateItems_of_takeItems (l : Items) :
    s.activateItems l = if l.num 0x7010 4 = some 1 then (s.takeItems l).reboot else s.takeItems l := rfl

/-- But for its values and the start of the ROM, a set leaves the configuration and its sets. -/
theorem State.takeItems_setsKept (l : Items) : (s.withItems l).SetsKept (s.takeItems l) := by
  unfold State.takeItems
  extract_lets locked s0 s1 s2 s3 s4 s5
  have h1 : s0.SetsKept s1 := .foldl (fun s n => s.actOn_setsKept n (l.action n)) allCtx s0
  have h2 : s1.SetsKept s2 := (s1.changeWheels_setsKept l).trans (State.activateGroups_setsKept _ l)
  have h3 : s2.SetsKept s3 := .ite s2.lockMap_setsKept (.refl s2)
  have h4 : s3.SetsKept s4 := by
    unfold s4
    split
    · exact .refl s3
    · exact s3.admitOne_setsKept _
  have h5 : s4.SetsKept s5 :=
    ((s4.enableLinks_setsKept l).trans (State.appointLead_setsKept _ l)).trans (State.setPair_setsKept _ l)
  exact ((((h1.trans h2).trans h3).trans h4).trans h5).trans
    ((s5.setSecure_setsKept l).trans (State.setPower_setsKept _ l))

end

end Sys2Proof.Machine
end

section
/-! Group commits: the votes, the decision, and the activation of a set (R679 to R692). -/

namespace Sys2Proof.Machine

/-! ## Sorting -/

section
variable {α : Type} (key : α → Nat)

theorem pairwise_insertBy (x : α) {l : List α} (h : l.Pairwise fun a b => key a ≤ key b) :
    (insertBy key x l).Pairwise fun a b => key a ≤ key b := by
  induction l with
  | nil => exact List.pairwise_singleton ..
  | cons y t ih =>
    obtain ⟨hy, ht⟩ := List.pairwise_cons.1 h
    unfold insertBy
    split
    · next hlt =>
      refine List.pairwise_cons.2 ⟨fun z hz => ?_, h⟩
      rcases List.mem_cons.1 hz with rfl | hz
      · exact Nat.le_of_lt hlt
      · exact Nat.le_trans (Nat.le_of_lt hlt) (hy z hz)
    · next hge =>
      refine List.pairwise_cons.2 ⟨fun z hz => ?_, ih ht⟩
      rcases (mem_insertBy key x z t).1 hz with rfl | hz
      · exact Nat.not_lt.1 hge
      · exact hy z hz

theorem foldl_insertBy (l acc : List α) (h : acc.Pairwise fun a b => key a ≤ key b) :
    (l.foldl (fun acc x => insertBy key x acc) acc).Pairwise (fun a b => key a ≤ key b) ∧
      ∀ z, z ∈ l.foldl (fun acc x => insertBy key x acc) acc ↔ z ∈ acc ∨ z ∈ l := by
  induction l generalizing acc with
  | nil => exact ⟨h, fun z => by simp⟩
  | cons x l ih =>
    obtain ⟨hsorted, hmem⟩ := ih (insertBy key x acc) (pairwise_insertBy key x h)
    refine ⟨hsorted, fun z => (hmem z).trans ?_⟩
    rw [mem_insertBy, List.mem_cons, or_assoc, or_left_comm]

/-- The first of a sorted list has the least key. -/
theorem sortBy_head {l : List α} (h : l ≠ []) : ∃ x ∈ l, (sortBy key l).head? = some x ∧ ∀ y ∈ l, key x ≤ key y := by
  obtain ⟨hsorted, hmem⟩ := foldl_insertBy key l [] .nil
  change (sortBy key l).Pairwise _ at hsorted
  change ∀ z, z ∈ sortBy key l ↔ z ∈ [] ∨ z ∈ l at hmem
  simp only [List.not_mem_nil, false_or] at hmem
  cases hl : sortBy key l with
  | nil =>
    obtain ⟨y, t, rfl⟩ := List.exists_cons_of_ne_nil h
    exact absurd ((hmem y).2 (.head t)) (by rw [hl]; exact List.not_mem_nil)
  | cons x t =>
    rw [hl] at hsorted hmem
    refine ⟨x, (hmem x).1 (.head t), rfl, fun y hy => ?_⟩
    rcases List.mem_cons.1 ((hmem y).2 hy) with rfl | hy
    · exact Nat.le_refl _
    · exact (List.pairwise_cons.1 hsorted).1 y hy

end

/-! ## Votes -/

section
variable {s : State}

theorem firstVeto_of_ready {l : List (BitVec 16 × Vote)} (h : ∀ x ∈ l, ∃ w, x.2 = .ready w) : firstVeto l = none := by
  induction l with
  | nil => rfl
  | cons x l ih =>
    obtain ⟨a, v⟩ := x
    obtain ⟨w, hw⟩ := h (a, v) (.head l)
    cases (show v = .ready w from hw)
    exact ih fun y hy => h y (.tail _ hy)

theorem firstVeto_append {pre post : List (BitVec 16 × Vote)} {a : BitVec 16} {r : Nat} (h : ∀ x ∈ pre, ∃ w, x.2 = .ready w) :
    firstVeto (pre ++ (a, .veto r) :: post) = some (a, r) := by
  induction pre with
  | nil => rfl
  | cons x l ih =>
    obtain ⟨b, v⟩ := x
    obtain ⟨w, hw⟩ := h (b, v) (.head l)
    cases (show v = .ready w from hw)
    exact ih fun y hy => h y (.tail _ hy)

/-- The version one vote names. -/
def votedVersion : Vote → Nat
  | .ready v => v.toNat
  | .veto _ => 0

theorem maxVersion_eq (l : List (BitVec 16 × Vote)) : maxVersion l = l.foldl (fun m x => max m (votedVersion x.2)) 0 := by
  unfold maxVersion
  congr 1
  funext m x
  obtain ⟨a, v⟩ := x
  cases v with
  | ready v => rfl
  | veto r => exact (Nat.max_zero m).symm

/-- No version voted is above the largest one. -/
theorem le_maxVersion {l : List (BitVec 16 × Vote)} {a : BitVec 16} {w : BitVec 32} (h : (a, Vote.ready w) ∈ l) :
    w.toNat ≤ maxVersion l := by
  rw [maxVersion_eq]
  have hbound (l : List (BitVec 16 × Vote)) (m : Nat) : m ≤ l.foldl (fun m x => max m (votedVersion x.2)) m ∧
      ∀ x ∈ l, (votedVersion x.2) ≤ l.foldl (fun m x => max m (votedVersion x.2)) m := by
    induction l generalizing m with
    | nil => exact ⟨Nat.le_refl m, fun x hx => absurd hx List.not_mem_nil⟩
    | cons y l ih =>
      obtain ⟨hm, hall⟩ := ih (max m (votedVersion y.2))
      refine ⟨Nat.le_trans (Nat.le_max_left ..) hm, fun x hx => ?_⟩
      rcases List.mem_cons.1 hx with rfl | hx
      · exact Nat.le_trans (Nat.le_max_right ..) hm
      · exact hall x hx
  exact (hbound l 0).2 _ h

/-- The participants that have not voted. -/
def CfgSets.missing (p : CfgSets) : List (BitVec 16) := p.participants.filter fun a => !(p.votes.any fun x => x.1 == a)

theorem CfgSets.mem_missing (p : CfgSets) (a : BitVec 16) : a ∈ p.missing ↔ a ∈ p.participants ∧ ∀ x ∈ p.votes, x.1 ≠ a := by
  unfold CfgSets.missing
  rw [List.mem_filter, Bool.not_eq_true', List.any_eq_false]
  simp only [beq_iff_eq, ne_eq]

/-- The state of a participant that has the PREPARE. -/
def State.withPrepare (s : State) (id : BitVec 32) (act : Word) (epoch : BitVec 32) : State :=
  { s with sets := { s.sets with preparedEpoch := some epoch, preparedTick := act, preparedId := id } }

section
variable {id : BitVec 32} {act : Word} {epoch : BitVec 32}

theorem State.prepareVote_of_failure {f : Failure}
    (h : (s.withPrepare id act epoch).checkSet s.sets.draft s.pendingFailure = some f) : s.prepareVote id act epoch =
      ({ s.withPrepare id act epoch with sets := { (s.withPrepare id act epoch).sets with checkReason := f.1, checkEntry := f.2 } },
        .veto f.1) := by
  unfold State.prepareVote
  extract_lets sets u
  have hu : u.checkSet u.sets.draft u.pendingFailure = some f := h
  rw [hu] <;> rfl

theorem State.prepareVote_of_passed
    (h : (s.withPrepare id act epoch).checkSet s.sets.draft s.pendingFailure = none) : s.prepareVote id act epoch =
      if s.tick.state = 1 ∨ s.tick.state = 2 ∨ s.tick.state = 3 then
        ({ s.withPrepare id act epoch with sets := { (s.withPrepare id act epoch).sets with draftState := .prepared } },
          .ready s.sets.activeVersion)
      else ({ s.withPrepare id act epoch with sets := { (s.withPrepare id act epoch).sets with
        draftState := .prepared, checkReason := 20 } }, .veto 20) := by
  unfold State.prepareVote
  extract_lets sets u
  have hu : u.checkSet u.sets.draft u.pendingFailure = none := h
  rw [hu] <;> rfl

end

/-! ## Decisions -/

/-- The end of a group commit here: its status, and the decision that goes out. -/
theorem State.decided_sent (v d : Option (BitVec 32)) (status reason : Nat) : ∃ m c o,
    ((s.decided v).cfgTerminal status reason 0).sendDecision d = { s with
      sets := { (s.decided v).sets with status := status, checkReason := reason, checkEntry := 0, terminalTick := s.tick.now }
      ctxs := c, links := m, out := .decision d :: o } := by
  obtain ⟨c, o, h⟩ := (s.decided v).cfgTerminal_shape status reason 0
  rw [h]
  obtain ⟨m, h'⟩ := State.sendDecision_shape _ d
  rw [h']
  exact ⟨m, c, o, rfl⟩

/-- The same with the member whose vote decided it. -/
theorem State.decided_veto (a : BitVec 16) (reason : Nat) : ∃ m c o,
    State.sendDecision { (s.decided none).cfgTerminal 0x0A reason 0 with
      sets := { ((s.decided none).cfgTerminal 0x0A reason 0).sets with vetoAddr := a } } none = { s with
      sets := { (s.decided none).sets with
        status := 0x0A, checkReason := reason, checkEntry := 0, terminalTick := s.tick.now, vetoAddr := a }
      ctxs := c, links := m, out := .decision none :: o } := by
  obtain ⟨c, o, h⟩ := (s.decided none).cfgTerminal_shape 0x0A reason 0
  rw [h]
  obtain ⟨m, h'⟩ := State.sendDecision_shape _ none
  rw [h']
  exact ⟨m, c, o, rfl⟩

/-- A group commit that runs here is over once it is decided. -/
theorem State.decided_service {t : Word} (h : s.sets.groupActTick = some t) (v : Option (BitVec 32)) :
    (s.decided v).sets.service = none := by
  refine if_pos ?_
  unfold State.groupRuns
  rw [h]
  rfl

section
variable {act : Word} (hact : s.sets.groupActTick = some act)
include hact

theorem exec_commitDecide_of_all (hready : firstVeto s.sets.votes = none) (hmissing : s.sets.missing = []) :
    exec .commitDecide s = .next (((s.decided (some (BitVec.ofNat 32 (maxVersion s.sets.votes + 1)))).cfgTerminal 0 0 0).sendDecision
      (some (BitVec.ofNat 32 (maxVersion s.sets.votes + 1)))) := by
  change execCommitDecide s = _
  unfold CfgSets.missing at hmissing
  unfold execCommitDecide
  rw [hact]
  dsimp only
  rw [hready, hmissing]

theorem exec_commitDecide_of_veto {a : BitVec 16} {r : Nat} (hveto : firstVeto s.sets.votes = some (a, r)) :
    exec .commitDecide s = .next (State.sendDecision { (s.decided none).cfgTerminal 0x0A r 0 with
      sets := { ((s.decided none).cfgTerminal 0x0A r 0).sets with vetoAddr := a } } none) := by
  change execCommitDecide s = _
  unfold execCommitDecide
  rw [hact]
  dsimp only
  rw [hveto]

theorem exec_commitDecide_of_missing {a : BitVec 16} (hready : firstVeto s.sets.votes = none) (hne : s.sets.missing ≠ [])
    (hhead : (sortBy BitVec.toNat s.sets.missing).head? = some a) : exec .commitDecide s =
      .next (if s.now + 65536 < act.toNat then s else State.sendDecision { (s.decided none).cfgTerminal 0x0A 17 0 with
        sets := { ((s.decided none).cfgTerminal 0x0A 17 0).sets with vetoAddr := a } } none) := by
  change execCommitDecide s = _
  obtain ⟨b, l, hmissing⟩ := List.exists_cons_of_ne_nil hne
  unfold execCommitDecide
  rw [hact]
  dsimp only
  rw [hready]
  unfold CfgSets.missing at hmissing hhead
  rw [hmissing] at hhead ⊢
  dsimp only
  rw [hhead]
  rfl

end

end

/-! ## Decisions and the activation that another device sees -/

section
variable {s : State}

/-- A participant that has the PREPARE, and leads no group commit, takes a decision. -/
theorem exec_decisionReceive_of_prepared (hact : s.sets.groupActTick = none) (hheld : s.sets.preparedEpoch ≠ none)
    (v : Option (BitVec 32)) : exec (.decisionReceive v) s = .next (if v.isSome then
      ((s.decided v).cfgTerminal 0 0 0).sendDecision v
      else ((s.decided none).cfgTerminal 0x0A s.sets.checkReason 0).sendDecision none) := by
  refine congrArg Host.Outcome.next (if_neg ?_)
  unfold State.groupRuns
  rw [hact, Option.isNone_eq_false_iff.2 (Option.isSome_iff_ne_none.2 hheld)]
  exact Bool.false_ne_true

/-- What a decision leaves of a prepared draft. -/
theorem State.decided_of_prepared (hheld : s.sets.preparedEpoch ≠ none) (v : Option (BitVec 32)) :
    (s.decided v).sets.draft = [] ∧ (s.decided v).sets.draftState = .empty ∧ (s.decided v).sets.preparedEpoch = none := by
  have hsome : s.sets.preparedEpoch.isSome = true := Option.isSome_iff_ne_none.2 hheld
  exact ⟨if_pos hsome, if_pos hsome, rfl⟩

theorem State.decided_pending (hheld : s.sets.preparedEpoch ≠ none) (hstate : s.sets.draftState = .prepared) (v : BitVec 32) :
    (s.decided (some v)).sets.pending = some { items := s.sets.draft, actTick := s.sets.preparedTick
                                               commitId := s.sets.preparedId, version := some v, group := true } := by
  refine if_pos ?_
  rw [hstate, Option.isSome_iff_ne_none.2 hheld]
  rfl

/-- The state in which the items of an activating set take effect. -/
theorem State.activate_eq (p : PendingSet) : ∃ u, s.activate p = State.activateItems u p.items ∧ u.cfg = s.cfg ∧
    u.ident = s.ident ∧ u.pending = s.pending ∧ u.sets.pending = none ∧
    u.sets.activeVersion = p.version.getD (s.sets.activeVersion + 1) ∧ u.sets.previous = some s.cfg ∧
    u.sets.previousVersion = s.sets.activeVersion ∧ u.sets.lastActTick = s.tick.now := by
  unfold State.activate
  extract_lets s1 sets s2 s3 s4
  refine ⟨s4, rfl, ?_⟩
  have h4 : s3.SetsKept s4 := .ite ⟨rfl, rfl, rfl, rfl⟩ (.refl s3)
  obtain ⟨hcfg, hsets, hident, hpending⟩ := h4
  rw [hcfg, hsets, hident, hpending]
  by_cases hgroup : p.group = true
  · rw [show s3 = s2 from if_pos hgroup]
    exact ⟨rfl, rfl, rfl, rfl, rfl, rfl, rfl, rfl⟩
  · obtain ⟨c, o, h⟩ := s2.cfgTerminal_shape 0 0 0
    rw [show s3 = _ from (if_neg hgroup).trans h]
    exact ⟨rfl, rfl, rfl, rfl, rfl, rfl, rfl, rfl⟩

/-- A set that starts the ROM leaves the device's count of starts one higher, and no set pending. -/
theorem State.reboot_fields : s.reboot.fw.stage = 1 ∧ s.reboot.ident.bootCount = s.ident.bootCount + 1 ∧
    s.reboot.sets.pending = none ∧ s.reboot.pending = s.pending := by
  have hfw := State.logEvent_unlogged { s.powerOn with fw := { s.powerOn.fw with stage := 1 } } 1 0 0x0300
    [s.powerOn.pins.i2cAddr.toNat + 4 * b2n s.powerOn.pins.xspiOctal]
  unfold State.reboot State.romStart
  refine ⟨(congrArg Firmware.stage hfw :), ?_, ?_, ?_⟩
  all_goals
    rw [State.logEvent_eq]
    rfl

end

/-- Settles O47: the PREPARE and the votes as the check of the draft goes, the decision by the votes that are there, and the
activation by what the changes of a set leave of the sets. -/
theorem groupCommitsAndActivation : Obligations.GroupCommitsAndActivation := by
  intro s
  refine ⟨fun id act epoch => ?_, fun a v => ?_, ?_, fun h => ?_, ?_, fun v h => ?_, fun h => ?_, fun p hp => ?_, fun h => ?_⟩
  · intro u known answers
    have hanswers (w : State) (v : Vote) (hrole : s.topo.role ≠ 1) (hle : s.topo.leadEpoch.toNat ≤ epoch.toNat) (hnew : ¬known)
        (h : s.prepareVote id act epoch = (w, v)) (hself : w.topo = s.topo) : answers w v := by
      refine (congrArg Host.Outcome.next (if_neg ?_)).trans ?_
      · exact not_or.2 ⟨hrole, not_or.2 ⟨Nat.not_lt.2 hle, hnew⟩⟩
      · rw [h, ← hself]
    refine ⟨fun h => congrArg Host.Outcome.next (if_pos h), fun hrole hle hnew => ⟨fun f hf => ?_, fun hpass hstate => ?_,
      fun hpass hstate => ?_⟩⟩
    · refine hanswers _ _ hrole hle hnew ?_ rfl
      exact State.prepareVote_of_failure hf
    · refine hanswers _ _ hrole hle hnew ?_ rfl
      exact (State.prepareVote_of_passed hpass).trans (if_pos hstate)
    · refine hanswers _ _ hrole hle hnew ?_ rfl
      exact (State.prepareVote_of_passed hpass).trans (if_neg hstate)
  · intro counts
    have hcounts : (s.groupRuns && s.sets.participants.contains a && !(s.sets.votes.any fun x => x.1 == a)) = true ↔ counts := by
      rw [Bool.and_eq_true, Bool.and_eq_true, List.contains_iff_mem, Bool.not_eq_true', List.any_eq_false]
      simp only [beq_iff_eq, and_assoc]
      exact Iff.rfl
    refine ⟨fun hrole h => congrArg Host.Outcome.next ((if_neg (Classical.not_not.2 hrole)).trans (if_pos (hcounts.2 h))),
      fun hrole h => congrArg Host.Outcome.next ((if_neg (Classical.not_not.2 hrole)).trans (if_neg (mt hcounts.1 h))),
      fun l hrole hl => (congrArg Host.Outcome.next (if_pos hrole)).trans ?_,
      fun hrole hl => (congrArg Host.Outcome.next (if_pos hrole)).trans ?_⟩
    all_goals
      unfold State.passVote
      rw [hl]
  · intro decides
    refine ⟨fun act hact hready hall => ?_, fun act pre a r post hact hvotes hready => ?_, fun act hact hready hsome => ?_⟩
    · have hmissing : s.sets.missing = [] := List.eq_nil_iff_forall_not_mem.2 fun a ha => by
        obtain ⟨hin, hno⟩ := (s.sets.mem_missing a).1 ha
        obtain ⟨x, hx, hxa⟩ := hall a hin
        exact hno x hx hxa
      obtain ⟨m, c, o, h⟩ := State.decided_sent (s := s) (some (BitVec.ofNat 32 (maxVersion s.sets.votes + 1)))
        (some (BitVec.ofNat 32 (maxVersion s.sets.votes + 1))) 0 0
      refine ⟨_, (exec_commitDecide_of_all hact (firstVeto_of_ready hready) hmissing).trans (congrArg _ h),
        ⟨rfl, rfl, rfl, State.decided_service hact (some (BitVec.ofNat 32 (maxVersion s.sets.votes + 1))), rfl, rfl, rfl⟩, fun a w h => le_maxVersion h⟩
    · obtain ⟨m, c, o, h⟩ := State.decided_veto (s := s) a r
      have hveto : firstVeto s.sets.votes = some (a, r) := by rw [hvotes, firstVeto_append hready]
      exact ⟨_, (exec_commitDecide_of_veto hact hveto).trans (congrArg _ h),
        ⟨rfl, rfl, rfl, State.decided_service hact none, rfl, rfl, rfl⟩, rfl, rfl⟩
    · obtain ⟨b, hb, hno⟩ := hsome
      have hne : s.sets.missing ≠ [] := List.ne_nil_of_mem ((s.sets.mem_missing b).2 ⟨hb, hno⟩)
      obtain ⟨a, ha, hhead, hleast⟩ := sortBy_head BitVec.toNat hne
      have hexec := exec_commitDecide_of_missing hact (firstVeto_of_ready hready) hne hhead
      obtain ⟨m, c, o, h⟩ := State.decided_veto (s := s) a 17
      refine ⟨fun hlt => hexec.trans (congrArg _ (if_pos hlt)), fun hle => ⟨_, hexec.trans (congrArg _
        ((if_neg (Nat.not_lt.2 hle)).trans h)), ⟨rfl, rfl, rfl, State.decided_service hact none, rfl, rfl, rfl⟩, rfl,
        ((s.sets.mem_missing a).1 ha).1, fun d hd hnone => hleast d ((s.sets.mem_missing d).2 ⟨hd, hnone⟩)⟩⟩
  · change execCommitDecide s = _
    unfold execCommitDecide
    rw [h]
  · intro taken
    refine ⟨fun v hact hheld hstate => ?_, fun hact hheld => ?_, fun hact hstate hheld hle => ?_⟩
    · obtain ⟨m, c, o, h⟩ := State.decided_sent (s := s) (some v) (some v) 0 0
      obtain ⟨hdraft, hempty, hepoch⟩ := State.decided_of_prepared hheld (some v)
      exact ⟨_, (exec_decisionReceive_of_prepared hact hheld (some v)).trans (congrArg _ h),
        ⟨hdraft, hempty, hepoch, rfl, rfl, rfl⟩, rfl, rfl, State.decided_pending hheld hstate v⟩
    · obtain ⟨m, c, o, h⟩ := State.decided_sent (s := s) none none 0x0A s.sets.checkReason
      obtain ⟨hdraft, hempty, hepoch⟩ := State.decided_of_prepared hheld none
      exact ⟨_, (exec_decisionReceive_of_prepared hact hheld none).trans (congrArg _ h),
        ⟨hdraft, hempty, hepoch, rfl, rfl, rfl⟩, rfl, rfl, rfl, rfl⟩
    · obtain ⟨m, o, h⟩ := (s.decided none).cfgTerminal_shape 0x0A 18 0
      obtain ⟨hdraft, hempty, hepoch⟩ := State.decided_of_prepared hheld none
      refine ⟨_, congrArg Host.Outcome.next ((if_pos ⟨?_, hstate, hle⟩).trans h), ⟨hdraft, hempty, hepoch, rfl, rfl, rfl⟩, rfl, rfl,
        rfl⟩
      exact Option.isSome_eq_false_iff.2 (Option.isNone_iff_eq_none.2 hact)
  · refine congrArg Host.Outcome.next (if_pos ?_)
    rw [Bool.or_eq_true, Option.isNone_iff_eq_none]
    exact h.imp_left Option.isSome_iff_ne_none.2
  · refine congrArg Host.Outcome.next (if_neg fun ⟨hno, hstate, hle⟩ => ?_)
    rcases h with h | h | h
    · exact h (Option.isNone_iff_eq_none.1 (Option.isSome_eq_false_iff.1 hno))
    · exact h hstate
    · exact absurd hle (Nat.not_le.2 h)
  · intro secondary
    have hsecondary : s.takesInputs = true ↔ secondary := by
      unfold State.takesInputs
      rw [Bool.and_eq_true, beq_iff_eq, decide_eq_true_iff]
    have hexec : exec .setActivation s = .next (if s.now < p.actTick.toNat ∨ s.tripHolds p.actTick.toNat = true ∨
        s.takesInputs = true then s else s.activate p) := by
      change execSetActivation s = _
      unfold execSetActivation
      rw [hp]
    obtain ⟨u, hact, hcfg, hident, hpending, hnone, hversion, hprevious, hprevVersion, htick⟩ := s.activate_eq p
    rw [hact, State.activateItems_of_takeItems] at hexec
    obtain ⟨htcfg, htsets, htident, htpending⟩ := u.takeItems_setsKept p.items
    refine ⟨fun hle htrip hno hboot => ?_, fun hle htrip hno hboot => ?_, fun h => hexec.trans (congrArg _ (if_pos ?_))⟩
    · rw [if_neg (not_or.2 ⟨Nat.not_lt.2 hle, not_or.2 ⟨ne_true_of_eq_false htrip, mt hsecondary.1 hno⟩⟩), if_pos hboot] at hexec
      obtain ⟨hstage, hcount, hclear, hqueue⟩ := (u.takeItems p.items).reboot_fields
      refine ⟨_, hexec, hstage, hcount.trans ?_, hclear, hqueue.trans (htpending.trans hpending)⟩
      rw [htident]
      exact congrArg (fun i : Ident => i.bootCount + 1) hident
    · rw [if_neg (not_or.2 ⟨Nat.not_lt.2 hle, not_or.2 ⟨ne_true_of_eq_false htrip, mt hsecondary.1 hno⟩⟩), if_neg hboot] at hexec
      refine ⟨_, hexec, ?_⟩
      rw [htsets, htcfg]
      refine ⟨hnone, hversion, hprevious, hprevVersion, htick, ?_⟩
      unfold State.withItems
      dsimp only
      rw [hcfg]
    · rwa [hsecondary]
  · change execSetActivation s = _
    unfold execSetActivation
    rw [h]

end Sys2Proof.Machine
end

section
/-! The dictionary: which path a request takes, what a WRITE leaves, and the snapshots (R633 to R655). -/

namespace Sys2Proof.Machine

/-! ## Items of a WRITE -/

section
variable {s : State} {p : Path}

theorem State.refuseSafety_eq (s : State) (p : Path) (l : List WriteItem) : ∃ a f o,
    s.refuseSafety p l = { s with safety := a, fw := f, out := o } := by
  have hfold (f : WriteItem → List Nat) (l : List WriteItem) (s : State) : ∃ a fw o, l.foldl (fun s i =>
      { s with safety := { s.safety with refusedWrites := s.safety.refusedWrites + 1 } }.logEvent 2 6 0x0101 (f i)) s =
        { s with safety := a, fw := fw, out := o } := by
    induction l generalizing s with
    | nil => exact ⟨_, _, _, rfl⟩
    | cons i l ih =>
      obtain ⟨a, fw, o, h⟩ := ih
        ({ s with safety := { s.safety with refusedWrites := s.safety.refusedWrites + 1 } }.logEvent 2 6 0x0101 (f i))
      rw [List.foldl_cons, h, State.logEvent_eq]
      exact ⟨_, _, _, rfl⟩
  unfold State.refuseSafety
  split
  · exact ⟨_, _, _, rfl⟩
  · exact hfold _ _ s

theorem State.beginWrite_eq (s : State) (p : Path) (l : List WriteItem) : s.beginWrite p l = { s with
    mgmt := (s.beginWrite p l).mgmt } := by
  unfold State.beginWrite
  split
  · rfl
  · rfl

/-- A first WRITE of a tick prevails. -/
theorem State.prevails_of_fresh {x : WriteItem} (h : s.mgmt.wroteTick ≠ s.tick.now) : (s.beginWrite p [x]).prevails p x = true := by
  have hby : (s.beginWrite p [x]).mgmt.wroteBy.get 0 x.key = p.rank := by
    unfold State.beginWrite
    rw [if_neg (by simp)]
    dsimp only
    rw [show (s.mgmt.wroteTick != s.tick.now) = true from bne_iff_ne.2 h, if_pos rfl]
    simp [SMap.get_put, SMap.get]
  unfold State.prevails
  rw [hby, decide_eq_true (Nat.le_refl _), Bool.or_true]

/-- A WRITE does not prevail over one of this tick by a later path. -/
theorem State.prevails_of_later {x : WriteItem} (h : s.mgmt.wroteTick = s.tick.now) (hacts : actsAtOnce x.key = false)
    (hrank : p.rank < s.mgmt.wroteBy.get 0 x.key) : (s.beginWrite p [x]).prevails p x = false := by
  have hby : (s.beginWrite p [x]).mgmt.wroteBy.get 0 x.key = max p.rank (s.mgmt.wroteBy.get 0 x.key) := by
    unfold State.beginWrite
    rw [if_neg (by simp)]
    dsimp only
    rw [show (s.mgmt.wroteTick != s.tick.now) = false from bne_eq_false_iff_eq.2 h, if_neg Bool.false_ne_true]
    exact SMap.get_put ..
  unfold State.prevails
  rw [hby, hacts, decide_eq_false (Nat.not_le.2 (Nat.lt_of_lt_of_le hrank (Nat.le_max_right ..)))]
  rfl

theorem State.serveWrite_of_broken {q : Request} (h : parseWrites q.body q.items 0 = none) :
    s.serveWrite p q = { s := s, status := 6, items := 0, body := [] } := by
  unfold State.serveWrite
  rw [h]

/-- A WRITE with an item that fails changes the safety partition's counter and its log alone. -/
theorem State.serveWrite_of_failure {q : Request} {l : List WriteItem} (h : parseWrites q.body q.items 0 = some l)
    (hfail : ∃ x ∈ s.writeStatuses p s.sets.draft l, x ≠ 0) :
    (s.serveWrite p q).status ≠ 0 ∧ (s.serveWrite p q).s = s.refuseSafety p l := by
  obtain ⟨x, hx, hne⟩ := hfail
  obtain ⟨y, hy⟩ := Option.isSome_iff_exists.1 ((List.find?_isSome (p := (· != 0))).2 ⟨x, hx, bne_iff_ne.2 hne⟩)
  unfold State.serveWrite
  rw [h]
  dsimp only
  rw [hy]
  have hy0 := List.find?_some hy
  rw [bne_iff_ne] at hy0
  exact ⟨hy0, rfl⟩

/-- A WRITE of one item that passes and is no command. -/
theorem State.serveWrite_of_one {q : Request} {x : WriteItem} (h : parseWrites q.body q.items 0 = some [x])
    (hpass : s.writeStatuses p s.sets.draft [x] = [0]) (hkey : x.key ≠ ekey 0x2000 6) : (s.serveWrite p q).status = 0 ∧
      (s.serveWrite p q).s = if ((s.refuseSafety p [x]).beginWrite p [x]).prevails p x then
        ((s.refuseSafety p [x]).beginWrite p [x]).applyWrite x else (s.refuseSafety p [x]).beginWrite p [x] := by
  unfold State.serveWrite
  rw [h]
  dsimp only
  rw [hpass]
  have hno : [x].find? (fun i => i.key == ekey 0x2000 6) = none :=
    List.find?_eq_none.2 fun y hy => by
      rw [List.mem_singleton.1 hy, beq_iff_eq]
      exact hkey
  refine ⟨rfl, ?_⟩
  change (match [x].find? (fun i => i.key == ekey 0x2000 6) with | none => _ | some i => _) = _
  rw [hno]
  generalize (s.refuseSafety p [x]).beginWrite p [x] = u
  dsimp only
  by_cases hu : u.prevails p x = true
  · rw [List.filter_cons_of_pos hu, if_pos hu]
    rfl
  · rw [List.filter_cons_of_neg hu, if_neg hu]
    rfl

end

/-! ## Requests by datagram and by mailbox -/

section
variable {s : State} {op : Nat}

/-- The four requests, each with its OP. -/
def dictionaryOps : List (Nat × (ReqSource → Instr)) := [(1, .read), (2, .write), (3, .snapshot), (4, .snapRead)]

theorem exec_dictionaryOp {i : ReqSource → Instr} (h : (op, i) ∈ dictionaryOps) (src : ReqSource) (s : State) :
    exec (i src) s = .next (s.request op src) ∧ 1 ≤ op ∧ op ≤ 4 := by
  unfold dictionaryOps at h
  simp only [List.mem_cons, Prod.mk.injEq, List.not_mem_nil, or_false] at h
  obtain ⟨rfl, rfl⟩ | ⟨rfl, rfl⟩ | ⟨rfl, rfl⟩ | ⟨rfl, rfl⟩ := h <;> exact ⟨rfl, by decide, by decide⟩

theorem State.request_of_not_ready (h : s.fw.stage ≠ 2) (src : ReqSource) : s.request op src = s := if_pos h

theorem State.request_pf (h : s.fw.stage = 2) : s.request op .pf = s.servePf op := if_neg (Classical.not_not.2 h)

theorem State.request_gdp (h : s.fw.stage = 2) {d : Bytes} (hop : field d 3 1 = op) : s.request op (.gdp d) = s.gdpReceive d :=
  (if_neg (Classical.not_not.2 h)).trans (if_neg fun hother => hother.1 hop)

theorem State.request_gdp_of_other {d : Bytes} (hop : field d 3 1 ≠ op) (h1 : 1 ≤ field d 3 1) (h4 : field d 3 1 ≤ 4) :
    s.request op (.gdp d) = s := by
  by_cases h : s.fw.stage = 2
  · exact (if_neg (Classical.not_not.2 h)).trans (if_pos ⟨hop, h1, h4⟩)
  · exact if_pos h

/-- The form of a datagram (R646). -/
def gdpFormed (d : Bytes) : Prop := 40 ≤ d.length ∧ field d 0 2 = 0x4744 ∧ field d 2 1 = 1 ∧ field d 16 2 ≤ 1408 ∧
  d.length = 40 + field d 16 2 ∧ field d 5 1 ≤ 3

theorem gdpFormed_iff (d : Bytes) : ¬gdpFormed d ↔ d.length < 40 ∨ field d 0 2 ≠ 0x4744 ∨ field d 2 1 ≠ 1 ∨
    1408 < field d 16 2 ∨ d.length ≠ 40 + field d 16 2 ∨ 3 < field d 5 1 := by
  unfold gdpFormed
  simp only [Classical.not_and_iff_not_or_not, Nat.not_le, ne_eq]

/-- A datagram of another form, or of a slot with no key, counts a form failure. -/
theorem State.gdpReceive_of_form {d : Bytes} (h : ¬gdpFormed d ∨ s.mgmt.keys.get none (field d 5 1) = none) :
    s.gdpReceive d = { s with mgmt := { s.mgmt with formFails := s.mgmt.formFails + 1 } } := by
  have hkey : s.gdpKey d = .inr { s with mgmt := { s.mgmt with formFails := s.mgmt.formFails + 1 } } := by
    by_cases hform : gdpFormed d
    · refine (if_neg fun hbad => (gdpFormed_iff d).2 hbad hform).trans ?_
      rw [h.resolve_left (Classical.not_not.2 hform)]
    · exact if_pos ((gdpFormed_iff d).1 hform)
  unfold State.gdpReceive
  rw [hkey]

section
variable {d key : Bytes} (hform : gdpFormed d) (hkey : s.mgmt.keys.get none (field d 5 1) = some key)
include hform hkey

theorem State.gdpReceive_of_bad_tag (htag : (Sha.hmac256 key (d.take (24 + field d 16 2))).take 16 ≠ d.drop (24 + field d 16 2)) :
    s.gdpReceive d = { s with mgmt := { s.mgmt with
      authFails := s.mgmt.authFails.put (field d 5 1) (s.mgmt.authFails.get 0 (field d 5 1) + 1) } } := by
  have h : s.gdpKey d = .inr { s with mgmt := { s.mgmt with
      authFails := s.mgmt.authFails.put (field d 5 1) (s.mgmt.authFails.get 0 (field d 5 1) + 1) } } := by
    refine (if_neg fun hbad => (gdpFormed_iff d).2 hbad hform).trans ?_
    rw [hkey]
    exact if_neg htag
  unfold State.gdpReceive
  rw [h]

variable (htag : (Sha.hmac256 key (d.take (24 + field d 16 2))).take 16 = d.drop (24 + field d 16 2))
include htag

theorem State.gdpKey_of_good_tag : s.gdpKey d = .inl key := by
  refine (if_neg fun hbad => (gdpFormed_iff d).2 hbad hform).trans ?_
  rw [hkey]
  exact if_pos htag

theorem State.gdpReceive_of_new (hnew : (s.mgmt.lastSeq.get 0 (field d 5 1)).toNat < (parseRequest d false).seq) :
    let q := parseRequest d false
    let v := s.serveRequest .o q 1408
    let u := v.s.trace (.request q.op)
    let r := sealReply key (replyBytes q v.status v.items v.body)
    s.gdpReceive d = State.emit { u with mgmt := { u.mgmt with
      lastSeq := u.mgmt.lastSeq.put (field d 5 1) (BitVec.ofNat 64 q.seq)
      kept := u.mgmt.kept.put (field d 5 1) (some (d, r)) } } (.gdp r) := by
  unfold State.gdpReceive
  rw [State.gdpKey_of_good_tag hform hkey htag]
  exact if_pos hnew

theorem State.gdpReceive_of_repeat {r : Bytes}
    (hseq : (parseRequest d false).seq = (s.mgmt.lastSeq.get 0 (field d 5 1)).toNat)
    (hkept : s.mgmt.kept.get none (field d 5 1) = some (d, r)) : s.gdpReceive d = s.emit (.gdp r) := by
  unfold State.gdpReceive
  rw [State.gdpKey_of_good_tag hform hkey htag]
  refine (if_neg (Nat.not_lt.2 (Nat.le_of_eq hseq))).trans ?_
  change (match s.mgmt.kept.get none (field d 5 1) with | some (old, r) => _ | none => _) = _
  rw [hkept]
  exact if_pos ⟨hseq, rfl⟩

theorem State.gdpReceive_of_stale (hle : (parseRequest d false).seq ≤ (s.mgmt.lastSeq.get 0 (field d 5 1)).toNat)
    (hnone : (parseRequest d false).seq = (s.mgmt.lastSeq.get 0 (field d 5 1)).toNat →
      ∀ r, s.mgmt.kept.get none (field d 5 1) ≠ some (d, r)) :
    s.gdpReceive d = s.emit (.gdp (sealReply key (replyBytes (parseRequest d false) 7 0
      (toLe 8 (s.mgmt.lastSeq.get 0 (field d 5 1)).toNat)))) := by
  unfold State.gdpReceive
  rw [State.gdpKey_of_good_tag hform hkey htag]
  refine (if_neg (Nat.not_lt.2 hle)).trans ?_
  change (match s.mgmt.kept.get none (field d 5 1) with | some (old, r) => _ | none => _) = _
  cases hkept : s.mgmt.kept.get none (field d 5 1) with
  | none => rfl
  | some o =>
    obtain ⟨old, r⟩ := o
    exact if_neg fun ⟨hseq, hold⟩ => hnone hseq r (by rw [hkept, hold])

end

/-- The mailbox's request of this OP is served, and its reply is ready. -/
theorem State.servePf_of_taken (hbusy : (s.ctx 0).host.mbx.busy = true) (hready : (s.ctx 0).host.mbx.ready = none)
    (hop : (parseRequest (s.ctx 0).host.mbx.taken true).op = op) :
    let q := parseRequest (s.ctx 0).host.mbx.taken true
    let v := s.serveRequest .h q 4072
    s.servePf op = (v.s.trace (.request op)).updHost 0 fun h =>
      { h with mbx := { h.mbx with ready := some (replyBytes q v.status v.items v.body, s.tick.now) } } := by
  subst hop
  refine if_neg ?_
  rw [hbusy, hready, show ((parseRequest (s.ctx 0).host.mbx.taken true).op != (parseRequest (s.ctx 0).host.mbx.taken true).op) = false
    from bne_self_eq_false _]
  exact Bool.false_ne_true

theorem State.servePf_of_other (h : (s.ctx 0).host.mbx.busy = false ∨ (s.ctx 0).host.mbx.ready ≠ none ∨
    ((parseRequest (s.ctx 0).host.mbx.taken true).op ≠ op ∧ 1 ≤ (parseRequest (s.ctx 0).host.mbx.taken true).op ∧
      (parseRequest (s.ctx 0).host.mbx.taken true).op ≤ 4)) : s.servePf op = s := by
  refine if_pos ?_
  rw [Bool.or_eq_true, Bool.or_eq_true, Bool.not_eq_true', Bool.and_eq_true, bne_iff_ne, decide_eq_true_iff, or_assoc,
    Option.isSome_iff_ne_none]
  exact h

end

/-! ## Reads and snapshots -/

section
variable {s : State}

theorem State.serveRead_s (p : Path) (q : Request) (limit : Nat) : (s.serveRead p q limit).s = s := by
  unfold State.serveRead
  dsimp only
  split
  · rfl
  · split <;> rfl

theorem State.serveSnapRead_s (p : Path) (q : Request) : (s.serveSnapRead p q).s = s := by
  unfold State.serveSnapRead
  dsimp only
  split
  · rfl
  · split
    · split
      · rfl
      · split <;> rfl
    · rfl

theorem State.serveSnapshot_of_operator {q : Request} {e : Entry} {acc : Access} (hitems : q.items = 1) (hlen : q.body.length = 4)
    (hres : field q.body 3 1 = 0) (hreach : s.reach .o (ekey (field q.body 0 2) (field q.body 2 1)) = some (e, acc)) :
    (s.serveSnapshot .o q).status = 0 ∧ (s.serveSnapshot .o q).s = { s with mgmt := { s.mgmt with
      snap := some (s.sampleValue 0 e (ekey (field q.body 0 2) (field q.body 2 1)) acc, s.tick.now) } } := by
  unfold State.serveSnapshot
  dsimp only
  rw [if_neg (not_or.2 ⟨Classical.not_not.2 hitems, not_or.2 ⟨Classical.not_not.2 (hlen.trans (if_pos rfl).symm), Classical.not_not.2 hres⟩⟩), hreach]
  dsimp only
  rw [if_pos rfl, if_neg fun h => h.2.2 rfl]
  exact ⟨rfl, rfl⟩

theorem State.serveSnapRead_of_held {q : Request} {b : Bytes} {t : Word} (hitems : q.items = 1) (hlen : q.body.length = 8)
    (hres : field q.body 6 2 = 0) (hsnap : s.mgmt.snap = some (b, t)) (hin : field q.body 0 4 + field q.body 4 2 ≤ b.length)
    (hfits : field q.body 4 2 ≤ 1376) : (s.serveSnapRead .o q).status = 0 ∧ (s.serveSnapRead .o q).body =
      toLe 8 t.toNat ++ toLe 4 (field q.body 4 2) ++ List.replicate 4 0 ++ pad4 (slice b (field q.body 0 4) (field q.body 4 2)) := by
  unfold State.serveSnapRead
  rw [if_neg (not_or.2 ⟨Classical.not_not.2 hitems, not_or.2 ⟨Classical.not_not.2 hlen, Classical.not_not.2 hres⟩⟩)]
  dsimp only
  rw [hsnap]
  dsimp only
  rw [if_neg (Nat.not_lt.2 hin), if_neg (Nat.not_lt.2 hfits)]
  exact ⟨rfl, rfl⟩

end

/-- Settles O43: a request by its source and its OP, and what each OP leaves of the state. -/
theorem dictionaryRequests : Obligations.DictionaryRequests := by
  intro s op i hi
  have hexec (src : ReqSource) : exec (i src) s = .next (s.request op src) := (exec_dictionaryOp hi src s).1
  refine ⟨fun src h => (hexec src).trans (congrArg _ (State.request_of_not_ready h src)), fun h => ?_, fun d h hop => ?_,
    fun d hop h1 h4 => (hexec _).trans (congrArg _ (State.request_gdp_of_other hop h1 h4)), fun k => s.trace_eq k,
    fun p q limit => ⟨fun hbad => if_pos hbad, fun hgood => ?_, s.serveRead_s p q limit, s.serveSnapRead_s p q, fun h => ?_,
      fun l hl => ?_⟩, fun q e acc hitems hlen hres hreach => State.serveSnapshot_of_operator hitems hlen hres hreach,
    fun q b t hitems hlen hres hsnap hin hfits => State.serveSnapRead_of_held hitems hlen hres hsnap hin hfits⟩
  · refine ⟨fun hbusy hready hop => (hexec _).trans ?_, fun hno => (hexec _).trans ?_⟩
    · rw [State.request_pf h, State.servePf_of_taken hbusy hready hop]
    · rw [State.request_pf h, State.servePf_of_other hno]
  · have hgdp := (hexec (.gdp d)).trans (congrArg _ (State.request_gdp h hop))
    intro n slot wellFormed q last
    refine ⟨fun hno => hgdp.trans (congrArg _ (State.gdpReceive_of_form hno)), fun key hform hkey => ?_⟩
    intro tag
    refine ⟨fun htag => hgdp.trans (congrArg _ (State.gdpReceive_of_bad_tag hform hkey htag)), fun htag hnew => hgdp.trans ?_,
      fun r htag hseq hkept => hgdp.trans (congrArg _ (State.gdpReceive_of_repeat hform hkey htag hseq hkept)),
      fun htag hle hnone => hgdp.trans (congrArg _ (State.gdpReceive_of_stale hform hkey htag hle hnone))⟩
    rw [State.gdpReceive_of_new hform hkey htag hnew, show (parseRequest d false).op = op from hop]
  · refine ⟨fun hop => ?_, fun hop => ?_, fun hop => ?_, fun hop => ?_⟩
    all_goals
      unfold State.serveRequest
      rw [hgood, hop]
      rfl
  · rw [State.serveWrite_of_broken h]
    exact ⟨rfl, rfl⟩
  · obtain ⟨a, f, o, hsafe⟩ := s.refuseSafety_eq p l
    refine ⟨fun hfail => ?_, fun x hx hpass => ⟨fun hstaged hkey hfresh => ?_, fun hacts hnow hrank => ?_⟩⟩
    · obtain ⟨hstatus, hs⟩ := State.serveWrite_of_failure hl hfail
      rw [hs, hsafe]
      exact ⟨hstatus, rfl, rfl, rfl, rfl, rfl⟩
    · subst hx
      obtain ⟨hstatus, hs⟩ := State.serveWrite_of_one hl hpass hkey
      have hfresh' : (s.refuseSafety p [x]).mgmt.wroteTick ≠ (s.refuseSafety p [x]).tick.now := by
        rw [hsafe]
        exact hfresh
      rw [hs, State.prevails_of_fresh hfresh', if_pos rfl, State.beginWrite_eq, hsafe]
      unfold State.applyWrite
      dsimp only
      rw [hstaged]
      exact ⟨hstatus, rfl, rfl, rfl⟩
    · subst hx
      have hkey : x.key ≠ ekey 0x2000 6 := fun hkey => by
        rw [hkey] at hacts
        exact absurd hacts (by decide)
      obtain ⟨hstatus, hs⟩ := State.serveWrite_of_one hl hpass hkey
      have hlater : ((s.refuseSafety p [x]).beginWrite p [x]).prevails p x = false := by
        refine State.prevails_of_later ?_ hacts ?_
        · rw [hsafe]
          exact hnow
        · rw [hsafe]
          exact hrank
      rw [hs, hlater, if_neg Bool.false_ne_true, State.beginWrite_eq, hsafe]
      exact ⟨hstatus, rfl, rfl, rfl⟩

end Sys2Proof.Machine
end

section
/-! Registers of the host: doorbells, ring control, reads and writes by offset, and BAR2 (R785 to R802). -/

namespace Sys2Proof.Machine

/-! ## Doorbells and ring control -/

section
variable {s : State} {c : CtxId} {r : RingId}

theorem State.hostReaches_of_up (hup : s.pcie.linkUp = true) (hstage : s.fw.stage = 2) : s.hostReaches = true := by
  unfold State.hostReaches
  rw [hup, decide_eq_true hstage]
  rfl

theorem State.ignoresHost_eq_true_iff : s.ignoresHost = true ↔ s.pair.role = 2 ∧ s.pair.state = 1 := by
  unfold State.ignoresHost
  rw [Bool.and_eq_true, beq_iff_eq, decide_eq_true_iff]

/-- The host's writes reach the device and are heeded. -/
theorem State.hostHeard (hup : s.pcie.linkUp = true) (hstage : s.fw.stage = 2) (hpair : ¬(s.pair.role = 2 ∧ s.pair.state = 1)) :
    ¬(!s.hostReaches || s.ignoresHost) = true := by
  rw [State.hostReaches_of_up hup hstage, Bool.not_true, Bool.false_or]
  exact fun h => hpair (State.ignoresHost_eq_true_iff.1 h)

theorem State.not_hostHeard (h : s.pcie.linkUp = false ∨ s.fw.stage ≠ 2 ∨ (s.pair.role = 2 ∧ s.pair.state = 1)) :
    (!s.hostReaches || s.ignoresHost) = true := by
  rw [Bool.or_eq_true, Bool.not_eq_true', State.ignoresHost_eq_true_iff]
  unfold State.hostReaches
  rw [Bool.and_eq_false_iff, decide_eq_false_iff_not, or_assoc]
  exact h

theorem State.writeRecord_ring (s : State) (c r : Nat) (b : Bytes) (v : Nat) :
    (s.writeRecord c r b v).ring c r = { s.ring c r with cqTail := (s.ring c r).cqTail + 1 } := by
  rw [State.writeRecord_of_deliverRecord]
  unfold State.ring
  obtain ⟨i, hi⟩ := State.raise_ctx ((s.deliverRecord c r b v).updRing c r fun x => { x with cqTail := x.cqTail + 1 }) c c v
  rw [hi, State.updRing_ctx]
  unfold State.ring
  rw [State.deliverRecord_ctx]
  exact SMap.get_put ..

theorem State.updRing_ring (s : State) (c r : Nat) (g : Ring → Ring) : (s.updRing c r g).ring c r = g (s.ring c r) := by
  unfold State.ring
  rw [State.updRing_ctx]
  exact SMap.get_put ..

/-- A ring notice counts, moves no tail, and where a completion slot is free leaves its record there. -/
theorem State.ringNotice_spec (s : State) (c r : Nat) (v : BitVec 32) : ((s.ringNotice c r v).ring c r).fulls = satAdd (s.ring c r).fulls 1 ∧
    ((s.ringNotice c r v).ring c r).tail = (s.ring c r).tail ∧
    (s.slotFree c r = true → s.silent c = false → s.pcie.linkUp = true →
      (s.ringNotice c r v).hostMem = s.hostMem.writeBytes (s.ring c r).cqSlot (completionRecord 0xFFFFFFFF 8 s.tick.now v) ∧
      ((s.ringNotice c r v).ring c r).cqTail = (s.ring c r).cqTail + 1) := by
  have hring := s.updRing_ring c r fun y => { y with fulls := satAdd y.fulls 1 }
  have hopen : (s.updRing c r fun y => { y with fulls := satAdd y.fulls 1 }).openCount c r = s.openCount c r := by
    unfold State.openCount
    rw [State.updRing_ctx]
  have hslot : (s.updRing c r fun y => { y with fulls := satAdd y.fulls 1 }).slotFree c r = s.slotFree c r := by
    unfold State.slotFree
    rw [hring, hopen]
    rfl
  have hmem : (s.updRing c r fun y => { y with fulls := satAdd y.fulls 1 }).hostMem = s.hostMem ∧
      (s.updRing c r fun y => { y with fulls := satAdd y.fulls 1 }).tick = s.tick ∧
      (s.updRing c r fun y => { y with fulls := satAdd y.fulls 1 }).pair = s.pair ∧
      (s.updRing c r fun y => { y with fulls := satAdd y.fulls 1 }).pcie = s.pcie := by
    rw [State.updRing_eq]
    exact ⟨rfl, rfl, rfl, rfl⟩
  obtain ⟨hhost, htick, hpair, hpcie⟩ := hmem
  have hsilent : (s.updRing c r fun y => { y with fulls := satAdd y.fulls 1 }).silent c = s.silent c := by
    unfold State.silent
    rw [hpair]
  unfold State.ringNotice
  dsimp only
  rw [hslot]
  by_cases hfree : s.slotFree c r = true
  · rw [if_pos hfree, State.writeRecord_ring, hring]
    refine ⟨rfl, rfl, fun _ hs hup => ⟨?_, rfl⟩⟩
    rw [(State.writeRecord_host (hsilent.trans hs) ((congrArg Pcie.linkUp hpcie).trans hup) r 3 _).1, hring, hhost, htick]
    rfl
  · rw [if_neg hfree, hring]
    exact ⟨rfl, rfl, fun h => absurd h hfree⟩

/-- The doorbell of a ring takes effect: its ring is enabled, its context accepts commands, no engine posts on it. -/
def State.bellOpen (s : State) (c r : Nat) : Prop :=
  (s.ring c r).enable = true ∧ s.accepting c = true ∧ s.enginePosts c r = false ∧ s.safety.tripped = false

theorem State.doorbell_of_open {v : BitVec 32} (h : s.bellOpen c.val r.val) : s.doorbell c r v =
    if (s.ring c.val r.val).entries < (v - (s.ring c.val r.val).tail).toNat ∨
      (s.ring c.val r.val).entries < (v - (s.ring c.val r.val).head).toNat then s.ringNotice c.val r.val v
    else s.updRing c.val r.val fun y => { y with tail := v } := by
  obtain ⟨henable, haccepts, hposts, htripped⟩ := h
  refine if_neg ?_
  rw [henable, haccepts, hposts, htripped]
  exact Bool.false_ne_true

theorem State.doorbell_of_closed {v : BitVec 32} (h : ¬s.bellOpen c.val r.val) : s.doorbell c r v = s := by
  refine if_pos (Classical.byContradiction fun hno => ?_)
  simp only [Bool.or_eq_true, Bool.not_eq_true', not_or, Bool.not_eq_false, Bool.not_eq_true] at hno
  obtain ⟨⟨⟨henable, haccepts⟩, hposts⟩, htripped⟩ := hno
  exact h ⟨henable, haccepts, hposts, htripped⟩

/-- A doorbell waits behind a BAR2 write or a doorbell of its function. -/
def State.bellWaits (s : State) (c : Nat) : Prop := s.postedWrites c = true ∨ (s.ctx c).host.doorbells ≠ []

theorem State.ringBell_of_waits {v : BitVec 32} (h : s.bellWaits c.val) :
    s.ringBell c r v = s.updHost c.val fun h => { h with doorbells := h.doorbells ++ [(r, v)] } := by
  refine if_pos ?_
  rw [Bool.or_eq_true, Bool.not_eq_true', List.isEmpty_eq_false_iff]
  exact h

theorem State.ringBell_of_no_wait {v : BitVec 32} (h : ¬s.bellWaits c.val) : s.ringBell c r v = s.doorbell c r v := by
  refine if_neg fun hno => h ?_
  rw [Bool.or_eq_true, Bool.not_eq_true', List.isEmpty_eq_false_iff] at hno
  exact hno

/-- What forwarding an input to the secondary leaves of what a host's write is tested against. -/
theorem State.forwardIn_bells (s : State) (d : Nat) (i : FwdInput) : (s.forwardIn d i).bellWaits = s.bellWaits ∧
    (s.forwardIn d i).bellOpen = s.bellOpen ∧ (s.forwardIn d i).openCount = s.openCount ∧
    (s.forwardIn d i).slotFree = s.slotFree ∧ (s.forwardIn d i).silent = s.silent ∧ (s.forwardIn d i).pcie = s.pcie ∧
    (s.forwardIn d i).tick = s.tick ∧ (s.forwardIn d i).hostMem = s.hostMem := by
  rw [State.forwardIn_eq]
  exact ⟨rfl, rfl, rfl, rfl, rfl, rfl, rfl, rfl⟩

theorem State.ringControl_of_enabled (h : (s.ring c.val r.val).enable = true) (on : Bool) (log2 : BitVec 4) :
    s.ringControl c r on log2 = if on ∨ s.openCount c.val r.val ≠ 0 then s
      else s.updRing c.val r.val fun y => { y with enable := false } := if_pos h

/-- A ring that is not enabled, as a write of its control leaves it. -/
def Ring.controlled (y : Ring) (on : Bool) (log2 : BitVec 4) : Ring :=
  let y := if 4 ≤ log2.toNat ∧ log2.toNat ≤ 12 then { y with log2 := log2 } else y
  if on then { y with enable := true, tail := 0, head := 0, cqHead := 0, cqTail := 0 } else y

theorem Ring.controlled_of_range {log2 : BitVec 4} (h4 : 4 ≤ log2.toNat) (h12 : log2.toNat ≤ 12) (y : Ring) (on : Bool) :
    y.controlled on log2 = if on then { y with log2 := log2, enable := true, tail := 0, head := 0, cqHead := 0, cqTail := 0 }
      else { y with log2 := log2 } := by
  have h : 4 ≤ log2.toNat ∧ log2.toNat ≤ 12 := ⟨h4, h12⟩
  unfold Ring.controlled
  dsimp only
  rw [if_pos h]

theorem Ring.controlled_of_no_range {log2 : BitVec 4} (h : ¬(4 ≤ log2.toNat ∧ log2.toNat ≤ 12)) (y : Ring) (on : Bool) :
    y.controlled on log2 = if on then { y with enable := true, tail := 0, head := 0, cqHead := 0, cqTail := 0 } else y := by
  unfold Ring.controlled
  dsimp only
  rw [if_neg h]

theorem State.ringControl_of_disabled (h : (s.ring c.val r.val).enable = false) (on : Bool) (log2 : BitVec 4) :
    s.ringControl c r on log2 = s.updRing c.val r.val fun y => y.controlled on log2 :=
  if_neg (ne_true_of_eq_false h)

end

/-! ## Reads -/

section
variable {s : State} {f : CtxId}

/-- A read of function f at an offset inside its BAR, of a running device. -/
theorem exec_counterLoRead (hup : s.pcie.linkUp = true) (hstage : s.fw.stage = 2) {off : Nat} (h4 : off % 4 = 0)
    (hin : off < if f = 0 then 0x4000000 else 0x100000) : exec (.counterLoRead f off) s =
      .next ((s.latchHalf f off).emit (.regRead f (BitVec.ofNat 32 (s.registerRead f off)))) := by
  refine congrArg Host.Outcome.next ((if_neg (by rw [hup]; decide)).trans ((if_neg ?_).trans (if_neg (Classical.not_not.2 hstage))))
  exact not_or.2 ⟨Classical.not_not.2 h4, Nat.not_le.2 hin⟩

theorem lt_barSize {off : Nat} (h : off < 0x100000) (f : CtxId) : off < if f = 0 then 0x4000000 else 0x100000 := by
  split
  · exact Nat.lt_trans h (by decide)
  · exact h

theorem State.latchHalf_of_none {off : Nat} (h0 : off ≠ 0x2000) (h1 : off ≠ 0x100014) : s.latchHalf f off = s :=
  (if_neg h0).trans (if_neg fun h => h1 h.2)

/-- A read that latches nothing. -/
theorem exec_counterLoRead_plain (hup : s.pcie.linkUp = true) (hstage : s.fw.stage = 2) {off : Nat} (h4 : off % 4 = 0)
    (hin : off < 0x100000) (h0 : off ≠ 0x2000) {x : BitVec 32} (hread : BitVec.ofNat 32 (s.registerRead f off) = x) :
    exec (.counterLoRead f off) s = .next (s.emit (.regRead f x)) := by
  rw [exec_counterLoRead hup hstage h4 (lt_barSize hin f), hread, State.latchHalf_of_none h0 (Nat.ne_of_lt (Nat.lt_trans hin (by decide)))]

theorem ofNat_half_low (x : BitVec 64) : BitVec.ofNat 32 (half x false) = x.extractLsb' 0 32 := by
  refine BitVec.eq_of_toNat_eq ?_
  rw [BitVec.toNat_ofNat, BitVec.extractLsb'_toNat]
  exact Nat.mod_mod _ _

theorem ofNat_half_high (x : BitVec 64) : BitVec.ofNat 32 (half x true) = x.extractLsb' 32 32 := by
  refine BitVec.eq_of_toNat_eq ?_
  rw [BitVec.toNat_ofNat, BitVec.extractLsb'_toNat, Nat.shiftRight_eq_div_pow]
  rfl

/-- A read in the ring block. -/
theorem State.registerRead_ring (r : RingId) {k : Nat} (hk : k < 256) :
    s.registerRead f (256 * r.val + k) = (s.ring f.val r.val).read k := by
  have hlt : 256 * r.val + k < 0x400 := by omega
  refine (if_pos hlt).trans ?_
  rw [show (256 * r.val + k) / 256 = r.val by omega, show (256 * r.val + k) % 256 = k by omega]

end

/-! ## BAR2 and register writes -/

section
variable {s : State} {f : CtxId}

theorem mem_linesOf {a n : Nat} (hn : 0 < n) (l : Nat) : l ∈ linesOf a n ↔ a / 64 ≤ l ∧ l ≤ (a + n - 1) / 64 := by
  unfold linesOf
  rw [if_neg (Nat.ne_of_gt hn), List.mem_map]
  constructor
  · rintro ⟨i, hi, rfl⟩
    have := List.mem_range.1 hi
    omega
  · rintro ⟨hlo, hhi⟩
    exact ⟨l - a / 64, List.mem_range.2 (by omega), by omega⟩

/-- The offset a BAR2 access has in the share. -/
def State.bar2Offset (s : State) (f : CtxId) (offset : Nat) : Nat := (if f = 0 then s.pcie.bar2Window.toNat else 0) + offset

theorem exec_bar2Access_of_outside (hup : s.pcie.linkUp = true) (htripped : s.safety.tripped = false) {offset n : Nat}
    {w : Option Bytes} (p : Bool) (h : s.accepting f.val = false ∨
      s.inShare f.val 1 (s.bar2Offset f offset) (match w with | some b => b.length | none => n) = false) :
    exec (.bar2Access f offset w n p) s = .next (if w.isNone then (s.emit (.aer f 1)).emit (.unsupported f)
      else s.emit (.aer f 1)) := by
  refine congrArg Host.Outcome.next ((if_neg (by rw [hup]; decide)).trans ((if_neg (by rw [htripped]; decide)).trans (if_pos ?_)))
  rw [Bool.or_eq_true, Bool.not_eq_true', Bool.not_eq_true']
  exact h

theorem exec_bar2Access_of_inside (hup : s.pcie.linkUp = true) (htripped : s.safety.tripped = false) {offset n : Nat}
    {w : Option Bytes} (p : Bool) (hacc : s.accepting f.val = true)
    (hin : s.inShare f.val 1 (s.bar2Offset f offset) (match w with | some b => b.length | none => n) = true) :
    exec (.bar2Access f offset w n p) s = .next (match w with
      | some b =>
        if p then s.emit (.aer f 2)
        else if b.isEmpty then s
        else (s.forwardIn f.val (.bar2Write f (s.bar2Offset f offset) b)).bar2Write f (s.bar2Offset f offset) b
      | none =>
        if n = 0 then s.emit (.bar2Read f [])
        else s.addXfer { ctx := f, lines := linesOf (s.absAddr f.val 0 1 (s.bar2Offset f offset)) n
                         effects := [.bar2 f (s.absAddr f.val 0 1 (s.bar2Offset f offset)) n] }) := by
  refine congrArg Host.Outcome.next ((if_neg (by rw [hup]; decide)).trans ((if_neg (by rw [htripped]; decide)).trans
    ((if_neg ?_).trans ?_)))
  · rw [Bool.or_eq_true, Bool.not_eq_true', Bool.not_eq_true', hacc]
    exact fun h => h.elim nofun fun h => ne_true_of_eq_false h hin
  · cases w <;> rfl

theorem exec_registerWrite (hup : s.pcie.linkUp = true) (hstage : s.fw.stage = 2) (hpair : ¬(s.pair.role = 2 ∧ s.pair.state = 1))
    {off : Nat} (h4 : off % 4 = 0) (hin : off < if f = 0 then 0x4000000 else 0x100000) (v : BitVec 32) :
    exec (.registerWrite f off v) s = .next
      ((if off < 0x2000 then s.forwardIn f.val (.regWrite f off v) else s).registerWrite f off v) := by
  refine congrArg Host.Outcome.next ((if_neg ?_).trans ((if_neg ?_).trans (if_neg ?_)))
  · rw [State.hostReaches_of_up hup hstage]
    decide
  · exact not_or.2 ⟨Classical.not_not.2 h4, Nat.not_le.2 hin⟩
  · exact fun h => hpair (State.ignoresHost_eq_true_iff.1 h)

/-- A write of the high half of a ring's base. -/
theorem State.registerWrite_baseHi (r : RingId) (v : BitVec 32) : s.registerWrite f (256 * r.val + 4) v =
    if !(s.ring f.val r.val).enable then
      s.updRing f.val r.val fun y => { y with base := BitVec.ofNat 64 (y.base.toNat % 2 ^ 32 + v.toNat * 2 ^ 32) }
    else s := by
  have hr : Fin.ofNat 4 ((256 * r.val + 4) / 256) = r := by
    refine Fin.ext ?_
    rw [show (256 * r.val + 4) / 256 = r.val by omega]
    exact Nat.mod_eq_of_lt r.isLt
  refine (if_pos (by omega)).trans ?_
  rw [hr, show (256 * r.val + 4) % 256 = 4 by omega]
  rfl

end

/-- Settles O41: a doorbell and a control by what the ring is, a read by its offset, and BAR2 by what the access reaches. -/
theorem hostRegistersAndBars : Obligations.HostRegistersAndBars := by
  refine ⟨fun c s hup hstage hpair => ⟨fun r v => ?_, fun r log2 => ?_, fun r v => ?_⟩, fun c s hup => ?_, fun c s h => ?_,
    fun f s hup => ?_, fun f s hup => ?_⟩
  · intro y u opened waits
    obtain ⟨hwaits, hopen, hcount, hslot, hsilent, hpcie, htick, hmem⟩ := s.forwardIn_bells c.val (.regWrite c (256 * r.val + 12) v)
    have hring : u.ring c.val r.val = y := s.forwardIn_ring _ _ _ _
    have hexec : exec (.ringDoorbell c r v) s = .next (u.ringBell c r v) :=
      congrArg Host.Outcome.next (if_neg (State.hostHeard hup hstage hpair))
    have hno (h : ¬waits) : u.ringBell c r v = u.doorbell c r v := State.ringBell_of_no_wait (by rw [hwaits]; exact h)
    have hopened (h : opened) : u.bellOpen c.val r.val := by
      rw [hopen]
      exact h
    refine ⟨fun h => hexec.trans (congrArg _ (State.ringBell_of_waits (by rw [hwaits]; exact h))), fun h hop htail hhead => ?_,
      fun h hop hover => ?_, fun h hop => hexec.trans (congrArg _ ((hno h).trans (State.doorbell_of_closed (by rw [hopen]; exact hop))))⟩
    · rw [hexec, hno h, State.doorbell_of_open (hopened hop), hring, if_neg (not_or.2 ⟨Nat.not_lt.2 htail, Nat.not_lt.2 hhead⟩)]
    · refine ⟨_, hexec, ?_⟩
      obtain ⟨hfulls, htail, hrecord⟩ := u.ringNotice_spec c.val r.val v
      rw [hno h, State.doorbell_of_open (hopened hop), hring, if_pos hover]
      rw [hring] at hfulls htail hrecord
      rw [hslot, hsilent, hmem, htick] at hrecord
      exact ⟨hfulls, htail, fun hfree hs => hrecord hfree hs ((congrArg Pcie.linkUp hpcie).trans hup)⟩
  · intro y u
    have hexec (on : Bool) : exec (.ringEnable c r on log2) s = .next ((u on).ringControl c r on log2) :=
      congrArg Host.Outcome.next (if_neg (State.hostHeard hup hstage hpair))
    have hring (on : Bool) : (u on).ring c.val r.val = y := s.forwardIn_ring _ _ _ _
    have hcount (on : Bool) : (u on).openCount = s.openCount := (s.forwardIn_bells c.val _).2.2.1
    have hon (on : Bool) (h : y.enable = true) := State.ringControl_of_enabled (s := u on) ((congrArg Ring.enable (hring on)).trans h) on log2
    have hoff (on : Bool) (h : y.enable = false) :=
      State.ringControl_of_disabled (s := u on) ((congrArg Ring.enable (hring on)).trans h) on log2
    refine ⟨fun h h4 h12 => ?_, fun h hbad => ?_, fun h h0 => ?_, fun h h0 => ?_, fun h => ?_, fun h h4 h12 => ?_⟩
    · rw [hexec, hoff true h, funext fun y => Ring.controlled_of_range h4 h12 y true]
      rfl
    · rw [hexec, hoff true h, funext fun y => Ring.controlled_of_no_range hbad y true]
      rfl
    · rw [hexec, hon false h, hcount, if_neg (not_or.2 ⟨Bool.false_ne_true, Classical.not_not.2 h0⟩)]
    · rw [hexec, hon false h, hcount, if_pos (.inr h0)]
    · rw [hexec, hon true h, if_pos (.inl rfl)]
    · rw [hexec, hoff false h, funext fun y => Ring.controlled_of_range h4 h12 y false]
      rfl
  · intro y u
    have hexec : exec (.cqHeadWrite c r v) s = .next (u.cqHead c r v) :=
      congrArg Host.Outcome.next (if_neg (State.hostHeard hup hstage hpair))
    have hring : u.ring c.val r.val = y := s.forwardIn_ring _ _ _ _
    unfold State.cqHead at hexec
    rw [hring] at hexec
    exact ⟨fun h => hexec.trans (congrArg _ (if_neg (Nat.not_lt.2 h))), fun h => hexec.trans (congrArg _ (if_pos h))⟩
  · intro reads h
    refine ⟨fun off hbad => ?_, fun off h4 hin hstage => ?_, fun hstage => ⟨?_, fun v t hlatch hle => ?_, fun hold => ?_, ?_,
      fun r => ⟨?_, ?_, ?_⟩, fun off h4 hlo hhi => ?_, ?_, fun h0 => ?_⟩⟩
    · exact congrArg Host.Outcome.next ((if_neg (by rw [hup]; decide)).trans (if_pos hbad))
    · refine congrArg Host.Outcome.next ((if_neg (by rw [hup]; decide)).trans ((if_neg ?_).trans (if_pos hstage)))
      exact not_or.2 ⟨Classical.not_not.2 h4, Nat.not_le.2 (lt_barSize hin c)⟩
    · rw [exec_counterLoRead hup hstage (by decide) (lt_barSize (by decide) c)]
      exact congrArg (fun x => Host.Outcome.next (State.emit _ (.regRead c x))) (ofNat_half_low s.tick.now)
    · refine exec_counterLoRead_plain hup hstage (by decide) (by decide) (by decide) ?_
      change BitVec.ofNat 32 (hiHalf h.tickLatch s.now s.tick.now) = v
      unfold hiHalf
      rw [hlatch]
      dsimp only
      rw [if_pos hle, BitVec.ofNat_toNat, BitVec.setWidth_eq]
    · refine exec_counterLoRead_plain hup hstage (by decide) (by decide) (by decide) ?_
      change BitVec.ofNat 32 (hiHalf h.tickLatch s.now s.tick.now) = _
      rw [← ofNat_half_high]
      unfold hiHalf
      split
      · next v t hlatch => rw [if_neg (Nat.not_le.2 (hold v t hlatch))]
      · rfl
    · exact exec_counterLoRead_plain hup hstage (by decide) (by decide) (by decide) rfl
    · exact exec_counterLoRead_plain hup hstage (by omega) (by omega) (by omega) (congrArg _ (State.registerRead_ring r (by decide)))
    · exact exec_counterLoRead_plain hup hstage (by omega) (by omega) (by omega) (congrArg _ (State.registerRead_ring r (by decide)))
    · exact exec_counterLoRead_plain hup hstage (by omega) (by omega) (by omega) (congrArg _ (State.registerRead_ring r (by decide)))
    · refine exec_counterLoRead_plain hup hstage h4 (by omega) (by omega) (congrArg _ ?_)
      unfold State.registerRead
      dsimp only
      rw [if_neg (by omega), if_neg (by omega), if_neg (by omega), if_neg (by omega), if_neg (by omega), if_neg (by omega),
        if_neg (by omega), if_neg (by omega), if_neg (by omega), if_pos ⟨hlo, hhi⟩]
    · refine exec_counterLoRead_plain hup hstage (by decide) (by decide) (by decide) (congrArg (BitVec.ofNat 32) (a₂ := 0) ?_)
      unfold State.registerRead
      by_cases hc : c ≠ 0
      · exact if_pos hc
      · exact if_neg hc
    · subst h0
      refine (exec_counterLoRead hup hstage (by decide) (by decide)).trans ?_
      exact congrArg (fun x => Host.Outcome.next (State.emit _ (.regRead 0 x))) (ofNat_half_low s.pcie.hostLossTick)
  · have hno := State.not_hostHeard h
    exact ⟨fun r v => ⟨congrArg Host.Outcome.next (if_pos hno), congrArg Host.Outcome.next (if_pos hno)⟩,
      fun r on log2 => congrArg Host.Outcome.next (if_pos hno)⟩
  · have hreach : (!s.hostReaches) = true := by
      unfold State.hostReaches
      rw [hup]
      rfl
    exact ⟨fun off => congrArg Host.Outcome.next (if_pos (by rw [hup]; rfl)), fun off v => congrArg Host.Outcome.next (if_pos hreach),
      fun off w n p => congrArg Host.Outcome.next (if_pos (by rw [hup]; rfl))⟩
  · refine ⟨fun offset n w poisoned htripped => ?_, fun offset n b htripped => ?_, fun hstage => ⟨fun off v hbad => ?_, fun hpair =>
      ⟨fun off v h4 hlo hhi => ?_, fun off v h4 hhi => ?_, fun v => ?_, fun off v h4 hlo hhi => ?_, fun r v hoff => ?_,
        fun r v hon => ?_⟩⟩⟩
    · exact congrArg Host.Outcome.next ((if_neg (by rw [hup]; decide)).trans (if_pos htripped))
    · intro off a
      refine ⟨fun p h => exec_bar2Access_of_outside hup htripped (w := some b) p h,
        fun p h => exec_bar2Access_of_outside hup htripped (w := none) p h,
        fun hacc hin => exec_bar2Access_of_inside hup htripped (w := some b) true hacc hin, fun hacc hin hb => ?_,
        fun p hacc hin hn => ?_⟩
      · have hexec : exec (.bar2Access f offset (some b) n false) s =
            .next ((s.forwardIn f.val (.bar2Write f off b)).bar2Write f off b) :=
          (exec_bar2Access_of_inside hup htripped (w := some b) false hacc hin).trans (congrArg Host.Outcome.next
            ((if_neg Bool.false_ne_true).trans (if_neg fun h => hb (List.isEmpty_iff.1 h))))
        rw [State.forwardIn_eq] at hexec
        exact ⟨_, _, hexec, rfl, rfl, rfl, rfl, rfl, mem_linesOf (List.length_pos_iff.2 hb), rfl, rfl⟩
      · have hexec := (exec_bar2Access_of_inside hup htripped (w := none) p hacc hin).trans (congrArg Host.Outcome.next
          (if_neg (Nat.ne_of_gt hn)))
        exact ⟨_, _, hexec, rfl, rfl, rfl, rfl, rfl, mem_linesOf hn⟩
    · refine congrArg Host.Outcome.next ((if_neg ?_).trans (if_pos hbad))
      rw [State.hostReaches_of_up hup hstage]
      decide
    · refine (exec_registerWrite hup hstage hpair h4 hhi v).trans ?_
      rw [if_neg (Nat.not_lt.2 hlo)]
    · refine (exec_registerWrite hup hstage hpair h4 (lt_barSize (by omega) f) v).trans ?_
      rw [if_pos hhi]
    · refine ⟨_, exec_registerWrite hup hstage hpair (by decide) (lt_barSize (by decide) f) v, ?_⟩
      have hctx := s.updCtx_ctx f.val fun x => { x with host := { x.host with
        intStatus := x.host.intStatus &&& ~~~(BitVec.ofNat 11 (v.toNat % 2 ^ (if f = 0 then 11 else 8))) } }
      exact ⟨(congrArg (fun x : Ctx => x.host.intStatus) hctx :), (congrArg (fun x : Ctx => x.host.rings) hctx :), rfl, rfl⟩
    · refine (exec_registerWrite hup hstage hpair h4 (lt_barSize (by omega) f) v).trans (congrArg Host.Outcome.next ?_)
      rw [if_neg (by omega)]
      unfold State.registerWrite
      rw [if_neg (by omega), if_neg (by omega), if_neg (by omega), if_neg (by omega), if_neg (by omega), if_pos ⟨hlo, hhi⟩]
    · refine ⟨_, exec_registerWrite hup hstage hpair (by omega) (lt_barSize (by omega) f) v, ?_⟩
      rw [if_pos (by omega), State.registerWrite_baseHi, State.forwardIn_ring, hoff, Bool.not_false, if_pos rfl]
      refine ⟨(State.updRing_ring ..).trans ?_, ?_⟩
      · rw [State.forwardIn_ring]
      · rw [State.updRing_eq, State.forwardIn_eq]
        rfl
    · refine ⟨_, exec_registerWrite hup hstage hpair (by omega) (lt_barSize (by omega) f) v, ?_⟩
      rw [if_pos (by omega), State.registerWrite_baseHi, State.forwardIn_ring, hon, Bool.not_true, if_neg Bool.false_ne_true, State.forwardIn_eq]
      exact ⟨rfl, rfl⟩

end Sys2Proof.Machine
end

section
/-! Groups: a detection and its flood, the fixing of an abort, its settling and re-forming (R423 to R435). -/

namespace Sys2Proof.Machine

section
variable {s : State} {g : GroupId}

theorem detectBefore_self (d : BitVec 8 × Word × BitVec 32) : detectBefore d d = false := by
  unfold detectBefore
  simp

/-- The detection that a group has of a failure detected now. -/
def State.detectionOf (s : State) (g : Nat) (code : BitVec 8) (x : Group) : Option (BitVec 8 × Word × BitVec 32) :=
  if x.fixed then x.detection else lowerDetect x.detection (code, s.tick.now, BitVec.ofNat 32 (s.rankIn g))

/-- A detection with none held, of a group whose abort is not fixed. -/
theorem State.detect_of_none (hnone : (s.group g.val).detection = none) (hfixed : (s.group g.val).fixed = false) (code : BitVec 8) :
    ((s.detect g.val code).group g.val).detection = some (code, s.tick.now, BitVec.ofNat 32 (s.rankIn g.val)) ∧
      (s.detect g.val code).out = .flood g code s.tick.now (BitVec.ofNat 32 (s.rankIn g.val)) :: s.out ∧
      s.detect g.val code = { s with groups := (s.detect g.val code).groups, out := (s.detect g.val code).out } := by
  refine ⟨?_, ?_, rfl⟩
  · refine (congrArg Group.detection (s.updGroup_group g.val fun x => { x with detection := s.detectionOf g.val code x })).trans ?_
    change s.detectionOf g.val code (s.group g.val) = _
    unfold State.detectionOf
    rw [hfixed, hnone]
    rfl
  · have hg : Fin.ofNat 4096 g.val = g := Fin.ext (Nat.mod_eq_of_lt g.isLt)
    change Output.flood (Fin.ofNat 4096 g.val) code s.tick.now (BitVec.ofNat 32 (s.rankIn g.val)) :: s.out = _
    rw [hg]

theorem exec_collTimeout {step : Nat} {t : CollStep} (ht : s.collStep g.val step = some t) : exec (.collTimeout g step) s =
    .next (if t.open_ ∧ (s.group g.val).state = .active ∧ t.issueTick.toNat + (s.group g.val).timeout ≤ s.now then
      s.detect g.val 1 else s) := by
  change execCollTimeout g step s = _
  unfold execCollTimeout
  rw [ht]

theorem exec_abortFloodReceive_of_lower (hactive : (s.group g.val).state = .active) (hfixed : (s.group g.val).fixed = false)
    {d : BitVec 8 × Word × BitVec 32} (h : lowerDetect (s.group g.val).detection d = some d)
    (hne : some d ≠ (s.group g.val).detection) : exec (.abortFloodReceive g d.1 d.2.1 d.2.2) s =
      .next ((s.updGroup g.val fun x => { x with detection := some d }).emit (.flood g d.1 d.2.1 d.2.2)) := by
  refine congrArg Host.Outcome.next ((if_neg ?_).trans ?_)
  · rw [hactive, hfixed, h]
    exact not_or.2 ⟨Classical.not_not.2 rfl, not_or.2 ⟨Bool.false_ne_true, hne⟩⟩
  · change State.emit (s.updGroup g.val fun x => { x with detection := lowerDetect (s.group g.val).detection d }) _ = _
    rw [h]

theorem exec_abortFix {d : BitVec 8 × Word × BitVec 32} (h : (s.group g.val).detection = some d) : exec (.abortFix g) s =
    .next (if (s.group g.val).fixed ∨ s.now < d.2.1.toNat + 16384 then s
      else s.updGroup g.val fun x => { x with fixed := true, abortCode := d.1, abortTick := d.2.1, abortRank := d.2.2 }) := by
  change execAbortFix g s = _
  unfold execAbortFix
  rw [h]

/-- A group once its abort is settled. -/
def Group.settled (x : Group) : Group :=
  { x with state := if x.reforms then .reforming else .aborted, detection := none, fixed := false
           aborts := x.aborts + 1, early := [] }

theorem exec_collAbortSettle (hfixed : (s.group g.val).fixed = true) (hdue : (s.group g.val).abortTick.toNat + 32768 ≤ s.now) :
    exec (.collAbortSettle g) s = .next ((((s.group g.val).steps.filter CollStep.open_).foldl (fun u t =>
      u.abortStep g.val t (s.group g.val).abortCode.toNat (s.group g.val).abortTick (s.group g.val).abortRank) s).updGroup g.val
        Group.settled) := by
  refine congrArg Host.Outcome.next (if_neg (not_or.2 ⟨?_, Nat.not_lt.2 hdue⟩))
  rw [hfixed]
  decide

theorem filter_open_eq_nil {l : List CollStep} (h : ∀ t ∈ l, t.open_ = false) : l.filter CollStep.open_ = [] :=
  List.filter_eq_nil_iff.2 fun t ht => ne_true_of_eq_false (h t ht)

/-- The members that are left of a group by a received set. -/
def Group.left (x : Group) (members : Option (List (BitVec 16))) : List (BitVec 16) := match members with
  | none => []
  | some l => x.members.filter l.contains

theorem exec_groupReform (hstate : (s.group g.val).state = .reforming) (hdue : (s.group g.val).abortTick.toNat + 65536 ≤ s.now)
    (hopen : ∀ t ∈ (s.group g.val).steps, t.open_ = false) (members : Option (List (BitVec 16))) :
    exec (.groupReform g members) s = .next (if ((s.group g.val).left members).contains s.topo.selfAddr then
        s.updGroup g.val fun x => { x with
          state := .active, members := (s.group g.val).left members, generation := x.generation + 1, nextStep := 0, steps := []
          memberList := if x.memberList.isEmpty then [] else (s.group g.val).left members }
      else s.updGroup g.val fun x => { x with state := .aborted }) := by
  refine congrArg Host.Outcome.next ((if_neg (not_or.2 ⟨Classical.not_not.2 hstate, Nat.not_lt.2 hdue⟩)).trans ?_)
  rw [filter_open_eq_nil hopen]
  rfl

end

/-- Settles O20: a detection and the flood of a lower one, the fixing and settling of an abort, and the re-forming of a
group with no open step. -/
theorem groupAborts : Obligations.GroupAborts := by
  refine ⟨fun g s hactive hfixed => ⟨fun step t ht hopen => ⟨fun hdue hnone => ?_, fun hearly => ?_⟩,
    fun code tick rank h => ?_, fun code tick rank d hd hno => ?_⟩, fun g s => ⟨fun d hd hfixed hdue => ?_, fun d hd hearly => ?_,
    fun hfixed hdue hopen => ?_, fun t hfixed hdue hsteps hopen => ?_, fun hstate hearly members => ?_,
    fun l hstate hdue hl hself hopen => ?_, fun members hstate hdue hno hopen => ?_⟩⟩
  · obtain ⟨hdetect, hout, hframe⟩ := State.detect_of_none hnone hfixed 1
    exact ⟨_, (exec_collTimeout ht).trans (congrArg _ (if_pos ⟨hopen, hactive, hdue⟩)), hdetect, hout, hframe⟩
  · exact (exec_collTimeout ht).trans (congrArg _ (if_neg fun h => Nat.not_le.2 hearly h.2.2))
  · have hlow : lowerDetect (s.group g.val).detection (code, tick, rank) = some (code, tick, rank) ∧
        some (code, tick, rank) ≠ (s.group g.val).detection := by
      rcases h with hnone | ⟨d, hd, hbefore⟩
      · rw [hnone]
        exact ⟨rfl, nofun⟩
      · rw [hd]
        refine ⟨if_pos hbefore, fun heq => ?_⟩
        rw [← Option.some.inj heq, detectBefore_self] at hbefore
        cases hbefore
    exact exec_abortFloodReceive_of_lower hactive hfixed hlow.1 hlow.2
  · refine congrArg Host.Outcome.next (if_pos (.inr (.inr ?_)))
    rw [hd]
    exact if_neg (ne_true_of_eq_false hno)
  · refine (exec_abortFix hd).trans (congrArg _ (if_neg (not_or.2 ⟨?_, Nat.not_lt.2 hdue⟩)))
    exact ne_true_of_eq_false hfixed
  · exact (exec_abortFix hd).trans (congrArg _ (if_pos (.inr hearly)))
  · rw [exec_collAbortSettle hfixed hdue, filter_open_eq_nil hopen]
    rfl
  · rw [exec_collAbortSettle hfixed hdue, hsteps, List.filter_cons_of_pos hopen]
    rfl
  · exact congrArg Host.Outcome.next (if_pos (.inr hearly))
  · have hleft : ((s.group g.val).left (some l)).contains s.topo.selfAddr = true :=
      List.contains_iff_mem.2 (List.mem_filter.2 ⟨hself, List.contains_iff_mem.2 hl⟩)
    have hgroup := s.updGroup_group g.val fun x => { x with
      state := .active, members := (s.group g.val).left (some l), generation := x.generation + 1, nextStep := 0, steps := []
      memberList := if x.memberList.isEmpty then [] else (s.group g.val).left (some l) }
    refine ⟨_, (exec_groupReform hstate hdue hopen (some l)).trans (congrArg _ (if_pos hleft)), ?_⟩
    rw [hgroup]
    exact ⟨rfl, rfl, rfl, rfl, rfl, rfl⟩
  · refine (exec_groupReform hstate hdue hopen members).trans (congrArg _ (if_neg fun h => ?_))
    have hmem := List.contains_iff_mem.1 h
    cases members with
    | none => exact List.not_mem_nil hmem
    | some l => exact hno l rfl (List.contains_iff_mem.1 (List.mem_filter.1 hmem).2)

end Sys2Proof.Machine
end

section
/-! Collective steps: what the work of a step leaves of the steps of its group and of the reservoir counts (R416 to R421). -/

namespace Sys2Proof.Machine

/-! ## The elements' work keeps the step's phase and its place -/

/-- The step of the work has the number, phase and allocation of another. -/
structure CollStep.Alike (t u : CollStep) : Prop where
  number : u.number = t.number
  phase : u.phase = t.phase
  alloc : u.alloc = t.alloc

namespace CollStep.Alike
variable {t u w : CollStep}

theorem refl (t : CollStep) : t.Alike t := ⟨rfl, rfl, rfl⟩

theorem trans (h : t.Alike u) (h' : u.Alike w) : t.Alike w :=
  ⟨h'.number.trans h.number, h'.phase.trans h.phase, h'.alloc.trans h.alloc⟩

end CollStep.Alike

section
variable (o : CollOut) (v : CollView) (e value : Nat)

theorem CollOut.down_alike : o.step.Alike (o.down v e value).step := by
  unfold CollOut.down
  split
  · exact .refl _
  · exact ⟨rfl, rfl, rfl⟩

theorem CollOut.rise_alike : o.step.Alike (o.rise v e value).step := by
  unfold CollOut.rise
  dsimp only
  split
  · exact .trans (u := { o.step with up := e :: o.step.up }) ⟨rfl, rfl, rfl⟩ (CollOut.down_alike { o with step := { o.step with up := e :: o.step.up } } v e value)
  · exact ⟨rfl, rfl, rfl⟩

theorem CollOut.tryRise_alike : o.step.Alike (o.tryRise v e).step := by
  unfold CollOut.tryRise
  split
  · exact .refl _
  · exact CollOut.rise_alike { o with flags := o.flags ||| (o.step.sum v e).2 } v e (o.step.sum v e).1

theorem CollStep.enter_alike (t : CollStep) (fromRight : Bool) : t.Alike (t.enter v e fromRight value).1 := by
  unfold CollStep.enter
  dsimp only
  split
  · exact ⟨rfl, rfl, rfl⟩
  · split
    · split <;> exact ⟨rfl, rfl, rfl⟩
    · exact ⟨rfl, rfl, rfl⟩

theorem CollOut.fromChild_alike (fromRight : Bool) : o.step.Alike (o.fromChild v fromRight e value).step := by
  unfold CollOut.fromChild
  split
  · split
    · exact .refl _
    · exact o.rise_alike v e value
  · exact (CollStep.enter_alike v e value o.step fromRight).trans (CollOut.tryRise_alike
      { o with step := (o.step.enter v e fromRight value).1, flags := o.flags ||| (o.step.enter v e fromRight value).2 } v e)

theorem CollOut.own_alike (d : Desc) (word : Nat → Nat) : o.step.Alike (o.own v d word e).step := by
  unfold CollOut.own
  split
  · exact o.tryRise_alike v e
  · split
    · split
      · exact o.rise_alike v e _
      · exact .refl _
    · split
      · exact .trans (u := { o.step with f32Own := o.step.f32Own.put e (d.toF32 (word e)).1 }) ⟨rfl, rfl, rfl⟩
          (CollOut.tryRise_alike { o with step := { o.step with f32Own := o.step.f32Own.put e (d.toF32 (word e)).1 }
                                          flags := o.flags ||| (d.toF32 (word e)).2 } v e)
      · generalize enterNum v.width v.anchor (d.num (word e)) = num
        obtain ⟨y, f⟩ := num
        dsimp only
        generalize ({} : XaElem).add y = sum
        obtain ⟨z, g⟩ := sum
        dsimp only
        exact .trans (u := { o.step with accs := o.step.accs.put e z }) ⟨rfl, rfl, rfl⟩
          (CollOut.tryRise_alike { o with step := { o.step with accs := o.step.accs.put e z }, flags := o.flags ||| f ||| g } v e)

theorem CollOut.foldl_alike {α : Type} (f : CollOut → α → CollOut) (hf : ∀ (o : CollOut) (x : α), o.step.Alike (f o x).step)
    (l : List α) : o.step.Alike (l.foldl f o).step := by
  induction l generalizing o with
  | nil => exact .refl _
  | cons x l ih => exact (hf o x).trans (ih (f o x))

end

/-! ## The steps of a group and the reservoir counts -/

/-- From s to t no context's count of reservoir bytes has changed, and every step of group g is there with its phase and its
allocation. -/
structure State.CollKept (g : Nat) (s t : State) : Prop where
  counts : ∀ c, (t.ctx c).resAlloc = (s.ctx c).resAlloc
  steps : ∀ n, Option.Rel CollStep.Alike (s.collStep g n) (t.collStep g n)

theorem alikeRel_refl : ∀ o : Option CollStep, Option.Rel CollStep.Alike o o
  | none => .none
  | some x => .some (.refl x)

theorem alikeRel_trans {a b c : Option CollStep} (h : Option.Rel CollStep.Alike a b) (h' : Option.Rel CollStep.Alike b c) :
    Option.Rel CollStep.Alike a c := by
  cases h with
  | none => exact h'
  | some hab => cases h' with
    | some hbc => exact .some (hab.trans hbc)

namespace State.CollKept
variable {g : Nat} {s t u : State}

theorem of_groups (hcounts : ∀ c, (t.ctx c).resAlloc = (s.ctx c).resAlloc) (hgroups : t.groups = s.groups) : s.CollKept g t :=
  ⟨hcounts, fun n => by
    unfold State.collStep State.group
    rw [hgroups]
    exact alikeRel_refl _⟩

theorem of_same (hctxs : t.ctxs = s.ctxs) (hgroups : t.groups = s.groups) : s.CollKept g t :=
  of_groups (fun c => congrArg Ctx.resAlloc (State.ctx_congr hctxs c)) hgroups

theorem refl (g : Nat) (s : State) : s.CollKept g s := of_same rfl rfl

theorem trans (h : s.CollKept g t) (h' : t.CollKept g u) : s.CollKept g u :=
  ⟨fun c => (h'.counts c).trans (h.counts c), fun n => alikeRel_trans (h.steps n) (h'.steps n)⟩

theorem foldl {α : Type} {f : State → α → State} (h : ∀ (s : State) (x : α), s.CollKept g (f s x)) (l : List α) (s : State) :
    s.CollKept g (l.foldl f s) := by
  induction l generalizing s with
  | nil => exact refl g s
  | cons x l ih => exact (h s x).trans (ih (f s x))

theorem ite {p : Prop} [Decidable p] (h : s.CollKept g t) (h' : s.CollKept g u) : s.CollKept g (if p then t else u) := by
  by_cases hp : p
  · rwa [if_pos hp]
  · rwa [if_neg hp]

end State.CollKept

section
variable (g : Nat) (s : State)

theorem State.updCtx_collKept (c : Nat) {f : Ctx → Ctx} (hf : ∀ x : Ctx, (f x).resAlloc = x.resAlloc) :
    s.CollKept g (s.updCtx c f) := by
  refine .of_groups (fun d => ?_) rfl
  by_cases hd : d = c
  · subst hd
    rw [State.updCtx_ctx]
    exact hf _
  · rw [State.updCtx_ctx_ne _ _ _ _ hd]

theorem State.updGroup_collKept (d : Nat) {f : Group → Group} (hf : ∀ x : Group, (f x).steps = x.steps) :
    s.CollKept g (s.updGroup d f) := by
  refine ⟨fun _ => rfl, fun n => ?_⟩
  unfold State.collStep
  by_cases hg : g = d
  · subst hg
    rw [State.updGroup_group, hf]
    exact alikeRel_refl _
  · rw [show (s.updGroup d f).group g = s.group g from SMap.get_put_ne _ _ _ _ _ hg]
    exact alikeRel_refl _

theorem State.updStep_collStep (d number : Nat) {f : CollStep → CollStep} (hnum : ∀ x : CollStep, x.number = number → (f x).number = number) :
    (s.updStep d number f).collStep d number = (s.collStep d number).map f := by
  unfold State.updStep State.collStep
  rw [State.updGroup_group]
  exact find?_mapIf (p := fun t : CollStep => t.number == number) (fun y hy => beq_iff_eq.2 (hnum y (beq_iff_eq.1 hy))) _

theorem State.updStep_collStep_ne (d number : Nat) {f : CollStep → CollStep} (hnum : ∀ x : CollStep, x.number = number → (f x).number = number)
    {e n : Nat} (hne : e ≠ d ∨ n ≠ number) : (s.updStep d number f).collStep e n = s.collStep e n := by
  unfold State.updStep State.collStep
  by_cases he : e = d
  · subst he
    have hn : n ≠ number := hne.resolve_left fun h => h rfl
    rw [State.updGroup_group]
    unfold mapIf
    rw [List.find?_map]
    have hsame : ((fun t : CollStep => t.number == n) ∘ fun t => if t.number == number then f t else t) = fun t => t.number == n := by
      funext t
      dsimp only [Function.comp]
      by_cases ht : t.number = number
      · rw [if_pos (beq_iff_eq.2 ht), hnum t ht, ht]
      · rw [if_neg fun h => ht (beq_iff_eq.1 h)]
    rw [hsame]
    cases hx : (s.group e).steps.find? fun t => t.number == n with
    | none => rfl
    | some x =>
      have hxn : x.number = n := beq_iff_eq.1 (List.find?_some (p := fun t : CollStep => t.number == n) hx)
      exact congrArg some (if_neg fun h => hn (hxn.symm.trans (beq_iff_eq.1 h)))
  · rw [show State.group (s.updGroup d _) e = s.group e from SMap.get_put_ne _ _ _ _ _ he]

/-- A change of the step with a number keeps the others, and this one where it keeps its phase and allocation. -/
theorem State.updStep_collKept (d number : Nat) {f : CollStep → CollStep}
    (hf : d = g → ∀ x, s.collStep g number = some x → x.Alike (f x)) (hnum : ∀ x : CollStep, x.number = number → (f x).number = number) :
    s.CollKept g (s.updStep d number f) := by
  refine ⟨fun _ => rfl, fun n => ?_⟩
  by_cases hn : g = d ∧ n = number
  · obtain ⟨rfl, rfl⟩ := hn
    rw [State.updStep_collStep s g n hnum]
    cases hx : s.collStep g n with
    | none => exact .none
    | some x => exact .some (hf rfl x hx)
  · rw [State.updStep_collStep_ne s d number hnum (Classical.not_and_iff_not_or_not.1 hn)]
    exact alikeRel_refl _

theorem State.hubMove_collKept (c : Nat) (uid : Option Nat) (w : Bool) (lines : List Nat) (l : List Effect) :
    s.CollKept g (s.hubMove c uid w lines l) := by
  rw [State.hubMove_eq]
  exact .of_same rfl rfl

theorem State.writeMem_collKept (m : ScrubMem) (a : Nat) (b : Bytes) : s.CollKept g (s.writeMem m a b) := by
  cases m <;> exact .of_same rfl rfl

theorem State.hubPut_collKept (c : Nat) (uid : Option Nat) (m : ScrubMem) (a : Nat) (b : Bytes) :
    s.CollKept g (s.hubPut c uid m a b) := by
  unfold State.hubPut
  refine .ite (.refl g s) ?_
  split
  · exact s.hubMove_collKept g c uid true _ _
  · exact s.writeMem_collKept g _ a b

theorem State.raiseFlags_collKept (c : Nat) (f : BitVec 16) : s.CollKept g (s.raiseFlags c f) :=
  s.updCtx_collKept g c fun _ => rfl

theorem State.countOob_collKept (c n : Nat) : s.CollKept g (s.countOob c n) :=
  .ite (.refl g s) (.trans (s.updCtx_collKept g c (f := fun x => { x with oobCount := satAdd x.oobCount n }) fun _ => rfl)
    (State.raiseFlags_collKept g _ c Flag.oob))

theorem State.updCmd_collKept (c uid : Nat) (f : Cmd → Cmd) : s.CollKept g (s.updCmd c uid f) :=
  s.updCtx_collKept g c fun _ => rfl

theorem State.applyOob_collKept (k key uid n : Nat) (w : Bool) : s.CollKept g (s.apply k key uid (.oob n w)) :=
  .ite (.refl g s) (.ite ((s.countOob_collKept g _ n).trans (State.updCmd_collKept g _ _ _ _)) (s.countOob_collKept g _ n))

theorem State.quillWrite_collKept (c k uid : Nat) (d : Desc) (co : List Nat) (v : Nat) :
    s.CollKept g (s.quillWrite c k uid d co v) :=
  .ite (s.hubPut_collKept g c _ _ _ _) (.ite (.refl g s) (s.applyOob_collKept g k _ uid 1 true))

theorem State.hubTouch_collKept (c k uid : Nat) (d : Desc) (l : List (List Nat)) : s.CollKept g (s.hubTouch c k uid d l) := by
  unfold State.hubTouch
  refine .trans (t := if d.space = 1 then s.hubMove c (some uid) false (s.elemLines c k d l) [] else s)
    (.ite (s.hubMove_collKept g c _ _ _ _) (.refl g s)) (.ite (.refl g _) (State.countOob_collKept g _ c _))

theorem State.hubTouch_groups (c k uid : Nat) (d : Desc) (l : List (List Nat)) : (s.hubTouch c k uid d l).groups = s.groups := by
  have hcount (u : State) (n : Nat) : (u.countOob c n).groups = u.groups := by
    unfold State.countOob
    split <;> rfl
  have hmove : (if d.space = 1 then s.hubMove c (some uid) false (s.elemLines c k d l) [] else s).groups = s.groups := by
    split
    · rw [State.hubMove_eq]
    · rfl
  unfold State.hubTouch
  dsimp only
  split
  · exact hmove
  · exact (hcount _ _).trans hmove

theorem State.collWrite_collKept (t : CollStep) (v : CollView) (e value : Nat) : s.CollKept g (s.collWrite t v e value) := by
  unfold State.collWrite
  dsimp only
  split
  · exact .refl g s
  · refine .ite (s.quillWrite_collKept g _ _ _ _ _ _) (.ite ?_ ?_)
    · exact (s.quillWrite_collKept g _ _ _ _ _ _).trans (State.raiseFlags_collKept g _ _ _)
    · exact (s.quillWrite_collKept g _ _ _ _ _ _).trans (State.raiseFlags_collKept g _ _ _)

theorem State.written_collKept (d gen n : Nat) : s.CollKept g (s.updGroup d fun x => x.written gen n) := by
  by_cases hgen : (s.group d).generation.toNat = gen
  · have h := s.updStep_collKept g d n (f := fun t => { t with writing := t.writing - 1 }) (fun _ x _ => ⟨rfl, rfl, rfl⟩)
      fun _ h => h
    rwa [show s.updStep d n (fun t => { t with writing := t.writing - 1 }) = s.updGroup d fun x => x.written gen n from
      congrArg (fun x => { s with groups := s.groups.put d x }) (if_pos hgen).symm] at h
  · have h := s.updGroup_collKept g d (f := fun x => x) fun _ => rfl
    rwa [show s.updGroup d (fun x => x) = s.updGroup d fun x => x.written gen n from
      congrArg (fun x => { s with groups := s.groups.put d x }) (if_neg hgen).symm] at h

/-- The end of the writes of a step. -/
theorem State.hubDone_collKept (c : Nat) (uid : Option Nat) (d gen n : Nat) :
    s.CollKept g (s.hubDone c uid [.collWritten d gen n]) :=
  .ite (.of_same rfl rfl) (s.written_collKept g d gen n)

theorem State.digestOutput_collKept (c uid kind dest off : Nat) (b : Bytes) : s.CollKept g (s.digestOutput c uid kind dest off b) :=
  .ite (s.updCmd_collKept g c uid _) (.refl g s)

theorem State.queuePacket_collKept (uid : Nat) (p : Packet) : s.CollKept g (s.queuePacket uid p) := by
  have hlost : s.CollKept g (s.updCtx p.ctx.val fun x => { x with unroutable := satAdd x.unroutable 1 }) :=
    s.updCtx_collKept g _ fun _ => rfl
  unfold State.queuePacket
  dsimp only
  split
  · exact hlost
  · refine .ite (.trans ?_ (State.updCmd_collKept g _ _ uid _)) hlost
    exact .of_same rfl rfl

theorem State.sendPacket_collKept (uid : Nat) (p : Packet) : s.CollKept g (s.sendPacket uid p) := by
  unfold State.sendPacket
  refine .trans (s.digestOutput_collKept g p.ctx.val uid 1 p.dst.toNat (packetTarget p.use) p.data) (.ite ?_ (.ite (.refl g _) ?_))
  · exact .of_same rfl rfl
  · exact State.queuePacket_collKept g _ uid p

theorem State.collWrites_collKept (t : CollStep) (v : CollView) (l : List (Nat × Nat)) :
    s.CollKept g (l.foldl (fun s w => s.collWrite t v w.1 w.2) s) := by
  have h : ∀ (s : State) (w : Nat × Nat), s.CollKept g (s.collWrite t v w.1 w.2) := fun s w => s.collWrite_collKept g t v w.1 w.2
  exact State.CollKept.foldl h l s

theorem State.sendPackets_collKept (uid : Nat) (l : List Packet) : s.CollKept g (l.foldl (fun s p => s.sendPacket uid p) s) := by
  refine .foldl (f := fun s p => s.sendPacket uid p) (fun s p => ?_) l s
  exact s.sendPacket_collKept g uid p

/-- The effects of the elements' work of a step: once the step stands in its group, the rest keeps every step. -/
theorem State.collApply_after (v : CollView) (o : CollOut) : ∃ x : CollStep, o.step.Alike x ∧
    (s.updStep v.group o.step.number fun _ => x).CollKept g (s.collApply v o) := by
  unfold State.collApply
  extract_lets c packets used wrote f s1 s2 s3
  have h2 : s1.CollKept g s2 := (s1.collWrites_collKept g o.step v o.writes).trans (State.raiseFlags_collKept g _ c o.flags)
  have h3 : s2.CollKept g s3 := .ite (s2.hubDone_collKept g c _ _ _ _) (.refl g s2)
  refine ⟨{ o.step with links := (o.step.links ++ used).eraseDups, writing := o.step.writing + b2n wrote
                        lost := o.step.lost || packets.any fun p => s.packetLost c p.dst }, ⟨rfl, rfl, rfl⟩, ?_⟩
  exact (h2.trans h3).trans (s3.sendPackets_collKept g o.step.uid packets)

theorem State.collApply_collKept (v : CollView) (o : CollOut)
    (h : v.group = g → ∀ x, s.collStep g o.step.number = some x → x.Alike o.step) : s.CollKept g (s.collApply v o) := by
  obtain ⟨x, hx, hafter⟩ := s.collApply_after g v o
  exact .trans (s.updStep_collKept g v.group o.step.number (fun hg y hy => (h hg y hy).trans hx) fun _ _ => hx.number) hafter

/-- The keys of a member's own enter: the step stands in its group, and the rest keeps every step. -/
theorem State.collOwn_after (v : CollView) (t : CollStep) (keys : List Nat) {d : Desc} (hd : s.desc t.ctx.val v.src = some d) :
    ∃ u x, s.CollKept g u ∧ u.groups = s.groups ∧ t.Alike x ∧ (u.updStep v.group t.number fun _ => x).CollKept g (s.collOwn v t keys) := by
  unfold State.collOwn
  rw [hd]
  change ∃ u x, s.CollKept g u ∧ u.groups = s.groups ∧ t.Alike x ∧ (u.updStep v.group t.number fun _ => x).CollKept g
    (State.collApply (if keys.all isToken then s else s.hubTouch t.ctx.val t.core.val t.uid d (v.ownIndices.map d.coords)) v _)
  have h1 : s.CollKept g (if keys.all isToken then s else s.hubTouch t.ctx.val t.core.val t.uid d (v.ownIndices.map d.coords)) :=
    .ite (.refl g s) (s.hubTouch_collKept g _ _ _ _ _)
  have hgroups : (if keys.all isToken then s else s.hubTouch t.ctx.val t.core.val t.uid d (v.ownIndices.map d.coords)).groups =
      s.groups := by
    split
    · rfl
    · exact s.hubTouch_groups _ _ _ _ _
  revert h1 hgroups
  generalize (if keys.all isToken then s else s.hubTouch t.ctx.val t.core.val t.uid d (v.ownIndices.map d.coords)) = s1
  intro h1 hgroups
  have hwork := CollOut.foldl_alike { step := t } (fun o e => o.own v d (fun i => s1.hubRead t.ctx.val t.core.val d (d.coords i)) e)
    (fun o e => o.own_alike v e d _) keys
  obtain ⟨x, hx, hafter⟩ := s1.collApply_after g v (keys.foldl (fun o e =>
    o.own v d (fun i => s1.hubRead t.ctx.val t.core.val d (d.coords i)) e) { step := t })
  rw [hwork.number] at hafter
  exact ⟨s1, x, h1, hgroups, hwork.trans hx, hafter⟩

/-- Keys of a member's own enter the step that stands in the group. -/
theorem State.collOwn_collKept (v : CollView) (t : CollStep) (keys : List Nat)
    (h : v.group = g → ∀ x, s.collStep g t.number = some x → x.Alike t) : s.CollKept g (s.collOwn v t keys) := by
  cases hd : s.desc t.ctx.val v.src with
  | none =>
    unfold State.collOwn
    rw [hd]
    exact .refl g s
  | some d =>
    obtain ⟨u, x, hu, hgroups, hx, hafter⟩ := s.collOwn_after g v t keys hd
    refine hu.trans (.trans (u.updStep_collKept g v.group t.number (fun hg y hy => ?_) fun _ _ => hx.number) hafter)
    refine (h hg y ?_).trans hx
    unfold State.collStep State.group at hy ⊢
    rw [← hgroups]
    exact hy

theorem State.collGo_collKept (number : Nat) : s.CollKept g (s.collGo g number) := by
  unfold State.collGo
  split
  · exact .refl g s
  · next t ht =>
    have hnum : t.number = number := beq_iff_eq.1 (List.find?_some (p := fun t : CollStep => t.number == number) ht)
    refine .ite (s.collOwn_collKept g _ { t with ownIn := true } _ fun _ x hx => ?_) (.refl g s)
    rw [show ({ t with ownIn := true } : CollStep).number = number from hnum] at hx
    cases ht.symm.trans hx
    exact ⟨rfl, rfl, rfl⟩

theorem State.detect_collKept (d : Nat) (code : BitVec 8) : s.CollKept g (s.detect d code) := by
  have h := s.updGroup_collKept g d (f := fun x => { x with detection := s.detectionOf d code x }) fun _ => rfl
  exact h.trans (.of_same rfl rfl)

theorem State.keepEarly_collKept (p : EarlyPacket) : s.CollKept g (s.keepEarly g p) := s.updGroup_collKept g g fun _ => rfl

theorem State.collDeliver_collKept (p : EarlyPacket) : s.CollKept g (s.collDeliver g p) := by
  unfold State.collDeliver
  split
  · exact .ite (s.keepEarly_collKept g p) (.refl g s)
  · next t ht =>
    have hnum : t.number = p.step := beq_iff_eq.1 (List.find?_some (p := fun t : CollStep => t.number == p.step) ht)
    refine .ite (.refl g s) (.ite (s.keepEarly_collKept g p) (.ite (.ite (s.detect_collKept g g 3) (.refl g s))
      (.ite (s.keepEarly_collKept g p) ?_)))
    refine s.collApply_collKept g _ _ fun _ x hx => ?_
    have hwork := CollOut.foldl_alike { step := { t with links := (t.links ++ p.link.toList).eraseDups } }
      (fun (o : CollOut) (y : Nat × Nat) => if p.up then o.fromChild (s.collView t.image t.f32) p.fromRight y.1 y.2
        else o.down (s.collView t.image t.f32) y.1 y.2) (fun o y => by
          split
          · exact o.fromChild_alike _ y.1 y.2 p.fromRight
          · exact o.down_alike _ y.1 y.2)
      (collValues (s.collBytes t.ctx.val (s.collView t.image t.f32) p.first) p.first p.data)
    rw [hwork.number, show ({ t with links := (t.links ++ p.link.toList).eraseDups } : CollStep).number = p.step from hnum] at hx
    cases ht.symm.trans hx
    exact .trans (u := { t with links := (t.links ++ p.link.toList).eraseDups }) ⟨rfl, rfl, rfl⟩ hwork

theorem State.collDrain_collKept : s.CollKept g (s.collDrain g) :=
  .trans (s.updGroup_collKept g g (f := fun x => { x with early := [] }) fun _ => rfl)
    (.foldl (f := fun s p => s.collDeliver g p) (fun s p => s.collDeliver_collKept g p) _ _)

/-- The rest of a start: the elements of an ALL_GATHER, and the packets that came before. -/
theorem State.startRest_collKept (number : Nat) :
    s.CollKept g ((((s.collGo g number).collDrain g).collGo g number).collDrain g) :=
  (((s.collGo_collKept g number).trans (State.collDrain_collKept g _)).trans (State.collGo_collKept g _ number)).trans
    (State.collDrain_collKept g _)

theorem State.collOwn_resAlloc (v : CollView) (t : CollStep) (keys : List Nat) (c : Nat) :
    ((s.collOwn v t keys).ctx c).resAlloc = (s.ctx c).resAlloc := by
  cases hd : s.desc t.ctx.val v.src with
  | none =>
    unfold State.collOwn
    rw [hd]
  | some d =>
    obtain ⟨u, x, hu, -, -, hafter⟩ := s.collOwn_after 0 v t keys hd
    exact (hafter.counts c).trans (hu.counts c)

/-- A step as its start leaves it. -/
def State.startedStep (s : State) (t : CollStep) : CollStep :=
  { t with phase := .running, alloc := (s.collView t.image t.f32).alloc, check := s.collCheck (s.collView t.image t.f32) t.number
           ownIn := !(s.collView t.image t.f32).gathers }

/-- The context's count with the allocation of a step. -/
def State.withAlloc (s : State) (t : CollStep) : State :=
  s.updCtx t.ctx.val fun x => { x with resAlloc := x.resAlloc + (s.collView t.image t.f32).alloc }

theorem State.startStep_collKept (t : CollStep) : ((s.withAlloc t).collOwn (s.collView t.image t.f32) (s.startedStep t)
    (s.collView t.image t.f32).firstKeys).CollKept (s.collView t.image t.f32).group (s.startStep t) :=
  State.startRest_collKept _ _ t.number

/-- A step that starts takes its allocation of the reservoir. -/
theorem State.startStep_resAlloc (t : CollStep) : ((s.startStep t).ctx t.ctx.val).resAlloc =
    (s.ctx t.ctx.val).resAlloc + (s.collView t.image t.f32).alloc := by
  rw [(s.startStep_collKept t).counts, State.collOwn_resAlloc]
  exact congrArg Ctx.resAlloc (s.updCtx_ctx t.ctx.val fun x => { x with resAlloc := x.resAlloc + (s.collView t.image t.f32).alloc })

/-- A step that starts runs, with its allocation. -/
theorem State.startStep_running {t : CollStep} {number : Nat} (hg : (s.collView t.image t.f32).group = g)
    (ht : s.collStep g number = some t) {d : Desc} (hd : s.desc t.ctx.val (s.collView t.image t.f32).src = some d) :
    ∃ x, (s.startStep t).collStep g number = some x ∧ x.phase = .running ∧ x.alloc = (s.collView t.image t.f32).alloc := by
  have hnum : t.number = number := beq_iff_eq.1 (List.find?_some (p := fun t : CollStep => t.number == number) ht)
  subst hnum
  have hd' : (s.withAlloc t).desc (s.startedStep t).ctx.val (s.collView t.image t.f32).src = some d := by
    refine Eq.trans (b := s.desc t.ctx.val (s.collView t.image t.f32).src) ?_ hd
    exact (congrArg (fun x : Ctx => x.descs.get none (s.collView t.image t.f32).src) (s.updCtx_ctx t.ctx.val fun x =>
      { x with resAlloc := x.resAlloc + (s.collView t.image t.f32).alloc }) :)
  obtain ⟨u, x, -, hgroups, hx, hafter⟩ := (s.withAlloc t).collOwn_after g (s.collView t.image t.f32) (s.startedStep t)
    (s.collView t.image t.f32).firstKeys hd'
  have hu : u.collStep g t.number = some t := by
    refine Eq.trans ?_ ht
    unfold State.collStep State.group
    rw [hgroups]
    rfl
  have hrest := (s.startStep_collKept t).steps t.number
  rw [hg] at hrest hafter
  have hthere : (u.updStep g (s.startedStep t).number fun _ => x).collStep g t.number = some x := by
    rw [show (s.startedStep t).number = t.number from rfl, State.updStep_collStep u g t.number fun _ _ => hx.number, hu]
    rfl
  have hall := alikeRel_trans (hafter.steps t.number) hrest
  rw [hthere] at hall
  cases hfinal : (s.startStep t).collStep g t.number with
  | none =>
    rw [hfinal] at hall
    cases hall
  | some y =>
    rw [hfinal] at hall
    cases hall with
    | some hxy => exact ⟨y, rfl, hxy.phase.trans hx.phase, hxy.alloc.trans hx.alloc⟩

end

end Sys2Proof.Machine
end

section
/-! COLL: a step joins its group, is allocated and ends with success (R404 to R432). -/

namespace Sys2Proof.Machine

section
variable {s : State} {k : CoreId} {key : Nat} {n : SReg} {sem : BitVec 16} {f32 : Bool}

/-- The instruction of a collective step. -/
def collInstr (k : CoreId) (n : SReg) (sem : BitVec 16) (f32 : Bool) : Instr := if f32 then .collF32 k n sem else .coll k n sem

/-- The step that a COLL joins to its group. -/
def State.newStep (s : State) (k : CoreId) (key : Nat) (n : SReg) (sem : BitVec 16) (f32 : Bool) : CollStep :=
  { ctx := ctxOf key, core := k, uid := ((s.core k.val).stream key).uid, record := s.offsetIn k key n, image := s.recordIn k key n
    sem := sem, f32 := f32, issueTick := s.tick.now
    seed := Config.roundSeed (keyCtx key) ((s.core k.val).stream key).pc }

theorem State.newStep_image : (s.newStep k key n sem f32).image = s.recordIn k key n := by
  dsimp only [State.newStep]

theorem State.newStep_f32 : (s.newStep k key n sem f32).f32 = f32 := by
  unfold State.newStep
  rfl

theorem exec_coll (h : s.issues k key (collInstr k n sem f32)) (hrec : s.recordThere k key n) :
    exec (collInstr k n sem f32) s = .next (if s.collOk (keyCtx key) (s.collView (s.recordIn k key n) f32) = false ∨
        s.shareSize (keyCtx key) 2 < (s.collView (s.recordIn k key n) f32).alloc then s.ctxFault (keyCtx key)
      else (s.updStream k.val key Stream.advance).joinStep (s.collView (s.recordIn k key n) f32).group
        (s.newStep k key n sem f32)) := by
  cases f32 with
  | false => exact congrArg Host.Outcome.next (onRecord_of_there hrec h _)
  | true => exact congrArg Host.Outcome.next (onRecord_of_there hrec h _)

theorem State.putSram_sram (s : State) (c k off : Nat) (b : Bytes) : s.putSram c k off b = { s with
    sramMem := (s.putSram c k off b).sramMem } := by
  unfold State.putSram State.writeMem
  split <;> rfl

/-- What a step's record means, and whether it may run, do not rest on the steps of a group or on SRAM. -/
theorem State.collView_congr {s t : State} (hsize : ∀ g, (t.group g).members = (s.group g).members) (htopo : t.topo = s.topo)
    (b : Bytes) (f32 : Bool) : t.collView b f32 = s.collView b f32 := by
  unfold State.collView State.rankIn Group.size
  simp only [hsize, htopo]

theorem State.collOk_congr {s t : State} (hstate : ∀ g, (t.group g).state = (s.group g).state ∧ (t.group g).owner = (s.group g).owner)
    {c : Nat} (hdescs : (t.ctx c).descs = (s.ctx c).descs) (v : CollView) : t.collOk c v = s.collOk c v := by
  unfold State.collOk State.groupUsable State.countIs State.notXa State.desc
  rw [hdescs, (hstate v.group).1, (hstate v.group).2]

theorem ctxOf_val (h : s.issuer k.val = some key) : (ctxOf key).val = keyCtx key := by
  unfold State.issuer at h
  dsimp only at h
  split at h
  · cases h
  · split at h
    · next key' _ hgo =>
      cases Option.some.inj h
      exact Nat.mod_eq_of_lt hgo.1
    · cases h

/-- The group with one more step. -/
def State.withStep (u : State) (g : Nat) (t : CollStep) : State :=
  u.updGroup g fun x => { x with steps := x.steps ++ [t], nextStep := x.nextStep + 1 }

theorem State.withStep_group (u : State) (g : Nat) (t : CollStep) (d : Nat) : ∃ l n,
    (u.withStep g t).group d = { u.group d with steps := l, nextStep := n } := by
  by_cases hd : d = g
  · subst hd
    exact ⟨_, _, u.updGroup_group d _⟩
  · exact ⟨_, _, SMap.get_put_ne _ _ _ _ _ hd⟩

/-- The state with a step in its group, and its RANK and SIZE in its record. -/
def State.joined (u : State) (g : Nat) (t : CollStep) : State :=
  (u.withStep g t).putSram t.ctx.val t.core.val (t.record + 32)
    (toLe 4 (u.collView t.image t.f32).rank ++ toLe 4 (u.collView t.image t.f32).p)

theorem State.joined_shape (u : State) (g : Nat) (t : CollStep) : ∃ m, u.joined g t = { u.withStep g t with sramMem := m } :=
  ⟨_, State.putSram_sram _ _ _ _ _⟩

/-- What a joined step is tested against is as it was before. -/
theorem State.joined_tests (u : State) (g : Nat) (t : CollStep) (c : Nat) (v : CollView) :
    (u.joined g t).collOk c v = u.collOk c v ∧ (u.joined g t).shareSize c 2 = u.shareSize c 2 ∧
      (u.joined g t).allocFits c v = u.allocFits c v ∧ (u.joined g t).collView t.image t.f32 = u.collView t.image t.f32 := by
  obtain ⟨m, hm⟩ := u.joined_shape g t
  have hparts (d : Nat) : ((u.joined g t).group d).state = (u.group d).state ∧ ((u.joined g t).group d).owner = (u.group d).owner ∧
      ((u.joined g t).group d).members = (u.group d).members := by
    obtain ⟨l, n, h⟩ := u.withStep_group g t d
    rw [hm]
    exact ⟨(congrArg Group.state h :), (congrArg Group.owner h :), (congrArg Group.members h :)⟩
  have hsize : (u.joined g t).shareSize c 2 = u.shareSize c 2 := by
    rw [hm]
    rfl
  refine ⟨State.collOk_congr (fun d => ⟨(hparts d).1, (hparts d).2.1⟩) (by rw [hm]; rfl) v, hsize, ?_,
    State.collView_congr (fun d => (hparts d).2.2) (by rw [hm]; rfl) _ _⟩
  unfold State.allocFits
  rw [hsize, show ((u.joined g t).ctx c).resAlloc = (u.ctx c).resAlloc by rw [hm]; rfl]

/-- How a step of a collective operation joins its group, by the group's state. -/
theorem State.joinStep_of_coll (u : State) (g : Nat) {t y : CollStep} (hx : t.exchange = false)
    (hnumber : y = { t with number := (u.group g).nextStep }) :
    u.joinStep g t = match (u.group g).state with
      | .active =>
        if (u.collView t.image t.f32).expectGen ≠ 0 ∧ (u.collView t.image t.f32).expectGen ≠ (u.group g).generation.toNat then
          (u.joined g y).abortStep g y 6
            (u.group g).abortTick (u.group g).abortRank
        else if u.collOk t.ctx.val (u.collView t.image t.f32) = false ∨ u.shareSize t.ctx.val 2 < (u.collView t.image t.f32).alloc then
          (u.joined g y).ctxFault t.ctx.val
        else if u.allocFits t.ctx.val (u.collView t.image t.f32) then
          (u.joined g y).startStep y
        else u.joined g y
      | .aborted => (u.joined g y).abortStep g y 5
          (u.group g).abortTick (u.group g).abortRank
      | _ => u.joined g y := by
  subst hnumber
  have hview : (u.withStep g { t with number := (u.group g).nextStep }).collView t.image t.f32 = u.collView t.image t.f32 := by
    refine State.collView_congr (s := u) (t := u.withStep g { t with number := (u.group g).nextStep }) (fun d => ?_) rfl _ _
    obtain ⟨l, n, h⟩ := u.withStep_group g { t with number := (u.group g).nextStep } d
    exact (congrArg Group.members h :)
  obtain ⟨hok, hsize, hfits, -⟩ := u.joined_tests g { t with number := (u.group g).nextStep } t.ctx.val (u.collView t.image t.f32)
  rw [← hok, ← hsize, ← hfits]
  unfold State.joinStep
  extract_lets x c t1 s1 v stale s2
  have hv : v = u.collView t.image t.f32 := hview
  have hs2 : s2 = u.joined g t1 := by
    refine (if_neg (ne_true_of_eq_false hx)).trans ?_
    change s1.putSram c t1.core.val (t1.record + 32) (toLe 4 v.rank ++ toLe 4 v.p) = _
    rw [hv]
    rfl
  have hstale : stale = true ↔ (u.collView t.image t.f32).expectGen ≠ 0 ∧
      (u.collView t.image t.f32).expectGen ≠ (u.group g).generation.toNat := by
    change (!t.exchange && v.expectGen != 0 && v.expectGen != (u.group g).generation.toNat) = true ↔ _
    rw [hx, hv]
    simp only [Bool.not_false, Bool.true_and, Bool.and_eq_true, bne_iff_ne]
  rw [hs2, hv]
  change (match (u.group g).state with
    | .active => if stale = true then _ else if t.exchange = true then _ else _
    | .aborted => _
    | _ => _) = _
  cases (u.group g).state with
  | active =>
    dsimp only
    rw [if_neg (ne_true_of_eq_false hx)]
    by_cases h : stale = true
    · rw [if_pos h, if_pos (hstale.1 h)]
    · rw [if_neg h, if_neg (mt hstale.2 h)]
  | aborted => rfl
  | free => rfl
  | reforming => rfl

/-- The step with the number that it takes. -/
def State.numberedStep (s : State) (k : CoreId) (key : Nat) (n : SReg) (sem : BitVec 16) (f32 : Bool) : CollStep :=
  { s.newStep k key n sem f32 with number := (s.group (s.collView (s.recordIn k key n) f32).group).nextStep }

theorem State.numberedStep_fields : (s.numberedStep k key n sem f32).number =
      (s.group (s.collView (s.recordIn k key n) f32).group).nextStep ∧
    (s.numberedStep k key n sem f32).phase = .waiting ∧ (s.numberedStep k key n sem f32).sem = sem ∧
    (s.numberedStep k key n sem f32).f32 = f32 ∧ (s.numberedStep k key n sem f32).core = k ∧
    (s.numberedStep k key n sem f32).record = s.offsetIn k key n ∧ (s.numberedStep k key n sem f32).image = s.recordIn k key n ∧
    (s.numberedStep k key n sem f32).issueTick = s.tick.now ∧ (s.numberedStep k key n sem f32).exchange = false ∧
    (s.numberedStep k key n sem f32).uid = ((s.core k.val).stream key).uid := by
  refine ⟨?_, ?_, ?_, ?_, ?_, ?_, ?_, ?_, ?_, ?_⟩ <;> dsimp only [State.numberedStep, State.newStep]

/-- A COLL that keeps its rules joins its step to its group. -/
theorem exec_coll_joins (h : s.issues k key (collInstr k n sem f32)) (hrec : s.recordThere k key n)
    (hok : s.collOk (keyCtx key) (s.collView (s.recordIn k key n) f32) = true)
    (hroom : (s.collView (s.recordIn k key n) f32).alloc ≤ s.shareSize (keyCtx key) 2) :
    let v := s.collView (s.recordIn k key n) f32
    let x := s.numberedStep k key n sem f32
    let j := (s.updStream k.val key Stream.advance).joined v.group x
    exec (collInstr k n sem f32) s = .next (match (s.group v.group).state with
      | .active => if v.expectGen ≠ 0 ∧ v.expectGen ≠ (s.group v.group).generation.toNat then
          j.abortStep v.group x 6 (s.group v.group).abortTick (s.group v.group).abortRank
        else if s.allocFits (keyCtx key) v then j.startStep x else j
      | .aborted => j.abortStep v.group x 5 (s.group v.group).abortTick (s.group v.group).abortRank
      | _ => j) := by
  have hctx := ctxOf_val h.1
  have hview : (s.updStream k.val key Stream.advance).collView (s.recordIn k key n) f32 = s.collView (s.recordIn k key n) f32 := rfl
  have hnot : ¬(s.collOk (keyCtx key) (s.collView (s.recordIn k key n) f32) = false ∨
      s.shareSize (keyCtx key) 2 < (s.collView (s.recordIn k key n) f32).alloc) :=
    not_or.2 ⟨by rw [hok]; decide, Nat.not_lt.2 hroom⟩
  have hjoin := State.joinStep_of_coll (s.updStream k.val key Stream.advance) (s.collView (s.recordIn k key n) f32).group
    (t := s.newStep k key n sem f32) (y := s.numberedStep k key n sem f32) (by dsimp only [State.newStep])
    (by unfold State.numberedStep; rfl)
  have hnot' : ¬((s.updStream k.val key Stream.advance).collOk (keyCtx key) (s.collView (s.recordIn k key n) f32) = false ∨
      (s.updStream k.val key Stream.advance).shareSize (keyCtx key) 2 < (s.collView (s.recordIn k key n) f32).alloc) := hnot
  rw [show (s.newStep k key n sem f32).ctx.val = keyCtx key from hctx, State.newStep_image, State.newStep_f32, hview,
    if_neg hnot'] at hjoin
  rw [exec_coll h hrec, if_neg hnot, hjoin]
  generalize s.numberedStep k key n sem f32 = x
  rfl

end

/-- Settles O19: a COLL joins by its group's state, an allocation starts a waiting step, and a success releases it. -/
theorem collectiveSteps : Obligations.CollectiveSteps := by
  refine ⟨fun k n sem f32 s key => ?_, fun g step s t ht => ?_, fun g step s t ht => ?_⟩
  · intro i hi hrec c v g joins stale
    refine ⟨fun hbad => (exec_coll hi hrec).trans (congrArg _ (if_pos hbad)), fun hok hroom => ?_⟩
    obtain ⟨hnumber, hphase, hsem, hf32, hcore, hrecord, himage, htick, hx, huid⟩ :=
      s.numberedStep_fields (k := k) (key := key) (n := n) (sem := sem) (f32 := f32)
    have hjoins : (s.updStream k.val key Stream.advance).joined v.group (s.numberedStep k key n sem f32) =
        joins (s.numberedStep k key n sem f32) := by
      unfold State.joined
      rw [show (s.numberedStep k key n sem f32).ctx.val = c from ctxOf_val hi.1, hcore, hrecord, himage, hf32]
      rfl
    have hexec := exec_coll_joins hi hrec hok hroom
    dsimp only at hexec
    rw [hjoins] at hexec
    refine ⟨s.numberedStep k key n sem f32, hnumber, hphase, hsem, hf32, hcore, hrecord, himage, htick, hx, huid, fun hg hst hfits => ?_,
      fun hg hst hfits => ?_, fun hg hst => ?_, fun hg => ?_, fun hg => ?_⟩
    all_goals
      refine hexec.trans (congrArg Host.Outcome.next ?_)
      rw [show (s.group v.group).state = _ from hg]
    · exact (if_neg hst).trans (if_pos hfits)
    · exact (if_neg hst).trans (if_neg (ne_true_of_eq_false hfits))
    · exact if_pos hst
  · intro v
    have hexec : exec (.collAlloc g step) s = .next (if t.phase = .waiting ∧ t.exchange = false ∧ (s.group g.val).state = .active ∧
        s.allocFits t.ctx.val v = true then s.startStep t else s) := by
      change execCollAlloc g step s = _
      unfold execCollAlloc
      rw [ht]
    refine ⟨fun hx hphase hactive hfits => ⟨_, hexec.trans (congrArg _ (if_pos ⟨hphase, hx, hactive, hfits⟩)), rfl,
      s.startStep_resAlloc t, fun hg hd => ?_⟩, fun h => hexec.trans (congrArg _ (if_neg fun ⟨hphase, hx, hactive, hfits⟩ => ?_))⟩
    · obtain ⟨d, hd⟩ := Option.isSome_iff_exists.1 hd
      exact State.startStep_running g.val s hg ht hd
    · rcases h with h | h | h | h
      · exact ne_true_of_eq_false h hfits
      · exact h hphase
      · rw [hx] at h
        cases h
      · exact h hactive
  · intro done
    have hexec : exec (.collStepOk g step) s = .next (if t.phase ≠ .running ∨ t.exchange ∨ s.detectedBefore g.val ∨
        s.flitsWait t.ctx.val = true ∨ done = false then s
        else (((s.updStep g.val step fun t => { t with phase := .ok, alloc := 0 }).updCtx t.ctx.val fun x =>
          { x with resAlloc := x.resAlloc - t.alloc }).putSram t.ctx.val t.core.val (t.record + 28) (toLe 4 0)).signalSem
            t.ctx.val t.sem.toNat 1) := by
      change execCollStepOk g step s = _
      unfold execCollStepOk
      rw [ht]
      rfl
    refine ⟨fun hphase hx hbefore hflits hdone => hexec.trans (congrArg Host.Outcome.next (if_neg ?_)),
      fun h => hexec.trans (congrArg _ (if_pos h))⟩
    rintro (h | h | h | h | h)
    · exact h hphase
    · exact ne_true_of_eq_false hx h
    · exact ne_true_of_eq_false hbefore h
    · exact ne_true_of_eq_false hflits h
    · rw [hdone] at h
      cases h

end Sys2Proof.Machine
end

section
/-! What the operations of the hub on tensors change: memories, the controller's queue, and of their context the flags,
the count of elements out of bounds and the commands. -/

namespace Sys2Proof.Machine

/-- What operations of the hub for context c may have changed. -/
def State.HubWork (c : Nat) (s t : State) : Prop :=
  (∃ ctxs hbm sram res stage, t = { s with ctxs := ctxs, hbm := hbm, sramMem := sram, resMem := res, stageMem := stage }) ∧
    (∀ j, j ≠ c → t.ctx j = s.ctx j) ∧
    ∃ flags oob cmds, t.ctx c = { s.ctx c with flags := flags, oobCount := oob, cmds := cmds }

namespace State.HubWork
variable {c : Nat} {s t u : State}

theorem refl (c : Nat) (s : State) : s.HubWork c s := ⟨⟨_, _, _, _, _, rfl⟩, fun _ _ => rfl, _, _, _, rfl⟩

theorem trans (h : s.HubWork c t) (h' : t.HubWork c u) : s.HubWork c u := by
  obtain ⟨⟨_, _, _, _, _, rfl⟩, hne, f, n, l, hc⟩ := h
  obtain ⟨⟨_, _, _, _, _, rfl⟩, hne', f', n', l', hc'⟩ := h'
  exact ⟨⟨_, _, _, _, _, rfl⟩, fun j hj => (hne' j hj).trans (hne j hj), f', n', l', by rw [hc', hc]⟩

theorem foldl {α : Type} {f : State → α → State} (h : ∀ (s : State) x, s.HubWork c (f s x)) (l : List α) (s : State) :
    s.HubWork c (l.foldl f s) := by
  induction l generalizing s with
  | nil => exact refl c s
  | cons x l ih => exact (h s x).trans (ih (f s x))

theorem ite {p : Prop} [Decidable p] (h : s.HubWork c t) (h' : s.HubWork c u) : s.HubWork c (if p then t else u) := by
  split
  · exact h
  · exact h'

/-- Operations that leave the contexts alone. -/
theorem of_mems {hbm : Hbm} {sram res stage : Memory} (h : t = { s with hbm := hbm, sramMem := sram, resMem := res, stageMem := stage }) :
    s.HubWork c t := by
  subst h
  exact ⟨⟨_, _, _, _, _, rfl⟩, fun _ _ => rfl, _, _, _, rfl⟩

theorem quill (h : s.HubWork c t) : (t.ctx c).quill = (s.ctx c).quill := by
  obtain ⟨-, -, _, _, _, h⟩ := h
  rw [h]

theorem life (h : s.HubWork c t) : (t.ctx c).life = (s.ctx c).life := by
  obtain ⟨-, -, _, _, _, h⟩ := h
  rw [h]

theorem descs (h : s.HubWork c t) : (t.ctx c).descs = (s.ctx c).descs := by
  obtain ⟨-, -, _, _, _, h⟩ := h
  rw [h]

theorem desc (h : s.HubWork c t) (i : Nat) : t.desc c i = s.desc c i := by
  unfold State.desc
  rw [h.descs]

theorem ownsShares (h : s.HubWork c t) : t.ownsShares c = s.ownsShares c := by
  unfold State.ownsShares
  rw [h.life]

theorem tick (h : s.HubWork c t) : t.tick = s.tick := by
  obtain ⟨⟨_, _, _, _, _, rfl⟩, -⟩ := h
  rfl

theorem hbmMem (h : s.HubWork c t) : t.hbmMem = s.hbmMem := by
  obtain ⟨⟨_, _, _, _, _, rfl⟩, -⟩ := h
  rfl

theorem cores (h : s.HubWork c t) : t.cores = s.cores := by
  obtain ⟨⟨_, _, _, _, _, rfl⟩, -⟩ := h
  rfl

end State.HubWork

section
variable (s : State) (c : Nat)

/-- A change of flags, the count out of bounds and the commands of the context. -/
theorem State.updCtx_hubWork {f : Ctx → Ctx} (hf : ∀ x, ∃ flags oob cmds, f x = { x with flags := flags, oobCount := oob, cmds := cmds }) :
    s.HubWork c (s.updCtx c f) := by
  obtain ⟨a, b, l, h⟩ := hf (s.ctx c)
  exact ⟨⟨_, _, _, _, _, rfl⟩, fun j hj => SMap.get_put_ne _ _ _ _ _ hj, a, b, l, (SMap.get_put _ _ _ _).trans h⟩

theorem State.raiseFlags_hubWork (f : BitVec 16) : s.HubWork c (s.raiseFlags c f) := s.updCtx_hubWork c fun _ => ⟨_, _, _, rfl⟩

theorem State.countOob_hubWork (n : Nat) : s.HubWork c (s.countOob c n) :=
  .ite (.refl c s) (.trans (s.updCtx_hubWork c (f := fun x => { x with oobCount := satAdd x.oobCount n }) fun _ => ⟨_, _, _, rfl⟩)
    (State.raiseFlags_hubWork _ c Flag.oob))

theorem State.updCmd_hubWork (uid : Nat) (f : Cmd → Cmd) : s.HubWork c (s.updCmd c uid f) :=
  s.updCtx_hubWork c fun _ => ⟨_, _, _, rfl⟩

theorem State.meterHub_hubWork (uid n : Nat) : s.HubWork c (s.meterHub c uid n) := s.updCmd_hubWork c uid _

theorem keyCtx_two_mul : keyCtx (2 * c) = c := by
  unfold keyCtx
  omega

theorem State.applyOob_hubWork (k uid n : Nat) (w : Bool) : s.HubWork c (s.apply k (2 * c) uid (.oob n w)) := by
  change s.HubWork c (if n = 0 then s else if w then (s.countOob (keyCtx (2 * c)) n).updCmd (keyCtx (2 * c)) uid _
    else s.countOob (keyCtx (2 * c)) n)
  rw [keyCtx_two_mul]
  exact .ite (.refl c s) (.ite ((s.countOob_hubWork c n).trans (State.updCmd_hubWork _ c uid _)) (s.countOob_hubWork c n))

theorem State.hubMove_hubWork (uid : Option Nat) (w : Bool) (lines : List Nat) (l : List Effect) :
    s.HubWork c (s.hubMove c uid w lines l) := .of_mems (s.hubMove_eq c uid w lines l)

theorem State.hubPut_hubWork (uid : Option Nat) (m : ScrubMem) (a : Nat) (b : Bytes) : s.HubWork c (s.hubPut c uid m a b) := by
  unfold State.hubPut
  refine .ite (.refl c s) ?_
  cases m with
  | hbm => exact s.hubMove_hubWork c uid true _ _
  | sram => exact .of_mems rfl
  | reservoir => exact .of_mems rfl
  | staging => exact .of_mems rfl

theorem State.quillWrite_hubWork (k uid : Nat) (d : Desc) (co : List Nat) (v : Nat) : s.HubWork c (s.quillWrite c k uid d co v) :=
  .ite (s.hubPut_hubWork c _ _ _ _) (.ite (.refl c s) (s.applyOob_hubWork c k uid 1 true))

theorem State.quillWriteTo_hubWork (k uid i : Nat) (co : List Nat) (v : Nat) : s.HubWork c (s.quillWriteTo c k uid i co v) := by
  unfold State.quillWriteTo
  split
  · exact .refl c s
  · exact s.quillWrite_hubWork c k uid _ co v

theorem State.hubTouch_hubWork (k uid : Nat) (d : Desc) (l : List (List Nat)) : s.HubWork c (s.hubTouch c k uid d l) := by
  unfold State.hubTouch
  exact .trans (t := if d.space = 1 then s.hubMove c (some uid) false (s.elemLines c k d l) [] else s)
    (.ite (s.hubMove_hubWork c _ _ _ _) (.refl c s)) (.ite (.refl c _) (State.countOob_hubWork _ c _))

end

/-! ## Writes outside HBM -/

theorem State.countOob_mems (s : State) (c n : Nat) : (s.countOob c n).hbm = s.hbm ∧ (s.countOob c n).sramMem = s.sramMem ∧
    (s.countOob c n).resMem = s.resMem ∧ (s.countOob c n).stageMem = s.stageMem := by
  unfold State.countOob
  split <;> exact ⟨rfl, rfl, rfl, rfl⟩

/-- Without an open transfer of the operation its effects happen at once. -/
theorem State.hubDone_of_none {s : State} {c : Nat} {uid : Option Nat} (l : List Effect)
    (h : ∀ w, ∀ x ∈ s.hbm.xfers, s.hubOpen c uid w x = false) :
    s.hubDone c uid l = l.foldl (fun s e => s.apply 0 (2 * c) (uid.getD 0) e) s := by
  have hw (w : Bool) : s.hbm.xfers.any (s.hubOpen c uid w) = false :=
    List.any_eq_false.2 fun x hx => ne_true_of_eq_false (h w x hx)
  unfold State.hubDone
  dsimp only
  rw [hw true, hw false]
  rfl

/-- With a transfer that the operation writes, its effects happen with that. -/
theorem State.hubDone_of_write {s : State} {c : Nat} {uid : Option Nat} (l : List Effect)
    (h : s.hbm.xfers.any (s.hubOpen c uid true) = true) :
    s.hubDone c uid l = { s with hbm := { s.hbm with
      xfers := mapIf (s.hubOpen c uid true) (fun x => { x with effects := x.effects ++ l }) s.hbm.xfers } } := by
  unfold State.hubDone
  dsimp only
  rw [h]
  rfl

/-! ## The transfer of an operation -/

/-- A move of lines leaves the operation a transfer that is open. -/
theorem State.hubMove_open {s : State} {c : CtxId} {uid : Option Nat} {w : Bool} {lines : List Nat} (l : List Effect)
    (hlines : lines ≠ []) : (s.hubMove c.val uid w lines l).hbm.xfers.any (s.hubOpen c.val uid w) = true := by
  unfold State.hubMove
  rw [if_neg (by rwa [List.isEmpty_iff])]
  split
  · next h =>
    obtain ⟨x, hx, hopen⟩ := List.any_eq_true.1 h
    refine List.any_eq_true.2 ⟨_, List.mem_map_of_mem hx, ?_⟩
    rw [if_pos hopen]
    exact hopen
  · refine List.any_eq_true.2 ⟨_, List.mem_append_right _ (List.mem_singleton_self _), ?_⟩
    have hc : (Fin.ofNat 64 c.val).val = c.val := Nat.mod_eq_of_lt c.isLt
    simp only [State.hubOpen, hc, beq_self_eq_true, Bool.and_self]

/-- An open transfer stays open over every further move. -/
theorem State.hubMove_keeps_open {s : State} {c d : Nat} {uid v : Option Nat} {w r : Bool} {lines : List Nat} (l : List Effect)
    (h : s.hbm.xfers.any (s.hubOpen c uid w) = true) : (s.hubMove d v r lines l).hbm.xfers.any (s.hubOpen c uid w) = true := by
  obtain ⟨x, hx, hopen⟩ := List.any_eq_true.1 h
  unfold State.hubMove
  split
  · exact h
  · split
    · refine List.any_eq_true.2 ⟨_, List.mem_map_of_mem hx, ?_⟩
      split
      · exact hopen
      · exact hopen
    · exact List.any_eq_true.2 ⟨x, List.mem_append_left _ hx, hopen⟩

end Sys2Proof.Machine
end

section
/-! Balancing states and their rows (R281 to R296). -/

namespace Sys2Proof.Machine

/-- What a SMap returns where it holds the key. -/
theorem SMap.mem_of_any {α : Type} (d : α) {m : SMap α} {i : Nat} (h : m.any (fun b => b.1 == i) = true) : (i, m.get d i) ∈ m := by
  induction m with
  | nil => cases h
  | cons x m ih =>
    obtain ⟨k, v⟩ := x
    unfold SMap.get
    split
    · next hk => exact hk ▸ List.mem_cons_self
    · next hk =>
      refine List.mem_cons_of_mem _ (ih ?_)
      rw [List.any_cons, beq_false_of_ne hk] at h
      exact h

/-- The step of `putBalRow` for one expert. -/
def State.putBalValue (c : Nat) (b : BalState) (d : Desc) (s : State) (e : Nat) : State :=
  if d.inBounds [e, b.row] then
    s.hubPut c none (spaceMem d.space) (s.elemAddr c b.core.val d [e, b.row]) (toLe d.size (b.rowValues.getD e 0).toNat)
  else if d.empty then s else s.countOob c 1

theorem State.putBalRow_of_desc {s : State} {c : Nat} {b : BalState} {d : Desc} (h : s.desc c b.biasDesc.toNat = some d) :
    s.putBalRow c b = (List.range b.rowValues.length).foldl (State.putBalValue c b d) s := by
  unfold State.putBalRow
  rw [h]
  rfl

theorem State.putBalRow_of_none {s : State} {c : Nat} {b : BalState} (h : s.desc c b.biasDesc.toNat = none) :
    s.putBalRow c b = s := by
  unfold State.putBalRow
  rw [h]

theorem State.putBalValue_hubWork (c : Nat) (b : BalState) (d : Desc) (s : State) (e : Nat) :
    s.HubWork c (s.putBalValue c b d e) :=
  .ite (s.hubPut_hubWork c _ _ _ _) (.ite (.refl c s) (s.countOob_hubWork c 1))

theorem State.putBalRow_hubWork (s : State) (c : Nat) (b : BalState) : s.HubWork c (s.putBalRow c b) := by
  cases h : s.desc c b.biasDesc.toNat with
  | none =>
    rw [State.putBalRow_of_none h]
    exact .refl c s
  | some d =>
    rw [State.putBalRow_of_desc h]
    exact .foldl (State.putBalValue_hubWork c b d) _ s

/-- A row in SRAM, in the reservoir or of no tensor leaves the HBM controller and the staging memory alone. -/
theorem State.putBalRow_of_plain {s : State} {c : Nat} {b : BalState}
    (h : ∀ d, s.desc c b.biasDesc.toNat = some d → d.space = 0 ∨ d.space = 2) :
    (s.putBalRow c b).hbm = s.hbm ∧ (s.putBalRow c b).stageMem = s.stageMem := by
  cases hd : s.desc c b.biasDesc.toNat with
  | none =>
    rw [State.putBalRow_of_none hd]
    exact ⟨rfl, rfl⟩
  | some d =>
    have hstep (u : State) (e : Nat) : (u.putBalValue c b d e).hbm = u.hbm ∧ (u.putBalValue c b d e).stageMem = u.stageMem := by
      unfold State.putBalValue
      split
      · unfold State.hubPut
        rcases h d hd with h | h <;> rw [h] <;> split <;> exact ⟨rfl, rfl⟩
      · split
        · exact ⟨rfl, rfl⟩
        · exact ⟨(u.countOob_mems c 1).1, (u.countOob_mems c 1).2.2.2⟩
    rw [State.putBalRow_of_desc hd]
    exact List.foldlRecOn (motive := fun u => u.hbm = s.hbm ∧ u.stageMem = s.stageMem) _ _ ⟨rfl, rfl⟩ fun u hu e _ =>
      ⟨(hstep u e).1.trans hu.1, (hstep u e).2.trans hu.2⟩

/-- A row in HBM with an expert in bounds gives the loop a transfer. -/
theorem State.putBalRow_open {s : State} {c : CtxId} {b : BalState} {d : Desc} (hd : s.desc c.val b.biasDesc.toNat = some d)
    (hformat : d.format = 4) (hspace : d.space = 1) (howns : s.ownsShares c.val = true)
    (hin : ∃ e < b.rowValues.length, d.inBounds [e, b.row] = true) :
    (s.putBalRow c.val b).hbm.xfers.any ((s.putBalRow c.val b).hubOpen c.val none true) = true := by
  have hput {u : State} (e : Nat) (hu : u.ownsShares c.val = true) (he : d.inBounds [e, b.row] = true) :
      u.putBalValue c.val b d e = u.hubMove c.val none true (linesOf (u.elemAddr c.val b.core.val d [e, b.row]) 4)
        [.mem .hbm (u.elemAddr c.val b.core.val d [e, b.row]) (toLe 4 (b.rowValues.getD e 0).toNat)] := by
    have hsize : d.size = 4 := by
      unfold Desc.size
      rw [hformat]
      rfl
    unfold State.putBalValue State.hubPut
    rw [if_pos he, hu, hspace, hsize]
    change u.hubMove c.val none true (linesOf _ (toLe 4 _).length) _ = _
    rw [toLe_length]
  have hkeep {u : State} (e : Nat) (hu : u.ownsShares c.val = true)
      (ho : u.hbm.xfers.any (u.hubOpen c.val none true) = true) :
      (u.putBalValue c.val b d e).hbm.xfers.any (u.hubOpen c.val none true) = true := by
    by_cases he : d.inBounds [e, b.row] = true
    · rw [hput e hu he]
      exact State.hubMove_keeps_open _ ho
    · unfold State.putBalValue
      rw [if_neg he]
      split
      · exact ho
      · rw [(u.countOob_mems c.val 1).1]
        exact ho
  have hall : ∀ (l : List Nat) (u : State), u.ownsShares c.val = true →
      (u.hbm.xfers.any (u.hubOpen c.val none true) = true ∨ ∃ e ∈ l, d.inBounds [e, b.row] = true) →
      (l.foldl (State.putBalValue c.val b d) u).hbm.xfers.any (u.hubOpen c.val none true) = true := by
    intro l
    induction l with
    | nil =>
      rintro u - (h | ⟨e, he, -⟩)
      · exact h
      · exact nomatch he
    | cons e l ih =>
      intro u hu h
      have hw := State.putBalValue_hubWork c.val b d u e
      have hopen : (u.putBalValue c.val b d e).hubOpen c.val none true = u.hubOpen c.val none true := by
        unfold State.hubOpen
        rw [hw.tick]
      refine hopen ▸ ih _ (hw.ownsShares.trans hu) ?_
      rw [hopen]
      rcases h with h | ⟨i, hi, hin⟩
      · exact .inl (hkeep e hu h)
      · rcases List.mem_cons.1 hi with rfl | hi
        · refine .inl ?_
          rw [hput i hu hin]
          exact State.hubMove_open _ fun h => nomatch linesOf_eq_nil.1 h
        · exact .inr ⟨i, hi, hin⟩
  have hopen : (s.putBalRow c.val b).hubOpen c.val none true = s.hubOpen c.val none true := by
    unfold State.hubOpen
    rw [(s.putBalRow_hubWork c.val b).tick]
  rw [hopen, State.putBalRow_of_desc hd]
  obtain ⟨e, he, hin⟩ := hin
  exact hall _ s howns (.inr ⟨e, List.mem_range.2 he, hin⟩)

/-- The row of a layer's latest update is written. -/
theorem CtxQuill.rowWritten_of_latest {q : CtxQuill} {layer : Nat} (h : q.balanced layer = true) :
    q.rowWritten layer (q.balOf layer).updates = { q with
      routes := mapIf (fun o => o.layer == layer) (fun o => { o with held := false }) q.routes
      bal := q.bal.map fun b => if b.1 = layer then (b.1, { b.2 with rowWritten := true, rowValues := [] }) else b } := by
  have hany : q.bal.any (fun b => b.1 == layer && b.2.updates == (q.balOf layer).updates) = true :=
    List.any_eq_true.2 ⟨_, SMap.mem_of_any {} h, Bool.and_eq_true_iff.2 ⟨beq_self_eq_true _, beq_self_eq_true _⟩⟩
  exact if_pos hany

theorem execBalRowWritten_of_waiting {s : State} {c : CtxId} {layer : Nat} (h : (s.ctx c.val).quill.balanced layer = true)
    (hw : ((s.ctx c.val).quill.balOf layer).rowWritten = false) :
    exec (.balRowWritten c layer) s = .next ((s.putBalRow c.val ((s.ctx c.val).quill.balOf layer)).hubDone c.val none
      [.balRow layer ((s.ctx c.val).quill.balOf layer).updates]) := by
  refine congrArg Host.Outcome.next (if_neg ?_)
  rintro (h' | h')
  · exact ne_true_of_eq_false h' h
  · exact ne_true_of_eq_false hw h'

/-- Settles O14: a reset drops the layer's state; a row outside HBM counts as written at once, one in HBM with its transfer. -/
theorem balancingRows : Obligations.BalancingRows := by
  intro s
  refine ⟨fun k n sem key hi hrec => ⟨fun hok => ?_, fun hbad => ?_⟩, fun c layer h => congrArg Host.Outcome.next (if_pos h),
    fun c layer hbal => ?_⟩
  · refine congrArg Host.Outcome.next ((onRecord_of_there hrec hi _).trans (if_neg ?_))
    exact ne_false_of_eq_true hok
  · exact congrArg Host.Outcome.next ((onRecord_of_there hrec hi _).trans (if_pos hbad))
  · intro b hwait
    have hexec := execBalRowWritten_of_waiting hbal hwait
    have hwork := s.putBalRow_hubWork c.val b
    generalize hu : s.putBalRow c.val b = u at hwork
    rw [hu] at hexec
    refine ⟨fun hplain hnone => ?_, fun d hd hformat hspace howns hin => ?_⟩
    · obtain ⟨hhbm, hstage⟩ := State.putBalRow_of_plain hplain
      rw [hu] at hhbm hstage
      have hdone : u.hubDone c.val none [.balRow layer b.updates] = u.updQuill c.val fun q => q.rowWritten layer b.updates := by
        refine (State.hubDone_of_none _ fun w x hx => ?_).trans ?_
        · rw [hhbm] at hx
          unfold State.hubOpen
          rw [hwork.tick]
          by_cases huid : x.uid = none
          · rw [beq_false_of_ne (hnone x hx huid), Bool.and_false]
          · rw [beq_false_of_ne huid, Bool.and_false, Bool.false_and, Bool.false_and]
        · change u.updQuill (keyCtx (2 * c.val)) (fun q => q.rowWritten layer b.updates) = _
          rw [keyCtx_two_mul]
      have hquill : ((u.updQuill c.val fun q => q.rowWritten layer b.updates).ctx c.val).quill =
          (s.ctx c.val).quill.rowWritten layer b.updates := by
        rw [← hwork.quill]
        exact congrArg Ctx.quill (SMap.get_put _ _ _ _)
      rw [CtxQuill.rowWritten_of_latest hbal] at hquill
      refine ⟨_, hexec.trans (congrArg _ hdone), fun p hp hlayer => ?_, fun o ho hlayer => ?_, ?_, fun j hj => ?_, ?_⟩
      · rw [hquill] at hp
        obtain ⟨x, -, rfl⟩ := List.mem_map.1 hp
        by_cases hx : x.1 = layer
        · rw [if_pos hx]
          exact ⟨rfl, rfl⟩
        · rw [if_neg hx] at hlayer
          exact absurd hlayer hx
      · rw [hquill] at ho
        obtain ⟨x, -, rfl⟩ := List.mem_map.1 ho
        by_cases hx : (x.layer == layer) = true
        · rw [if_pos hx]
        · rw [if_neg hx] at hlayer
          exact absurd (beq_iff_eq.2 hlayer) hx
      · rw [hquill]
      · exact (State.updCtx_ctx_ne _ _ _ _ hj).trans (hwork.2.1 j hj)
      · obtain ⟨⟨_, _, _, _, _, rfl⟩, -⟩ := hwork
        obtain rfl : _ = s.hbm := hhbm
        obtain rfl : _ = s.stageMem := hstage
        rfl
    · have hopen := State.putBalRow_open hd hformat hspace howns hin
      rw [hu] at hopen
      obtain ⟨x, hx, hxo⟩ := List.any_eq_true.1 hopen
      have hx' : x.ctx = c ∧ x.write = true := by
        unfold State.hubOpen at hxo
        simp only [Bool.and_eq_true, beq_iff_eq] at hxo
        obtain ⟨⟨⟨⟨-, hc⟩, -⟩, hw⟩, -⟩ := hxo
        exact ⟨Fin.ext hc, hw⟩
      refine ⟨_, { x with effects := x.effects ++ [.balRow layer b.updates] }, hexec.trans (congrArg _ (State.hubDone_of_write _ hopen)),
        ?_, hx'.1, hx'.2, List.mem_append_right _ (List.mem_singleton_self _), ?_, ?_, hwork.hbmMem⟩
      · refine List.mem_map.2 ⟨x, hx, if_pos hxo⟩
      · exact congrArg (fun q => CtxQuill.balOf q layer) hwork.quill
      · exact congrArg CtxQuill.routes hwork.quill

end Sys2Proof.Machine
end

section
/-! Routing: what an operation of the hub reads is what was there when it began, and a ROUTE is issued and completes
(R260 to R293). -/

namespace Sys2Proof.Machine

theorem foldl_filter_mapIf {α β : Type} {q p : α → Bool} {f : α → α} {g : β → α → β} (hq : ∀ x, q (f x) = q x)
    (hg : ∀ b x, g b (f x) = g b x) (l : List α) (b : β) :
    ((mapIf p f l).filter q).foldl g b = (l.filter q).foldl g b := by
  unfold mapIf
  induction l generalizing b with
  | nil => rfl
  | cons x l ih =>
    have hx : q (if p x then f x else x) = q x ∧ ∀ b, g b (if p x then f x else x) = g b x := by
      split
      · exact ⟨hq x, fun b => hg b x⟩
      · exact ⟨rfl, fun _ => rfl⟩
    rw [List.map_cons, List.filter_cons, List.filter_cons, hx.1]
    split
    · rw [List.foldl_cons, List.foldl_cons, hx.2, ih]
    · exact ih b

/-- A read of lines changes nothing that its context reads. -/
theorem State.hubMove_readOwn (s : State) (c : Nat) (uid : Option Nat) (w : Bool) (lines : List Nat) (d : Nat) (m : ScrubMem)
    (a n : Nat) : (s.hubMove c uid w lines []).readOwn d m a n = s.readOwn d m a n := by
  cases m with
  | hbm =>
    rw [State.readOwn_hbm, State.readOwn_hbm]
    unfold State.hubMove
    split
    · rfl
    · split
      · refine foldl_filter_mapIf (q := fun x : Xfer => x.ctx.val == d) (g := overlayXfer a)
          (f := fun x => { x with lines := x.lines ++ lines.filter (fun l => !x.lines.contains l), effects := x.effects ++ [] })
          (fun _ => rfl) (fun b x => ?_) _ _
        unfold overlayXfer
        rw [List.append_nil]
      · refine Eq.trans (congrArg _ (List.filter_append ..)) (List.foldl_append.trans ?_)
        rw [List.filter_cons, List.filter_nil]
        cases (Fin.ofNat 64 c).val == d <;> rfl
  | sram =>
    rw [State.hubMove_eq]
    rfl
  | reservoir =>
    rw [State.hubMove_eq]
    rfl
  | staging =>
    rw [State.hubMove_eq]
    rfl

/-- Context c reads the same of its tensors. -/
structure State.SameReads (c : Nat) (s t : State) : Prop where
  desc : ∀ i, t.desc c i = s.desc c i
  read : ∀ m a n, t.readOwn c m a n = s.readOwn c m a n
  base : ∀ space, t.shareBase c space = s.shareBase c space
  mems : t.sramMem = s.sramMem ∧ t.hbmMem = s.hbmMem ∧ t.resMem = s.resMem ∧ t.stageMem = s.stageMem

namespace State.SameReads
variable {c : Nat} {s t u : State}

theorem refl (c : Nat) (s : State) : s.SameReads c s := ⟨fun _ => rfl, fun _ _ _ => rfl, fun _ => rfl, rfl, rfl, rfl, rfl⟩

theorem trans (h : s.SameReads c t) (h' : t.SameReads c u) : s.SameReads c u :=
  ⟨fun i => (h'.desc i).trans (h.desc i), fun m a n => (h'.read m a n).trans (h.read m a n),
    fun i => (h'.base i).trans (h.base i), h'.mems.1.trans h.mems.1, h'.mems.2.1.trans h.mems.2.1,
    h'.mems.2.2.1.trans h.mems.2.2.1, h'.mems.2.2.2.trans h.mems.2.2.2⟩

/-- A change of contexts that leaves the descriptors alone. -/
theorem of_updCtx {d : Nat} {f : Ctx → Ctx} (hf : ∀ x, (f x).descs = x.descs) : s.SameReads c (s.updCtx d f) := by
  refine ⟨fun i => ?_, fun m a n => by cases m <;> rfl, fun _ => rfl, rfl, rfl, rfl, rfl⟩
  unfold State.desc
  by_cases h : c = d
  · subst h
    rw [State.updCtx_ctx, hf]
  · rw [State.updCtx_ctx_ne _ _ _ _ h]

theorem elem (h : s.SameReads c t) (k : Nat) (d : Desc) (co : List Nat) : t.readElem c k d co = s.readElem c k d co := by
  unfold State.readElem State.elemAddr State.absAddr
  rw [h.base, h.read]

theorem hubRead (h : s.SameReads c t) (k : Nat) (d : Desc) (co : List Nat) : t.hubRead c k d co = s.hubRead c k d co :=
  congrArg Prod.fst (h.elem k d co)

theorem biasRow (h : s.SameReads c t) (k bias row n : Nat) : t.biasRow c k bias row n = s.biasRow c k bias row n := by
  unfold State.biasRow
  rw [h.desc]
  split
  · rfl
  · simp only [h.hubRead]

theorem selectToken (h : s.SameReads c t) (k : Nat) (r : RouteRec) (bias : List F32) (i : Nat) :
    t.selectToken c k r bias i = s.selectToken c k r bias i := by
  have hkey : t.hashKey c k r i = s.hashKey c k r i := by
    unfold State.hashKey
    rw [h.desc]
    split
    · rfl
    · simp only [h.hubRead]
  have hscores : t.scores c k r i = s.scores c k r i := by
    unfold State.scores
    rw [h.desc]
    split
    · rfl
    · simp only [h.hubRead]
  unfold State.selectToken
  rw [hkey, hscores]

end State.SameReads

section
variable (s : State) (c : Nat)

theorem State.raiseFlags_sameReads (f : BitVec 16) : s.SameReads c (s.raiseFlags c f) := .of_updCtx fun _ => rfl

theorem State.countOob_sameReads (n : Nat) : s.SameReads c (s.countOob c n) := by
  unfold State.countOob
  split
  · exact .refl c s
  · exact .trans (t := s.updCtx c fun x => { x with oobCount := satAdd x.oobCount n }) (.of_updCtx fun _ => rfl)
      (State.raiseFlags_sameReads _ c _)

theorem State.updQuill_sameReads (f : CtxQuill → CtxQuill) : s.SameReads c (s.updQuill c f) := .of_updCtx fun _ => rfl

theorem State.hubMove_sameReads (uid : Option Nat) (w : Bool) (lines : List Nat) : s.SameReads c (s.hubMove c uid w lines []) := by
  refine ⟨?_, fun m a n => s.hubMove_readOwn c uid w lines c m a n, ?_, ?_⟩ <;> rw [State.hubMove_eq]
  · exact fun _ => rfl
  · exact fun _ => rfl
  · exact ⟨rfl, rfl, rfl, rfl⟩

theorem State.hubTouch_sameReads (k uid : Nat) (d : Desc) (l : List (List Nat)) : s.SameReads c (s.hubTouch c k uid d l) := by
  have hmove : s.SameReads c (if d.space = 1 then s.hubMove c (some uid) false (s.elemLines c k d l) [] else s) := by
    split
    · exact s.hubMove_sameReads c _ _ _
    · exact .refl c s
  unfold State.hubTouch
  dsimp only
  split
  · exact hmove
  · exact hmove.trans (State.countOob_sameReads _ c _)

end

/-! ## A token of a ROUTE -/

/-- The Quill's state with one token's selection noted. -/
def CtxQuill.withToken (q : CtxQuill) (base t : Nat) (x : Selection) : CtxQuill :=
  { q with
    assigns := q.assigns ++ tokenAssigns base t x.experts x.gates
    adjusted := q.adjusted ++ [x.adjusted], hashKeys := q.hashKeys ++ [x.key] }

/-- The outputs of one slot of a token. -/
def State.putSelected (c k uid : Nat) (r : RouteRec) (x : Selection) (t : Nat) (s : State) (j : Nat) : State :=
  let s := if r.expertOut = 0xFFFF then s else s.quillWriteTo c k uid r.expertOut [j, t] (r.base + x.experts.getD j 0)
  if r.gateOut = 0xFFFF then s else s.quillWriteTo c k uid r.gateOut [j, t] (x.gates.getD j 0).toNat

section
variable (c k uid : Nat) (r : RouteRec)

theorem State.putSelected_hubWork (x : Selection) (t : Nat) (s : State) (j : Nat) :
    s.HubWork c (s.putSelected c k uid r x t j) := by
  have hexpert : s.HubWork c (if r.expertOut = 0xFFFF then s else
      s.quillWriteTo c k uid r.expertOut [j, t] (r.base + x.experts.getD j 0)) :=
    .ite (.refl c s) (s.quillWriteTo_hubWork c k uid _ _ _)
  exact hexpert.trans (.ite (.refl c _) (State.quillWriteTo_hubWork _ c k uid _ _ _))

theorem State.routeTouch_hubWork (s : State) (t : Nat) : s.HubWork c (s.routeTouch c k uid r t) := by
  unfold State.routeTouch
  split
  · exact .refl c s
  · exact s.hubTouch_hubWork c k uid _ _

theorem State.routeTouch_sameReads (s : State) (t : Nat) : s.SameReads c (s.routeTouch c k uid r t) := by
  unfold State.routeTouch
  split
  · exact .refl c s
  · exact s.hubTouch_sameReads c k uid _ _

theorem State.biasTouch_hubWork (s : State) (row : Nat) : s.HubWork c (s.biasTouch c k uid r row) := by
  unfold State.biasTouch
  split
  · exact .refl c s
  · exact .ite (.refl c s) (s.hubTouch_hubWork c k uid _ _)

theorem State.biasTouch_sameReads (s : State) (row : Nat) : s.SameReads c (s.biasTouch c k uid r row) := by
  unfold State.biasTouch
  split
  · exact .refl c s
  · split
    · exact .refl c s
    · exact s.hubTouch_sameReads c k uid _ _

/-- A routed token notes its selection. -/
theorem State.routeToken_quill (s : State) (bias : List F32) (t : Nat) : ((s.routeToken c k uid r bias t).ctx c).quill =
    (s.ctx c).quill.withToken r.base t (s.selectToken c k r bias t) := by
  have hbefore := (s.routeTouch_hubWork c k uid r t).trans
    (State.raiseFlags_hubWork _ c (s.selectToken c k r bias t).flags)
  refine (State.HubWork.foldl (State.putSelected_hubWork c k uid r _ t) _ _).quill.trans ?_
  refine (congrArg Ctx.quill (SMap.get_put _ _ _ _)).trans ?_
  exact congrArg (fun q => CtxQuill.withToken q r.base t (s.selectToken c k r bias t)) hbefore.quill

/-- With no output tables a routed token writes nothing. -/
theorem State.routeToken_sameReads (s : State) (bias : List F32) (t : Nat) (he : r.expertOut = 0xFFFF) (hg : r.gateOut = 0xFFFF) :
    s.SameReads c (s.routeToken c k uid r bias t) := by
  have hbefore := (s.routeTouch_sameReads c k uid r t).trans
    (State.raiseFlags_sameReads _ c (s.selectToken c k r bias t).flags)
  unfold State.routeToken
  extract_lets x u
  change s.SameReads c ((List.range x.experts.length).foldl (State.putSelected c k uid r x t) u)
  have hnone (j : Nat) : u.putSelected c k uid r x t j = u := (if_pos hg).trans (if_pos he)
  rw [foldl_eq_self fun j _ => hnone j]
  exact hbefore.trans (State.updQuill_sameReads _ c _)

/-- All tokens of a ROUTE keep what else the Quill holds. -/
theorem State.foldl_routeToken_kept (bias : List F32) (l : List Nat) (s : State) :
    ((l.foldl (fun s t => s.routeToken c k uid r bias t) s).ctx c).quill.routes = (s.ctx c).quill.routes ∧
      ((l.foldl (fun s t => s.routeToken c k uid r bias t) s).ctx c).quill.assignLayer = (s.ctx c).quill.assignLayer := by
  induction l generalizing s with
  | nil => exact ⟨rfl, rfl⟩
  | cons t l ih =>
    obtain ⟨hroutes, hlayer⟩ := ih (s.routeToken c k uid r bias t)
    rw [State.routeToken_quill] at hroutes hlayer
    exact ⟨hroutes, hlayer⟩

/-- Without output tables all tokens are routed by what stood there when the first was. -/
theorem State.foldl_routeToken (bias : List F32) (he : r.expertOut = 0xFFFF) (hg : r.gateOut = 0xFFFF) (l : List Nat) (s : State) :
    s.SameReads c (l.foldl (fun s t => s.routeToken c k uid r bias t) s) ∧
      ((l.foldl (fun s t => s.routeToken c k uid r bias t) s).ctx c).quill.assigns = (s.ctx c).quill.assigns ++
        l.flatMap fun t => tokenAssigns r.base t (s.selectToken c k r bias t).experts (s.selectToken c k r bias t).gates := by
  induction l generalizing s with
  | nil => exact ⟨.refl c s, (List.append_nil _).symm⟩
  | cons t l ih =>
    have ht := s.routeToken_sameReads c k uid r bias t he hg
    obtain ⟨hsame, hassigns⟩ := ih (s.routeToken c k uid r bias t)
    refine ⟨ht.trans hsame, ?_⟩
    rw [State.routeToken_quill] at hassigns
    simp only [ht.selectToken] at hassigns
    rw [List.foldl_cons, hassigns, List.flatMap_cons, ← List.append_assoc]
    rfl

end

end Sys2Proof.Machine
end

section
/-! ROUTE is issued and completes (R260 to R293). -/

namespace Sys2Proof.Machine

theorem SMap.any_put {α : Type} (m : SMap α) (i : Nat) (v : α) : (m.put i v).any (fun b => b.1 == i) = true := by
  induction m with
  | nil => exact Bool.or_eq_true_iff.2 (.inl (beq_self_eq_true _))
  | cons x m ih =>
    obtain ⟨k, w⟩ := x
    unfold SMap.put
    split
    · exact Bool.or_eq_true_iff.2 (.inl (beq_self_eq_true _))
    · split
      · exact Bool.or_eq_true_iff.2 (.inl (beq_self_eq_true _))
      · exact Bool.or_eq_true_iff.2 (.inr ih)

theorem State.updQuill_congr {s : State} {c : Nat} {f g : CtxQuill → CtxQuill} (h : f (s.ctx c).quill = g (s.ctx c).quill) :
    s.updQuill c f = s.updQuill c g :=
  congrArg (fun q => { s with ctxs := s.ctxs.put c { s.ctx c with quill := q } }) h

theorem State.meterHub_sameReads (s : State) (c uid n : Nat) : s.SameReads c (s.meterHub c uid n) := by
  unfold State.meterHub State.meter State.updCmd
  exact .of_updCtx fun _ => rfl

/-- The balancing state that a ROUTE enters. -/
theorem BalState.enter_eq (b : BalState) (launch : Word) : b.enter launch = { b with
    epoch := match b.pendingAct with
      | some t => if t.toNat ≤ launch.toNat then b.epoch + 1 else b.epoch
      | none => b.epoch
    pendingAct := match b.pendingAct with
      | some t => if t.toNat ≤ launch.toNat then none else some t
      | none => none } := by
  unfold BalState.enter
  cases h : b.pendingAct with
  | none =>
    obtain ⟨_, _, _, _, _, _, _, _, _, _, _⟩ := b
    cases h
    rfl
  | some t =>
    dsimp only
    split
    · rfl
    · obtain ⟨_, _, _, _, _, _, _, _, _, _, _⟩ := b
      cases h
      rfl

theorem BalState.enter_pending (b : BalState) (launch : Word) :
    (b.enter launch).pendingAct = none ↔ ∀ t, b.pendingAct = some t → t.toNat ≤ launch.toNat := by
  rw [BalState.enter_eq]
  dsimp only
  cases b.pendingAct with
  | none => exact ⟨fun _ _ h => (nomatch h), fun _ => rfl⟩
  | some t =>
    dsimp only
    split
    · next h =>
      refine ⟨fun _ x hx => ?_, fun _ => rfl⟩
      cases Option.some.inj hx
      exact h
    · next h => exact ⟨fun hx => (nomatch hx), fun hall => absurd (hall t rfl) h⟩

section
variable (q : CtxQuill) (k : CoreId) (st : Stream) (r : RouteRec)

theorem CtxQuill.onRoute_of_none (hr : r.balance = false) (hq : q.balanced r.layer = false) : q.onRoute k st r = q := by
  unfold CtxQuill.onRoute
  rw [hr, hq]
  rfl

/-- The balancing state of a layer that a ROUTE leaves. -/
def CtxQuill.metBal : BalState :=
  if r.balance then
    { (q.balOf r.layer).enter st.launchTick with biasDesc := BitVec.ofNat 16 r.bias, eCount := r.experts, core := k }
  else (q.balOf r.layer).enter st.launchTick

theorem CtxQuill.onRoute_fields (h : r.balance = true ∨ q.balanced r.layer = true) :
    (q.onRoute k st r).balanced r.layer = true ∧ (q.onRoute k st r).balOf r.layer = q.metBal k st r ∧
      (q.onRoute k st r).moves = q.moves ∧ (q.onRoute k st r).assigns = q.assigns ∧ (q.onRoute k st r).routes = q.routes := by
  have hmet : ¬(!r.balance && !q.balanced r.layer) = true := by
    rcases h with h | h <;> rw [h] <;> simp
  unfold CtxQuill.onRoute CtxQuill.metBal
  rw [if_neg hmet]
  split
  · exact ⟨SMap.any_put _ _ _, SMap.get_put _ _ _ _, rfl, rfl, rfl⟩
  · exact ⟨SMap.any_put _ _ _, SMap.get_put _ _ _ _, rfl, rfl, rfl⟩

theorem CtxQuill.metBal_fields : (q.metBal k st r).epoch = (match (q.balOf r.layer).pendingAct with
      | some t => if t.toNat ≤ st.launchTick.toNat then (q.balOf r.layer).epoch + 1 else (q.balOf r.layer).epoch
      | none => (q.balOf r.layer).epoch) ∧
    ((q.metBal k st r).pendingAct = none ↔ ∀ t, (q.balOf r.layer).pendingAct = some t → t.toNat ≤ st.launchTick.toNat) ∧
    (q.metBal k st r).steps = (q.balOf r.layer).steps ∧ (q.metBal k st r).loads = (q.balOf r.layer).loads ∧
    (q.metBal k st r).rowWritten = (q.balOf r.layer).rowWritten ∧ (q.metBal k st r).rowValues = (q.balOf r.layer).rowValues ∧
    (q.metBal k st r).row = (q.balOf r.layer).row := by
  have hpending := (q.balOf r.layer).enter_pending st.launchTick
  have henter := (q.balOf r.layer).enter_eq st.launchTick
  unfold CtxQuill.metBal
  split
  · exact ⟨by rw [henter], hpending, by rw [henter], by rw [henter], by rw [henter], by rw [henter], by rw [henter]⟩
  · exact ⟨by rw [henter], hpending, by rw [henter], by rw [henter], by rw [henter], by rw [henter], by rw [henter]⟩

theorem CtxQuill.metBal_of_balance {r : RouteRec} (h : r.balance = true) :
    (q.metBal k st r).biasDesc = BitVec.ofNat 16 r.bias ∧ (q.metBal k st r).eCount = r.experts ∧ (q.metBal k st r).core = k := by
  unfold CtxQuill.metBal
  rw [if_pos h]
  exact ⟨rfl, rfl, rfl⟩

theorem CtxQuill.metBal_of_plain {r : RouteRec} (h : r.balance = false) :
    (q.metBal k st r).biasDesc = (q.balOf r.layer).biasDesc ∧ (q.metBal k st r).eCount = (q.balOf r.layer).eCount ∧
      (q.metBal k st r).core = (q.balOf r.layer).core := by
  unfold CtxQuill.metBal
  rw [if_neg (ne_true_of_eq_false h), BalState.enter_eq]
  exact ⟨rfl, rfl, rfl⟩

/-- The operation that a ROUTE gives the Quill, of the state it meets. -/
def CtxQuill.routeOp (b : Bytes) (sem : BitVec 16) : RouteOp :=
  { image := b, row := if q.balanced r.layer then (q.balOf r.layer).epoch % 2 else 0, core := k, uid := st.uid, sem := sem
    held := q.balanced r.layer && !(q.balOf r.layer).rowWritten &&
      (q.balOf r.layer).row == (if q.balanced r.layer then (q.balOf r.layer).epoch % 2 else 0)
    layer := r.layer, launchTick := st.launchTick }

theorem CtxQuill.routeOp_fields (b : Bytes) (sem : BitVec 16) : (q.routeOp k st r b sem).image = b ∧
    (q.routeOp k st r b sem).core = k ∧ (q.routeOp k st r b sem).sem = sem ∧ (q.routeOp k st r b sem).layer = r.layer ∧
    (q.routeOp k st r b sem).uid = st.uid := by
  unfold CtxQuill.routeOp
  exact ⟨rfl, rfl, rfl, rfl, rfl⟩

end

theorem CtxQuill.routeOp_of_balanced {q : CtxQuill} {r : RouteRec} (k : CoreId) (st : Stream) (b : Bytes) (sem : BitVec 16)
    (h : q.balanced r.layer = true) : (q.routeOp k st r b sem).row = (q.balOf r.layer).epoch % 2 ∧
      ((q.routeOp k st r b sem).held = true ↔ (q.balOf r.layer).rowWritten = false ∧
        (q.balOf r.layer).row = (q.routeOp k st r b sem).row) := by
  unfold CtxQuill.routeOp
  rw [h]
  simp

theorem CtxQuill.routeOp_of_none {q : CtxQuill} {r : RouteRec} (k : CoreId) (st : Stream) (b : Bytes) (sem : BitVec 16)
    (h : q.balanced r.layer = false) : (q.routeOp k st r b sem).row = 0 ∧ (q.routeOp k st r b sem).held = false := by
  unfold CtxQuill.routeOp
  rw [h]
  exact ⟨rfl, rfl⟩

section
variable {s : State} {k : CoreId} {key : Nat} {n : SReg} {sem : BitVec 16}

theorem exec_route (h : s.issues k key (.route k n sem)) (hrec : s.recordThere k key n) :
    let c := keyCtx key
    let st := (s.core k.val).stream key
    let r := parseRoute (s.recordIn k key n)
    let q := (s.ctx c).quill
    exec (.route k n sem) s = .next (if s.routeOk c r = false ∨ (r.balance && !s.balRouteOk c st r) = true ∨
        s.shareSize c 3 < q.stateUse + r.stage + (if r.balance && !q.balanced r.layer then 8 * r.experts + 64 else 0) then s.ctxFault c
      else (s.updStream k.val key Stream.advance).updQuill c fun q =>
        { q.onRoute k st r with
          routes := (q.onRoute k st r).routes ++ [(q.onRoute k st r).routeOp k st r (s.recordIn k key n) sem]
          assignStage := r.stage }) :=
  congrArg Host.Outcome.next (onRecord_of_there hrec h _)

/-- ROUTE_DONE of a ROUTE that is not held, in a slot of the Quill. -/
def State.routed (s : State) (c : CtxId) (op : RouteOp) (rest : List RouteOp) : State :=
  let r := parseRoute op.image
  let u := s.updQuill c.val fun q =>
    { q with routes := rest, assigns := [], assignLayer := r.layer, adjusted := [], hashKeys := [] }
  let v := u.biasTouch c.val op.core.val op.uid r op.row
  let w := if r.k = 0 then v else (List.range r.tokens).foldl (fun s t => s.routeToken c.val op.core.val op.uid r
    (u.biasRow c.val op.core.val r.bias op.row r.experts) t) v
  w.meterHub c.val op.uid (r.cycles (s.routeMoves c.val op.core.val r))

theorem exec_routeDone {c : CtxId} {op : RouteOp} {rest : List RouteOp} (h : (s.ctx c.val).quill.routes = op :: rest) :
    exec (.routeDone c) s = .next (if (op.held || !s.quillRuns c.val) = true then s
      else (s.routed c op rest).hubDone c.val (some op.uid) [.sem op.sem 1]) := by
  change execRouteDone c s = _
  unfold execRouteDone
  rw [h]
  rfl

theorem State.routed_of_k0 (s : State) (c : CtxId) {op : RouteOp} (rest : List RouteOp) (h : (parseRoute op.image).k = 0) :
    s.routed c op rest = (s.updQuill c.val fun q => { q with
      routes := rest, assigns := [], assignLayer := (parseRoute op.image).layer, adjusted := [], hashKeys := [] }).meterHub c.val op.uid
        48 := by
  have htouch (u : State) : u.biasTouch c.val op.core.val op.uid (parseRoute op.image) op.row = u := by
    unfold State.biasTouch
    split
    · rfl
    · exact if_pos (.inl h)
  have hcycles (m : Nat) : (parseRoute op.image).cycles m = 48 := if_pos (.inl h)
  unfold State.routed
  dsimp only
  rw [if_pos h, htouch, hcycles]

theorem State.routed_kept (s : State) (c : CtxId) (op : RouteOp) (rest : List RouteOp) :
    ((s.routed c op rest).ctx c.val).quill.routes = rest ∧
      ((s.routed c op rest).ctx c.val).quill.assignLayer = (parseRoute op.image).layer := by
  unfold State.routed
  extract_lets r u v w
  have hu : (u.ctx c.val).quill.routes = rest ∧ (u.ctx c.val).quill.assignLayer = r.layer :=
    ⟨(congrArg (fun x : Ctx => x.quill.routes) (SMap.get_put _ _ _ _) :),
      (congrArg (fun x : Ctx => x.quill.assignLayer) (SMap.get_put _ _ _ _) :)⟩
  have hv := (u.biasTouch_hubWork c.val op.core.val op.uid r op.row).quill
  have hw : (w.ctx c.val).quill.routes = (v.ctx c.val).quill.routes ∧
      (w.ctx c.val).quill.assignLayer = (v.ctx c.val).quill.assignLayer := by
    by_cases hk : r.k = 0
    · rw [show w = v from if_pos hk]
      exact ⟨rfl, rfl⟩
    · rw [show w = _ from if_neg hk]
      exact State.foldl_routeToken_kept c.val op.core.val op.uid r _ _ v
  rw [(State.meterHub_hubWork w c.val op.uid _).quill, hw.1, hw.2]
  exact hv ▸ hu

/-- Without output tables a ROUTE's assignments are the selection of each token, by what stood there. -/
theorem State.routed_assigns (s : State) (c : CtxId) {op : RouteOp} (rest : List RouteOp) (hk : (parseRoute op.image).k ≠ 0)
    (he : (parseRoute op.image).expertOut = 0xFFFF) (hg : (parseRoute op.image).gateOut = 0xFFFF) :
    s.SameReads c.val (s.routed c op rest) ∧ ((s.routed c op rest).ctx c.val).quill.assigns =
      (List.range (parseRoute op.image).tokens).flatMap fun i =>
        tokenAssigns (parseRoute op.image).base i
          (s.selectToken c.val op.core.val (parseRoute op.image)
            (s.biasRow c.val op.core.val (parseRoute op.image).bias op.row (parseRoute op.image).experts) i).experts
          (s.selectToken c.val op.core.val (parseRoute op.image)
            (s.biasRow c.val op.core.val (parseRoute op.image).bias op.row (parseRoute op.image).experts) i).gates := by
  unfold State.routed
  extract_lets r u v w
  have hu : s.SameReads c.val u := s.updQuill_sameReads c.val _
  have huv : u.SameReads c.val v := u.biasTouch_sameReads c.val op.core.val op.uid r op.row
  have hassigns : (v.ctx c.val).quill.assigns = [] := by
    rw [(u.biasTouch_hubWork c.val op.core.val op.uid r op.row).quill]
    exact (congrArg (fun x : Ctx => x.quill.assigns) (SMap.get_put _ _ _ _) :)
  obtain ⟨hsame, hlist⟩ := State.foldl_routeToken c.val op.core.val op.uid r
    (u.biasRow c.val op.core.val r.bias op.row r.experts) he hg (List.range r.tokens) v
  have hw : w = _ := if_neg hk
  rw [← hw, hassigns] at hlist
  rw [← hw] at hsame
  refine ⟨((hu.trans huv).trans hsame).trans (State.meterHub_sameReads w c.val _ _), ?_⟩
  rw [(State.meterHub_hubWork w c.val op.uid _).quill, hlist]
  simp only [(hu.trans huv).selectToken, hu.biasRow]
  rfl

end

/-- Settles O13: a ROUTE that fits joins the Quill's with its layer's row, and a completed one leaves its assignments. -/
theorem routesIssueAndComplete : Obligations.RoutesIssueAndComplete := by
  refine ⟨fun k n sem s key hi hrec => ?_, fun c s op rest hroutes => ?_⟩
  · intro c st b r q fits
    have hexec := exec_route hi hrec
    refine ⟨fun hbad => hexec.trans (congrArg _ (if_pos ?_)), fun hok hbal hfits => ?_⟩
    · rcases hbad with h | ⟨hr, h⟩ | h
      · exact .inl h
      · refine .inr (.inl ?_)
        rw [Bool.and_eq_true, Bool.not_eq_true']
        exact ⟨hr, h⟩
      · exact .inr (.inr (Nat.lt_of_not_le h))
    · obtain ⟨himage, hcore, hsem, hlayer, huid⟩ := (q.onRoute k st r).routeOp_fields k st r b sem
      refine ⟨(q.onRoute k st r).routeOp k st r b sem, q.onRoute k st r, hexec.trans (congrArg Host.Outcome.next ?_), himage, hcore,
        hsem, hlayer, huid, fun hr hq => ?_, fun hmet => ?_⟩
      · refine (if_neg ?_).trans ?_
        · rintro (h | h | h)
          · exact ne_true_of_eq_false h hok
          · rw [Bool.and_eq_true, Bool.not_eq_true'] at h
            exact ne_true_of_eq_false h.2 (hbal h.1)
          · exact absurd h (Nat.not_lt.2 hfits)
        · refine State.updQuill_congr (s := s.updStream k.val key Stream.advance) ?_
          have hkept : (q.onRoute k st r).routes = q.routes := by
            by_cases hmet : r.balance = true ∨ q.balanced r.layer = true
            · exact (q.onRoute_fields k st r hmet).2.2.2.2
            · rw [not_or, Bool.not_eq_true, Bool.not_eq_true] at hmet
              rw [q.onRoute_of_none k st r hmet.1 hmet.2]
          change { q.onRoute k st r with
            routes := (q.onRoute k st r).routes ++ [(q.onRoute k st r).routeOp k st r b sem], assignStage := r.stage } = _
          rw [hkept]
          rfl
      · have hnone := q.onRoute_of_none k st r hr hq
        refine ⟨hnone, ?_⟩
        rw [hnone]
        exact CtxQuill.routeOp_of_none k st b sem hq
      · intro b0 b'
        obtain ⟨hbalanced, hb', hmoves, hassigns, -⟩ := q.onRoute_fields k st r hmet
        obtain ⟨hrow, hheld⟩ := CtxQuill.routeOp_of_balanced k st b sem hbalanced
        have hmet : b' = q.metBal k st r := hb'
        obtain ⟨hepoch, hpending, hkept⟩ := q.metBal_fields k st r
        obtain ⟨hsteps, hloads, hwritten, hvalues, hbrow⟩ := hkept
        refine ⟨by rw [hmet]; exact hepoch, by rw [hmet]; exact hpending, by rw [hmet]; exact hsteps, by rw [hmet]; exact hloads,
          by rw [hmet]; exact hwritten, by rw [hmet]; exact hvalues, fun hr => ?_, fun hr => ?_, hrow, ?_, hmoves, hassigns⟩
        · rw [hmet]
          exact q.metBal_of_balance k st hr
        · rw [hmet]
          exact q.metBal_of_plain k st hr
        · rw [hheld, hb', hwritten, hbrow]
  · intro r
    have hexec := exec_routeDone hroutes
    have hgo (hheld : op.held = false) (hruns : s.quillRuns c.val = true) :
        exec (.routeDone c) s = .next ((s.routed c op rest).hubDone c.val (some op.uid) [.sem op.sem 1]) := by
      refine hexec.trans (congrArg _ (if_neg ?_))
      rw [hheld, hruns]
      exact Bool.false_ne_true
    refine ⟨fun h => hexec.trans (congrArg _ (if_pos ?_)), fun hheld hruns hk => ?_, fun hheld hruns => ⟨s.routed c op rest,
      hgo hheld hruns, (s.routed_kept c op rest).1, (s.routed_kept c op rest).2, fun hk he hg => ?_⟩⟩
    · rcases h with h | h <;> rw [h]
      · rfl
      · exact Bool.or_true _
    · rw [hgo hheld hruns, s.routed_of_k0 c rest hk]
    · obtain ⟨hsame, hassigns⟩ := s.routed_assigns c rest hk he hg
      exact ⟨hsame.mems.1, hsame.mems.2.1, hsame.mems.2.2.1, hassigns⟩

end Sys2Proof.Machine
end

section
/-! Movement operations: how they issue, and EXIT and QUEUE_RELEASE (R297 to R306, R330, R339 to R342). -/

namespace Sys2Proof.Machine

theorem SMap.put_put {α : Type} (m : SMap α) (i : Nat) (v w : α) : (m.put i v).put i w = m.put i w := by
  have hhead (t : SMap α) : SMap.put ((i, v) :: t) i w = (i, w) :: t := (if_neg (Nat.lt_irrefl i)).trans (if_pos rfl)
  induction m with
  | nil => exact hhead []
  | cons x m ih =>
    obtain ⟨k, u⟩ := x
    by_cases hlt : i < k
    · exact (congrArg (SMap.put · i w) (if_pos hlt)).trans ((hhead _).trans (if_pos hlt).symm)
    · by_cases heq : i = k
      · refine (congrArg (SMap.put · i w) ((if_neg hlt).trans (if_pos heq))).trans ((hhead _).trans ?_)
        exact ((if_neg hlt).trans (if_pos heq)).symm
      · have hput (z : α) (t : SMap α) : SMap.put ((k, u) :: t) i z = (k, u) :: t.put i z := (if_neg hlt).trans (if_neg heq)
        rw [hput, hput, hput, ih]

section
variable {s : State} {k : CoreId} {key : Nat} {n : SReg} {i : Instr}

theorem onMove_of_there (hmove : s.moveThere k key n) (h : s.issues k key i) (f : Nat → Stream → Nat → Bytes → Bytes → State) :
    onMove k n i s f = f key ((s.core k.val).stream key) (moveKey k (s.offsetIn k key n)) (s.recordIn k key n)
      (s.routeAt (keyCtx key) k.val (parseMove (s.recordIn k key n))) := by
  obtain ⟨hrec, hok⟩ := hmove
  unfold onMove
  rw [onRecord_of_there hrec h]
  exact if_pos hok

/-- The operation that joins the Quill's work. -/
def State.moveTodo (s : State) (k : CoreId) (key : Nat) (n : SReg) (sem : BitVec 16) (kind : MoveKind) : MoveTodo :=
  { kind := kind, key := moveKey k (s.offsetIn k key n), uid := ((s.core k.val).stream key).uid, sem := sem
    image := s.recordIn k key n, route := s.routeAt (keyCtx key) k.val (parseMove (s.recordIn k key n)) }

theorem State.moveTodo_fields (s : State) (k : CoreId) (key : Nat) (n : SReg) (sem : BitVec 16) (kind : MoveKind) :
    (s.moveTodo k key n sem kind).key = moveKey k (s.offsetIn k key n) ∧
      (s.moveTodo k key n sem kind).uid = ((s.core k.val).stream key).uid ∧ (s.moveTodo k key n sem kind).sem = sem ∧
      (s.moveTodo k key n sem kind).image = s.recordIn k key n ∧
      (s.moveTodo k key n sem kind).route = s.routeAt (keyCtx key) k.val (parseMove (s.recordIn k key n)) := by
  refine ⟨?_, ?_, ?_, ?_, ?_⟩ <;> dsimp only [State.moveTodo]

theorem moveIssue_of_bad {sem : BitVec 16} {kind : MoveKind} {ok : State → Nat → Bytes → Bytes → Bool} (hmove : s.moveThere k key n)
    (h : s.issues k key i) (hbad : (s.move (keyCtx key) (moveKey k (s.offsetIn k key n))).phase ≠ .complete ∨
      ok s (keyCtx key) (s.recordIn k key n) (s.routeAt (keyCtx key) k.val (parseMove (s.recordIn k key n))) = false) :
    moveIssue k n i sem kind s ok = s.ctxFault (keyCtx key) := by
  unfold moveIssue
  rw [onMove_of_there hmove h]
  exact if_pos hbad

theorem moveIssue_of_ok {sem : BitVec 16} {kind : MoveKind} {ok : State → Nat → Bytes → Bytes → Bool} (hmove : s.moveThere k key n)
    (h : s.issues k key i) (hphase : (s.move (keyCtx key) (moveKey k (s.offsetIn k key n))).phase = .complete)
    (hok : ok s (keyCtx key) (s.recordIn k key n) (s.routeAt (keyCtx key) k.val (parseMove (s.recordIn k key n))) = true) :
    moveIssue k n i sem kind s ok = ((s.updStream k.val key Stream.advance).updQuill (keyCtx key) fun q =>
      { q with todo := q.todo ++ [s.moveTodo k key n sem kind] }).moveNow (keyCtx key) := by
  unfold moveIssue
  rw [onMove_of_there hmove h]
  refine (if_neg ?_).trans rfl
  rintro (h | h)
  · exact h hphase
  · exact ne_true_of_eq_false h hok

end

/-! ## The Quill's slots -/

theorem State.quillRuns_congr {s t : State} {c : Nat} (hlife : (t.ctx c).life = (s.ctx c).life)
    (hsame : t = { s with ctxs := t.ctxs, cores := t.cores }) : t.quillRuns c = s.quillRuns c := by
  unfold State.quillRuns
  rw [hlife, hsame]
  rfl

/-- The state in which a movement operation has joined the Quill's work. -/
def State.moveJoined (s : State) (k : CoreId) (key : Nat) (l : List MoveTodo) : State :=
  (s.updStream k.val key Stream.advance).updQuill (keyCtx key) fun q => { q with todo := l }

section
variable (s : State) (k : CoreId) (key : Nat) (l : List MoveTodo)

theorem State.moveJoined_quill : ((s.moveJoined k key l).ctx (keyCtx key)).quill = { (s.ctx (keyCtx key)).quill with todo := l } :=
  congrArg Ctx.quill (SMap.get_put _ _ _ _)

theorem State.moveJoined_runs : (s.moveJoined k key l).quillRuns (keyCtx key) = s.quillRuns (keyCtx key) :=
  State.quillRuns_congr (congrArg Ctx.life (SMap.get_put _ _ _ _) :) rfl

theorem State.moveJoined_stream : ((s.moveJoined k key l).core k.val).stream key = ((s.core k.val).stream key).advance :=
  State.updStream_stream ..

theorem State.moveJoined_serving : ((s.moveJoined k key l).ctx (keyCtx key)).serving = (s.ctx (keyCtx key)).serving :=
  (congrArg Ctx.serving (SMap.get_put _ _ _ _) :)

theorem State.moveJoined_life : ((s.moveJoined k key l).ctx (keyCtx key)).life = (s.ctx (keyCtx key)).life :=
  (congrArg Ctx.life (SMap.get_put _ _ _ _) :)

theorem State.moveJoined_move (r : Nat) : (s.moveJoined k key l).move (keyCtx key) r = s.move (keyCtx key) r := by
  unfold State.move
  rw [State.moveJoined_quill]

theorem State.moveJoined_sameReads : s.SameReads (keyCtx key) (s.moveJoined k key l) :=
  .trans (t := s.updStream k.val key Stream.advance)
    ⟨fun _ => rfl, fun m a n => by cases m <;> rfl, fun _ => rfl, rfl, rfl, rfl, rfl⟩
    (State.updQuill_sameReads _ _ _)

end

/-- Outside the Quill's slots the operation waits; in such a slot, with nothing before it, it does its work. -/
theorem State.moveNow_joined (s : State) (k : CoreId) (key : Nat) (t : MoveTodo) :
    let u := (s.updStream k.val key Stream.advance).updQuill (keyCtx key) fun q => { q with todo := q.todo ++ [t] }
    (s.quillRuns (keyCtx key) = false → u.moveNow (keyCtx key) = u) ∧
      (s.quillRuns (keyCtx key) = true → (s.ctx (keyCtx key)).quill.todo = [] →
        u.moveNow (keyCtx key) = (s.moveJoined k key []).doMove (keyCtx key) t) := by
  intro u
  have hu : u = s.moveJoined k key ((s.ctx (keyCtx key)).quill.todo ++ [t]) := State.updQuill_congr rfl
  rw [hu]
  refine ⟨fun h => ?_, fun h hnone => ?_⟩
  · exact if_neg (ne_true_of_eq_false ((s.moveJoined_runs k key _).trans h))
  · refine (if_pos ((s.moveJoined_runs k key _).trans h)).trans ?_
    rw [hnone, s.moveJoined_quill]
    have hclear : (s.moveJoined k key ([] ++ [t])).updQuill (keyCtx key) (fun q => { q with todo := [] }) =
        s.moveJoined k key [] := by
      unfold State.moveJoined State.updQuill State.updCtx
      refine congrArg (fun m => { (s.updStream k.val key Stream.advance) with ctxs := m }) ((SMap.put_put _ _ _ _).trans ?_)
      exact congrArg (fun x : Ctx => SMap.put _ _ { x with quill := { x.quill with todo := [] } }) (SMap.get_put _ _ _ _)
    rw [hclear]
    rfl

end Sys2Proof.Machine
end

section
/-! QUEUE_RELEASE and EXIT (R330, R339 to R342). -/

namespace Sys2Proof.Machine

/-! ## Addresses and reads that the work of the hub leaves -/

theorem State.HubWork.elemAddr {c : Nat} {s t : State} (h : s.HubWork c t) (k : Nat) (d : Desc) (co : List Nat) :
    t.elemAddr c k d co = s.elemAddr c k d co := by
  obtain ⟨⟨_, _, _, _, _, rfl⟩, -⟩ := h
  rfl

theorem State.HubWork.cfg {c : Nat} {s t : State} (h : s.HubWork c t) : t.cfg = s.cfg := by
  obtain ⟨⟨_, _, _, _, _, rfl⟩, -⟩ := h
  rfl

theorem State.HubWork.serving {c : Nat} {s t : State} (h : s.HubWork c t) : (t.ctx c).serving = (s.ctx c).serving := by
  obtain ⟨-, -, _, _, _, h⟩ := h
  rw [h]

/-- A row outside HBM reads as before where its memory is as before. -/
theorem State.rowBytes_of_mem {c : Nat} {s t : State} (h : s.HubWork c t) (k : Nat) {d : Desc} (hspace : d.space ≠ 1)
    (hmem : ∀ a n, t.readMem (spaceMem d.space) a n = s.readMem (spaceMem d.space) a n) (co : List Nat) :
    t.rowBytes c k d co = s.rowBytes c k d co := by
  have hread (u : State) (a n : Nat) : u.readOwn c (spaceMem d.space) a n = u.readMem (spaceMem d.space) a n := by
    match d.space, hspace with
    | 0, _ => rfl
    | 2, _ => rfl
    | _ + 3, _ => rfl
  unfold State.rowBytes State.hubRead State.readElem
  simp only [hread, hmem, h.elemAddr]

/-! ## A token exits -/

section
variable (c k uid : Nat) (m : MoveRec)

theorem State.putRow_hubWork (s : State) (u : Option Nat) (d : Desc) (co : List Nat) (off : Nat) (b : Bytes) :
    s.HubWork c (s.putRow c k u d co off b) :=
  .ite (s.hubPut_hubWork c _ _ _ _) (.ite (.refl c s) (s.countOob_hubWork c _))

theorem State.putHbm_hubWork (s : State) (off : Nat) (b : Bytes) (u : Option Nat) : s.HubWork c (s.putHbm c off b u) :=
  .ite (s.hubPut_hubWork c u _ _ _) (.refl c s)

theorem State.setExitBit_hubWork (s : State) (t : Nat) : s.HubWork c (s.setExitBit c k uid m t) := by
  unfold State.setExitBit
  split
  · exact .refl c s
  · exact .ite (.refl c s) (s.putHbm_hubWork c _ _ _)

theorem State.setExitBit_mems (s : State) (t : Nat) : (s.setExitBit c k uid m t).sramMem = s.sramMem ∧
    (s.setExitBit c k uid m t).resMem = s.resMem := by
  unfold State.setExitBit
  split
  · exact ⟨rfl, rfl⟩
  · dsimp only
    split
    · exact ⟨rfl, rfl⟩
    · rw [State.putHbm_eq]
      exact ⟨rfl, rfl⟩

/-- The writes of a token that exits, before it is counted. -/
def State.exitWrites (s : State) (t : Nat) : State :=
  let s := if m.exitDesc = 0xFFFF then s else s.quillWriteTo c k uid m.exitDesc [t] 1
  let s := s.setExitBit c k uid m t
  match s.desc c m.out, s.desc c m.final with
    | some a, some b => (s.hubTouch c k uid a (a.rowAt [t])).putRow c k (some uid) b [t] 0 (s.rowBytes c k a [t])
    | _, _ => s

theorem State.exitToken_eq (s : State) (t : Nat) : s.exitToken c k uid m t =
    (s.exitWrites c k uid m t).updQuill c fun q => { q with exited := satAdd q.exited 1 } := rfl

theorem State.exitWrites_hubWork (s : State) (t : Nat) : s.HubWork c (s.exitWrites c k uid m t) := by
  unfold State.exitWrites
  extract_lets u v
  have hu : s.HubWork c u := .ite (.refl c s) (s.quillWriteTo_hubWork c k uid _ _ _)
  have hv : u.HubWork c v := u.setExitBit_hubWork c k uid m t
  refine (hu.trans hv).trans ?_
  split
  · exact (v.hubTouch_hubWork c k uid _ _).trans (State.putRow_hubWork c k _ _ _ _ _ _)
  · exact .refl c v

/-- A token whose flag lies in SRAM and whose rows lie in the reservoir. -/
theorem State.exitWrites_mems {s : State} {t : Nat} {e out final : Desc} (hexit : m.exitDesc ≠ 0xFFFF)
    (he : s.desc c m.exitDesc = some e) (hout : s.desc c m.out = some out) (hfinal : s.desc c m.final = some final)
    (hespace : e.space = 0) (hospace : out.space = 2) (hfspace : final.space = 2) (hein : e.inBounds [t] = true)
    (hfin : final.inBounds [0, t] = true) (howns : s.ownsShares c = true) :
    (s.exitWrites c k uid m t).sramMem = s.sramMem.writeBytes (s.elemAddr c k e [t]) (toLe e.size 1) ∧
      (s.exitWrites c k uid m t).resMem = s.resMem.writeBytes (s.elemAddr c k final [0, t])
        ((s.rowBytes c k out [t]).take (final.ext 0 * final.size)) := by
  unfold State.exitWrites
  extract_lets u v
  have hu : u = s.writeMem .sram (s.elemAddr c k e [t]) (toLe e.size 1) := by
    refine (if_neg hexit).trans ?_
    unfold State.quillWriteTo State.quillWrite State.hubPut
    rw [he]
    dsimp only
    rw [if_pos hein, howns, hespace]
    rfl
  have hsu : s.HubWork c u := .ite (.refl c s) (s.quillWriteTo_hubWork c k uid _ _ _)
  have hsv : s.HubWork c v := hsu.trans (u.setExitBit_hubWork c k uid m t)
  obtain ⟨hvsram, hvres⟩ : v.sramMem = u.sramMem ∧ v.resMem = u.resMem := u.setExitBit_mems c k uid m t
  have hres : v.resMem = s.resMem := by
    rw [hvres, hu]
    rfl
  have hrow : v.rowBytes c k out [t] = s.rowBytes c k out [t] := by
    refine State.rowBytes_of_mem hsv k (by rw [hospace]; decide) (fun a n => ?_) [t]
    rw [hospace]
    exact congrArg (fun m => Memory.readBytes m a n) hres
  rw [hsv.desc, hsv.desc, hout, hfinal]
  dsimp only
  rw [hrow]
  have htouch := v.hubTouch_hubWork c k uid out (out.rowAt [t])
  have hmems := (v.hubTouch_sameReads c k uid out (out.rowAt [t])).mems
  generalize v.hubTouch c k uid out (out.rowAt [t]) = w at htouch hmems
  have hput : w.putRow c k (some uid) final [t] 0 (s.rowBytes c k out [t]) =
      w.writeMem .reservoir (s.elemAddr c k final [0, t]) ((s.rowBytes c k out [t]).take (final.ext 0 * final.size)) := by
    unfold State.putRow State.hubPut
    rw [if_pos hfin, (hsv.trans htouch).ownsShares, howns, hfspace, (hsv.trans htouch).elemAddr]
    rfl
  rw [hput]
  refine ⟨?_, ?_⟩
  · change w.sramMem = _
    rw [hmems.1, hvsram, hu]
    rfl
  · change w.resMem.writeBytes _ _ = _
    rw [hmems.2.2.1, hres]

end

section
variable (c k uid : Nat) (m : MoveRec)

theorem State.exitToken_exited (s : State) (t : Nat) :
    ((s.exitToken c k uid m t).ctx c).quill.exited = satAdd (s.ctx c).quill.exited 1 := by
  rw [State.exitToken_eq, ← (s.exitWrites_hubWork c k uid m t).quill]
  exact (congrArg (fun x : Ctx => x.quill.exited) (SMap.get_put _ _ _ _) :)

theorem State.exitToken_mems {s : State} {t : Nat} {e out final : Desc} (hexit : m.exitDesc ≠ 0xFFFF)
    (he : s.desc c m.exitDesc = some e) (hout : s.desc c m.out = some out) (hfinal : s.desc c m.final = some final)
    (hespace : e.space = 0) (hospace : out.space = 2) (hfspace : final.space = 2) (hein : e.inBounds [t] = true)
    (hfin : final.inBounds [0, t] = true) (howns : s.ownsShares c = true) :
    (s.exitToken c k uid m t).sramMem = s.sramMem.writeBytes (s.elemAddr c k e [t]) (toLe e.size 1) ∧
      (s.exitToken c k uid m t).resMem = s.resMem.writeBytes (s.elemAddr c k final [0, t])
        ((s.rowBytes c k out [t]).take (final.ext 0 * final.size)) :=
  State.exitWrites_mems c k uid m hexit he hout hfinal hespace hospace hfspace hein hfin howns

end

/-! ## EXIT at work -/

/-- The tests of EXIT read an element of each token. -/
def State.exitTouch (c k uid : Nat) (r : RouteRec) (s : State) (i : Nat) : State :=
  match s.desc c i with
    | none => s
    | some d => s.hubTouch c k uid d (tabulate (fun t => [t]) r.tokens)

/-- A token is tested, and exits where it passes. -/
def State.exitStep (c k uid : Nat) (m : MoveRec) (s : State) (t : Nat) : State :=
  if !s.exitedTok c k m t && s.exitTestHolds c k m t then s.exitToken c k uid m t else s

/-- The state in which an EXIT has read what its tests need. -/
def State.exitTouched (s : State) (c k : Nat) (x : MoveTodo) : State :=
  ((s.exitTouch c k x.uid (parseRoute x.route) (parseMove x.image).prob).exitTouch c k x.uid (parseRoute x.route)
    (parseMove x.image).seqDesc)

/-- The state in which an EXIT has tested its tokens. -/
def State.exitDone (s : State) (c k : Nat) (x : MoveTodo) : State :=
  (List.range (parseRoute x.route).tokens).foldl (State.exitStep c k x.uid (parseMove x.image)) (s.exitTouched c k x)

theorem State.doExit_eq (s : State) (c : Nat) (x : MoveTodo) :
    s.doExit c x = (s.exitDone c (s.move c x.key).core.val x).hubDone c (some x.uid) [.sem x.sem 1] := rfl

section
variable (c k : Nat) (x : MoveTodo)

theorem State.exitTouch_hubWork (uid : Nat) (r : RouteRec) (s : State) (i : Nat) : s.HubWork c (s.exitTouch c k uid r i) := by
  unfold State.exitTouch
  split
  · exact .refl c s
  · exact s.hubTouch_hubWork c k uid _ _

theorem State.exitTouch_sameReads (uid : Nat) (r : RouteRec) (s : State) (i : Nat) : s.SameReads c (s.exitTouch c k uid r i) := by
  unfold State.exitTouch
  split
  · exact .refl c s
  · exact s.hubTouch_sameReads c k uid _ _

theorem State.exitTouched_hubWork (s : State) : s.HubWork c (s.exitTouched c k x) :=
  (s.exitTouch_hubWork c k _ _ _).trans (State.exitTouch_hubWork c k _ _ _ _)

theorem State.exitTouched_sameReads (s : State) : s.SameReads c (s.exitTouched c k x) :=
  (s.exitTouch_sameReads c k _ _ _).trans (State.exitTouch_sameReads c k _ _ _ _)

/-- An EXIT leaves the cores and the work that waits in the Quill. -/
theorem State.exitDone_kept (s : State) :
    (s.exitDone c k x).cores = s.cores ∧ ((s.exitDone c k x).ctx c).quill.todo = (s.ctx c).quill.todo := by
  have hstep (u : State) (t : Nat) : (u.exitStep c k x.uid (parseMove x.image) t).cores = u.cores ∧
      ((u.exitStep c k x.uid (parseMove x.image) t).ctx c).quill.todo = (u.ctx c).quill.todo := by
    unfold State.exitStep
    split
    · have hwork := u.exitWrites_hubWork c k x.uid (parseMove x.image) t
      rw [State.exitToken_eq]
      refine ⟨hwork.cores, ?_⟩
      rw [← hwork.quill]
      exact (congrArg (fun x : Ctx => x.quill.todo) (SMap.get_put _ _ _ _) :)
    · exact ⟨rfl, rfl⟩
  have htouch := s.exitTouched_hubWork c k x
  exact List.foldlRecOn (motive := fun u : State => u.cores = s.cores ∧ (u.ctx c).quill.todo = (s.ctx c).quill.todo) _ _
    ⟨htouch.cores, congrArg CtxQuill.todo htouch.quill⟩
    fun u hu t _ => ⟨(hstep u t).1.trans hu.1, (hstep u t).2.trans hu.2⟩

end

theorem State.SameReads.rowBytes {c : Nat} {s t : State} (h : s.SameReads c t) (k : Nat) (d : Desc) (co : List Nat) :
    t.rowBytes c k d co = s.rowBytes c k d co := by
  unfold State.rowBytes
  simp only [h.hubRead]

theorem State.SameReads.exitedTok {c : Nat} {s t : State} (h : s.SameReads c t) (k : Nat) (m : MoveRec) (i : Nat) :
    t.exitedTok c k m i = s.exitedTok c k m i := by
  unfold State.exitedTok
  simp only [h.desc, h.hubRead]

/-- The test of a token reads as before where the configuration does too. -/
theorem State.SameReads.exitTestHolds {c : Nat} {s t : State} (h : s.SameReads c t) (hcfg : t.cfg = s.cfg) (k : Nat) (m : MoveRec)
    (i : Nat) : t.exitTestHolds c k m i = s.exitTestHolds c k m i := by
  unfold State.exitTestHolds State.cfgNum
  rw [h.desc, hcfg]
  simp only [h.hubRead]

/-- The rules of EXIT beside those of its record. -/
def State.exitRules (s : State) (c : Nat) (b rb : Bytes) : Bool := s.exitOk c (parseMove b) (parseRoute rb)

theorem exec_exitTest (s : State) (k : CoreId) (n : SReg) (sem : BitVec 16) : exec (.exitTest k n sem) s =
    .next (moveIssue k n (.exitTest k n sem) sem .exit s State.exitRules) := rfl

/-- Settles O18: a queue whose rows have all come is released; an EXIT faults, waits for its slot, or tests its tokens. -/
theorem queueReleaseAndExit : Obligations.QueueReleaseAndExit := by
  intro s
  refine ⟨fun c q => ?_, fun k n sem key hi hmove => ?_⟩
  · intro due
    have hexec : exec (.queueRelease c q) s = .next (match due with
      | none => s
      | some x => if s.accepting c.val then s.releaseQueue c.val x q else s) := rfl
    refine ⟨fun x hacc hdue => ?_, fun h => ?_⟩
    · rw [hexec, hdue]
      exact congrArg Host.Outcome.next (if_pos hacc)
    · rw [hexec]
      cases hdue : due with
      | none => rfl
      | some x =>
        rcases h with h | h
        · exact congrArg Host.Outcome.next (if_neg (ne_true_of_eq_false h))
        · rw [h] at hdue
          cases hdue
  · intro c rec' b m r st home hphase
    rw [exec_exitTest]
    have hgo (hok : s.exitRules c b (s.routeAt c k.val m) = true) := moveIssue_of_ok (sem := sem) (kind := .exit) hmove hi hphase hok
    refine ⟨fun hbad => ?_, fun hok hruns => ?_, fun hok hruns hnone => ?_⟩
    · have hrules : s.exitRules c b (s.routeAt c k.val m) = false := hbad
      rw [moveIssue_of_bad hmove hi (.inr hrules)]
    · rw [hgo hok, (s.moveNow_joined k key _).1 hruns]
      rfl
    · obtain ⟨htkey, htuid, htsem, htimage, htroute⟩ := s.moveTodo_fields k key n sem .exit
      have hexec := (hgo hok).trans ((s.moveNow_joined k key _).2 hruns hnone)
      have hdo : (s.moveJoined k key []).doMove c (s.moveTodo k key n sem .exit) =
          (s.moveJoined k key []).doExit c (s.moveTodo k key n sem .exit) := rfl
      generalize s.moveTodo k key n sem .exit = x at *
      rw [hdo, State.doExit_eq, htkey, htuid, htsem, State.moveJoined_move] at hexec
      have hsame := s.moveJoined_sameReads k key []
      have htouched := (s.moveJoined k key []).exitTouched_sameReads c home x
      have hwork := (s.moveJoined k key []).exitTouched_hubWork c home x
      obtain ⟨hcores, htodo⟩ := (s.moveJoined k key []).exitDone_kept c home x
      have htest (i : Nat) : ((s.moveJoined k key []).exitTouched c home x).exitedTok c home m i = s.exitedTok c home m i ∧
          ((s.moveJoined k key []).exitTouched c home x).exitTestHolds c home m i = s.exitTestHolds c home m i :=
        ⟨(hsame.trans htouched).exitedTok home m i, (hsame.trans htouched).exitTestHolds (hwork.cfg.trans rfl) home m i⟩
      have hdone : (s.moveJoined k key []).exitDone c home x = (List.range r.tokens).foldl
          (State.exitStep c home x.uid m) ((s.moveJoined k key []).exitTouched c home x) := by
        unfold State.exitDone
        rw [htroute, htimage]
      have htodo' : ((s.moveJoined k key []).ctx c).quill.todo = [] := by rw [State.moveJoined_quill]
      have hexited : ((s.moveJoined k key []).ctx c).quill.exited = (s.ctx c).quill.exited := by rw [State.moveJoined_quill]
      refine ⟨_, congrArg _ hexec, ?_, htodo.trans htodo', fun hall => ?_, fun hone hnot hpass => ?_⟩
      · rw [← s.moveJoined_stream k key []]
        unfold State.core
        rw [hcores]
      · have hself : (s.moveJoined k key []).exitDone c home x = (s.moveJoined k key []).exitTouched c home x := by
          refine hdone.trans (foldl_eq_self fun i hi => if_neg ?_)
          rw [(htest i).1, (htest i).2]
          rcases hall i (List.mem_range.1 hi) with h | h <;> rw [h] <;> simp
        obtain ⟨hsram, hhbm, hres, hstage⟩ := (hsame.trans htouched).mems
        rw [hself]
        exact ⟨hsram, hhbm, hres, hstage, hwork.serving.trans (s.moveJoined_serving k key []),
          (congrArg CtxQuill.exited hwork.quill).trans hexited⟩
      · have hexits : (s.moveJoined k key []).exitDone c home x =
            ((s.moveJoined k key []).exitTouched c home x).exitToken c home x.uid m 0 := by
          refine hdone.trans ?_
          rw [hone, show List.range 1 = [0] from rfl, List.foldl_cons, List.foldl_nil]
          unfold State.exitStep
          rw [(htest 0).1, (htest 0).2, hnot, hpass]
          exact if_pos rfl
        rw [hexits]
        refine ⟨?_, fun e out final hexit he hout hfinal hespace hospace hfspace hein hfin howns => ?_⟩
        · rw [State.exitToken_exited, hwork.quill, hexited]
        · have hreads : s.SameReads c ((s.moveJoined k key []).exitTouched c home x) := hsame.trans htouched
          have hlife := hwork.life.trans (s.moveJoined_life k key [])
          obtain ⟨hsram, hres⟩ := State.exitToken_mems c home x.uid m hexit ((hreads.desc _).trans he) ((hreads.desc _).trans hout)
            ((hreads.desc _).trans hfinal) hespace hospace hfspace hein hfin
            (by unfold State.ownsShares at howns ⊢; rw [hlife]; exact howns)
          have haddr (d : Desc) (co : List Nat) : ((s.moveJoined k key []).exitTouched c home x).elemAddr c home d co =
              s.elemAddr c home d co := by
            unfold State.elemAddr State.absAddr
            rw [hreads.base]
          have hrow := hreads.rowBytes home out [0]
          rw [haddr, hreads.mems.1] at hsram
          rw [haddr, hrow, hreads.mems.2.2.1] at hres
          exact ⟨hsram, hres⟩

end Sys2Proof.Machine
end

section
/-! COMBINE (R304, R306, R334 to R338). -/

namespace Sys2Proof.Machine

/-! ## An element of a combined row -/

section
variable {c : Nat} {s : State} {x : SMap Ctx} (hdescs : (({ s with ctxs := x } : State).ctx c).descs = (s.ctx c).descs)
  (hdists : (({ s with ctxs := x } : State).ctx c).dists = (s.ctx c).dists)

theorem State.sameReads_of_ctxs (hdescs : (({ s with ctxs := x } : State).ctx c).descs = (s.ctx c).descs) :
    s.SameReads c { s with ctxs := x } := by
  refine ⟨fun i => ?_, fun m a n => by cases m <;> rfl, fun _ => rfl, rfl, rfl, rfl, rfl⟩
  unfold State.desc
  rw [hdescs]

include hdists in
theorem State.roundBy_of_ctxs (round : Nat) (seed : BitVec 64) (d : Desc) (co : List Nat) :
    ({ s with ctxs := x } : State).roundBy c round seed d co = s.roundBy c round seed d co := by
  have hindex : ({ s with ctxs := x } : State).globalIndex c d co = s.globalIndex c d co := by
    unfold State.globalIndex
    rw [hdists]
    rfl
  unfold State.roundBy
  rw [hindex]
  rfl

include hdescs hdists in
/-- Beside descriptors and distribution records a combined element rests on nothing of a context. -/
theorem State.combineElem_of_ctxs (k : Nat) (m : MoveRec) (ret out : Desc) (kept : List Assign) (seed : BitVec 64) (t i : Nat) :
    ({ s with ctxs := x } : State).combineElem c k m ret out kept seed t i = s.combineElem c k m ret out kept seed t i := by
  have hreads := State.sameReads_of_ctxs hdescs
  have hround := State.roundBy_of_ctxs hdists
  unfold State.combineElem
  simp only [hreads.desc, hreads.hubRead, hround]

end

/-- The combined value of a single kept slot without a base row. -/
theorem State.combineElem_of_single (s : State) (c k : Nat) {m : MoveRec} (ret out : Desc) (seed : BitVec 64) (t i : Nat) (a : Assign)
    (hbase : m.base = 0xFFFF) : s.combineElem c k m ret out [a] seed t i =
      (let (y, f) := ret.toF32 (s.hubRead c k ret [i, a.slot, t])
       let (p, g) := enterProduct 96 m.anchor (f32 a.gate) (f32 y)
       let (e, h) := ({} : XaElem).addAll [(p, f ||| g)]
       let (w, j) := out.fromXa (s.roundBy c m.round seed out [i, t]) 96 m.anchor e
       (w, h ||| j)) := by
  unfold State.combineElem
  rw [if_pos hbase]
  rfl

/-! ## A token is combined -/

/-- One element of a combined row is written. -/
def State.combineStep (c : Nat) (x : MoveState) (ret out : Desc) (t : Nat) (s : State) (i : Nat) : State :=
  let w := s.combineElem c x.core.val (parseMove x.image) ret out (x.assigns.filter fun a => a.token == t && a.row.isSome)
    x.combineSeed t i
  (s.quillWrite c x.core.val x.combineUid out [i, t] w.1).raiseFlags c w.2

/-- The writes of a combined row. -/
def State.combineWrites (s : State) (c : Nat) (x : MoveState) (t : Nat) : State :=
  match s.desc c (parseMove x.image).ret, s.desc c (parseMove x.image).out with
  | some ret, some out => (List.range (out.ext 0)).foldl (State.combineStep c x ret out t)
      (s.combineTouch c x.core.val x.combineUid (parseMove x.image) ret
        (x.assigns.filter fun a => a.token == t && a.row.isSome) t)
  | _, _ => s

/-- The token counts as summed. -/
def State.summing (s : State) (c : Nat) (x : MoveState) (t : Nat) : State :=
  s.updMove c x.record fun y => { y with summed := t :: y.summed }

theorem State.combineRow_eq (s : State) (c : Nat) (x : MoveState) (t : Nat) : s.combineRow c x t =
    ((s.summing c x t).combineWrites c x t).hubDone c (some x.combineUid) [.moved x.record (.combined t)] := rfl

section
variable (c : Nat)

theorem State.combineTouch_hubWork (s : State) (k uid : Nat) (m : MoveRec) (ret : Desc) (kept : List Assign) (t : Nat) :
    s.HubWork c (s.combineTouch c k uid m ret kept t) := by
  unfold State.combineTouch
  dsimp only
  split
  · exact s.hubTouch_hubWork c k uid _ _
  · exact (s.hubTouch_hubWork c k uid _ _).trans (State.hubTouch_hubWork _ c k uid _ _)

theorem State.combineWrites_hubWork (s : State) (x : MoveState) (t : Nat) : s.HubWork c (s.combineWrites c x t) := by
  unfold State.combineWrites
  split
  · refine (State.combineTouch_hubWork c s _ _ _ _ _ _).trans (.foldl (fun u i => ?_) _ _)
    exact (u.quillWrite_hubWork c _ _ _ _ _).trans (State.raiseFlags_hubWork _ c _)
  · exact .refl c s

theorem State.summing_move (s : State) (x : MoveState) (t : Nat) : (s.summing c x t).move c x.record =
    { s.move c x.record with summed := t :: (s.move c x.record).summed } := by
  have h : ((s.summing c x t).ctx c).quill = _ := congrArg Ctx.quill (SMap.get_put _ _ _ _)
  unfold State.move
  rw [h]
  exact SMap.get_put _ _ _ _

/-- The end of a combined row leaves what is summed. -/
theorem State.hubDone_combined_summed (s : State) (uid : Option Nat) (key t : Nat) :
    ((s.hubDone c uid [.moved key (.combined t)]).move c key).summed = (s.move c key).summed := by
  unfold State.hubDone
  dsimp only
  split
  · rfl
  · change ((s.updQuill (keyCtx (2 * c)) fun q => q.after key (.combined t)).move c key).summed = _
    rw [keyCtx_two_mul]
    have h : ((s.updQuill c fun q => q.after key (.combined t)).ctx c).quill = (s.ctx c).quill.after key (.combined t) :=
      congrArg Ctx.quill (SMap.get_put _ _ _ _)
    unfold State.move
    rw [h]
    unfold CtxQuill.after
    split
    · exact (congrArg MoveState.summed (SMap.get_put _ _ _ _) :)
    · rfl

theorem State.combineRow_summed (s : State) (x : MoveState) (t : Nat) : t ∈ ((s.combineRow c x t).move c x.record).summed := by
  rw [State.combineRow_eq, State.hubDone_combined_summed]
  have hwork := (s.summing c x t).combineWrites_hubWork c x t
  have hsum := s.summing_move c x t
  unfold State.move at hsum ⊢
  rw [hwork.quill, hsum]
  exact List.mem_cons_self

end

/-- A record that has summed a token is not ready for it. -/
theorem State.tokenReady_of_summed {s : State} {c token : Nat} {x : MoveState} (h : token ∈ x.summed) :
    s.tokenReady c token x = false := by
  unfold State.tokenReady
  rw [List.contains_iff_mem.2 h]
  simp

/-- A touched tensor that does not lie in HBM only has its elements out of bounds counted. -/
theorem State.hubTouch_of_plain (s : State) (c k uid : Nat) {d : Desc} (l : List (List Nat)) (h : d.space ≠ 1) :
    ∃ x, s.hubTouch c k uid d l = { s with ctxs := x } := by
  unfold State.hubTouch
  rw [if_neg h]
  dsimp only
  split
  · exact ⟨_, rfl⟩
  · unfold State.countOob
    split
    · exact ⟨_, rfl⟩
    · exact ⟨_, rfl⟩

/-- A row of one element in SRAM. -/
theorem State.combineWrites_of_one {s : State} {c t : Nat} {x : MoveState} {ret out : Desc}
    (hret : s.desc c (parseMove x.image).ret = some ret) (hout : s.desc c (parseMove x.image).out = some out)
    (hbase : (parseMove x.image).base = 0xFFFF) (hrspace : ret.space ≠ 1) (hospace : out.space = 0) (hone : out.ext 0 = 1)
    (hin : out.inBounds [0, t] = true) (howns : s.ownsShares c = true) : ∃ ctxs, s.combineWrites c x t =
      { s with ctxs := ctxs, sramMem := s.sramMem.writeBytes (s.elemAddr c x.core.val out [0, t]) (toLe out.size
        (s.combineElem c x.core.val (parseMove x.image) ret out (x.assigns.filter fun a => a.token == t && a.row.isSome)
          x.combineSeed t 0).1) } := by
  have htouch : s.combineTouch c x.core.val x.combineUid (parseMove x.image) ret
      (x.assigns.filter fun a => a.token == t && a.row.isSome) t = s.hubTouch c x.core.val x.combineUid ret
        ((x.assigns.filter fun a => a.token == t && a.row.isSome).flatMap fun a => ret.rowAt [a.slot, t]) := by
    unfold State.combineTouch
    dsimp only
    rw [if_pos hbase]
  have hwork := s.hubTouch_hubWork c x.core.val x.combineUid ret
    ((x.assigns.filter fun a => a.token == t && a.row.isSome).flatMap fun a => ret.rowAt [a.slot, t])
  obtain ⟨ctxs, hctxs⟩ := s.hubTouch_of_plain c x.core.val x.combineUid (d := ret)
    ((x.assigns.filter fun a => a.token == t && a.row.isSome).flatMap fun a => ret.rowAt [a.slot, t]) hrspace
  unfold State.combineWrites
  rw [hret, hout]
  dsimp only
  rw [htouch, hone, show List.range 1 = [0] from rfl, List.foldl_cons, List.foldl_nil, hctxs]
  rw [hctxs] at hwork
  obtain ⟨-, -, _, _, _, hown⟩ := hwork
  have helem := State.combineElem_of_ctxs (c := c) (s := s) (x := ctxs) (by rw [hown]) (by rw [hown]) x.core.val (parseMove x.image) ret out
    (x.assigns.filter fun a => a.token == t && a.row.isSome) x.combineSeed t 0
  have howns' : ({ s with ctxs := ctxs } : State).ownsShares c = true := by
    unfold State.ownsShares at howns ⊢
    rw [hown]
    exact howns
  unfold State.combineStep State.quillWrite State.hubPut
  dsimp only
  rw [helem, if_pos hin, howns', hospace]
  exact ⟨_, rfl⟩

/-- A record that is kept notes a combined token. -/
theorem CtxQuill.after_combined {q : CtxQuill} {key : Nat} (t : Nat) (h : q.moves.any (fun m => m.1 == key) = true) :
    ((q.after key (.combined t)).moves.get {} key).combined = t :: (q.moves.get {} key).combined := by
  unfold CtxQuill.after
  rw [if_pos h]
  exact (congrArg MoveState.combined (SMap.get_put _ _ _ _) :)

theorem exec_combine {s : State} {k : CoreId} {n : SReg} {sem : BitVec 16} {key : Nat} (hi : s.issues k key (.combine k n sem))
    (hmove : s.moveThere k key n) (hphase : (s.move (keyCtx key) (moveKey k (s.offsetIn k key n))).phase = .complete) :
    exec (.combine k n sem) s = .next ((s.updStream k.val key Stream.advance).updMove (keyCtx key)
      (moveKey k (s.offsetIn k key n)) fun x => { x with
        combineUid := ((s.core k.val).stream key).uid, image := s.recordIn k key n
        route := s.routeAt (keyCtx key) k.val (parseMove (s.recordIn k key n)), combining := true, combineSem := sem
        summed := [], combined := [], combineSeed := Config.roundSeed (keyCtx key) ((s.core k.val).stream key).pc }) :=
  congrArg Host.Outcome.next ((onMove_of_there hmove hi _).trans (if_neg (not_not_intro hphase)))

theorem exec_combineTokenStart_of_ready {s : State} {c : CtxId} {token : Nat} {x : MoveState}
    (hx : s.moveWhere c.val (s.tokenReady c.val token) = some x) (hruns : s.quillRuns c.val = true) :
    exec (.combineTokenStart c token) s = .next ((s.combineRow c.val x token).meterHub c.val x.combineUid
      (ceilDiv (x.expectContrib.get 0 token * s.rowLen c.val (parseMove x.image)) 1024)) := by
  change execCombineTokenStart c token s = _
  unfold execCombineTokenStart
  rw [hx]
  exact congrArg Host.Outcome.next (if_neg (ne_false_of_eq_true hruns))

/-- A row of one element in SRAM, with no transfer of its command, is written at once and its token combined. -/
theorem State.combineRow_of_one {s : State} {c t : Nat} {x : MoveState} {ret out : Desc}
    (hret : s.desc c (parseMove x.image).ret = some ret) (hout : s.desc c (parseMove x.image).out = some out)
    (hbase : (parseMove x.image).base = 0xFFFF) (hrspace : ret.space ≠ 1) (hospace : out.space = 0) (hone : out.ext 0 = 1)
    (hin : out.inBounds [0, t] = true) (howns : s.ownsShares c = true)
    (hnone : ∀ y ∈ s.hbm.xfers, y.uid = some x.combineUid → y.submitted ≠ s.tick.now) :
    (s.combineRow c x t).sramMem = s.sramMem.writeBytes (s.elemAddr c x.core.val out [0, t]) (toLe out.size
        (s.combineElem c x.core.val (parseMove x.image) ret out (x.assigns.filter fun a => a.token == t && a.row.isSome)
          x.combineSeed t 0).1) ∧
      ((s.combineRow c x t).move c x.record).combined = t :: (s.move c x.record).combined ∧
      (s.combineRow c x t).hbmMem = s.hbmMem ∧ (s.combineRow c x t).resMem = s.resMem := by
  have hreads : s.SameReads c (s.summing c x t) := by
    unfold State.summing State.updMove
    exact s.updQuill_sameReads c _
  have hquill : ((s.summing c x t).ctx c).quill = { (s.ctx c).quill with
      moves := (s.ctx c).quill.moves.put x.record { s.move c x.record with summed := t :: (s.move c x.record).summed } } :=
    congrArg Ctx.quill (SMap.get_put _ _ _ _)
  have hlife : ((s.summing c x t).ctx c).life = (s.ctx c).life := (congrArg Ctx.life (SMap.get_put _ _ _ _) :)
  have hwork := (s.summing c x t).combineWrites_hubWork c x t
  obtain ⟨ctxs, hwrites⟩ := State.combineWrites_of_one (t := t) ((hreads.desc _).trans hret) ((hreads.desc _).trans hout) hbase hrspace
    hospace hone hin (by unfold State.ownsShares at howns ⊢; rw [hlife]; exact howns)
  have helem := State.combineElem_of_ctxs (c := c) (s := s) (x := (s.summing c x t).ctxs)
    (congrArg Ctx.descs (SMap.get_put _ _ _ _) :) (congrArg Ctx.dists (SMap.get_put _ _ _ _) :) x.core.val (parseMove x.image) ret out
    (x.assigns.filter fun a => a.token == t && a.row.isSome) x.combineSeed t 0
  rw [show (s.summing c x t).combineElem c x.core.val (parseMove x.image) ret out
    (x.assigns.filter fun a => a.token == t && a.row.isSome) x.combineSeed t 0 = _ from helem] at hwrites
  have hopen (w : Bool) (y : Xfer) (hy : y ∈ s.hbm.xfers) :
      ((s.summing c x t).combineWrites c x t).hubOpen c (some x.combineUid) w y = false := by
    unfold State.hubOpen
    rw [hwork.tick]
    by_cases huid : y.uid = some x.combineUid
    · rw [beq_false_of_ne (show y.submitted ≠ (s.summing c x t).tick.now from hnone y hy huid), Bool.and_false]
    · rw [beq_false_of_ne huid, Bool.and_false, Bool.false_and, Bool.false_and]
  have hrow : s.combineRow c x t = ((s.summing c x t).combineWrites c x t).updQuill c fun q => q.after x.record (.combined t) := by
    rw [State.combineRow_eq, State.hubDone_of_none _ fun w y hy => hopen w y (by rw [hwrites] at hy; exact hy)]
    change State.updQuill _ (keyCtx (2 * c)) (fun q => q.after x.record (.combined t)) = _
    rw [keyCtx_two_mul]
  rw [hrow]
  refine ⟨?_, ?_, ?_, ?_⟩
  · rw [hwrites]
    rfl
  · have hafter : ((((s.summing c x t).combineWrites c x t).updQuill c fun q => q.after x.record (.combined t)).ctx c).quill =
        ((s.summing c x t).ctx c).quill.after x.record (.combined t) := by
      rw [← hwork.quill]
      exact congrArg Ctx.quill (SMap.get_put _ _ _ _)
    unfold State.move
    rw [hafter, CtxQuill.after_combined t (by rw [hquill]; exact SMap.any_put _ _ _), hquill]
    exact (congrArg (fun y : MoveState => t :: y.combined) (SMap.get_put _ _ _ _) :)
  · rw [hwrites]
    rfl
  · rw [hwrites]
    rfl

/-- Settles O17: a ready token is summed once, its row written, and the earliest combining that is over ends. -/
theorem combineTokens : Obligations.CombineTokens := by
  intro s
  refine ⟨fun k n sem key hi hmove => ?_, fun c token => ⟨fun h => ?_, fun x hx hruns => ?_⟩,
    fun c k m ret out seed t i a hbase => s.combineElem_of_single c k ret out seed t i a hbase, fun c => ⟨fun h => ?_, fun x hx => ?_⟩⟩
  · intro c rec' st hphase
    have hexec := exec_combine hi hmove hphase
    refine ⟨{ s.move c rec' with
        combineUid := st.uid, image := s.recordIn k key n
        route := s.routeAt c k.val (parseMove (s.recordIn k key n)), combining := true, combineSem := sem
        summed := [], combined := [], combineSeed := Config.roundSeed c st.pc }, hexec, ?_⟩
    generalize s.recordIn k key n = b
    generalize s.routeAt c k.val (parseMove b) = rb
    exact ⟨rfl, rfl, rfl, rfl, rfl, rfl, rfl, rfl, rfl, hphase, rfl⟩
  · change execCombineTokenStart c token s = _
    unfold execCombineTokenStart
    split
    · rfl
    · next x hx =>
      rcases h with h | h
      · rw [hx] at h
        cases h
      · exact congrArg Host.Outcome.next (if_pos h)
  · have hexec := exec_combineTokenStart_of_ready hx hruns
    have hmeter (u : State) (uid n : Nat) : (u.meterHub c.val uid n).move c.val x.record = u.move c.val x.record := by
      unfold State.move
      rw [(u.meterHub_hubWork c.val uid n).quill]
    have hsummed := s.combineRow_summed c.val x token
    refine ⟨_, hexec, ?_, ?_, fun ret out hret hout hbase hrspace hospace hone hin howns hnone => ?_⟩
    · rw [hmeter]
      exact hsummed
    · rw [hmeter]
      exact State.tokenReady_of_summed hsummed
    · intro w
      obtain ⟨hsram, hcombined, hhbm, hres⟩ := State.combineRow_of_one hret hout hbase hrspace hospace hone hin howns hnone
      refine ⟨hsram, ?_, hhbm, hres⟩
      rw [hmeter, hcombined]
      exact List.mem_cons_self
  · change execCombineDone c s = _
    unfold execCombineDone
    rw [h]
  · change execCombineDone c s = _
    unfold execCombineDone
    rw [hx]

end Sys2Proof.Machine
end

section
/-! SCATTER and RETURN (R303, R306, R323 to R332). -/

namespace Sys2Proof.Machine

/-- The next hop rests on the topology. -/
theorem State.nextHop_congr {s t : State} (htopo : t.topo = s.topo) (dst : Nat) : t.nextHop dst = s.nextHop dst := by
  have hok : t.hopOk = s.hopOk := by
    unfold State.hopOk
    rw [htopo]
  have hgood (addr a e : Nat) (plus : Bool) (n : Nat) : t.goodHops addr a e plus n = s.goodHops addr a e plus n := by
    induction n generalizing addr with
    | zero => rfl
    | succ n ih =>
      unfold State.goodHops
      rw [hok, ih]
  unfold State.nextHop State.expressOk State.axisExtent
  simp only [htopo, hgood]

/-- Whether a packet is lost rests on the topology, the pair and the links' states. -/
theorem State.packetLost_congr {s t : State} (htopo : t.topo = s.topo) (hpair : t.pair = s.pair)
    (hlinks : ∀ l, (t.link l).state = (s.link l).state) (c : Nat) (dst : BitVec 16) : t.packetLost c dst = s.packetLost c dst := by
  unfold State.packetLost State.mirrored State.silent
  simp only [htopo, hpair, State.nextHop_congr htopo, hlinks]

/-! ## What sending the rows of context c changes -/

/-- What the reads and the sends of a movement operation of context c leave. -/
structure State.Sends (c : Nat) (s t : State) : Prop where
  reads : s.SameReads c t
  quill : (t.ctx c).quill = (s.ctx c).quill
  cores : t.cores = s.cores
  cfg : t.cfg = s.cfg
  topo : t.topo = s.topo
  pair : t.pair = s.pair
  links : ∀ l, (t.link l).state = (s.link l).state
  out : ∀ o ∈ s.out, o ∈ t.out

namespace State.Sends
variable {c : Nat} {s t u : State}

theorem refl (c : Nat) (s : State) : s.Sends c s := ⟨.refl c s, rfl, rfl, rfl, rfl, rfl, fun _ => rfl, fun _ h => h⟩

theorem trans (h : s.Sends c t) (h' : t.Sends c u) : s.Sends c u :=
  ⟨h.reads.trans h'.reads, h'.quill.trans h.quill, h'.cores.trans h.cores, h'.cfg.trans h.cfg, h'.topo.trans h.topo,
    h'.pair.trans h.pair, fun l => (h'.links l).trans (h.links l), fun o ho => h'.out o (h.out o ho)⟩

theorem foldl {α : Type} {f : State → α → State} (h : ∀ (s : State) x, s.Sends c (f s x)) (l : List α) (s : State) :
    s.Sends c (l.foldl f s) := by
  induction l generalizing s with
  | nil => exact refl c s
  | cons x l ih => exact (h s x).trans (ih (f s x))

/-- What one of the steps sends, from a state that differs by sends only, stands in the output at the end. -/
theorem foldl_out {α : Type} {f : State → α → State} (h : ∀ (s : State) x, s.Sends c (f s x)) {o : Output} {x : α} {l : List α}
    (hx : x ∈ l) {u : State} (hu : s.Sends c u) (hout : ∀ t : State, s.Sends c t → o ∈ (f t x).out) : o ∈ (l.foldl f u).out := by
  induction l generalizing u with
  | nil => exact nomatch hx
  | cons y l ih =>
    rcases List.mem_cons.1 hx with rfl | hx
    · exact (foldl h l _).out o (hout u hu)
    · exact ih hx (hu.trans (h u y))

theorem move (h : s.Sends c t) (key : Nat) : t.move c key = s.move c key := by
  unfold State.move
  rw [h.quill]

theorem packetLost (h : s.Sends c t) (dst : BitVec 16) : t.packetLost c dst = s.packetLost c dst :=
  State.packetLost_congr h.topo h.pair h.links c dst

theorem mapElem (h : s.Sends c t) (k : Nat) (m : MoveRec) (e : Nat) : t.mapElem c k m e = s.mapElem c k m e := by
  unfold State.mapElem
  simp only [h.reads.desc, h.reads.hubRead]

theorem rowDevice (h : s.Sends c t) (x : MoveState) (m : MoveRec) (r : RouteRec) (a : Assign) :
    t.rowDevice c x m r a = s.rowDevice c x m r a := by
  unfold State.rowDevice
  rw [h.mapElem]

theorem queueEntry (h : s.Sends c t) (k : Nat) (m : MoveRec) (q : Nat) : t.queueEntry c k m q = s.queueEntry c k m q := by
  have hsize (space : Nat) : t.shareSize c space = s.shareSize c space := by
    unfold State.shareSize State.shareFull State.cfgNum
    rw [h.cfg]
  unfold State.queueEntry State.sramShare State.inShare State.absAddr State.readMem
  simp only [hsize, h.reads.base, h.reads.mems.1]

end State.Sends

section
variable (s : State) (c : Nat)

theorem State.hubTouch_sends (k uid : Nat) (d : Desc) (l : List (List Nat)) : s.Sends c (s.hubTouch c k uid d l) := by
  have hwork := s.hubTouch_hubWork c k uid d l
  refine ⟨s.hubTouch_sameReads c k uid d l, hwork.quill, hwork.cores, hwork.cfg, ?_, ?_, ?_, ?_⟩ <;>
    obtain ⟨⟨_, _, _, _, _, h⟩, -⟩ := hwork <;> rw [h]
  · exact fun _ => rfl
  · exact fun _ h => h

/-- A change of the context beside its descriptors and its Quill. -/
theorem State.updCtx_sends {f : Ctx → Ctx} (hf : ∀ x, (f x).descs = x.descs ∧ (f x).quill = x.quill) : s.Sends c (s.updCtx c f) :=
  ⟨.of_updCtx fun x => (hf x).1, (congrArg Ctx.quill (State.updCtx_ctx s c f)).trans (hf _).2, rfl, rfl, rfl, rfl,
    fun _ => rfl, fun _ h => h⟩

theorem State.meter_sends (uid n : Nat) : s.Sends c (s.meter c uid n) := by
  unfold State.meter State.updCmd
  exact s.updCtx_sends c fun _ => ⟨rfl, rfl⟩

theorem State.digestOutput_sends (uid kind dest off : Nat) (b : Bytes) : s.Sends c (s.digestOutput c uid kind dest off b) := by
  unfold State.digestOutput
  split
  · exact s.updCtx_sends c fun _ => ⟨rfl, rfl⟩
  · exact .refl c s

theorem State.emit_sends (o : Output) : s.Sends c (s.emit o) :=
  ⟨⟨fun _ => rfl, fun m a n => by cases m <;> rfl, fun _ => rfl, rfl, rfl, rfl, rfl⟩, rfl, rfl, rfl, rfl, rfl, fun _ => rfl,
    fun _ h => List.mem_cons_of_mem _ h⟩

theorem State.updLink_sends (l : Nat) {f : Link → Link} (hf : ∀ k, (f k).state = k.state) : s.Sends c (s.updLink l f) := by
  refine ⟨⟨fun _ => rfl, fun m a n => by cases m <;> rfl, fun _ => rfl, rfl, rfl, rfl, rfl⟩, rfl, rfl, rfl, rfl, rfl, fun j => ?_,
    fun _ h => h⟩
  by_cases h : j = l
  · subst h
    rw [State.updLink_link, hf]
  · rw [State.updLink_link_ne _ _ _ _ h]

end

section
variable (s : State) (uid : Nat) (p : Packet)

/-- A packet over a link that is UP. -/
def State.packetOut (l : Nat) : State :=
  ((s.updLink l fun k => { k with queue := k.queue ++ packetFlits (s.hopVc l none) p }).emit (.packet p)).meter p.ctx.val uid
    ((packetFlits (s.hopVc l none) p).length * s.cfgNum 0x3010 8)

theorem State.packetOut_sends (l : Nat) : s.Sends p.ctx.val (s.packetOut uid p l) :=
  ((s.updLink_sends _ l (f := fun k => { k with queue := k.queue ++ packetFlits (s.hopVc l none) p }) fun _ => rfl).trans
    (State.emit_sends _ _ (.packet p))).trans (State.meter_sends _ _ _ _)

theorem State.queuePacket_of_up {l : Nat} (hhop : s.nextHop p.dst.toNat = some l) (hup : (s.link l).state = .up) :
    s.queuePacket uid p = s.packetOut uid p l := by
  unfold State.queuePacket
  dsimp only
  rw [hhop]
  exact if_pos hup

theorem State.queuePacket_sends : s.Sends p.ctx.val (s.queuePacket uid p) := by
  have hlost : s.Sends p.ctx.val (s.updCtx p.ctx.val fun x => { x with unroutable := satAdd x.unroutable 1 }) :=
    s.updCtx_sends _ fun _ => ⟨rfl, rfl⟩
  cases hhop : s.nextHop p.dst.toNat with
  | none =>
    unfold State.queuePacket
    dsimp only
    rw [hhop]
    exact hlost
  | some l =>
    by_cases hup : (s.link l).state = .up
    · rw [s.queuePacket_of_up uid p hhop hup]
      exact s.packetOut_sends uid p l
    · unfold State.queuePacket
      dsimp only
      rw [hhop]
      dsimp only
      rw [if_neg hup]
      exact hlost

/-- The state with a packet's digest noted. -/
def State.packetNoted : State := s.digestOutput p.ctx.val uid 1 p.dst.toNat (packetTarget p.use) p.data

theorem State.sendPacket_eq : s.sendPacket uid p = if p.dst = s.topo.selfAddr then (s.packetNoted uid p).emit (.packet p)
    else if (s.mirrored p.ctx.val && s.silent p.ctx.val) = true then s.packetNoted uid p
    else (s.packetNoted uid p).queuePacket uid p := by
  have hnoted := s.digestOutput_sends p.ctx.val uid 1 p.dst.toNat (packetTarget p.use) p.data
  unfold State.sendPacket State.packetNoted State.mirrored State.silent
  dsimp only
  rw [hnoted.topo, hnoted.pair]

theorem State.sendPacket_sends : s.Sends p.ctx.val (s.sendPacket uid p) := by
  have hnoted : s.Sends p.ctx.val (s.packetNoted uid p) := s.digestOutput_sends _ _ _ _ _ _
  rw [State.sendPacket_eq]
  split
  · exact hnoted.trans (State.emit_sends _ _ _)
  · split
    · exact hnoted
    · exact hnoted.trans (State.queuePacket_sends _ _ _)

/-- A packet to this device, or one that is not lost on a device that speaks, goes out. -/
theorem State.sendPacket_out (h : p.dst = s.topo.selfAddr ∨ (s.packetLost p.ctx.val p.dst = false ∧
    (s.mirrored p.ctx.val = false ∨ s.silent p.ctx.val = false))) : Output.packet p ∈ (s.sendPacket uid p).out := by
  have hnoted : s.Sends p.ctx.val (s.packetNoted uid p) := s.digestOutput_sends _ _ _ _ _ _
  rw [State.sendPacket_eq]
  by_cases hself : p.dst = s.topo.selfAddr
  · rw [if_pos hself]
    exact List.mem_cons_self
  · obtain ⟨hlost, hspeaks⟩ := h.resolve_left hself
    have hmuted : (s.mirrored p.ctx.val && s.silent p.ctx.val) = false := by
      rcases hspeaks with h | h <;> rw [h]
      · rfl
      · exact Bool.and_false _
    rw [if_neg hself, if_neg (ne_true_of_eq_false hmuted)]
    rw [← hnoted.packetLost] at hlost
    have hmuted' : ((s.packetNoted uid p).mirrored p.ctx.val && (s.packetNoted uid p).silent p.ctx.val) = false := by
      unfold State.mirrored State.silent at hmuted ⊢
      rw [hnoted.pair]
      exact hmuted
    have hne : (p.dst != (s.packetNoted uid p).topo.selfAddr) = true := by
      rw [hnoted.topo]
      exact bne_iff_ne.2 hself
    unfold State.packetLost at hlost
    rw [hne, hmuted'] at hlost
    cases hhop : (s.packetNoted uid p).nextHop p.dst.toNat with
    | none =>
      rw [hhop] at hlost
      cases hlost
    | some l =>
      rw [hhop] at hlost
      have hup : ((s.packetNoted uid p).link l).state = .up := by simpa using hlost
      rw [State.queuePacket_of_up _ _ _ hhop hup]
      exact List.mem_cons_self

end

end Sys2Proof.Machine
end

section
/-! SCATTER and RETURN (R303, R306, R323 to R332). -/

namespace Sys2Proof.Machine

theorem mem_sortBy {α : Type} (key : α → Nat) (x : α) (l : List α) : x ∈ sortBy key l ↔ x ∈ l := by
  have h : ∀ (l acc : List α), x ∈ l.foldl (fun acc y => insertBy key y acc) acc ↔ x ∈ acc ∨ x ∈ l := by
    intro l
    induction l with
    | nil => exact fun acc => ⟨.inl, fun h => h.resolve_right fun h => nomatch h⟩
    | cons y l ih =>
      intro acc
      rw [List.foldl_cons, ih, mem_insertBy, List.mem_cons]
      rw [or_assoc]
      exact or_left_comm
  exact (h l []).trans ⟨fun h => h.resolve_left fun h => (nomatch h), .inr⟩

/-- A packet of a row that a SCATTER sends: of a device, with the queue and the tag that state s gives. -/
def State.scatterPacket (s : State) (c : Nat) (x : MoveState) (m : MoveRec) (r : RouteRec) (a : Assign) (row : Nat)
    (src dst : BitVec 16) (p : Nat × Bytes) : Packet :=
  { ctx := Fin.ofNat 64 c, src := src, dst := dst
    use := .queueRow (Fin.ofNat 4096 x.group) x.step (mapQueue (s.mapElem c x.core.val m (r.placeOf a))) row p.1
      (originTag s.topo.selfAddr.toNat a.slot a.token), data := p.2 }

/-- A packet of a row that a RETURN sends. -/
def returnPacket (c : Nat) (x : MoveState) (tag : Nat) (src : BitVec 16) (p : Nat × Bytes) : Packet :=
  { ctx := Fin.ofNat 64 c, src := src, dst := BitVec.ofNat 16 tag
    use := .returnRow (Fin.ofNat 4096 x.group) x.step (bits tag 19 16) (bits tag 40 24) p.1, data := p.2 }

/-- A packet goes out: to this device, or by a link on a device that speaks. -/
def State.packetGoes (s : State) (c : Nat) (dst : BitVec 16) : Prop :=
  dst = s.topo.selfAddr ∨ (s.packetLost c dst = false ∧ (s.mirrored c = false ∨ s.silent c = false))

theorem State.updMove_packetGoes {s : State} {c key : Nat} {f : MoveState → MoveState} {d : Nat} {dst : BitVec 16}
    (h : s.packetGoes d dst) : (s.updMove c key f).packetGoes d dst := by
  unfold State.packetGoes at h ⊢
  rw [State.packetLost_congr (s := s) (t := s.updMove c key f) rfl rfl (fun _ => rfl)]
  exact h

theorem State.Sends.packetGoes {c : Nat} {s t : State} (h : s.Sends c t) {dst : BitVec 16} (hgo : s.packetGoes c dst) :
    t.packetGoes c dst := by
  unfold State.packetGoes State.mirrored State.silent at hgo ⊢
  rw [h.packetLost, h.topo, h.pair]
  exact hgo

section
variable {c : Nat} (hc : (Fin.ofNat 64 c).val = c) (x : MoveState)

theorem State.scatterRow_eq (s : State) (m : MoveRec) (r : RouteRec) (d : Desc) (a : Assign) (row : Nat) :
    s.scatterRow c x m r d a row = (pieces (s.rowBytes c x.core.val d [a.token])).foldl (fun u p =>
      u.sendPacket x.scatterUid (s.scatterPacket c x m r a row u.topo.selfAddr (u.rowDevice c x m r a) p)) s := by
  unfold State.scatterRow State.scatterPacket
  rfl

theorem State.returnRow_eq (s : State) (out : Desc) (q row : Nat) :
    s.returnRow c x out q row = (pieces (s.rowBytes c x.core.val out [row])).foldl (fun u p =>
      u.sendPacket x.returnUid (returnPacket c x (x.tags.get 0 (q * 2 ^ 24 + row)).toNat u.topo.selfAddr p)) s := by
  unfold State.returnRow returnPacket
  rfl

include hc

theorem State.sendPacket_sends_of (s : State) (uid : Nat) {p : Packet} (hp : p.ctx = Fin.ofNat 64 c) :
    s.Sends c (s.sendPacket uid p) := by
  have h := s.sendPacket_sends uid p
  rwa [hp, hc] at h

theorem State.sendPacket_out_of (s : State) (uid : Nat) {p : Packet} (hp : p.ctx = Fin.ofNat 64 c)
    (hgo : s.packetGoes c p.dst) : Output.packet p ∈ (s.sendPacket uid p).out := by
  refine s.sendPacket_out uid p ?_
  rw [hp, hc]
  exact hgo

theorem State.scatterRow_sends (s : State) (m : MoveRec) (r : RouteRec) (d : Desc) (a : Assign) (row : Nat) :
    s.Sends c (s.scatterRow c x m r d a row) := by
  rw [State.scatterRow_eq]
  exact .foldl (fun u p => u.sendPacket_sends_of hc x.scatterUid rfl) _ _

theorem State.returnRow_sends (s : State) (out : Desc) (q row : Nat) : s.Sends c (s.returnRow c x out q row) := by
  rw [State.returnRow_eq]
  exact .foldl (fun u p => u.sendPacket_sends_of hc x.returnUid rfl) _ _

/-- Every piece of a row whose device can be reached goes out. -/
theorem State.scatterRow_out {s t : State} (h : s.Sends c t) (m : MoveRec) (r : RouteRec) (d : Desc) (a : Assign) (row : Nat)
    (hgo : s.packetGoes c (s.rowDevice c x m r a)) {p : Nat × Bytes} (hp : p ∈ pieces (s.rowBytes c x.core.val d [a.token])) :
    Output.packet (s.scatterPacket c x m r a row s.topo.selfAddr (s.rowDevice c x m r a) p) ∈ (t.scatterRow c x m r d a row).out := by
  rw [State.scatterRow_eq, h.reads.rowBytes]
  have hsame (u : State) (hu : s.Sends c u) :
      t.scatterPacket c x m r a row u.topo.selfAddr (u.rowDevice c x m r a) p =
        s.scatterPacket c x m r a row s.topo.selfAddr (s.rowDevice c x m r a) p := by
    unfold State.scatterPacket
    rw [h.mapElem, h.topo, hu.topo, hu.rowDevice]
  refine State.Sends.foldl_out (fun u p => u.sendPacket_sends_of hc x.scatterUid rfl) hp h fun u hu => ?_
  rw [hsame u hu]
  exact u.sendPacket_out_of hc x.scatterUid rfl (hu.packetGoes hgo)

theorem State.returnRow_out {s t : State} (h : s.Sends c t) (out : Desc) (q row : Nat)
    (hgo : s.packetGoes c (BitVec.ofNat 16 (x.tags.get 0 (q * 2 ^ 24 + row)).toNat)) {p : Nat × Bytes}
    (hp : p ∈ pieces (s.rowBytes c x.core.val out [row])) :
    Output.packet (returnPacket c x (x.tags.get 0 (q * 2 ^ 24 + row)).toNat s.topo.selfAddr p) ∈ (t.returnRow c x out q row).out := by
  rw [State.returnRow_eq, h.reads.rowBytes]
  refine State.Sends.foldl_out (fun u p => u.sendPacket_sends_of hc x.returnUid rfl) hp h fun u hu => ?_
  rw [hu.topo]
  exact u.sendPacket_out_of hc x.returnUid rfl (hu.packetGoes hgo)

end

/-! ## SCATTER -/

/-- The record of a SCATTER, with its command and semaphore. -/
def State.scattering (s : State) (c : Nat) (t : MoveTodo) : MoveState :=
  { s.move c t.key with scatterUid := t.uid, scatterSem := t.sem }

/-- The state in which a SCATTER has read its rows. -/
def State.scatterRead (s : State) (c : Nat) (t : MoveTodo) (d : Desc) : State :=
  (s.meterHub c t.uid (ceilDiv (s.move c t.key).assigns.length 64)).hubTouch c (s.move c t.key).core.val t.uid d
    (((s.move c t.key).assigns.filter fun a => a.row.isSome).flatMap fun a => d.rowAt [a.token])

/-- What a SCATTER does for one assignment. -/
def State.scatterOne (c : Nat) (x : MoveState) (m : MoveRec) (r : RouteRec) (d : Desc) (s : State) (a : Assign) : State :=
  match a.row with
  | none => s
  | some row => s.scatterRow c x m r d a row

/-- The state in which a SCATTER has noted what must still be written. -/
def State.scatterNoted (s : State) (c : Nat) (t : MoveTodo) (d : Desc) : State :=
  (s.scatterRead c t d).updMove c t.key fun _ => { s.scattering c t with
    scatterOut := some ((s.scatterRead c t d).rowsOut c (((s.move c t.key).assigns.filter fun a => a.row.isSome).map
      ((s.scatterRead c t d).rowDevice c (s.scattering c t) (parseMove t.image) (parseRoute t.route)))) }

theorem State.doScatter_of_desc {s : State} {c : Nat} {t : MoveTodo} {d : Desc} (hd : s.desc c (parseMove t.image).src = some d) :
    s.doScatter c t = (sortBy (fun a => ((s.scatterNoted c t d).rowDevice c (s.scattering c t) (parseMove t.image)
      (parseRoute t.route) a).toNat * 65536 + a.placed) (s.move c t.key).assigns).foldl
        (State.scatterOne c (s.scattering c t) (parseMove t.image) (parseRoute t.route) d) (s.scatterNoted c t d) := by
  unfold State.doScatter
  dsimp only
  rw [hd]
  rfl

theorem State.meterHub_sends (s : State) (c uid n : Nat) : s.Sends c (s.meterHub c uid n) := s.meter_sends c uid _

theorem State.scatterRead_sends (s : State) (c : Nat) (t : MoveTodo) (d : Desc) : s.Sends c (s.scatterRead c t d) :=
  (s.meterHub_sends c t.uid _).trans (State.hubTouch_sends _ c _ _ _ _)

theorem State.updMove_sameReads (s : State) (c key : Nat) (f : MoveState → MoveState) : s.SameReads c (s.updMove c key f) := by
  unfold State.updMove
  exact s.updQuill_sameReads c _

theorem State.updMove_move (s : State) (c key : Nat) (f : MoveState → MoveState) :
    (s.updMove c key f).move c key = f (s.move c key) := by
  have h : ((s.updMove c key f).ctx c).quill = { (s.ctx c).quill with
    moves := (s.ctx c).quill.moves.put key (f ((s.ctx c).quill.moves.get {} key)) } := congrArg Ctx.quill (SMap.get_put _ _ _ _)
  unfold State.move
  rw [h]
  exact SMap.get_put _ _ _ _

theorem State.updMove_mapElem (s : State) (c key : Nat) (f : MoveState → MoveState) (k : Nat) (m : MoveRec) (e : Nat) :
    (s.updMove c key f).mapElem c k m e = s.mapElem c k m e := by
  unfold State.mapElem
  simp only [(s.updMove_sameReads c key f).desc, (s.updMove_sameReads c key f).hubRead]

theorem State.updMove_rowDevice (s : State) (c key : Nat) (f : MoveState → MoveState) (x : MoveState) (m : MoveRec) (r : RouteRec)
    (a : Assign) : (s.updMove c key f).rowDevice c x m r a = s.rowDevice c x m r a := by
  unfold State.rowDevice
  rw [State.updMove_mapElem]

/-- How many rows a SCATTER still has to see written. -/
theorem State.Sends.rowsOut {c : Nat} {s u : State} (h : s.Sends c u) (x : MoveState) (m : MoveRec) (r : RouteRec) (l : List Assign) :
    u.rowsOut c ((l.filter fun a => a.row.isSome).map (u.rowDevice c x m r)) = (l.filter fun a => a.row.isSome &&
      (s.rowDevice c x m r a == s.topo.selfAddr || s.packetLost c (s.rowDevice c x m r a))).length := by
  unfold State.rowsOut
  rw [List.filter_map, List.length_map, List.filter_filter]
  refine congrArg List.length (List.filter_congr fun a _ => ?_)
  rw [Function.comp_apply, h.rowDevice, h.topo, h.packetLost, Bool.and_comm]

section
variable {c : Nat} (hc : (Fin.ofNat 64 c).val = c)
include hc

theorem State.scatterOne_sends (x : MoveState) (m : MoveRec) (r : RouteRec) (d : Desc) (s : State) (a : Assign) :
    s.Sends c (s.scatterOne c x m r d a) := by
  unfold State.scatterOne
  split
  · exact .refl c s
  · exact s.scatterRow_sends hc x m r d a _

/-- The record, the cores and the memories after a SCATTER. -/
theorem State.doScatter_kept {s : State} {t : MoveTodo} {d : Desc} (hd : s.desc c (parseMove t.image).src = some d) :
    ((s.doScatter c t).move c t.key).scatterSem = t.sem ∧
      ((s.doScatter c t).move c t.key).scatterOut = some (((s.move c t.key).assigns.filter fun a => a.row.isSome &&
        (s.rowDevice c (s.scattering c t) (parseMove t.image) (parseRoute t.route) a == s.topo.selfAddr ||
          s.packetLost c (s.rowDevice c (s.scattering c t) (parseMove t.image) (parseRoute t.route) a))).length) ∧
      (s.doScatter c t).cores = s.cores ∧ (s.doScatter c t).sramMem = s.sramMem ∧ (s.doScatter c t).hbmMem = s.hbmMem ∧
      (s.doScatter c t).resMem = s.resMem := by
  have hread := s.scatterRead_sends c t d
  have hafter : (s.scatterNoted c t d).Sends c (s.doScatter c t) := by
    rw [State.doScatter_of_desc hd]
    exact .foldl (State.scatterOne_sends hc _ _ _ _) _ _
  have hmove := hafter.move t.key
  unfold State.scatterNoted at hmove
  rw [State.updMove_move, hread.rowsOut] at hmove
  refine ⟨by rw [hmove]; rfl, by rw [hmove], hafter.cores.trans hread.cores, hafter.reads.mems.1.trans hread.reads.mems.1,
    hafter.reads.mems.2.1.trans hread.reads.mems.2.1, hafter.reads.mems.2.2.1.trans hread.reads.mems.2.2.1⟩

/-- Every piece of every kept row whose device can be reached goes out. -/
theorem State.doScatter_out {s : State} {t : MoveTodo} {d : Desc} (hd : s.desc c (parseMove t.image).src = some d) {a : Assign}
    (ha : a ∈ (s.move c t.key).assigns) {row : Nat} (hrow : a.row = some row)
    (hgo : s.packetGoes c (s.rowDevice c (s.scattering c t) (parseMove t.image) (parseRoute t.route) a)) {p : Nat × Bytes}
    (hp : p ∈ pieces (s.rowBytes c (s.move c t.key).core.val d [a.token])) :
    Output.packet (s.scatterPacket c (s.scattering c t) (parseMove t.image) (parseRoute t.route) a row s.topo.selfAddr
      (s.rowDevice c (s.scattering c t) (parseMove t.image) (parseRoute t.route) a) p) ∈ (s.doScatter c t).out := by
  have hread := s.scatterRead_sends c t d
  have hdevice (b : Assign) : (s.scatterNoted c t d).rowDevice c (s.scattering c t) (parseMove t.image) (parseRoute t.route) b =
      s.rowDevice c (s.scattering c t) (parseMove t.image) (parseRoute t.route) b := by
    unfold State.scatterNoted
    rw [State.updMove_rowDevice, hread.rowDevice]
  have hgo' : (s.scatterNoted c t d).packetGoes c
      ((s.scatterNoted c t d).rowDevice c (s.scattering c t) (parseMove t.image) (parseRoute t.route) a) := by
    rw [hdevice]
    unfold State.scatterNoted
    exact State.updMove_packetGoes (hread.packetGoes hgo)
  have hbytes : (s.scatterNoted c t d).rowBytes c (s.move c t.key).core.val d [a.token] =
      s.rowBytes c (s.move c t.key).core.val d [a.token] := by
    unfold State.scatterNoted
    rw [(State.updMove_sameReads ..).rowBytes, hread.reads.rowBytes]
  have hpacket : (s.scatterNoted c t d).scatterPacket c (s.scattering c t) (parseMove t.image) (parseRoute t.route) a row
      (s.scatterNoted c t d).topo.selfAddr ((s.scatterNoted c t d).rowDevice c (s.scattering c t) (parseMove t.image)
        (parseRoute t.route) a) p = s.scatterPacket c (s.scattering c t) (parseMove t.image) (parseRoute t.route) a row
      s.topo.selfAddr (s.rowDevice c (s.scattering c t) (parseMove t.image) (parseRoute t.route) a) p := by
    have htopo : (s.scatterNoted c t d).topo = s.topo := hread.topo
    have hmap (e : Nat) : (s.scatterNoted c t d).mapElem c (s.scattering c t).core.val (parseMove t.image) e =
        s.mapElem c (s.scattering c t).core.val (parseMove t.image) e := by
      unfold State.scatterNoted
      rw [State.updMove_mapElem, hread.mapElem]
    rw [hdevice, htopo]
    unfold State.scatterPacket
    rw [hmap, htopo]
  rw [State.doScatter_of_desc hd, ← hpacket]
  refine State.Sends.foldl_out (State.scatterOne_sends hc _ _ _ _) ((mem_sortBy _ _ _).2 ha) (.refl c _) fun u hu => ?_
  unfold State.scatterOne
  rw [hrow]
  rw [← hbytes] at hp
  exact State.scatterRow_out hc (s.scattering c t) hu _ _ _ _ _ hgo' hp

end

/-! ## RETURN -/

/-- The record of a RETURN, with its command and semaphore. -/
def State.returning (s : State) (c : Nat) (t : MoveTodo) : MoveState :=
  { s.move c t.key with returnUid := t.uid, returnSem := t.sem }

/-- What a RETURN does for one row of a queue. -/
def State.returnOne (c uid : Nat) (x : MoveState) (m : MoveRec) (s : State) (p : Nat × Nat) : State :=
  match s.desc c (s.queueEntry c x.core.val m p.1).out with
  | none => s
  | some d => (s.hubTouch c x.core.val uid d (d.rowAt [p.2])).returnRow c x d p.1 p.2

/-- The rows that a RETURN sends home. -/
def MoveState.returnRows (x : MoveState) (m : MoveRec) : List (Nat × Nat) :=
  (List.range m.queues).flatMap fun q => (List.range (x.expectRows.get 0 q)).map fun row => (q, row)

/-- The state in which a RETURN has noted what must still be written. -/
def State.returnNoted (s : State) (c : Nat) (t : MoveTodo) : State :=
  s.updMove c t.key fun _ => { s.returning c t with
    returnOut := some (s.rowsOut c (((s.returning c t).returnRows (parseMove t.image)).map fun p =>
      BitVec.ofNat 16 ((s.returning c t).tags.get 0 (p.1 * 2 ^ 24 + p.2)).toNat)) }

theorem State.doReturn_eq (s : State) (c : Nat) (t : MoveTodo) : s.doReturn c t =
    ((s.returning c t).returnRows (parseMove t.image)).foldl (State.returnOne c t.uid (s.returning c t) (parseMove t.image))
      (s.returnNoted c t) := by
  unfold State.doReturn
  rfl

theorem MoveState.mem_returnRows {x : MoveState} {m : MoveRec} {q row : Nat} (hq : q < m.queues) (hrow : row < x.expectRows.get 0 q) :
    (q, row) ∈ x.returnRows m :=
  List.mem_flatMap.2 ⟨q, List.mem_range.2 hq, List.mem_map.2 ⟨row, List.mem_range.2 hrow, rfl⟩⟩

section
variable {c : Nat} (hc : (Fin.ofNat 64 c).val = c)
include hc

theorem State.returnOne_sends (uid : Nat) (x : MoveState) (m : MoveRec) (s : State) (p : Nat × Nat) :
    s.Sends c (s.returnOne c uid x m p) := by
  unfold State.returnOne
  split
  · exact .refl c s
  · exact (s.hubTouch_sends c _ _ _ _).trans (State.returnRow_sends hc x _ _ _ _)

theorem State.doReturn_kept (s : State) (t : MoveTodo) : ((s.doReturn c t).move c t.key).returnSem = t.sem ∧
    ((s.doReturn c t).move c t.key).returnOut.isSome = true ∧ (s.doReturn c t).cores = s.cores ∧
    (s.doReturn c t).sramMem = s.sramMem ∧ (s.doReturn c t).hbmMem = s.hbmMem ∧ (s.doReturn c t).resMem = s.resMem := by
  have hafter : (s.returnNoted c t).Sends c (s.doReturn c t) := by
    rw [State.doReturn_eq]
    exact .foldl (State.returnOne_sends hc _ _ _) _ _
  have hmove := hafter.move t.key
  unfold State.returnNoted at hmove
  rw [State.updMove_move] at hmove
  rw [hmove]
  exact ⟨rfl, rfl, hafter.cores, hafter.reads.mems.1, hafter.reads.mems.2.1, hafter.reads.mems.2.2.1⟩

theorem State.doReturn_out {s : State} {t : MoveTodo} {q row : Nat} (hq : q < (parseMove t.image).queues)
    (hrow : row < (s.move c t.key).expectRows.get 0 q) {d : Desc}
    (hd : s.desc c (s.queueEntry c (s.move c t.key).core.val (parseMove t.image) q).out = some d)
    (hgo : s.packetGoes c (BitVec.ofNat 16 ((s.move c t.key).tags.get 0 (q * 2 ^ 24 + row)).toNat)) {p : Nat × Bytes}
    (hp : p ∈ pieces (s.rowBytes c (s.move c t.key).core.val d [row])) :
    Output.packet (returnPacket c (s.returning c t) ((s.move c t.key).tags.get 0 (q * 2 ^ 24 + row)).toNat s.topo.selfAddr p) ∈
      (s.doReturn c t).out := by
  have hnoted : s.SameReads c (s.returnNoted c t) := by
    unfold State.returnNoted
    exact s.updMove_sameReads c _ _
  have hbytes := hnoted.rowBytes (s.move c t.key).core.val d [row]
  rw [State.doReturn_eq]
  refine State.Sends.foldl_out (State.returnOne_sends hc _ _ _) (x := (q, row)) (MoveState.mem_returnRows hq hrow) (.refl c _)
    fun u hu => ?_
  unfold State.returnOne
  have hdu : u.desc c (u.queueEntry c (s.returning c t).core.val (parseMove t.image) q).out = some d := by
    rw [hu.queueEntry, hu.reads.desc, hnoted.desc]
    exact hd
  rw [hdu]
  rw [← hbytes] at hp
  have hgo' : (s.returnNoted c t).packetGoes c (BitVec.ofNat 16 ((s.returning c t).tags.get 0 (q * 2 ^ 24 + row)).toNat) := by
    unfold State.returnNoted
    exact State.updMove_packetGoes hgo
  exact State.returnRow_out hc (s.returning c t) (hu.trans (u.hubTouch_sends c _ _ _ _)) d q row hgo' hp

end

end Sys2Proof.Machine
end

section
/-! SCATTER and RETURN issue, work and complete (R303, R306, R323 to R332). -/

namespace Sys2Proof.Machine

/-- Without further rules an operation is refused for its record alone. -/
def noRules (_ : State) (_ : Nat) (_ _ : Bytes) : Bool := true

theorem exec_scatter (s : State) (k : CoreId) (n : SReg) (sem : BitVec 16) : exec (.scatter k n sem) s =
    .next (moveIssue k n (.scatter k n sem) sem .scatter s noRules) := rfl

theorem exec_ret (s : State) (k : CoreId) (n : SReg) (sem : BitVec 16) : exec (.ret k n sem) s =
    .next (moveIssue k n (.ret k n sem) sem .ret s noRules) := rfl

/-- A movement record that keeps its rules names a source. -/
theorem State.moveOk_src {s : State} {c k : Nat} {m : MoveRec} {r : RouteRec} (h : s.moveOk c k m r = true) :
    ∃ d, s.desc c m.src = some d := by
  have hshape : s.descShape c m.src [s.rowLen c m, r.tokens] = true := by
    unfold State.moveOk at h
    simp only [Bool.and_eq_true] at h
    obtain ⟨⟨⟨⟨⟨⟨⟨⟨⟨⟨⟨-, hsrc⟩, -⟩, -⟩, -⟩, -⟩, -⟩, -⟩, -⟩, -⟩, -⟩, -⟩ := h
    exact hsrc
  unfold State.descShape at hshape
  split at hshape
  · cases hshape
  · next d hd => exact ⟨d, hd⟩

section
variable (s : State) (k : CoreId) (key : Nat) (l : List MoveTodo)

theorem State.moveJoined_packetGoes {dst : BitVec 16} (h : s.packetGoes (keyCtx key) dst) :
    (s.moveJoined k key l).packetGoes (keyCtx key) dst := by
  unfold State.packetGoes at h ⊢
  rw [State.packetLost_congr (s := s) (t := s.moveJoined k key l) rfl rfl (fun _ => rfl)]
  exact h

theorem State.moveJoined_mapElem (m : MoveRec) (i e : Nat) :
    (s.moveJoined k key l).mapElem (keyCtx key) i m e = s.mapElem (keyCtx key) i m e := by
  unfold State.mapElem
  simp only [(s.moveJoined_sameReads k key l).desc, (s.moveJoined_sameReads k key l).hubRead]

theorem State.moveJoined_rowDevice (x : MoveState) (m : MoveRec) (r : RouteRec) (a : Assign) :
    (s.moveJoined k key l).rowDevice (keyCtx key) x m r a = s.rowDevice (keyCtx key) x m r a := by
  unfold State.rowDevice
  rw [State.moveJoined_mapElem]

theorem State.moveJoined_packetLost (dst : BitVec 16) :
    (s.moveJoined k key l).packetLost (keyCtx key) dst = s.packetLost (keyCtx key) dst :=
  State.packetLost_congr (s := s) (t := s.moveJoined k key l) rfl rfl (fun _ => rfl) _ _

end

theorem execScatterDone_eq (s : State) (c : CtxId) : exec (.scatterDone c) s = .next (
    match s.moveWhere c.val fun x => x.scatterOut == some 0 && !s.flitsWait c.val with
    | none => s
    | some x => (s.updMove c.val x.record fun y => { y with scatterOut := none }).signalSem c.val x.scatterSem.toNat 1) := rfl

theorem execReturnDone_eq (s : State) (c : CtxId) : exec (.returnDone c) s = .next (
    match s.moveWhere c.val fun x => x.returnOut == some 0 && !s.flitsWait c.val with
    | none => s
    | some x => (s.updMove c.val x.record fun y => { y with returnOut := none }).signalSem c.val x.returnSem.toNat 1) := rfl

/-- Settles O16: a movement operation faults without its COUNT, waits for its slot, or sends its rows; its end signals. -/
theorem scatterAndReturn : Obligations.ScatterAndReturn := by
  intro s
  refine ⟨fun k n sem key hmove hphase => ?_, fun k n sem key hmove => ?_, fun c => ?_⟩
  · refine ⟨fun hi => ?_, fun hi => ?_, fun hi => ?_, fun hi => ?_⟩
    · rw [exec_scatter, moveIssue_of_bad hmove hi (.inl hphase)]
    · rw [exec_ret, moveIssue_of_bad hmove hi (.inl hphase)]
    · exact congrArg Host.Outcome.next ((onMove_of_there hmove hi _).trans (if_pos hphase))
    · rw [exec_exitTest, moveIssue_of_bad hmove hi (.inl hphase)]
  · intro c rec' x b m r st joined device goes hphase
    have hstream (t : State) (h : t.cores = (s.moveJoined k key []).cores) : (t.core k.val).stream key = st.advance := by
      rw [← s.moveJoined_stream k key []]
      unfold State.core
      rw [h]
    have hsame := s.moveJoined_sameReads k key []
    have hlost (dst : BitVec 16) : (s.moveJoined k key []).packetLost c dst = s.packetLost c dst :=
      s.moveJoined_packetLost k key [] dst
    refine ⟨fun hi => ?_, fun hi => ?_⟩
    · have hc : (Fin.ofNat 64 c).val = c := ctxOf_val hi.1
      have hgo := moveIssue_of_ok (ok := noRules) (sem := sem) (kind := .scatter) hmove hi hphase rfl
      rw [exec_scatter, hgo]
      refine ⟨fun hruns => ?_, fun hruns hnone => ?_⟩
      · rw [(s.moveNow_joined k key _).1 hruns]
        rfl
      · rw [(s.moveNow_joined k key _).2 hruns hnone]
        obtain ⟨htkey, htuid, htsem, htimage, htroute⟩ := s.moveTodo_fields k key n sem .scatter
        have hdo : (s.moveJoined k key []).doMove c (s.moveTodo k key n sem .scatter) =
            (s.moveJoined k key []).doScatter c (s.moveTodo k key n sem .scatter) := rfl
        rw [hdo]
        generalize s.moveTodo k key n sem .scatter = w at *
        obtain ⟨d, hd⟩ := State.moveOk_src hmove.2
        have hd' : (s.moveJoined k key []).desc c (parseMove w.image).src = some d := by
          rw [htimage, hsame.desc]
          exact hd
        have hmv : (s.moveJoined k key []).move c w.key = x := by
          rw [htkey, State.moveJoined_move]
        have hdev (a : Assign) : (s.moveJoined k key []).rowDevice c ((s.moveJoined k key []).scattering c w) (parseMove w.image)
            (parseRoute w.route) a = device a := by
          rw [State.moveJoined_rowDevice, htimage, htroute]
          unfold State.rowDevice State.scattering
          rw [hmv]
          rfl
        obtain ⟨hsem, hout, hcores, hsram, hhbm, hres⟩ := State.doScatter_kept hc hd'
        rw [htkey, htsem] at hsem
        simp only [hdev] at hout
        rw [htkey] at hout
        refine ⟨_, rfl, hsem, hout.trans ?_, hstream _ hcores, hsram.trans hsame.mems.1, hhbm.trans hsame.mems.2.1,
          hres.trans hsame.mems.2.2.1, fun a ha row hrow hgoes d2 hd2 p hp => ?_⟩
        · rw [State.moveJoined_move]
          simp only [hlost]
          rfl
        · cases Option.some.inj (hd.symm.trans hd2)
          have hsent := State.doScatter_out hc hd' (a := a) (by rw [hmv]; exact ha) hrow
            (by rw [hdev]; exact s.moveJoined_packetGoes k key [] hgoes) (p := p) (by rw [hmv, hsame.rowBytes]; exact hp)
          rw [hdev] at hsent
          unfold State.scatterPacket State.scattering at hsent
          rw [hmv, htimage, htroute, State.moveJoined_mapElem] at hsent
          exact hsent
    · have hc : (Fin.ofNat 64 c).val = c := ctxOf_val hi.1
      have hgo := moveIssue_of_ok (ok := noRules) (sem := sem) (kind := .ret) hmove hi hphase rfl
      rw [exec_ret, hgo]
      refine ⟨fun hruns => ?_, fun hruns hnone => ?_⟩
      · rw [(s.moveNow_joined k key _).1 hruns]
        rfl
      · rw [(s.moveNow_joined k key _).2 hruns hnone]
        obtain ⟨htkey, htuid, htsem, htimage, -⟩ := s.moveTodo_fields k key n sem .ret
        have hdo : (s.moveJoined k key []).doMove c (s.moveTodo k key n sem .ret) =
            (s.moveJoined k key []).doReturn c (s.moveTodo k key n sem .ret) := rfl
        rw [hdo]
        generalize s.moveTodo k key n sem .ret = w at *
        have hmv : (s.moveJoined k key []).move c w.key = x := by
          rw [htkey, State.moveJoined_move]
        obtain ⟨hsem, hout, hcores, hsram, hhbm, hres⟩ := State.doReturn_kept hc (s.moveJoined k key []) w
        rw [htkey, htsem] at hsem
        rw [htkey] at hout
        refine ⟨_, rfl, hsem, hout, hstream _ hcores, hsram.trans hsame.mems.1, hhbm.trans hsame.mems.2.1,
          hres.trans hsame.mems.2.2.1, fun q hq row hrow d hd => ?_⟩
        intro tag hgoes p hp
        have hsent := State.doReturn_out (t := w) hc (s := s.moveJoined k key []) (q := q) (row := row) (d := d) (p := p)
          (by rw [htimage]; exact hq) (by rw [hmv]; exact hrow)
          (by rw [hmv, htimage, hsame.desc]; exact hd)
          (by rw [hmv]; exact s.moveJoined_packetGoes k key [] hgoes) (by rw [hmv, hsame.rowBytes]; exact hp)
        unfold returnPacket State.returning at hsent
        rw [hmv] at hsent
        exact hsent
  · intro sent home
    refine ⟨fun x hx => ?_, fun hx => ?_, fun x hx => ?_, fun hx => ?_⟩
    · rw [execScatterDone_eq, show (s.moveWhere c.val fun x => x.scatterOut == some 0 && !s.flitsWait c.val) = some x from hx]
    · rw [execScatterDone_eq, show (s.moveWhere c.val fun x => x.scatterOut == some 0 && !s.flitsWait c.val) = none from hx]
    · rw [execReturnDone_eq, show (s.moveWhere c.val fun x => x.returnOut == some 0 && !s.flitsWait c.val) = some x from hx]
    · rw [execReturnDone_eq, show (s.moveWhere c.val fun x => x.returnOut == some 0 && !s.flitsWait c.val) = none from hx]

end Sys2Proof.Machine
end

section
/-! What a fault, a signal and the conductor leave of the Quill's counts (R230 to R232, R382 to R389, R536). -/

namespace Sys2Proof.Machine

/-! ## The Quill of a context that faults -/

section
variable (s : State) (c : Nat)

theorem State.terminal_quill (x : Cmd) (status : Nat) (d : Nat) :
    ((s.terminal c x status).1.ctx d).quill = (s.ctx d).quill := by
  by_cases hd : d = c
  · subst hd
    cases htripped : s.safety.tripped with
    | true => rw [State.terminal_of_gone (.inl htripped)]
    | false =>
      obtain ⟨_, _, _, _, _, h⟩ := State.terminal_ctx htripped d x status true
      rw [h]
  · rw [State.terminal_ctx_ne _ _ _ _ _ hd]

theorem State.endCmds_quill (status : Nat) (l : List Cmd) (d : Nat) : ((s.endCmds c status l).ctx d).quill = (s.ctx d).quill := by
  induction l generalizing s with
  | nil => rfl
  | cons x l ih => exact (ih _).trans (s.terminal_quill c x status d)

theorem State.updCtx_quill {f : Ctx → Ctx} (hf : ∀ x, (f x).quill = x.quill) (d : Nat) :
    ((s.updCtx c f).ctx d).quill = (s.ctx d).quill := by
  by_cases hd : d = c
  · subst hd
    rw [State.updCtx_ctx, hf]
  · rw [State.updCtx_ctx_ne _ _ _ _ hd]

theorem State.updHost_quill (f : HostFn → HostFn) (d : Nat) : ((s.updHost c f).ctx d).quill = (s.ctx d).quill :=
  s.updCtx_quill c (f := fun x => { x with host := f x.host }) (fun _ => rfl) d

theorem State.teardown_quill (cause d : Nat) : ((s.teardown c cause).ctx d).quill = (s.ctx d).quill := by
  by_cases h : (s.ctx c).life.state = .free ∨ (s.ctx c).life.state = .tearingDown
  · rw [State.teardown_of_gone h]
  · obtain ⟨hfree, htearing⟩ := not_or.1 h
    rw [State.teardown_of_there hfree htearing]
    obtain ⟨i, hi⟩ := State.raiseStateChange_ctx ((s.cutEnergy c cause).detectAll 4 fun t => t.ctx.val == c) c d
    have henergy := (s.cutCmds c cause).updCtx_quill c (f := fun x => { x with energy := { x.energy with balance := 0, refill := 0 } })
      (fun _ => rfl) d
    have hcmds : ((s.cutCmds c cause).ctx d).quill = ((s.beginTeardown c cause).ctx d).quill := State.endCmds_quill _ c _ _ d
    have hbegin : ((s.beginTeardown c cause).ctx d).quill = (s.ctx d).quill := by
      unfold State.beginTeardown
      refine State.updCtx_quill s c ?_ d
      exact fun _ => rfl
    rw [hi, State.detectAll_ctx]
    exact henergy.trans (hcmds.trans hbegin)

theorem State.ctxFault_quill (d : Nat) : ((s.ctxFault c).ctx d).quill = (s.ctx d).quill := s.teardown_quill c 2 d

theorem State.addSem_quill (n amount d : Nat) : ((s.addSem c n amount).1.ctx d).quill = (s.ctx d).quill := by
  by_cases hd : d = c
  · subst hd
    obtain ⟨_, h⟩ := s.addSem_ctx d n amount
    rw [h]
  · rw [State.addSem_ctx_ne _ _ _ _ hd]

theorem State.signalSem_cases (n amount : Nat) :
    s.signalSem c n amount = (s.addSem c n amount).1.ctxFault c ∨ s.signalSem c n amount = (s.addSem c n amount).1 := by
  unfold State.signalSem
  obtain ⟨u, b⟩ := s.addSem c n amount
  cases b with
  | true => exact .inl rfl
  | false => exact .inr rfl

theorem State.signalSem_quill (n amount d : Nat) : ((s.signalSem c n amount).ctx d).quill = (s.ctx d).quill := by
  rcases s.signalSem_cases c n amount with h | h <;> rw [h]
  · rw [State.ctxFault_quill, State.addSem_quill]
  · exact s.addSem_quill c n amount d

/-- What a signal may change beside contexts and groups. -/
theorem State.signalSem_eq (n amount : Nat) : ∃ ctxs energy hbm pair hostMem groups out, s.signalSem c n amount = { s with
    ctxs := ctxs, energy := energy, hbm := hbm, pair := pair, hostMem := hostMem, groups := groups, out := out } := by
  rcases s.signalSem_cases c n amount with h | h <;> rw [h]
  · unfold State.ctxFault
    rw [State.teardown_eq, State.addSem_eq]
    exact ⟨_, _, _, _, _, _, _, rfl⟩
  · rw [State.addSem_eq]
    exact ⟨_, _, _, _, _, _, _, rfl⟩

theorem State.detect_nextStep (g : Nat) (code : BitVec 8) (d : Nat) :
    ((s.detect g code).group d).nextStep = (s.group d).nextStep := by
  by_cases hd : d = g
  · subst hd
    exact (congrArg Group.nextStep (SMap.get_put _ _ _ _) :)
  · exact congrArg Group.nextStep (SMap.get_put_ne _ _ _ _ _ hd)

theorem State.detectAll_nextStep (code : BitVec 8) (p : CollStep → Bool) (d : Nat) :
    ((s.detectAll code p).group d).nextStep = (s.group d).nextStep := by
  unfold State.detectAll
  exact List.foldlRecOn (motive := fun u : State => (u.group d).nextStep = (s.group d).nextStep) _ _ rfl
    fun u hu g _ => (u.detect_nextStep g.1 code d).trans hu

theorem State.teardown_nextStep (cause d : Nat) : ((s.teardown c cause).group d).nextStep = (s.group d).nextStep := by
  by_cases h : (s.ctx c).life.state = .free ∨ (s.ctx c).life.state = .tearingDown
  · rw [State.teardown_of_gone h]
  · obtain ⟨hfree, htearing⟩ := not_or.1 h
    have hcut : (s.cutEnergy c cause).group d = s.group d := by
      rw [State.cutEnergy_eq]
      rfl
    have hraise (u : State) : (u.raiseStateChange c).group d = u.group d := by
      rw [State.raiseStateChange_eq]
      rfl
    rw [State.teardown_of_there hfree htearing, hraise, State.detectAll_nextStep, hcut]

theorem State.signalSem_nextStep (n amount d : Nat) : ((s.signalSem c n amount).group d).nextStep = (s.group d).nextStep := by
  have hadd : (s.addSem c n amount).1.group d = s.group d := by
    rw [State.addSem_eq]
    rfl
  rcases s.signalSem_cases c n amount with h | h <;> rw [h]
  · exact (State.teardown_nextStep _ c 2 d).trans (congrArg Group.nextStep hadd)
  · rw [hadd]

end

/-! ## The counts that the Quill keeps -/

/-- The Quill's movement state and its counts of context c are as they were. -/
def State.CountsKept (c : Nat) (s t : State) : Prop :=
  (t.ctx c).quill.moves = (s.ctx c).quill.moves ∧ (t.ctx c).quill.dropped = (s.ctx c).quill.dropped ∧
    (t.ctx c).quill.spilled = (s.ctx c).quill.spilled

namespace State.CountsKept
variable {c : Nat} {s t u : State}

theorem of_quill (h : (t.ctx c).quill = (s.ctx c).quill) : s.CountsKept c t := by
  unfold State.CountsKept
  rw [h]
  exact ⟨rfl, rfl, rfl⟩

theorem refl (c : Nat) (s : State) : s.CountsKept c s := ⟨rfl, rfl, rfl⟩

theorem trans (h : s.CountsKept c t) (h' : t.CountsKept c u) : s.CountsKept c u :=
  ⟨h'.1.trans h.1, h'.2.1.trans h.2.1, h'.2.2.trans h.2.2⟩

theorem of_ctxs (h : t.ctxs = s.ctxs) : s.CountsKept c t := of_quill (congrArg Ctx.quill (State.ctx_congr h c))

end State.CountsKept

section
variable (s : State) (c : Nat)

theorem State.updQuill_countsKept {f : CtxQuill → CtxQuill}
    (hf : ∀ q, (f q).moves = q.moves ∧ (f q).dropped = q.dropped ∧ (f q).spilled = q.spilled) : s.CountsKept c (s.updQuill c f) := by
  have h : ((s.updQuill c f).ctx c).quill = f (s.ctx c).quill := congrArg Ctx.quill (SMap.get_put _ _ _ _)
  unfold State.CountsKept
  rw [h]
  exact hf _

theorem State.putSram_countsKept (k off : Nat) (b : Bytes) : s.CountsKept c (s.putSram c k off b) :=
  .of_ctxs (by rw [State.putSram_sram])

theorem State.postOn_countsKept (r : Nat) (b : Bytes) : s.CountsKept c (s.postOn c r b) := by
  unfold State.postOn
  split
  · exact .refl c s
  · refine .of_quill ?_
    refine (congrArg Ctx.quill (State.ctx_congr (State.updRing_ctxs _ c r _) c)).trans ?_
    refine (State.updHost_quill _ c _ c).trans ?_
    rw [State.hostWrite_eq]
    rfl

theorem State.conductStep_countsKept (o : CondOp) : s.CountsKept c (s.conductStep c o) := by
  cases o with
  | patch off value =>
    exact List.foldlRecOn (motive := s.CountsKept c) _ _ (.refl c s) fun u hu k _ => hu.trans (u.putSram_countsKept c k off _)
  | post d => exact s.postOn_countsKept c 3 d
  | broken => exact .of_quill (s.ctxFault_quill c c)

theorem State.conduct_countsKept (l : List CondOp) : s.CountsKept c (s.conduct c l) := by
  have hset (u : State) (ops : List CondOp) : u.CountsKept c (u.updQuill c fun q => { q with conductor := ops }) :=
    u.updQuill_countsKept c fun _ => ⟨rfl, rfl, rfl⟩
  induction l generalizing s with
  | nil => exact hset s []
  | cons o rest ih =>
    have hgo : s.CountsKept c ((s.conductStep c o).conduct c rest) := (s.conductStep_countsKept c o).trans (ih _)
    cases o with
    | patch off value => exact hgo
    | post d =>
      change s.CountsKept c (if s.ringRoom c 3 then _ else _)
      split
      · exact hgo
      · exact hset s _
    | broken => exact (hset s []).trans (State.conductStep_countsKept _ c .broken)

theorem State.conductNow_countsKept : s.CountsKept c (s.conductNow c) := by
  unfold State.conductNow
  split
  · exact s.conduct_countsKept c _
  · exact .refl c s

theorem State.hubMove_countsKept (uid : Option Nat) (w : Bool) (lines : List Nat) (l : List Effect) :
    s.CountsKept c (s.hubMove c uid w lines l) := .of_quill (s.hubMove_hubWork c uid w lines l).quill

theorem State.takeSection_countsKept (m : MoveRec) (r : RouteRec) (x : MoveState) : s.CountsKept c (s.takeSection c m r x) := by
  unfold State.takeSection
  extract_lets base n l ops u
  have hu : s.CountsKept c u := by
    change s.CountsKept c (if _ then _ else _)
    split
    · exact s.hubMove_countsKept c _ _ _ _
    · exact .refl c s
  have htrace (v : State) : v.CountsKept c (v.trace .template) := .of_ctxs (by rw [State.trace_eq])
  have hops : u.CountsKept c (u.updQuill c fun q => { q with conductor := q.conductor ++ ops }) :=
    u.updQuill_countsKept c fun _ => ⟨rfl, rfl, rfl⟩
  exact ((hu.trans hops).trans (htrace _)).trans (State.conductNow_countsKept _ c)

theorem State.postSummary_countsKept (r : RouteRec) (x : MoveState) : s.CountsKept c (s.postSummary c r x) := by
  have hdone (u : State) (uid : Option Nat) : u.CountsKept c (u.hubDone c uid [.irq 1]) := by
    unfold State.hubDone
    dsimp only
    split
    · exact .of_ctxs rfl
    · obtain ⟨i, hi⟩ := u.raise_ctx c (keyCtx (2 * c)) 1
      exact .of_quill (t := u.raise (keyCtx (2 * c)) 1) (by rw [hi])
  unfold State.postSummary
  extract_lets area stride seq b at_ u
  split
  · exact .refl c s
  · have hu : s.CountsKept c u := s.updQuill_countsKept c fun _ => ⟨rfl, rfl, rfl⟩
    split
    · exact hu
    · exact (hu.trans (.of_quill (u.putHbm_hubWork c _ _ _).quill)).trans (hdone _ _)

end

end Sys2Proof.Machine
end

section
/-! The exchange of counts in a group (R307 to R313, R413). -/

namespace Sys2Proof.Machine

/-- How the step of an exchange joins its group. -/
theorem State.joinStep_of_exchange (u : State) (g : Nat) {t y : CollStep} (hx : t.exchange = true)
    (hnumber : y = { t with number := (u.group g).nextStep }) : u.joinStep g t = match (u.group g).state with
      | .active => (u.withStep g y).startExchange g y
      | .aborted => (u.withStep g y).abortStep g y 5 (u.group g).abortTick (u.group g).abortRank
      | _ => u.withStep g y := by
  subst hnumber
  unfold State.joinStep
  extract_lets x c t1 s1 v stale s2
  have hs2 : s2 = s1 := if_pos hx
  have hstale : stale = false := by
    change (!t.exchange && v.expectGen != 0 && v.expectGen != x.generation.toNat) = false
    rw [hx]
    rfl
  have ht1 : t1.exchange = true := hx
  rw [hs2, hstale]
  change (match (u.group g).state with
    | .active => if false = true then _ else if t1.exchange = true then _ else _
    | .aborted => _
    | _ => _) = _
  cases (u.group g).state with
  | active => exact (if_neg Bool.false_ne_true).trans (if_pos ht1)
  | aborted => rfl
  | free => rfl
  | reforming => rfl

theorem State.withStep_nextStep (u : State) (g : Nat) (t : CollStep) : ((u.withStep g t).group g).nextStep = (u.group g).nextStep + 1 :=
  (congrArg Group.nextStep (u.updGroup_group g _) :)

theorem State.updStep_nextStep (u : State) (g number : Nat) (f : CollStep → CollStep) (d : Nat) :
    ((u.updStep g number f).group d).nextStep = (u.group d).nextStep := by
  by_cases hd : d = g
  · subst hd
    exact (congrArg Group.nextStep (u.updGroup_group d _) :)
  · exact congrArg Group.nextStep (SMap.get_put_ne _ _ _ _ _ hd)

theorem State.startExchange_of_part (u : State) (g : Nat) {t : CollStep} {p : Contribution} (h : t.part = some p) :
    ∃ groups, u.startExchange g t = { u with groups := groups, out := .exchange (Fin.ofNat 4096 g) t.number p :: u.out } ∧
      ((u.startExchange g t).group g).nextStep = (u.group g).nextStep := by
  unfold State.startExchange
  dsimp only
  rw [h]
  exact ⟨_, rfl, u.updStep_nextStep g t.number _ g⟩

/-- An exchange's step that meets an abort: its COUNT has failed. -/
theorem State.abortStep_of_exchange {u : State} {c g : Nat} {t : CollStep} (hx : t.exchange = true) (hc : t.ctx.val = c) {x : MoveState}
    (hmove : u.move c t.record = x) (hgroup : x.group = g) (hstep : x.step = t.number) (hphase : x.phase = .exchanging ∨ x.phase = .placing)
    (code : Nat) (tick : Word) (rank : BitVec 32) :
    ((u.abortStep g t code tick rank).move c t.record) = { x with phase := .failed, stage := 0 } ∧
      ((u.abortStep g t code tick rank).group g).nextStep = (u.group g).nextStep ∧
      (u.abortStep g t code tick rank).cores = u.cores ∧ (u.abortStep g t code tick rank).sramMem = u.sramMem ∧
      (u.abortStep g t code tick rank).hbmMem = u.hbmMem ∧ (u.abortStep g t code tick rank).resMem = u.resMem := by
  subst hc
  have hcount : (u.ctx t.ctx.val).quill.countOf t.record g t.number = true := by
    have hget : (u.ctx t.ctx.val).quill.moves.get {} t.record = x := hmove
    unfold CtxQuill.countOf
    dsimp only
    rw [hget, hgroup, hstep]
    rcases hphase with h | h <;> rw [h] <;> simp
  unfold State.abortStep
  extract_lets c s1 s2 s3
  have hs3 : s3 = s2 := if_pos hx
  rw [hs3]
  obtain ⟨_, _, _, _, _, _, _, heq⟩ := (s2.markAbort c t.uid code).signalSem_eq c t.sem.toNat 1
  have hquill : (s2.ctx c).quill = { (u.ctx c).quill with
      moves := (u.ctx c).quill.moves.put t.record { x with phase := .failed, stage := 0 } } := by
    refine (congrArg Ctx.quill (SMap.get_put _ _ _ _) :).trans ?_
    refine (if_pos (Bool.and_eq_true_iff.2 ⟨hx, hcount⟩)).trans ?_
    rw [← hmove]
    rfl
  refine ⟨?_, ?_, ?_⟩
  · unfold State.move
    rw [State.signalSem_quill]
    have hmark : ((s2.markAbort c t.uid code).ctx c).quill = (s2.ctx c).quill := by
      unfold State.markAbort State.updCmd
      refine State.updCtx_quill s2 c ?_ c
      exact fun _ => rfl
    rw [hmark, hquill]
    exact SMap.get_put _ _ _ _
  · rw [State.signalSem_nextStep]
    exact u.updStep_nextStep g t.number _ g
  · rw [heq]
    exact ⟨rfl, rfl, rfl, rfl⟩

/-- The step that an exchange of a record takes. -/
def State.exchangeStep (s : State) (c key : Nat) (part : Contribution) : CollStep :=
  { ctx := Fin.ofNat 64 c, core := (s.move c key).core, uid := (s.move c key).uid, record := key, sem := (s.move c key).sem
    exchange := true, part := some part, issueTick := s.tick.now, number := (s.group (s.move c key).group).nextStep }

/-- The record has noted its step's number. -/
def State.stepNoted (s : State) (c key : Nat) : State :=
  s.updMove c key fun m => { m with step := (s.group (s.move c key).group).nextStep }

theorem State.beginExchange_eq (s : State) (c key : Nat) (part : Contribution) : s.beginExchange c key part =
    match (s.group (s.move c key).group).state with
      | .active => ((s.stepNoted c key).withStep (s.move c key).group (s.exchangeStep c key part)).startExchange
          (s.move c key).group (s.exchangeStep c key part)
      | .aborted => ((s.stepNoted c key).withStep (s.move c key).group (s.exchangeStep c key part)).abortStep
          (s.move c key).group (s.exchangeStep c key part) 5 (s.group (s.move c key).group).abortTick
            (s.group (s.move c key).group).abortRank
      | _ => (s.stepNoted c key).withStep (s.move c key).group (s.exchangeStep c key part) :=
  State.joinStep_of_exchange (s.stepNoted c key) (s.move c key).group (y := s.exchangeStep c key part) rfl rfl

/-- What the beginning of an exchange leaves. -/
theorem State.beginExchange_spec {s : State} {c key : Nat} (hc : (Fin.ofNat 64 c).val = c) (part : Contribution)
    (hphase : (s.move c key).phase = .exchanging ∨ (s.move c key).phase = .placing) :
    ((s.beginExchange c key part).group (s.move c key).group).nextStep = (s.group (s.move c key).group).nextStep + 1 ∧
      ((s.beginExchange c key part).cores = s.cores ∧ (s.beginExchange c key part).sramMem = s.sramMem ∧
        (s.beginExchange c key part).hbmMem = s.hbmMem ∧ (s.beginExchange c key part).resMem = s.resMem) ∧
      (∃ p n, (s.beginExchange c key part).move c key =
        { s.move c key with step := (s.group (s.move c key).group).nextStep, phase := p, stage := n } ∧
        ((s.group (s.move c key).group).state ≠ .aborted → p = (s.move c key).phase) ∧
        ((s.group (s.move c key).group).state = .aborted → p = .failed)) ∧
      ((s.group (s.move c key).group).state = .active →
        Output.exchange (Fin.ofNat 4096 (s.move c key).group) (s.group (s.move c key).group).nextStep part ∈
          (s.beginExchange c key part).out) := by
  have hnoted := s.updMove_move c key fun m => { m with step := (s.group (s.move c key).group).nextStep }
  have hmove (t : State) (h : t.ctxs = (s.stepNoted c key).ctxs) : t.move c key =
      { s.move c key with step := (s.group (s.move c key).group).nextStep } := by
    unfold State.move State.ctx
    rw [h]
    exact hnoted
  have hnext := (s.stepNoted c key).withStep_nextStep (s.move c key).group (s.exchangeStep c key part)
  rw [State.beginExchange_eq]
  cases hstate : (s.group (s.move c key).group).state with
  | active =>
    obtain ⟨_, heq, hstart⟩ := ((s.stepNoted c key).withStep (s.move c key).group (s.exchangeStep c key part)).startExchange_of_part
      (s.move c key).group (t := s.exchangeStep c key part) (p := part) rfl
    refine ⟨hstart.trans hnext, ?_, ⟨_, _, hmove _ (by dsimp only; rw [heq]; rfl), fun _ => rfl, fun h => nomatch h⟩, fun _ => ?_⟩
    · dsimp only
      rw [heq]
      exact ⟨rfl, rfl, rfl, rfl⟩
    · dsimp only
      rw [heq]
      exact List.mem_cons_self
  | aborted =>
    obtain ⟨hfail, hstep, hmems⟩ := State.abortStep_of_exchange (u := (s.stepNoted c key).withStep (s.move c key).group
      (s.exchangeStep c key part)) (t := s.exchangeStep c key part) (c := c) (g := (s.move c key).group) rfl hc (hmove _ rfl) rfl rfl hphase 5
        (s.group (s.move c key).group).abortTick (s.group (s.move c key).group).abortRank
    exact ⟨hstep.trans hnext, hmems, ⟨_, _, hfail, fun h => absurd rfl h, fun _ => rfl⟩, fun h => nomatch h⟩
  | free => exact ⟨hnext, ⟨rfl, rfl, rfl, rfl⟩, ⟨_, _, hmove _ rfl, fun _ => rfl, fun h => nomatch h⟩, fun h => nomatch h⟩
  | reforming => exact ⟨hnext, ⟨rfl, rfl, rfl, rfl⟩, ⟨_, _, hmove _ rfl, fun _ => rfl, fun h => nomatch h⟩, fun h => nomatch h⟩

end Sys2Proof.Machine
end

section
/-! COUNT and the result of its exchange (R297, R307 to R319). -/

namespace Sys2Proof.Machine

theorem State.updMove_updQuill_rest (v : State) (c r : Nat) (f : MoveState → MoveState) (g : CtxQuill → CtxQuill) :
    ((v.updMove c r f).updQuill c g).groups = v.groups ∧ ((v.updMove c r f).updQuill c g).cores = v.cores ∧
      ((v.updMove c r f).updQuill c g).sramMem = v.sramMem ∧ ((v.updMove c r f).updQuill c g).hbmMem = v.hbmMem ∧
      ((v.updMove c r f).updQuill c g).resMem = v.resMem := ⟨rfl, rfl, rfl, rfl, rfl⟩

theorem State.updMove_updQuill_move (v : State) (c r : Nat) (x : MoveState) :
    ((v.updMove c r fun _ => x).updQuill c fun q => { q with counted := q.counted + 1 }).move c r = x := by
  have hput := v.updMove_move c r fun _ => x
  have hkept : (v.updMove c r fun _ => x).CountsKept c
      ((v.updMove c r fun _ => x).updQuill c fun q => { q with counted := q.counted + 1 }) :=
    State.updQuill_countsKept _ c fun _ => ⟨rfl, rfl, rfl⟩
  unfold State.move at hput ⊢
  rw [hkept.1]
  exact hput

/-! ## COUNT -/

section
variable (s : State) (k : CoreId) (key : Nat) (n : SReg) (sem : BitVec 16)

/-- The counts that a COUNT takes. -/
def State.localCounts : List Nat :=
  countExperts (parseRoute (s.routeAt (keyCtx key) k.val (parseMove (s.recordIn k key n)))).experts
    ((s.liveAssigns (keyCtx key) k.val (parseMove (s.recordIn k key n))).map
      (parseRoute (s.routeAt (keyCtx key) k.val (parseMove (s.recordIn k key n)))).expertOf)

/-- The staging bytes that a COUNT's counters take. -/
def State.countStage : Nat :=
  (24 + (if (parseMove (s.recordIn k key n)).policy = 1 then 16 else 0)) *
      (parseRoute (s.routeAt (keyCtx key) k.val (parseMove (s.recordIn k key n)))).experts +
    4 * (parseRoute (s.routeAt (keyCtx key) k.val (parseMove (s.recordIn k key n)))).tokens

/-- What the Quill keeps for a record whose COUNT has issued. -/
def State.countedMove : MoveState :=
  { record := moveKey k (s.offsetIn k key n), core := k, uid := ((s.core k.val).stream key).uid, sem := sem, phase := .exchanging
    order := (s.ctx (keyCtx key)).quill.counted, image := s.recordIn k key n
    route := s.routeAt (keyCtx key) k.val (parseMove (s.recordIn k key n)), launch := ((s.core k.val).stream key).launchTick
    group := (parseMove (s.recordIn k key n)).group, stage := s.countStage k key n, counts := s.localCounts k key n
    assigns := s.liveAssigns (keyCtx key) k.val (parseMove (s.recordIn k key n))
    adjusted := (s.ctx (keyCtx key)).quill.adjusted, hashKeys := (s.ctx (keyCtx key)).quill.hashKeys }

theorem State.countedMove_fields : (s.countedMove k key n sem).sem = sem ∧ (s.countedMove k key n sem).phase = .exchanging ∧
    (s.countedMove k key n sem).group = (parseMove (s.recordIn k key n)).group ∧
    (s.countedMove k key n sem).counts = s.localCounts k key n := by
  refine ⟨?_, ?_, ?_, ?_⟩ <;> dsimp only [State.countedMove]

/-- The state in which a COUNT has read what it needs. -/
def State.countRead : State :=
  (s.updStream k.val key Stream.advance).countTouch (keyCtx key) k.val ((s.core k.val).stream key).uid (parseMove (s.recordIn k key n))
    (parseRoute (s.routeAt (keyCtx key) k.val (parseMove (s.recordIn k key n))))

/-- The state in which a COUNT has counted, before its exchange. -/
def State.counting : State :=
  ((s.countRead k key n).updMove (keyCtx key) (moveKey k (s.offsetIn k key n)) fun _ => s.countedMove k key n sem).updQuill (keyCtx key)
    fun q => { q with counted := q.counted + 1 }

/-- What a COUNT contributes. -/
def State.countPart : Contribution :=
  (s.counting k key n sem).contribution (keyCtx key) k.val (parseMove (s.recordIn k key n))
    (parseRoute (s.routeAt (keyCtx key) k.val (parseMove (s.recordIn k key n)))) (s.localCounts k key n)

theorem State.countPart_fields : (s.countPart k key n sem).tokenBase = (parseMove (s.recordIn k key n)).tokenBase ∧
    (s.countPart k key n sem).tokens = (parseRoute (s.routeAt (keyCtx key) k.val (parseMove (s.recordIn k key n)))).tokens ∧
    (s.countPart k key n sem).counts = s.localCounts k key n := by
  refine ⟨?_, ?_, ?_⟩ <;> dsimp only [State.countPart, State.contribution]

end

section
variable {s : State} {k : CoreId} {key : Nat} {n : SReg} {sem : BitVec 16}

theorem exec_count (hi : s.issues k key (.count k n sem)) (hmove : s.moveThere k key n) : exec (.count k n sem) s =
    .next (if (s.updMove (keyCtx key) (moveKey k (s.offsetIn k key n)) fun x => { x with stage := 0 }).stageFits (keyCtx key)
        (s.countStage k key n) = false then s.ctxFault (keyCtx key)
      else (s.counting k key n sem).beginExchange (keyCtx key) (moveKey k (s.offsetIn k key n)) (s.countPart k key n sem)) :=
  congrArg Host.Outcome.next (onMove_of_there hmove hi _)

theorem State.countTouch_hubWork (s : State) (c i uid : Nat) (m : MoveRec) (r : RouteRec) : s.HubWork c (s.countTouch c i uid m r) := by
  unfold State.countTouch
  extract_lets u
  have hu : s.HubWork c u := by
    change s.HubWork c (match s.desc c m.map with
      | none => s
      | some d => s.hubTouch c i uid d (tabulate (fun e => [e]) r.experts))
    split
    · exact .refl c s
    · exact s.hubTouch_hubWork c i uid _ _
  split
  · exact hu
  · exact hu.trans (u.hubTouch_hubWork c i uid _ _)

theorem State.countTouch_sameReads (s : State) (c i uid : Nat) (m : MoveRec) (r : RouteRec) :
    s.SameReads c (s.countTouch c i uid m r) := by
  unfold State.countTouch
  extract_lets u
  have hu : s.SameReads c u := by
    change s.SameReads c (match s.desc c m.map with
      | none => s
      | some d => s.hubTouch c i uid d (tabulate (fun e => [e]) r.experts))
    split
    · exact .refl c s
    · exact s.hubTouch_sameReads c i uid _ _
  split
  · exact hu
  · exact hu.trans (u.hubTouch_sameReads c i uid _ _)

theorem State.counting_def (s : State) : s.counting k key n sem = ((s.countRead k key n).updMove (keyCtx key)
    (moveKey k (s.offsetIn k key n)) fun _ => s.countedMove k key n sem).updQuill (keyCtx key)
      fun q => { q with counted := q.counted + 1 } := by
  unfold State.counting
  rfl

theorem State.counting_move (s : State) : (s.counting k key n sem).move (keyCtx key) (moveKey k (s.offsetIn k key n)) =
    s.countedMove k key n sem := by
  rw [State.counting_def]
  exact State.updMove_updQuill_move (s.countRead k key n) (keyCtx key) (moveKey k (s.offsetIn k key n)) (s.countedMove k key n sem)

theorem State.updStream_rest (s : State) (i j : Nat) (f : Stream → Stream) : (s.updStream i j f).groups = s.groups ∧
    (s.updStream i j f).sramMem = s.sramMem ∧ (s.updStream i j f).hbmMem = s.hbmMem ∧ (s.updStream i j f).resMem = s.resMem :=
  ⟨rfl, rfl, rfl, rfl⟩

theorem State.countTouch_kept (s : State) (c i uid : Nat) (m : MoveRec) (r : RouteRec) :
    (s.countTouch c i uid m r).groups = s.groups ∧ (s.countTouch c i uid m r).cores = s.cores ∧
      (s.countTouch c i uid m r).sramMem = s.sramMem ∧ (s.countTouch c i uid m r).hbmMem = s.hbmMem ∧
      (s.countTouch c i uid m r).resMem = s.resMem := by
  have hwork := s.countTouch_hubWork c i uid m r
  obtain ⟨hsram, hhbm, hres, -⟩ := (s.countTouch_sameReads c i uid m r).mems
  refine ⟨?_, hwork.cores, hsram, hhbm, hres⟩
  obtain ⟨⟨_, _, _, _, _, h⟩, -⟩ := hwork
  rw [h]

theorem State.countRead_kept (s : State) : (s.countRead k key n).groups = s.groups ∧
    (s.countRead k key n).cores = (s.updStream k.val key Stream.advance).cores ∧
    (s.countRead k key n).sramMem = s.sramMem ∧ (s.countRead k key n).hbmMem = s.hbmMem ∧
    (s.countRead k key n).resMem = s.resMem := by
  unfold State.countRead
  obtain ⟨hgroups, hcores, hsram, hhbm, hres⟩ := (s.updStream k.val key Stream.advance).countTouch_kept (keyCtx key) k.val
    ((s.core k.val).stream key).uid (parseMove (s.recordIn k key n))
    (parseRoute (s.routeAt (keyCtx key) k.val (parseMove (s.recordIn k key n))))
  obtain ⟨hgroups', hsram', hhbm', hres'⟩ := s.updStream_rest k.val key Stream.advance
  exact ⟨hgroups.trans hgroups', hcores, hsram.trans hsram', hhbm.trans hhbm', hres.trans hres'⟩

theorem State.counting_rest (s : State) : (s.counting k key n sem).groups = (s.countRead k key n).groups ∧
    (s.counting k key n sem).cores = (s.countRead k key n).cores ∧ (s.counting k key n sem).sramMem = (s.countRead k key n).sramMem ∧
    (s.counting k key n sem).hbmMem = (s.countRead k key n).hbmMem ∧ (s.counting k key n sem).resMem = (s.countRead k key n).resMem := by
  rw [State.counting_def]
  exact State.updMove_updQuill_rest ..

/-- Groups, cores and memories before the exchange of a COUNT. -/
theorem State.counting_kept (s : State) : (∀ g, (s.counting k key n sem).group g = s.group g) ∧
    (s.counting k key n sem).cores = (s.updStream k.val key Stream.advance).cores ∧
    (s.counting k key n sem).sramMem = s.sramMem ∧ (s.counting k key n sem).hbmMem = s.hbmMem ∧
    (s.counting k key n sem).resMem = s.resMem := by
  obtain ⟨hgroups, hcores, hsram, hhbm, hres⟩ := s.countRead_kept (k := k) (key := key) (n := n)
  obtain ⟨hgroups', hcores', hsram', hhbm', hres'⟩ := s.counting_rest (k := k) (key := key) (n := n) (sem := sem)
  refine ⟨fun g => ?_, hcores'.trans hcores, hsram'.trans hsram, hhbm'.trans hhbm, hres'.trans hres⟩
  unfold State.group
  rw [hgroups', hgroups]

/-- The local count of an expert. -/
theorem State.localCounts_getD (s : State) {e : Nat}
    (he : e < (parseRoute (s.routeAt (keyCtx key) k.val (parseMove (s.recordIn k key n)))).experts) :
    (s.localCounts k key n).getD e 0 = ((s.liveAssigns (keyCtx key) k.val (parseMove (s.recordIn k key n))).filter fun a =>
      a.expert - (parseRoute (s.routeAt (keyCtx key) k.val (parseMove (s.recordIn k key n)))).base == e).length := by
  unfold State.localCounts countExperts
  rw [tabulate_getD _ _ he, List.filter_map, List.length_map]
  rfl

end

/-- The obligation's clause about a COUNT that issues. -/
theorem count_issues {s : State} {k : CoreId} {key : Nat} {n : SReg} {sem : BitVec 16} (hi : s.issues k key (.count k n sem))
    (hmove : s.moveThere k key n)
    (hfits : (s.updMove (keyCtx key) (moveKey k (s.offsetIn k key n)) fun x => { x with stage := 0 }).stageFits (keyCtx key)
      (s.countStage k key n) = true) :
    ∃ t, exec (.count k n sem) s = .next t ∧ ∃ p z, t.move (keyCtx key) (moveKey k (s.offsetIn k key n)) =
        { s.countedMove k key n sem with
          step := (s.group (parseMove (s.recordIn k key n)).group).nextStep, phase := p, stage := z } ∧
      ((s.group (parseMove (s.recordIn k key n)).group).state ≠ .aborted → p = .exchanging) ∧
      ((s.group (parseMove (s.recordIn k key n)).group).state = .aborted → p = .failed) ∧
      (t.group (parseMove (s.recordIn k key n)).group).nextStep =
        (s.group (parseMove (s.recordIn k key n)).group).nextStep + 1 ∧
      (t.core k.val).stream key = ((s.core k.val).stream key).advance ∧
      t.sramMem = s.sramMem ∧ t.hbmMem = s.hbmMem ∧ t.resMem = s.resMem ∧
      ((s.group (parseMove (s.recordIn k key n)).group).state = .active →
        Output.exchange (Fin.ofNat 4096 (parseMove (s.recordIn k key n)).group)
          (s.group (parseMove (s.recordIn k key n)).group).nextStep (s.countPart k key n sem) ∈ t.out) := by
  have hc : (Fin.ofNat 64 (keyCtx key)).val = keyCtx key := ctxOf_val hi.1
  obtain ⟨-, hphase, hgroup, -⟩ := s.countedMove_fields k key n sem
  obtain ⟨hgroups, hcores, hsram, hhbm, hres⟩ := s.counting_kept (k := k) (key := key) (n := n) (sem := sem)
  have hspec := State.beginExchange_spec (s := s.counting k key n sem) (key := moveKey k (s.offsetIn k key n)) hc
    (s.countPart k key n sem) (by rw [State.counting_move]; exact .inl hphase)
  rw [State.counting_move, hgroup, hgroups, hphase] at hspec
  obtain ⟨hnext, ⟨hcores', hsram', hhbm', hres'⟩, ⟨p, z, hmv, hgo, hfail⟩, hout⟩ := hspec
  refine ⟨_, (exec_count hi hmove).trans (congrArg _ (if_neg (ne_false_of_eq_true hfits))), p, z, hmv, hgo, hfail, hnext, ?_,
    hsram'.trans hsram, hhbm'.trans hhbm, hres'.trans hres, hout⟩
  rw [← State.updStream_stream s k.val key Stream.advance]
  unfold State.core
  rw [hcores', hcores]

end Sys2Proof.Machine
end

section
/-! The result of an exchange and the end of a COUNT (R309 to R321, R331, R382 to R389). -/

namespace Sys2Proof.Machine

/-! ## The result of an exchange -/

/-- Some queue's tensor has fewer rows than the capacity, or is not there. -/
def State.queuesShort (s : State) (c k : Nat) (m : MoveRec) (cap : Nat) : Bool :=
  (List.range m.queues).any fun q => match s.desc c (s.queueEntry c k m q).queue with
    | none => true
    | some d => decide (d.ext 1 < cap)

theorem State.queuesShort_iff (s : State) (c k : Nat) (m : MoveRec) (cap : Nat) : s.queuesShort c k m cap = false ↔
    ∀ q < m.queues, ∃ d, s.desc c (s.queueEntry c k m q).queue = some d ∧ cap ≤ d.ext 1 := by
  unfold State.queuesShort
  rw [List.any_eq_false]
  refine ⟨fun h q hq => ?_, fun h q hq => ?_⟩
  · have hq' := h q (List.mem_range.2 hq)
    split at hq'
    · exact absurd rfl hq'
    · next d hd =>
      rw [decide_eq_true_eq, Nat.not_lt] at hq'
      exact ⟨d, hd, hq'⟩
  · obtain ⟨d, hd, hcap⟩ := h q (List.mem_range.1 hq)
    rw [hd]
    dsimp only
    rw [decide_eq_true_eq, Nat.not_lt]
    exact hcap

section
variable (s : State) (c : Nat) (x : MoveState) (parts : List Contribution)

/-- The capacity that the contributions give. -/
def resultCapacity : Nat :=
  capacityOf (parseMove x.image).cf (parts.map (·.tokens)).sum (parseRoute x.route).k (parseRoute x.route).experts

/-- The state in which the exact counts have entered the layer's loads. -/
def State.countsLoaded : State :=
  (s.updStep x.group x.step fun t => { t with phase := .ok }).balUpdate c (parseRoute x.route)
    (exchangeTotals (parseRoute x.route).experts parts) x.launch

/-- What the Quill keeps for a record whose exchange has its result. -/
def placedMove : MoveState :=
  { x with
    phase := .placing, totals := exchangeTotals (parseRoute x.route).experts parts
    bases := exchangeBases (parseRoute x.route).experts (parseMove x.image).tokenBase parts
    globalTokens := (parts.map (·.tokens)).sum, capacity := resultCapacity x parts
    assigns := firstPass (parseRoute x.route) (exchangeBases (parseRoute x.route).experts (parseMove x.image).tokenBase parts)
      (resultCapacity x parts) x.assigns
    requests := if (parseMove x.image).policy = 1 then x.spillRequests (parseRoute x.route)
        (exchangeTotals (parseRoute x.route).experts parts) (resultCapacity x parts)
        (firstPass (parseRoute x.route) (exchangeBases (parseRoute x.route).experts (parseMove x.image).tokenBase parts)
          (resultCapacity x parts) x.assigns)
      else []
    stage := x.stage + 8 * (parseMove x.image).queues * resultCapacity x parts }

/-- The state in which the record is placed. -/
def State.placed : State := (s.countsLoaded c x parts).updMove c x.record fun _ => placedMove x parts

theorem State.takeResult_eq : s.takeResult c x parts =
    if s.queuesShort c x.core.val (parseMove x.image) (resultCapacity x parts) = true ∨
        (s.countsLoaded c x parts).stageFits c (8 * (parseMove x.image).queues * resultCapacity x parts) = false then
      (s.countsLoaded c x parts).ctxFault c
    else if (parseMove x.image).policy = 1 then
      (s.placed c x parts).beginExchange c x.record ((s.placed c x parts).contribution c x.core.val (parseMove x.image)
        (parseRoute x.route) (countExperts (parseRoute x.route).experts ((placedMove x parts).requests.map (·.2.2))))
    else s.placed c x parts := by
  unfold State.takeResult
  rfl

theorem State.balUpdate_groups (r : RouteRec) (totals : List Nat) (launch : Word) :
    (s.balUpdate c r totals launch).groups = s.groups := by
  have hrow (b : BalState) : (s.putBalRow c b).groups = s.groups := by
    obtain ⟨⟨_, _, _, _, _, h⟩, -⟩ := s.putBalRow_hubWork c b
    rw [h]
  unfold State.balUpdate
  extract_lets q b load steps put row latest old u total values
  have hu : u.groups = s.groups := by
    change (if _ then _ else _ : State).groups = _
    split
    · exact hrow b
    · rfl
  split
  · rfl
  · split
    · rfl
    · exact hu

theorem State.countsLoaded_group (g : Nat) : ((s.countsLoaded c x parts).group g).state = (s.group g).state ∧
    ((s.countsLoaded c x parts).group g).nextStep = (s.group g).nextStep := by
  have hgroups : (s.countsLoaded c x parts).group g = (s.updStep x.group x.step fun t => { t with phase := .ok }).group g := by
    unfold State.countsLoaded State.group
    rw [State.balUpdate_groups]
  rw [hgroups]
  refine ⟨?_, s.updStep_nextStep _ _ _ g⟩
  by_cases hg : g = x.group
  · subst hg
    exact (congrArg Group.state (s.updGroup_group x.group _) :)
  · exact congrArg Group.state (SMap.get_put_ne _ _ _ _ _ hg)

theorem placedMove_fields : (placedMove x parts).phase = .placing ∧ (placedMove x parts).group = x.group ∧
    (placedMove x parts).globalTokens = (parts.map (·.tokens)).sum ∧ (placedMove x parts).capacity = resultCapacity x parts ∧
    (placedMove x parts).assigns = firstPass (parseRoute x.route)
      (exchangeBases (parseRoute x.route).experts (parseMove x.image).tokenBase parts) (resultCapacity x parts) x.assigns ∧
    (placedMove x parts).totals = exchangeTotals (parseRoute x.route).experts parts ∧
    (placedMove x parts).bases = exchangeBases (parseRoute x.route).experts (parseMove x.image).tokenBase parts := by
  refine ⟨?_, ?_, ?_, ?_, ?_, ?_, ?_⟩ <;> dsimp only [placedMove]

theorem State.placed_move : (s.placed c x parts).move c x.record = placedMove x parts := by
  unfold State.placed
  rw [State.updMove_move]

end

/-- What an exchange's result leaves of a record that fits. -/
theorem State.takeResult_of_room {s : State} {c : CtxId} {x : MoveState} {parts : List Contribution}
    (hroom : ¬(s.queuesShort c.val x.core.val (parseMove x.image) (resultCapacity x parts) = true ∨
      (s.countsLoaded c.val x parts).stageFits c.val (8 * (parseMove x.image).queues * resultCapacity x parts) = false)) :
    ((s.takeResult c.val x parts).sramMem = (s.countsLoaded c.val x parts).sramMem ∧
      (s.takeResult c.val x parts).hbmMem = (s.countsLoaded c.val x parts).hbmMem ∧
      (s.takeResult c.val x parts).resMem = (s.countsLoaded c.val x parts).resMem) ∧
    ((parseMove x.image).policy ≠ 1 → s.takeResult c.val x parts = s.placed c.val x parts) ∧
    ((parseMove x.image).policy = 1 → ∃ n p z, (s.takeResult c.val x parts).move c.val x.record =
        { placedMove x parts with step := n, phase := p, stage := z } ∧ n = (s.group x.group).nextStep ∧
      ((s.group x.group).state = .active → p = .placing ∧ ∃ part, Output.exchange (Fin.ofNat 4096 x.group) n part ∈
        (s.takeResult c.val x parts).out ∧
        part.counts = countExperts (parseRoute x.route).experts ((placedMove x parts).requests.map (·.2.2)))) := by
  have hplaced : (s.placed c.val x parts).sramMem = (s.countsLoaded c.val x parts).sramMem ∧
      (s.placed c.val x parts).hbmMem = (s.countsLoaded c.val x parts).hbmMem ∧
      (s.placed c.val x parts).resMem = (s.countsLoaded c.val x parts).resMem := by
    unfold State.placed
    generalize s.countsLoaded c.val x parts = u
    exact ⟨rfl, rfl, rfl⟩
  have hgroup (g : Nat) : (s.placed c.val x parts).group g = (s.countsLoaded c.val x parts).group g := by
    unfold State.placed
    generalize s.countsLoaded c.val x parts = u
    rfl
  obtain ⟨hphase, hxgroup, -⟩ := placedMove_fields x parts
  obtain ⟨hstate, hnext⟩ := s.countsLoaded_group c.val x parts x.group
  rw [State.takeResult_eq, if_neg hroom]
  by_cases hpolicy : (parseMove x.image).policy = 1
  · rw [if_pos hpolicy]
    have hspec := State.beginExchange_spec (s := s.placed c.val x parts) (c := c.val) (key := x.record) (Nat.mod_eq_of_lt c.isLt)
      ((s.placed c.val x parts).contribution c.val x.core.val (parseMove x.image)
        (parseRoute x.route) (countExperts (parseRoute x.route).experts ((placedMove x parts).requests.map (·.2.2))))
      (by rw [State.placed_move]; exact .inr hphase)
    rw [State.placed_move, hxgroup, hgroup, hstate, hnext, hphase] at hspec
    obtain ⟨-, ⟨-, hsram, hhbm, hres⟩, ⟨p, z, hmove, hgo, -⟩, hout⟩ := hspec
    refine ⟨⟨hsram.trans hplaced.1, hhbm.trans hplaced.2.1, hres.trans hplaced.2.2⟩, fun h => absurd hpolicy h,
      fun _ => ⟨_, p, z, hmove, rfl, fun hactive => ⟨hgo (by rw [hactive]; decide), _, hout hactive, rfl⟩⟩⟩
  · rw [if_neg hpolicy]
    exact ⟨hplaced, fun _ => rfl, fun h => absurd h hpolicy⟩

end Sys2Proof.Machine
end

section
/-! The end of a COUNT, and the exchange's obligation (R314 to R321, R331, R382 to R389). -/

namespace Sys2Proof.Machine

theorem SMap.get_map_keys {α : Type} (d : α) (f : Nat → α) {l : List Nat} {q : Nat} (h : q ∈ l) :
    SMap.get d (l.map fun q => (q, f q)) q = f q := by
  induction l with
  | nil => exact nomatch h
  | cons x l ih =>
    by_cases hx : x = q
    · subst hx
      exact if_pos rfl
    · exact (if_neg hx).trans (ih ((List.mem_cons.1 h).resolve_left fun h => hx h.symm))

section
variable (s : State) (c : Nat) (x : MoveState) (spill : List Contribution)

/-- The final assignments and row counts of a COUNT. -/
def finalRows : List Assign × List Nat :=
  if (parseMove x.image).policy = 1 then
    spillPass x (parseRoute x.route).base (parseMove x.image).tokenBase (parseRoute x.route).experts spill
  else (x.assigns, tabulate (fun e => min (x.totals.getD e 0) x.capacity) (parseRoute x.route).experts)

/-- What the Quill keeps for a record whose COUNT is complete. -/
def State.completedMove : MoveState :=
  { x with
    phase := .complete, assigns := (finalRows x spill).1, kept := (finalRows x spill).2
    dropped := ((finalRows x spill).1.filter fun a => a.row.isNone).length
    spilled := ((finalRows x spill).1.filter fun a => a.overflow && a.row.isSome).length
    expectRows := (List.range (parseMove x.image).queues).map fun q => (q, (finalRows x spill).2.getD
      ((s.queueEntry c x.core.val (parseMove x.image) q).expert - (parseRoute x.route).base) 0)
    expectContrib := contribCounts (finalRows x spill).1 }

/-- The state in which a COUNT's record is complete. -/
def State.completing : State :=
  ((if (parseMove x.image).policy = 1 then s.updStep x.group x.step fun t => { t with phase := .ok } else s).updMove c x.record
    fun _ => s.completedMove c x spill).updQuill c fun q =>
      { q with
        dropped := satAdd q.dropped (s.completedMove c x spill).dropped
        spilled := satAdd q.spilled (s.completedMove c x spill).spilled }

/-- The state in which a COUNT's summary or section and its semaphore are done. -/
def State.completed : State :=
  (if (s.completing c x spill).cfgNum (0x4300 + c) 1 = 1 then
      (s.completing c x spill).takeSection c (parseMove x.image) (parseRoute x.route) (s.completedMove c x spill)
    else (s.completing c x spill).postSummary c (parseRoute x.route) (s.completedMove c x spill)).signalSem c
      (s.completedMove c x spill).sem.toNat 1

/-- The queues that expect no row. -/
def State.emptyQueues : List Nat :=
  (List.range (parseMove x.image).queues).filter fun q => (s.completedMove c x spill).expectRows.get 0 q == 0

theorem State.completeCount_eq : s.completeCount c x spill = (s.emptyQueues c x spill).foldl
    (fun u q => u.releaseQueue c (u.move c (s.completedMove c x spill).record) q) (s.completed c x spill) := by
  unfold State.completeCount
  rfl

theorem State.completedMove_fields : (s.completedMove c x spill).record = x.record ∧
    (s.completedMove c x spill).phase = .complete ∧ (s.completedMove c x spill).assigns = (finalRows x spill).1 ∧
    (s.completedMove c x spill).kept = (finalRows x spill).2 ∧
    (s.completedMove c x spill).dropped = ((finalRows x spill).1.filter fun a => a.row.isNone).length ∧
    (s.completedMove c x spill).spilled = ((finalRows x spill).1.filter fun a => a.overflow && a.row.isSome).length := by
  refine ⟨?_, ?_, ?_, ?_, ?_, ?_⟩ <;> dsimp only [State.completedMove]

theorem State.completedMove_expect {q : Nat} (hq : q < (parseMove x.image).queues) :
    (s.completedMove c x spill).expectRows.get 0 q = (finalRows x spill).2.getD
      ((s.queueEntry c x.core.val (parseMove x.image) q).expert - (parseRoute x.route).base) 0 := by
  dsimp only [State.completedMove]
  exact SMap.get_map_keys 0 (fun q => (finalRows x spill).2.getD
    ((s.queueEntry c x.core.val (parseMove x.image) q).expert - (parseRoute x.route).base) 0) (List.mem_range.2 hq)

end

/-- A record that is put, and the counts of its drops and spills. -/
theorem State.updMove_counts (v : State) (c r : Nat) (y : MoveState) (a b : Nat) :
    let u := (v.updMove c r fun _ => y).updQuill c fun q => { q with dropped := satAdd q.dropped a, spilled := satAdd q.spilled b }
    u.move c r = y ∧ (u.ctx c).quill.dropped = satAdd (v.ctx c).quill.dropped a ∧
      (u.ctx c).quill.spilled = satAdd (v.ctx c).quill.spilled b := by
  intro u
  have hput : ((v.updMove c r fun _ => y).ctx c).quill = { (v.ctx c).quill with moves := (v.ctx c).quill.moves.put r y } :=
    congrArg Ctx.quill (SMap.get_put _ _ _ _)
  have hu : (u.ctx c).quill = { ((v.updMove c r fun _ => y).ctx c).quill with
      dropped := satAdd ((v.updMove c r fun _ => y).ctx c).quill.dropped a
      spilled := satAdd ((v.updMove c r fun _ => y).ctx c).quill.spilled b } := congrArg Ctx.quill (SMap.get_put _ _ _ _)
  unfold State.move
  rw [hu, hput]
  exact ⟨SMap.get_put _ _ _ _, rfl, rfl⟩

/-- The record and the counts before the queues are released. -/
theorem State.completed_counts (s : State) (c : Nat) (x : MoveState) (spill : List Contribution) :
    (s.completed c x spill).move c x.record = s.completedMove c x spill ∧
      ((s.completed c x spill).ctx c).quill.dropped = satAdd (s.ctx c).quill.dropped (s.completedMove c x spill).dropped ∧
      ((s.completed c x spill).ctx c).quill.spilled = satAdd (s.ctx c).quill.spilled (s.completedMove c x spill).spilled := by
  have hstep : (if (parseMove x.image).policy = 1 then s.updStep x.group x.step fun t => { t with phase := .ok } else s).ctx c =
      s.ctx c := by
    split <;> rfl
  obtain ⟨hmove, hdropped, hspilled⟩ := State.updMove_counts
    (if (parseMove x.image).policy = 1 then s.updStep x.group x.step fun t => { t with phase := .ok } else s) c x.record
    (s.completedMove c x spill) (s.completedMove c x spill).dropped (s.completedMove c x spill).spilled
  rw [hstep] at hdropped hspilled
  have hkept : (s.completing c x spill).CountsKept c (s.completed c x spill) := by
    unfold State.completed
    refine .trans ?_ (.of_quill (State.signalSem_quill _ c _ _ c))
    split
    · exact State.takeSection_countsKept _ c _ _ _
    · exact State.postSummary_countsKept _ c _ _
  refine ⟨?_, hkept.2.1.trans hdropped, hkept.2.2.trans hspilled⟩
  unfold State.move
  rw [hkept.1]
  exact hmove

theorem State.updMove_dropped (v : State) (c r : Nat) (f : MoveState → MoveState) :
    ((v.updMove c r f).ctx c).quill.dropped = (v.ctx c).quill.dropped ∧
      ((v.updMove c r f).ctx c).quill.spilled = (v.ctx c).quill.spilled :=
  ⟨(congrArg (fun x : Ctx => x.quill.dropped) (SMap.get_put _ _ _ _) :),
    (congrArg (fun x : Ctx => x.quill.spilled) (SMap.get_put _ _ _ _) :)⟩

/-- A released queue. -/
theorem State.releaseQueue_counts {u : State} {c : Nat} {y : MoveState} {l : List Nat}
    (h : u.move c y.record = { y with released := l }) (q : Nat) :
    (u.releaseQueue c (u.move c y.record) q).move c y.record = { y with released := q :: l } ∧
      ((u.releaseQueue c (u.move c y.record) q).ctx c).quill.dropped = (u.ctx c).quill.dropped ∧
      ((u.releaseQueue c (u.move c y.record) q).ctx c).quill.spilled = (u.ctx c).quill.spilled := by
  have hrecord : (u.move c y.record).record = y.record := by rw [h]
  unfold State.releaseQueue
  dsimp only
  rw [hrecord]
  have hput := u.updMove_move c y.record fun z => { z with released := q :: z.released }
  rw [h] at hput
  obtain ⟨hdropped, hspilled⟩ := u.updMove_dropped c y.record fun z => { z with released := q :: z.released }
  unfold State.move at hput ⊢
  rw [State.signalSem_quill]
  exact ⟨hput, hdropped, hspilled⟩

/-- Releasing queues leaves the record but for the released ones. -/
theorem State.foldl_releaseQueue (c : Nat) (y : MoveState) (qs : List Nat) (u : State) (l : List Nat)
    (h : u.move c y.record = { y with released := l }) :
    ∃ l', (qs.foldl (fun u q => u.releaseQueue c (u.move c y.record) q) u).move c y.record = { y with released := l' } ∧
      (∀ q, q ∈ l ∨ q ∈ qs → q ∈ l') ∧
      ((qs.foldl (fun u q => u.releaseQueue c (u.move c y.record) q) u).ctx c).quill.dropped = (u.ctx c).quill.dropped ∧
      ((qs.foldl (fun u q => u.releaseQueue c (u.move c y.record) q) u).ctx c).quill.spilled = (u.ctx c).quill.spilled := by
  induction qs generalizing u l with
  | nil =>
    rw [List.foldl_nil]
    exact ⟨l, h, fun q hq => Or.resolve_right hq fun h => (nomatch h), rfl, rfl⟩
  | cons q qs ih =>
    obtain ⟨hmove, hdropped, hspilled⟩ := State.releaseQueue_counts h q
    obtain ⟨l', hmove', hmem, hdropped', hspilled'⟩ := ih _ _ hmove
    rw [List.foldl_cons]
    refine ⟨l', hmove', fun p hp => hmem p ?_, hdropped'.trans hdropped, hspilled'.trans hspilled⟩
    rcases hp with hp | hp
    · exact .inl (List.mem_cons_of_mem _ hp)
    · rcases List.mem_cons.1 hp with rfl | hp
      · exact .inl List.mem_cons_self
      · exact .inr hp

/-- What a COUNT that completes leaves. -/
theorem State.completeCount_spec (s : State) (c : Nat) (x : MoveState) (spill : List Contribution) :
    ∃ l, (s.completeCount c x spill).move c x.record = { s.completedMove c x spill with released := l } ∧
      (∀ q ∈ s.emptyQueues c x spill, q ∈ l) ∧
      ((s.completeCount c x spill).ctx c).quill.dropped = satAdd (s.ctx c).quill.dropped (s.completedMove c x spill).dropped ∧
      ((s.completeCount c x spill).ctx c).quill.spilled = satAdd (s.ctx c).quill.spilled (s.completedMove c x spill).spilled := by
  obtain ⟨hmove, hdropped, hspilled⟩ := s.completed_counts c x spill
  obtain ⟨hrecord, -⟩ := s.completedMove_fields c x spill
  rw [State.completeCount_eq]
  rw [← hrecord] at hmove ⊢
  generalize s.completedMove c x spill = y at *
  obtain ⟨l, hl, hmem, hdropped', hspilled'⟩ := State.foldl_releaseQueue c y (s.emptyQueues c x spill) (s.completed c x spill)
    y.released hmove
  exact ⟨l, hl, fun q hq => hmem q (.inr hq), hdropped'.trans hdropped, hspilled'.trans hspilled⟩

end Sys2Proof.Machine
end

section
/-! COUNT: its beginning, its exchange and its completion (R297 to R321, R331). -/

namespace Sys2Proof.Machine

theorem exchangeTotals_getD (parts : List Contribution) {experts e : Nat} (he : e < experts) :
    (exchangeTotals experts parts).getD e 0 = (parts.map fun p => p.counts.getD e 0).sum := by
  unfold exchangeTotals
  exact tabulate_getD _ _ he

/-- The obligation's clause about COUNT. -/
theorem countExchange_count (k : CoreId) (n : SReg) (sem : BitVec 16) (s : State) (key : Nat) (hi : s.issues k key (.count k n sem))
    (hmove : s.moveThere k key n) :
    let c := keyCtx key
    let rec' := moveKey k (s.offsetIn k key n)
    let m := parseMove (s.recordIn k key n)
    let r := parseRoute (s.routeAt c k.val m)
    let fits := (s.updMove c rec' fun x => { x with stage := 0 }).stageFits c
      ((24 + (if m.policy = 1 then 16 else 0)) * r.experts + 4 * r.tokens)
    (fits = false → exec (.count k n sem) s = .next (s.ctxFault c)) ∧
    (fits = true → ∃ t, exec (.count k n sem) s = .next t ∧
      (t.move c rec').sem = sem ∧ (t.move c rec').step = (s.group m.group).nextStep ∧
      (t.group m.group).nextStep = (s.group m.group).nextStep + 1 ∧
      (∀ e < r.experts, (t.move c rec').counts.getD e 0 =
        ((s.liveAssigns c k.val m).filter fun a => a.expert - r.base == e).length) ∧
      ((t.core k.val).stream key) = ((s.core k.val).stream key).advance ∧
      t.sramMem = s.sramMem ∧ t.hbmMem = s.hbmMem ∧ t.resMem = s.resMem ∧
      ((s.group m.group).state ≠ .aborted → (t.move c rec').phase = .exchanging) ∧
      ((s.group m.group).state = .aborted → (t.move c rec').phase = .failed) ∧
      ((s.group m.group).state = .active →
        ∃ p, (.exchange (Fin.ofNat 4096 m.group) (s.group m.group).nextStep p) ∈ t.out ∧ p.tokenBase = m.tokenBase ∧
          p.tokens = r.tokens ∧ p.counts = (t.move c rec').counts)) := by
  intro c rec' m r fits
  have hfits : fits = (s.updMove c rec' fun x => { x with stage := 0 }).stageFits c (s.countStage k key n) := rfl
  obtain ⟨hsem, -, -, hcounts⟩ := s.countedMove_fields k key n sem
  obtain ⟨hbase, htokens, hpart⟩ := s.countPart_fields k key n sem
  refine ⟨fun h => (exec_count hi hmove).trans (congrArg _ (if_pos (hfits ▸ h))), fun h => ?_⟩
  obtain ⟨t, hexec, p, z, hmv, hgo, hfail, hnext, hstream, hsram, hhbm, hres, hout⟩ := count_issues hi hmove (hfits ▸ h)
  have hcount (e : Nat) (he : e < r.experts) := s.localCounts_getD (k := k) (key := key) (n := n) he
  generalize s.countedMove k key n sem = y at hsem hcounts hmv
  generalize s.countPart k key n sem = part at hbase htokens hpart hout
  refine ⟨t, hexec, ?_, ?_, hnext, fun e he => ?_, hstream, hsram, hhbm, hres, fun h => ?_, fun h => ?_, fun h => ?_⟩
  · rw [hmv]
    exact hsem
  · rw [hmv]
  · rw [hmv]
    dsimp only
    rw [hcounts]
    exact hcount e he
  · rw [hmv]
    exact hgo h
  · rw [hmv]
    exact hfail h
  · refine ⟨_, hout h, hbase, htokens, ?_⟩
    rw [hmv, hpart, ← hcounts]

/-- The obligation's clause about the result of an exchange. -/
theorem countExchange_result (c : CtxId) (parts : List Contribution) (s : State) (x : MoveState)
    (hx : s.moveWhere c.val (fun x => x.phase == .exchanging && s.wholeExchange x parts) = some x) :
    let m := parseMove x.image
    let r := parseRoute x.route
    let cap := capacityOf m.cf (parts.map (·.tokens)).sum r.k r.experts
    let u := (s.updStep x.group x.step fun t => { t with phase := .ok }).balUpdate c.val r (exchangeTotals r.experts parts) x.launch
    let room := (∀ q < m.queues, ∃ d, s.desc c.val (s.queueEntry c.val x.core.val m q).queue = some d ∧ cap ≤ d.ext 1) ∧
      u.stageFits c.val (8 * m.queues * cap) = true
    (badExchange parts = true → exec (.countExchangeResult c parts) s = .next (s.ctxFault c.val)) ∧
    (badExchange parts = false → ¬ room → exec (.countExchangeResult c parts) s = .next (u.ctxFault c.val)) ∧
    (r.balance = false → u = s.updStep x.group x.step fun t => { t with phase := .ok }) ∧
    (badExchange parts = false → room →
      ∃ t, exec (.countExchangeResult c parts) s = .next t ∧
        (t.move c.val x.record).globalTokens = (parts.map (·.tokens)).sum ∧ (t.move c.val x.record).capacity = cap ∧
        (∀ e < r.experts, (t.move c.val x.record).totals.getD e 0 = (parts.map fun p => p.counts.getD e 0).sum) ∧
        (∀ e < r.experts, (t.move c.val x.record).bases.getD e 0 =
          ((parts.filter fun p => decide (p.tokenBase < m.tokenBase)).map fun p => p.counts.getD e 0).sum) ∧
        (t.move c.val x.record).assigns = firstPass r (exchangeBases r.experts m.tokenBase parts) cap x.assigns ∧
        t.sramMem = u.sramMem ∧ t.hbmMem = u.hbmMem ∧ t.resMem = u.resMem ∧
        (m.policy ≠ 1 → (t.move c.val x.record).phase = .placing ∧
          t = u.updMove c.val x.record fun _ => t.move c.val x.record) ∧
        (m.policy = 1 → (s.group x.group).state = .active → (t.move c.val x.record).phase = .placing ∧
          (t.move c.val x.record).step = (s.group x.group).nextStep ∧
          ∃ p, (.exchange (Fin.ofNat 4096 x.group) (s.group x.group).nextStep p) ∈ t.out ∧
            p.counts = countExperts r.experts ((t.move c.val x.record).requests.map (·.2.2)))) := by
  intro m r cap u room
  have hexec : exec (.countExchangeResult c parts) s = .next (if badExchange parts = true then s.ctxFault c.val
      else s.takeResult c.val x parts) := by
    change execCountExchangeResult c parts s = _
    unfold execCountExchangeResult
    rw [hx]
  have hroom : room ↔ ¬(s.queuesShort c.val x.core.val m (resultCapacity x parts) = true ∨
      (s.countsLoaded c.val x parts).stageFits c.val (8 * m.queues * resultCapacity x parts) = false) := by
    rw [not_or, Bool.not_eq_true, Bool.not_eq_false]
    exact and_congr (s.queuesShort_iff c.val x.core.val m cap).symm Iff.rfl
  have hresult (hbad : badExchange parts = false) : exec (.countExchangeResult c parts) s = .next (s.takeResult c.val x parts) :=
    hexec.trans (congrArg _ (if_neg (ne_true_of_eq_false hbad)))
  refine ⟨fun h => hexec.trans (congrArg _ (if_pos h)), fun hbad hno => ?_, fun hbal => ?_, fun hbad hyes => ?_⟩
  · rw [hresult hbad, State.takeResult_eq, if_pos (Classical.not_not.1 (mt hroom.2 hno))]
    rfl
  · refine if_pos ?_
    rw [hbal]
    rfl
  · obtain ⟨⟨hsram, hhbm, hres⟩, hplain, hspill⟩ := State.takeResult_of_room (hroom.1 hyes)
    obtain ⟨hphase, hgroup, hglobal, hcap, hassigns, htotals, hbases⟩ := placedMove_fields x parts
    obtain ⟨n, p, z, hmove⟩ : ∃ n p z, (s.takeResult c.val x parts).move c.val x.record =
        { placedMove x parts with step := n, phase := p, stage := z } := by
      by_cases hpolicy : m.policy = 1
      · obtain ⟨n, p, z, hmove, -⟩ := hspill hpolicy
        exact ⟨n, p, z, hmove⟩
      · rw [hplain hpolicy, State.placed_move]
        exact ⟨_, _, _, rfl⟩
    refine ⟨_, hresult hbad, ?_, ?_, fun e he => ?_, fun e he => ?_, ?_, hsram, hhbm, hres, fun hpolicy => ?_, fun hpolicy hactive => ?_⟩
    · rw [hmove]
      exact hglobal
    · rw [hmove]
      exact hcap
    · rw [hmove]
      exact (congrArg (fun l => List.getD l e 0) htotals).trans (exchangeTotals_getD parts he)
    · rw [hmove]
      exact (congrArg (fun l => List.getD l e 0) hbases).trans (exchangeTotals_getD _ he)
    · rw [hmove]
      exact hassigns
    · rw [hplain hpolicy, State.placed_move]
      exact ⟨hphase, rfl⟩
    · obtain ⟨n', p', z', hmove', hn, hgo⟩ := hspill hpolicy
      obtain ⟨hp, part, hout, hcounts⟩ := hgo hactive
      subst hn hp
      rw [hmove']
      exact ⟨rfl, rfl, part, hout, hcounts⟩

/-- Settles O15: a COUNT takes its counts into an exchange, the result gives the first pass, and its end releases queues. -/
theorem countExchange : Obligations.CountExchange := by
  refine ⟨countExchange_count, countExchange_result, fun c parts s h => ?_, fun c spill s => ?_⟩
  · change execCountExchangeResult c parts s = _
    unfold execCountExchangeResult
    rw [h]
  · intro at_
    have hexec : exec (.countComplete c spill) s = .next (match at_ with
      | none => s
      | some x => if s.quillRuns c.val = false then s
        else if (parseMove x.image).policy = 1 ∧ badExchange spill = true then s.ctxFault c.val
        else s.completeCount c.val x spill) := rfl
    refine ⟨fun h => ?_, fun x hx hruns => ?_⟩
    · rw [hexec]
      cases hat : at_ with
      | none => rfl
      | some x =>
        rcases h with h | h
        · rw [h] at hat
          cases hat
        · exact congrArg _ (if_pos h)
    · intro m r
      rw [hexec, hx]
      dsimp only
      rw [if_neg (ne_false_of_eq_true hruns)]
      refine ⟨fun hpolicy hbad => congrArg _ (if_pos ⟨hpolicy, hbad⟩), fun hgood => ?_⟩
      obtain ⟨l, hmove, hmem, hdropped, hspilled⟩ := s.completeCount_spec c.val x spill
      obtain ⟨-, hphase, hassigns, hkept, hdrop, hspill⟩ := s.completedMove_fields c.val x spill
      refine ⟨_, congrArg _ (if_neg ?_), ?_⟩
      · rintro ⟨hpolicy, hbad⟩
        rcases hgood with h | h
        · exact h hpolicy
        · exact ne_true_of_eq_false h hbad
      · generalize (s.completeCount c.val x spill).move c.val x.record = y at hmove ⊢
        have hy : y = { s.completedMove c.val x spill with released := l } := hmove
        have hyassigns : y.assigns = (finalRows x spill).1 := by
          rw [hy]
          exact hassigns
        have hykept : y.kept = (finalRows x spill).2 := by
          rw [hy]
          exact hkept
        have hyexpect (q : Nat) : y.expectRows.get 0 q = (s.completedMove c.val x spill).expectRows.get 0 q := by
          rw [hy]
        refine ⟨?_, ?_, ?_, ?_, fun hpolicy => ?_, fun hpolicy => ?_, fun q hq => ?_, fun q hq hzero => ?_⟩
        · rw [hy]
          exact hphase
        · rw [hyassigns, hy]
          exact hdrop
        · rw [hdropped, hdrop, hyassigns]
        · rw [hspilled, hspill, hyassigns]
        · have hrows : finalRows x spill = (x.assigns, tabulate (fun e => min (x.totals.getD e 0) x.capacity) r.experts) :=
            if_neg hpolicy
          rw [hyassigns, hykept, hrows]
          exact ⟨rfl, fun e he => tabulate_getD _ _ he⟩
        · have hrows : finalRows x spill = spillPass x r.base m.tokenBase r.experts spill := if_pos hpolicy
          rw [hyassigns, hykept, hrows]
          refine ⟨rfl, fun e he => ?_⟩
          unfold spillPass
          dsimp only
          rw [tabulate_getD _ _ he, exchangeTotals_getD spill he]
        · rw [hyexpect, State.completedMove_expect s c.val x spill hq, hykept]
        · rw [hy]
          refine hmem q (List.mem_filter.2 ⟨List.mem_range.2 hq, ?_⟩)
          rw [hyexpect] at hzero
          exact beq_iff_eq.2 hzero

end Sys2Proof.Machine
end

section
/-! Grouped work: rosters, their walk and the claims of tiles (R353 to R378, R394 to R396). -/

namespace Sys2Proof.Machine

/-! ## A roster is put -/

section
variable (s : State) (c header : Nat) (r : Roster)

/-- A roster that is put changes its context and the events of its lists. -/
theorem State.putRoster_eq : ∃ out, s.putRoster c header r =
    { s.updCtx c fun x => { x with rosters := x.rosters.put header (some r) } with out := out } := by
  unfold State.putRoster
  extract_lets old
  refine List.foldlRecOn (motive := fun u : State => ∃ out, u =
    { s.updCtx c fun x => { x with rosters := x.rosters.put header (some r) } with out := out }) _ _ ⟨_, rfl⟩ fun u hu h _ => ?_
  obtain ⟨out, rfl⟩ := hu
  rw [State.raiseQueue_eq]
  exact ⟨_, rfl⟩

theorem State.putRoster_ctx : (s.putRoster c header r).ctx c =
    { s.ctx c with rosters := (s.ctx c).rosters.put header (some r) } := by
  obtain ⟨out, h⟩ := s.putRoster_eq c header r
  rw [h]
  exact (s.updCtx_ctx c (fun x => { x with rosters := x.rosters.put header (some r) }) :)

theorem State.putRoster_roster : (s.putRoster c header r).roster c header = some r := by
  unfold State.roster
  rw [State.putRoster_ctx]
  exact SMap.get_put _ _ _ _

theorem State.putRoster_rest : (s.putRoster c header r).cores = s.cores ∧ (s.putRoster c header r).safety = s.safety ∧
    (s.putRoster c header r).sramMem = s.sramMem ∧ (s.putRoster c header r).tick = s.tick := by
  obtain ⟨out, h⟩ := s.putRoster_eq c header r
  rw [h]
  exact ⟨rfl, rfl, rfl, rfl⟩

/-- The claims that wait on the cores are those of before. -/
theorem State.putRoster_claimer (j : Nat) : (s.putRoster c header r).claimer c header j = s.claimer c header j := by
  obtain ⟨hcores, hsafety, -⟩ := s.putRoster_rest c header r
  unfold State.claimer State.core
  rw [hcores, hsafety, State.putRoster_ctx]

end

/-- With no claim waiting on a lower core nothing is tested first. -/
theorem State.claimBelow_of_none {s : State} {c header n : Nat} (h : ∀ j < n, s.claimer c header j = none) :
    s.claimBelow c header n = s := by
  unfold State.claimBelow
  refine foldl_eq_self fun j hj => ?_
  rw [h j (List.mem_range.1 hj)]

/-! ## A claim -/

section
variable {s : State} {k : CoreId} {key header : Nat} {sd : SReg} {r : Roster}

/-- A claimed tile. -/
theorem State.claim_of_tile (hr : s.roster (keyCtx key) header = some r) (hready : r.ready = true) {t : RTile}
    (ht : r.claimable k = some t) : s.claim k key header sd =
      (s.updStream k.val key fun st => { (st.setClaim sd.val t) with status := .running }.advance).settleRoster (keyCtx key) header
        { r with tiles := r.tiles.filter (· != t) } := by
  unfold State.claim
  dsimp only
  rw [hr]
  dsimp only
  refine (if_neg (by rw [hready]; exact Bool.false_ne_true)).trans ?_
  rw [ht]

/-- The roster with DONE noted for a core. -/
def Roster.doneBy (r : Roster) (k : CoreId) : Roster :=
  { r with doneCores := if r.doneCores.contains k.val then r.doneCores else k.val :: r.doneCores }

theorem Roster.mem_doneBy (r : Roster) (k : CoreId) : k.val ∈ (r.doneBy k).doneCores := by
  unfold Roster.doneBy
  dsimp only
  split
  · next h => exact List.contains_iff_mem.1 h
  · exact List.mem_cons_self

/-- A core whose lists are empty receives DONE. -/
theorem State.claim_of_done (hr : s.roster (keyCtx key) header = some r) (hready : r.ready = true) (hnone : r.claimable k = none)
    (hdone : r.doneFor k = true) : s.claim k key header sd =
      (s.updStream k.val key fun st => { (st.setS sd.val 0xFFFFFFFF) with status := .running }.advance).settleRoster (keyCtx key) header
        (r.doneBy k) := by
  unfold State.claim
  dsimp only
  rw [hr]
  dsimp only
  refine (if_neg (by rw [hready]; exact Bool.false_ne_true)).trans ?_
  rw [hnone]
  exact if_pos hdone

/-- The stream waits for its claim. -/
def State.claimWaits (s : State) (k : CoreId) (key header : Nat) (sd : SReg) : State :=
  match ((s.core k.val).stream key).status with
  | .waitClaim _ _ => s
  | _ => s.updStream k.val key fun st => s.startWait key st (.waitClaim header sd)

theorem State.claim_of_waiting (hr : s.roster (keyCtx key) header = some r)
    (hwait : r.ready = false ∨ (r.claimable k = none ∧ r.doneFor k = false)) : s.claim k key header sd = s.claimWaits k key header sd := by
  unfold State.claim
  dsimp only
  rw [hr]
  dsimp only
  cases hready : r.ready with
  | false => rfl
  | true =>
    obtain ⟨hnone, hdone⟩ := hwait.resolve_left (ne_false_of_eq_true hready)
    rw [hnone, hdone]
    rfl

theorem State.claimWaits_of_waiting {h : Nat} {d : SReg} (hst : ((s.core k.val).stream key).status = .waitClaim h d) :
    s.claimWaits k key header sd = s := by
  unfold State.claimWaits
  rw [hst]

theorem State.claimWaits_of_running (hst : ((s.core k.val).stream key).status = .running) :
    s.claimWaits k key header sd = s.updStream k.val key fun st => s.startWait key st (.waitClaim header sd) := by
  unfold State.claimWaits
  rw [hst]

end

/-! ## The walk -/

theorem State.zeroEntry_hubWork (c k uid : Nat) (s : State) (e : GEntry) : s.HubWork c (s.zeroEntry c k uid e) := by
  unfold State.zeroEntry
  split
  · exact .refl c s
  · split
    · exact .refl c s
    · exact .foldl (fun u r => .foldl (fun v j => v.quillWrite_hubWork c k uid _ _ _) _ u) _ s

/-- What a walk leaves: the roster with its tiles placed, and the cores. -/
theorem State.walk_of_some {s t : State} {c k uid header : Nat} {h : RosterHead} (hw : s.walk c k uid header h = some t) :
    ∃ r : Roster, t.roster c header = some r ∧ t.cores = s.cores ∧ r.ready = false ∧ r.tiles.length ≤ h.capacity ∧
      r.users = [uid] ∧ r.mask = BitVec.ofNat 32 h.mask ∧ r.releaseSems.length = h.entries := by
  unfold State.walk at hw
  extract_lets es p r u at hw
  split at hw
  · cases hw
  · next hok =>
    have hcap : p.tiles.length ≤ h.capacity := by
      simp only [Bool.or_eq_true, decide_eq_true_eq, not_or] at hok
      exact Nat.not_lt.1 hok.2
    have hu : s.HubWork c u := .foldl (fun v (e : Nat × GEntry) => v.zeroEntry_hubWork c k uid e.2) _ s
    cases Option.some.inj hw
    have hmeter := (u.putRoster c header r).meterHub_hubWork c uid (32 + h.entries + ceilDiv p.tiles.length 16)
    refine ⟨r, ?_, hmeter.cores.trans ((u.putRoster_rest c header r).1.trans hu.cores), rfl, hcap, rfl, rfl, ?_⟩
    · have hput := u.putRoster_roster c header r
      obtain ⟨-, -, _, _, _, hown⟩ := hmeter
      unfold State.roster at hput ⊢
      rw [hown]
      exact hput
    · change (es.map fun e => e.2.sem).length = h.entries
      rw [List.length_map]
      change ((List.range h.entries).map _).length = h.entries
      rw [List.length_map, List.length_range]

end Sys2Proof.Machine
end

section
/-! GCLAIM, its result, and a roster's becoming ready and its releases (R366 to R378, R394, R395). -/

namespace Sys2Proof.Machine

/-- A stream that issues runs. -/
theorem State.issues_running {s : State} {k : CoreId} {key : Nat} {i : Instr} (h : s.issues k key i) :
    ((s.core k.val).stream key).status = .running := by
  have hissuer := h.1
  unfold State.issuer at hissuer
  dsimp only at hissuer
  split at hissuer
  · cases hissuer
  · split at hissuer
    · next hgo =>
      cases Option.some.inj hissuer
      exact hgo.2.2.2.2.2.1
    · cases hissuer

/-- What a claim that waits on a running stream leaves. -/
theorem State.claimWaits_stream {s t : State} {k : CoreId} {key header : Nat} {sd : SReg} (hcores : t.cores = s.cores)
    (hrun : ((s.core k.val).stream key).status = .running) :
    (((t.claimWaits k key header sd).core k.val).stream key).status = .waitClaim header sd ∧
      (((t.claimWaits k key header sd).core k.val).stream key).pc = ((s.core k.val).stream key).pc ∧
      (((t.claimWaits k key header sd).core k.val).stream key).sregs = ((s.core k.val).stream key).sregs ∧
      (t.claimWaits k key header sd).ctxs = t.ctxs ∧ (t.claimWaits k key header sd).sramMem = t.sramMem := by
  have hcore : t.core k.val = s.core k.val := by
    unfold State.core
    rw [hcores]
  rw [← hcore] at hrun ⊢
  rw [State.claimWaits_of_running hrun, State.updStream_stream]
  exact ⟨rfl, rfl, rfl, rfl, rfl⟩

/-- What a GCLAIM does with the header at an offset. -/
def State.gclaimed (s : State) (k : CoreId) (key h uid : Nat) (head : RosterHead) (sd : SReg) : State :=
  if 12 < sd.val then s.ctxFault (keyCtx key)
  else match s.roster (keyCtx key) h with
    | some r =>
      if bit r.mask.toNat k.val then ((s.putRoster (keyCtx key) h (r.usedBy uid)).claimBelow (keyCtx key) h k.val).claim k key h sd
      else s.ctxFault (keyCtx key)
    | none =>
      if bit head.mask k.val = false ∨ 8 ≤ (s.ctx (keyCtx key)).rosters.length then s.ctxFault (keyCtx key)
      else match s.walk (keyCtx key) k.val uid h head with
        | none => s.ctxFault (keyCtx key)
        | some t => t.claim k key h sd

theorem exec_gclaim {s : State} {k : CoreId} {n sd : SReg} {key : Nat} (hi : s.issues k key (.gclaim k n sd))
    (hrec : s.recordThere k key n) : exec (.gclaim k n sd) s = .next (s.gclaimed k key (s.offsetIn k key n)
      ((s.core k.val).stream key).uid (parseHead (s.recordIn k key n)) sd) := by
  change execGclaim k n sd s = _
  unfold execGclaim
  rw [onRecord_of_there hrec hi]
  generalize s.recordIn k key n = b
  generalize s.offsetIn k key n = h
  unfold State.gclaimed
  rfl

section
variable {s : State} {k : CoreId} {key h uid : Nat} {head : RosterHead} {sd : SReg}

/-- A GCLAIM of a roster that is there. -/
theorem State.gclaimed_of_roster (hsd : sd.val ≤ 12) {r : Roster} (hr : s.roster (keyCtx key) h = some r) :
    (bit r.mask.toNat k.val = false → s.gclaimed k key h uid head sd = s.ctxFault (keyCtx key)) ∧
      (bit r.mask.toNat k.val = true → (∀ j < k.val, s.claimer (keyCtx key) h j = none) →
        s.gclaimed k key h uid head sd = (s.putRoster (keyCtx key) h (r.usedBy uid)).claim k key h sd) := by
  unfold State.gclaimed
  rw [if_neg (Nat.not_lt.2 hsd), hr]
  refine ⟨fun hbit => if_neg (ne_true_of_eq_false hbit), fun hbit hlower => (if_pos hbit).trans ?_⟩
  rw [State.claimBelow_of_none fun j hj => (s.putRoster_claimer _ h _ j).trans (hlower j hj)]

/-- A GCLAIM whose header cannot start a walk. -/
theorem State.gclaimed_of_bad (hsd : sd.val ≤ 12) (hr : s.roster (keyCtx key) h = none)
    (hbad : bit head.mask k.val = false ∨ 8 ≤ (s.ctx (keyCtx key)).rosters.length ∨ s.walk (keyCtx key) k.val uid h head = none) :
    s.gclaimed k key h uid head sd = s.ctxFault (keyCtx key) := by
  unfold State.gclaimed
  rw [if_neg (Nat.not_lt.2 hsd), hr]
  dsimp only
  split
  · rfl
  · next hearly =>
    rw [not_or] at hearly
    rw [(hbad.resolve_left hearly.1).resolve_left hearly.2]

/-- A GCLAIM that starts a walk. -/
theorem State.gclaimed_of_walk (hsd : sd.val ≤ 12) (hr : s.roster (keyCtx key) h = none) (hbit : bit head.mask k.val = true)
    (hlen : (s.ctx (keyCtx key)).rosters.length < 8) {t : State} (ht : s.walk (keyCtx key) k.val uid h head = some t) :
    s.gclaimed k key h uid head sd = t.claim k key h sd := by
  unfold State.gclaimed
  rw [if_neg (Nat.not_lt.2 hsd), hr]
  dsimp only
  rw [if_neg (not_or.2 ⟨ne_false_of_eq_true hbit, Nat.not_le.2 hlen⟩), ht]

/-- The stream of a GCLAIM that waits. -/
def State.claimPending (s t : State) (k : CoreId) (key h : Nat) (sd : SReg) : Prop :=
  ((t.core k.val).stream key).status = .waitClaim h sd ∧
    ((t.core k.val).stream key).pc = ((s.core k.val).stream key).pc ∧
    ((t.core k.val).stream key).sregs = ((s.core k.val).stream key).sregs

/-- A claim of a roster that is not ready, or has no tile for the core yet, waits. -/
theorem State.gclaimed_waits (hsd : sd.val ≤ 12) {r : Roster} (hr : s.roster (keyCtx key) h = some r)
    (hrun : ((s.core k.val).stream key).status = .running) (hbit : bit r.mask.toNat k.val = true)
    (hlower : ∀ j < k.val, s.claimer (keyCtx key) h j = none) (hwait : r.ready = false ∨ (r.claimable k = none ∧ r.doneFor k = false)) :
    s.claimPending (s.gclaimed k key h uid head sd) k key h sd ∧
      (s.gclaimed k key h uid head sd).ctxs = (s.putRoster (keyCtx key) h (r.usedBy uid)).ctxs ∧
      (s.gclaimed k key h uid head sd).sramMem = s.sramMem := by
  have hput := s.putRoster_roster (keyCtx key) h (r.usedBy uid)
  obtain ⟨hcores, -, hsram, -⟩ := s.putRoster_rest (keyCtx key) h (r.usedBy uid)
  obtain ⟨hst, hpc, hregs, hctxs, hmem⟩ := State.claimWaits_stream (header := h) (sd := sd) hcores hrun
  rw [(State.gclaimed_of_roster hsd hr).2 hbit hlower, State.claim_of_waiting hput hwait]
  exact ⟨⟨hst, hpc, hregs⟩, hctxs, hmem.trans hsram⟩

/-- A claim that starts a walk waits for it. -/
theorem State.gclaimed_walks (hsd : sd.val ≤ 12) (hr : s.roster (keyCtx key) h = none)
    (hrun : ((s.core k.val).stream key).status = .running) (hbit : bit head.mask k.val = true)
    (hlen : (s.ctx (keyCtx key)).rosters.length < 8) (hwalk : (s.walk (keyCtx key) k.val uid h head).isSome = true) :
    ∃ r : Roster, s.claimPending (s.gclaimed k key h uid head sd) k key h sd ∧
      (s.gclaimed k key h uid head sd).roster (keyCtx key) h = some r ∧ r.ready = false ∧ r.tiles.length ≤ head.capacity ∧
      r.users = [uid] ∧ r.mask = BitVec.ofNat 32 head.mask ∧ r.releaseSems.length = head.entries := by
  obtain ⟨t, ht⟩ := Option.isSome_iff_exists.1 hwalk
  obtain ⟨r, hroster, hcores, hready, hrest⟩ := State.walk_of_some ht
  obtain ⟨hst, hpc, hregs, hctxs, -⟩ := State.claimWaits_stream (header := h) (sd := sd) hcores hrun
  rw [State.gclaimed_of_walk hsd hr hbit hlen ht, State.claim_of_waiting hroster (.inl hready)]
  refine ⟨r, ⟨hst, hpc, hregs⟩, ?_, hready, hrest⟩
  unfold State.roster
  rw [State.ctx_congr hctxs]
  exact hroster

end

/-- A waiting claim is tested after those of lower cores. -/
theorem exec_gclaimResult_of_claimer {s : State} {k : CoreId} {sd : SReg} {key header : Nat}
    (hlower : ∀ j < k.val, s.claimer (keyCtx key) header j = none)
    (hclaim : s.claimer (keyCtx key) header k.val = some (key, sd)) :
    exec (.gclaimResult k) s = .next (s.claim k key header sd) ∧
      ((s.core k.val).stream key).status = .waitClaim header sd := by
  have hbelow : s.claimBelow (keyCtx key) header (k.val + 1) = s.claim k key header sd := by
    have hk : Fin.ofNat 32 k.val = k := Fin.ext (Nat.mod_eq_of_lt k.isLt)
    have hfold := State.claimBelow_of_none hlower
    unfold State.claimBelow at hfold ⊢
    rw [List.range_succ, List.foldl_append, hfold, List.foldl_cons, List.foldl_nil, hclaim]
    dsimp only
    rw [hk]
  unfold State.claimer at hclaim
  dsimp only at hclaim
  split at hclaim
  · cases hclaim
  · next key' hcur =>
    split at hclaim
    · next h' sd' hst =>
      split at hclaim
      · next hgo =>
        have hpair := Option.some.inj hclaim
        obtain rfl : key' = key := congrArg Prod.fst hpair
        obtain rfl : sd' = sd := congrArg Prod.snd hpair
        obtain rfl : h' = header := hgo.1
        refine ⟨?_, hst⟩
        change execGclaimResult k s = _
        unfold execGclaimResult
        dsimp only
        rw [hcur]
        dsimp only
        rw [hst]
        exact congrArg Host.Outcome.next hbelow
      · cases hclaim
    · cases hclaim

/-- Settles O21: a claim gets a tile, DONE, or waits; a walk places its tiles; rosters become ready and are released once. -/
theorem groupedWork : Obligations.GroupedWork := by
  intro s
  refine ⟨fun k n sd key hi hrec => ?_, fun k sd key header r => ?_, fun c header r hr => ⟨fun hready hruns => ?_, fun h => ?_⟩,
    fun c header entry r sem hr hsem => ⟨fun hlive hnot hpos => ?_, fun h => ?_⟩⟩
  · intro c h uid head waits
    have hexec : exec (.gclaim k n sd) s = .next (s.gclaimed k key h uid head sd) := exec_gclaim hi hrec
    have hrun := State.issues_running hi
    clear_value head uid h
    refine ⟨fun hsd => hexec.trans (congrArg _ (if_pos hsd)), fun r hsd hr => ⟨fun hbit => ?_, fun hbit hlower => ?_⟩,
      fun hsd hr => ⟨fun hbad => ?_, fun hbit hlen hwalk => ?_⟩⟩
    · exact hexec.trans (congrArg _ ((State.gclaimed_of_roster hsd hr).1 hbit))
    · intro s'
      have hput : s'.roster c h = some (r.usedBy uid) := s.putRoster_roster c h _
      have hgo : exec (.gclaim k n sd) s = .next (s'.claim k key h sd) :=
        hexec.trans (congrArg _ ((State.gclaimed_of_roster hsd hr).2 hbit hlower))
      refine ⟨fun hready t ht => hgo.trans (congrArg _ (State.claim_of_tile hput hready ht)), fun hready hnone hdone => ?_, fun hwait => ?_⟩
      · exact ⟨_, hgo.trans (congrArg _ (State.claim_of_done hput hready hnone hdone)), Roster.mem_doneBy _ k, rfl, rfl⟩
      · exact ⟨_, hexec, State.gclaimed_waits hsd hr hrun hbit hlower hwait⟩
    · exact hexec.trans (congrArg _ (State.gclaimed_of_bad hsd hr hbad))
    · obtain ⟨r, hpending, hrest⟩ := State.gclaimed_walks hsd hr hrun hbit hlen hwalk
      exact ⟨_, r, hexec, hpending, hrest⟩
  · intro c hlower hclaim hr
    obtain ⟨hexec, hst⟩ := exec_gclaimResult_of_claimer hlower hclaim
    refine ⟨fun hready t ht => hexec.trans (congrArg _ (State.claim_of_tile hr hready ht)), fun hwait => hexec.trans (congrArg _ ?_)⟩
    exact (State.claim_of_waiting hr hwait).trans (State.claimWaits_of_waiting hst)
  · change execRosterReady c header s = _
    unfold execRosterReady
    rw [hr]
    refine congrArg Host.Outcome.next (if_neg ?_)
    rw [hready, hruns]
    exact Bool.false_ne_true
  · change execRosterReady c header s = _
    unfold execRosterReady
    rw [hr]
    refine congrArg Host.Outcome.next (if_pos ?_)
    rcases h with h | h <;> rw [h]
    · rfl
    · exact Bool.or_true _
  · change execRosterRelease c header entry s = _
    unfold execRosterRelease
    rw [hr]
    dsimp only
    rw [hsem]
    refine congrArg Host.Outcome.next (if_neg ?_)
    rintro (h | h | h)
    · exact ne_true_of_eq_false hnot h
    · exact h hlive
    · exact absurd h (Nat.pos_iff_ne_zero.1 hpos)
  · change execRosterRelease c header entry s = _
    unfold execRosterRelease
    rw [hr]
    dsimp only
    rw [hsem]
    refine congrArg Host.Outcome.next (if_pos ?_)
    rcases h with h | h | h
    · exact .inr (.inl h)
    · exact .inl h
    · exact .inr (.inr h)

end Sys2Proof.Machine
end

section
/-! The serving engine: requests are consumed, steps built and their commands posted (R555 to R592). -/

namespace Sys2Proof.Machine

/-- What a mirroring secondary is, by the fields of its pair. -/
theorem State.takesInputs_iff (s : State) : s.takesInputs = true ↔ s.pair.role = 2 ∧ s.pair.state = 1 := by
  unfold State.takesInputs
  rw [Bool.and_eq_true, beq_iff_eq, decide_eq_true_iff]

/-! ## One request -/

/-- A record leaves the request ring with its outcome. -/
def State.requestDone (s : State) (c at_ status entry step : Nat) : State :=
  (s.putHbm c at_ (requestOutcome status entry step)).updCtx c fun x =>
    { x with serving := { x.serving with reqHead := x.serving.reqHead + 1, handed := x.serving.handed.drop 1 } }

theorem State.requestDone_serving (s : State) (c at_ status entry step : Nat) :
    ((s.requestDone c at_ status entry step).ctx c).serving = { (s.ctx c).serving with
      reqHead := (s.ctx c).serving.reqHead + 1, handed := (s.ctx c).serving.handed.drop 1 } := by
  unfold State.requestDone
  rw [State.updCtx_ctx]
  dsimp only
  rw [(State.putHbm_hubWork c s at_ _ none).serving]

/-- The entry a request to join makes of its record's bytes. -/
def joinedEntry (b : Bytes) (step : Nat) (now : Word) : SeqEntry :=
  { active := true, seqId := BitVec.ofNat 32 (field b 4 4), position := BitVec.ofNat 32 (field b 8 4)
    kvDesc := BitVec.ofNat 16 (field b 12 2), bitmapPtr := field b 16 8, joinStep := step, joinTick := now }

namespace BuildAcc
variable (a : BuildAcc) (c : CtxId) (step : Nat) (conf : List Nat)

/-- The offset of the record a build consumes next. -/
def slot : Nat := confSub conf 5 + 64 * ((a.s.ctx c.val).serving.reqHead.toNat % confSub conf 6)

/-- The bytes of the record a build consumes next: of a mirroring secondary those its primary has handed it. -/
def request : Bytes :=
  if a.s.pair.role = 2 ∧ a.s.pair.state = 1 then (a.s.ctx c.val).serving.handed.headD []
  else a.s.hbmShare c.val (a.slot c conf) 64

/-- The state in which a record is served, forwarded to the secondary. -/
def forwarded : State := a.s.forwardIn c.val (.request (Fin.ofNat 64 c.val) (a.request c conf))

theorem request_eq : (if a.s.takesInputs then (a.s.ctx c.val).serving.handed.headD []
    else a.s.hbmShare c.val (a.slot c conf) 64) = a.request c conf := by
  unfold request
  simp only [State.takesInputs_iff]

theorem forwarded_ctx : (a.forwarded c conf).ctx c.val = a.s.ctx c.val := State.forwardIn_ctx ..

theorem freeSeq_forwarded : (a.forwarded c conf).freeSeq c.val = a.s.freeSeq c.val := by
  unfold State.freeSeq
  rw [forwarded_ctx, forwarded, State.forwardIn_cfgNum]

variable {a c step conf} (hf : a.fault = false)
include hf

/-- A record is consumed by its kind, in the state that has forwarded it. -/
theorem consume_eq : a.consume c.val step conf =
    (let s := a.forwarded c conf
    let b := a.request c conf
    if badRequest b then { a with s := s, fault := true }
    else if field b 0 1 = 2 then
      if s.cfgNum (0xD100 + c.val) 2 ≤ field b 24 4 ∨ ((a.s.ctx c.val).serving.entry (field b 24 4)).active = false then
        { a with s := s, fault := true }
      else
        let s := s.updCtx c.val fun x => { x with serving := { x.serving with seqs := x.serving.seqs.del (field b 24 4) } }
        { a with s := s.requestDone c.val (a.slot c conf + 32) 0 0xFFFF step, leaves := a.leaves + 1 }
    else match s.freeSeq c.val with
      | none =>
        let s := s.updCtx c.val fun x => { x with serving := { x.serving with refused := satAdd x.serving.refused 1 } }
        { a with s := s.requestDone c.val (a.slot c conf + 32) 7 0xFFFF step, refused := a.refused + 1 }
      | some i =>
        let e := joinedEntry b step s.tick.now
        let s := s.updCtx c.val fun x => { x with serving := { x.serving with seqs := x.serving.seqs.put i e } }
        { a with s := s.requestDone c.val (a.slot c conf + 32) 0 i step, joined := i :: a.joined, joins := a.joins + 1 }) := by
  have hb := a.request_eq c conf
  unfold slot at hb
  unfold consume forwarded slot
  rw [if_neg (ne_true_of_eq_false hf)]
  dsimp only
  rw [hb]
  rfl

/-- A record that breaks a field rule ends the build. -/
theorem consume_of_bad (hbad : badRequest (a.request c conf) = true) :
    a.consume c.val step conf = { a with s := a.forwarded c conf, fault := true } := by
  rw [consume_eq hf]
  exact if_pos hbad

variable (hgood : badRequest (a.request c conf) = false)
include hgood

/-- A request to leave for an entry that is there. -/
theorem consume_of_leave (hkind : field (a.request c conf) 0 1 = 2)
    (hquota : field (a.request c conf) 24 4 < a.s.cfgNum (0xD100 + c.val) 2)
    (hthere : ((a.s.ctx c.val).serving.entry (field (a.request c conf) 24 4)).active = true) :
    ∃ t : State, a.consume c.val step conf = { a with s := t, leaves := a.leaves + 1 } ∧
      (t.ctx c.val).serving = { (a.s.ctx c.val).serving with
        reqHead := (a.s.ctx c.val).serving.reqHead + 1, handed := (a.s.ctx c.val).serving.handed.drop 1
        seqs := (a.s.ctx c.val).serving.seqs.del (field (a.request c conf) 24 4) } := by
  refine ⟨((a.forwarded c conf).updCtx c.val fun x => { x with serving := { x.serving with
    seqs := x.serving.seqs.del (field (a.request c conf) 24 4) } }).requestDone c.val (a.slot c conf + 32) 0 0xFFFF step, ?_, ?_⟩
  · rw [consume_eq hf]
    dsimp only
    rw [if_neg (ne_true_of_eq_false hgood), if_pos hkind, if_neg]
    rw [forwarded, State.forwardIn_cfgNum, hthere]
    exact fun h => h.elim (fun h => absurd h (by omega)) (fun h => Bool.noConfusion h)
  · rw [State.requestDone_serving, State.updCtx_ctx, forwarded_ctx]

/-- A request to leave for no entry ends the build. -/
theorem consume_of_badLeave (hkind : field (a.request c conf) 0 1 = 2)
    (hnone : a.s.cfgNum (0xD100 + c.val) 2 ≤ field (a.request c conf) 24 4 ∨
      ((a.s.ctx c.val).serving.entry (field (a.request c conf) 24 4)).active = false) :
    a.consume c.val step conf = { a with s := a.forwarded c conf, fault := true } := by
  rw [consume_eq hf]
  dsimp only
  rw [if_neg (ne_true_of_eq_false hgood), if_pos hkind, if_pos]
  rw [forwarded, State.forwardIn_cfgNum]
  exact hnone

variable (hkind : field (a.request c conf) 0 1 = 1)
include hkind

/-- A request to join takes the lowest free entry. -/
theorem consume_of_join {i : Nat} (hfree : a.s.freeSeq c.val = some i) :
    ∃ t : State, a.consume c.val step conf = { a with s := t, joined := i :: a.joined, joins := a.joins + 1 } ∧
      (t.ctx c.val).serving = { (a.s.ctx c.val).serving with
        reqHead := (a.s.ctx c.val).serving.reqHead + 1, handed := (a.s.ctx c.val).serving.handed.drop 1
        seqs := (a.s.ctx c.val).serving.seqs.put i (joinedEntry (a.request c conf) step a.s.tick.now) } := by
  refine ⟨((a.forwarded c conf).updCtx c.val fun x => { x with serving := { x.serving with
    seqs := x.serving.seqs.put i (joinedEntry (a.request c conf) step (a.forwarded c conf).tick.now) } }).requestDone
      c.val (a.slot c conf + 32) 0 i step, ?_, ?_⟩
  · rw [consume_eq hf]
    dsimp only
    rw [if_neg (ne_true_of_eq_false hgood), if_neg (by rw [hkind]; decide), freeSeq_forwarded, hfree]
  · rw [State.requestDone_serving, State.updCtx_ctx, forwarded_ctx]
    dsimp only
    rw [forwarded, State.forwardIn_eq]

/-- A request to join with no free entry is refused. -/
theorem consume_of_refused (hfree : a.s.freeSeq c.val = none) :
    ∃ t : State, a.consume c.val step conf = { a with s := t, refused := a.refused + 1 } ∧
      (t.ctx c.val).serving = { (a.s.ctx c.val).serving with
        reqHead := (a.s.ctx c.val).serving.reqHead + 1, handed := (a.s.ctx c.val).serving.handed.drop 1
        refused := satAdd (a.s.ctx c.val).serving.refused 1 } := by
  refine ⟨((a.forwarded c conf).updCtx c.val fun x => { x with serving := { x.serving with
    refused := satAdd x.serving.refused 1 } }).requestDone c.val (a.slot c conf + 32) 7 0xFFFF step, ?_, ?_⟩
  · rw [consume_eq hf]
    dsimp only
    rw [if_neg (ne_true_of_eq_false hgood), if_neg (by rw [hkind]; decide), freeSeq_forwarded, hfree]
  · rw [State.requestDone_serving, State.updCtx_ctx, forwarded_ctx]

end BuildAcc

end Sys2Proof.Machine
end

section
/-! A step is built and its command posted (R564 to R579, R800). -/

namespace Sys2Proof.Machine

/-! ## Closing the step before -/

/-- One of two states that each differ in the HBM controller alone. -/
theorem State.hbm_of_ite {s a b : State} {p : Prop} [Decidable p] (ha : a = { s with hbm := a.hbm })
    (hb : b = { s with hbm := b.hbm }) :
    (if p then a else b) = { s with hbm := (if p then a else b).hbm } := by
  split
  · exact ha
  · exact hb

/-- Changes of the HBM controller alone follow one another. -/
theorem State.hbm_trans {s t u : State} (ht : t = { s with hbm := t.hbm }) (hu : u = { t with hbm := u.hbm }) :
    u = { s with hbm := u.hbm } :=
  hu.trans (congrArg (fun v : State => { v with hbm := u.hbm }) ht)

theorem State.closeStep_eq (s : State) (c : Nat) : s.closeStep c = { s with hbm := (s.closeStep c).hbm } := by
  unfold State.closeStep
  dsimp only
  split
  · rfl
  · refine State.hbm_of_ite ?_ (State.putHbm_eq s c _ _ none)
    exact State.hbm_trans (State.putHbm_eq s c _ _ none) (State.putHbm_eq _ c _ _ none)

theorem State.closeStep_of_none {s : State} {c : Nat} (h : (s.ctx c).serving.lastRecord = none) : s.closeStep c = s := by
  unfold State.closeStep
  dsimp only
  rw [h]

/-! ## Building -/

section
variable (c : CtxId) (s : State)

/-- The state in which a build begins: a count of its semaphore is taken and the step before is closed. -/
def State.buildFrom : State :=
  (s.setSem c.val (confSub (s.serveConf c.val) 4) (s.sem c.val (confSub (s.serveConf c.val) 4) - 1)).closeStep c.val

theorem State.buildFrom_eq : s.buildFrom c = { s.setSem c.val (confSub (s.serveConf c.val) 4)
    (s.sem c.val (confSub (s.serveConf c.val) 4) - 1) with hbm := (s.buildFrom c).hbm } :=
  State.closeStep_eq ..

theorem State.buildFrom_ctx : (s.buildFrom c).ctx c.val = { s.ctx c.val with
    sems := (s.ctx c.val).sems.put (confSub (s.serveConf c.val) 4)
      (BitVec.ofNat 32 (s.sem c.val (confSub (s.serveConf c.val) 4) - 1)) } := by
  rw [State.buildFrom_eq]
  exact (State.updCtx_ctx s c.val fun x => { x with
    sems := x.sems.put (confSub (s.serveConf c.val) 4)
      (BitVec.ofNat 32 (s.sem c.val (confSub (s.serveConf c.val) 4) - 1)) } :)

/-- Before the first step of the context there is nothing to close. -/
theorem State.buildFrom_of_first (h : (s.ctx c.val).serving.lastRecord = none) : s.buildFrom c =
    s.setSem c.val (confSub (s.serveConf c.val) 4) (s.sem c.val (confSub (s.serveConf c.val) 4) - 1) :=
  State.closeStep_of_none ((congrArg (fun x => x.serving.lastRecord) (s.updCtx_ctx c.val _) :).trans h)

theorem State.sem_of_sems {t : State} {c n : Nat} {v : BitVec 32} {m : SMap (BitVec 32)} (h : (t.ctx c).sems = m.put n v) :
    t.sem c n = v.toNat := by
  unfold State.sem
  rw [h]
  exact congrArg BitVec.toNat (SMap.get_put ..)

/-- The count that a build leaves. -/
theorem State.lessOne_toNat (n : Nat) : (BitVec.ofNat 32 (s.sem c.val n - 1)).toNat = s.sem c.val n - 1 := by
  have hlt : s.sem c.val n < 2 ^ 32 := BitVec.isLt _
  rw [BitVec.toNat_ofNat]
  omega

theorem State.activeSeqs_congr {t : State} {c : Nat} (hcfg : t.cfg = s.cfg)
    (hserving : (t.ctx c).serving = (s.ctx c).serving) : t.activeSeqs c = s.activeSeqs c := by
  unfold State.activeSeqs State.cfgNum
  rw [hcfg, hserving]

/-- The number of records a build consumes. -/
def State.buildCount : Nat :=
  if s.takesInputs then (s.ctx c.val).serving.handed.length
  else ((s.ctx c.val).serving.reqTail - (s.ctx c.val).serving.reqHead).toNat

/-- What a build does once it has consumed its records. -/
def BuildAcc.finish (a : BuildAcc) (c : CtxId) (s : State) (before : List Nat) : State :=
  if a.fault then a.s.ctxFault c.val
  else if !a.s.workDescs c.val (s.serveConf c.val) && !(a.s.activeSeqs c.val).isEmpty then a.s.ctxFault c.val
  else
    let u := a.s.updCtx c.val fun x =>
      { x with serving := { x.serving with
          seqs := x.serving.seqs.map fun (i, e) =>
            if before.contains i && !a.joined.contains i then (i, { e with position := e.position + 1 }) else (i, e) } }
    let tokens := u.activeSeqs c.val
    let u := u.workList c.val (s.serveConf c.val) 0 tokens
    let b : StepBuild :=
      { step := (s.ctx c.val).serving.step, openTick := u.tick.now, tokens := tokens.length, joins := a.joins
        leaves := a.leaves, refused := a.refused, cycles := 32 + 2 * s.buildCount c + ceilDiv tokens.length 16
        conf := s.serveConf c.val }
    u.updCtx c.val fun x => { x with serving := { x.serving with step := (s.ctx c.val).serving.step + 1, build := some b } }

/-- The build of an empty step. -/
def State.emptyBuild : StepBuild :=
  { step := (s.ctx c.val).serving.step, openTick := s.tick.now, cycles := 32, conf := s.serveConf c.val }

/-- With no ACTIVE sequence a build makes no work list. -/
theorem BuildAcc.finish_of_idle {u : State} {c : CtxId} {s : State} {a : BuildAcc} (ha : a = { s := u })
    (hnone : s.buildCount c = 0) (hidle : u.activeSeqs c.val = []) :
    a.finish c s [] = (u.updCtx c.val id).updCtx c.val fun x =>
      { x with serving := { x.serving with step := (s.ctx c.val).serving.step + 1
                                           build := some { s.emptyBuild c with openTick := u.tick.now } } } := by
  have hmap : (u.updCtx c.val fun x => { x with serving := { x.serving with
      seqs := x.serving.seqs.map fun (i, e) =>
        if ([] : List Nat).contains i && !([] : List Nat).contains i then (i, { e with position := e.position + 1 })
        else (i, e) } }) = u.updCtx c.val id := by
    refine congrArg (u.updCtx c.val) (funext fun x => ?_)
    simp
  have hidle' : (u.updCtx c.val id).activeSeqs c.val = [] :=
    (State.activeSeqs_congr (t := u.updCtx c.val id) u rfl
      (congrArg (fun x => x.serving) (State.updCtx_ctx u c.val id) :)).trans hidle
  subst ha
  unfold BuildAcc.finish
  dsimp only
  rw [if_neg Bool.false_ne_true, hidle, if_neg (by simp), hmap, hidle', hnone]
  rfl

/-- A build may begin. -/
def State.buildEnabled : Prop :=
  s.cfgNum (0xD100 + c.val) 3 = 1 ∧ (s.ctx c.val).life.state = .live ∧ (s.ctx c.val).serving.build = none

variable {c s}

theorem exec_stepBuild_of_disabled (h : ¬s.buildEnabled c) : exec (.stepBuild c) s = .next s := by
  refine congrArg Host.Outcome.next (if_pos ?_)
  rw [Option.isSome_iff_ne_none]
  unfold State.buildEnabled at h
  rwa [Classical.not_and_iff_not_or_not, Classical.not_and_iff_not_or_not] at h

section
variable (h : s.buildEnabled c)
include h

theorem State.buildEnabled.not_disabled : ¬(s.cfgNum (0xD100 + c.val) 3 ≠ 1 ∨ (s.ctx c.val).life.state ≠ .live ∨
    (s.ctx c.val).serving.build.isSome) := by
  obtain ⟨hon, hlive, hnone⟩ := h
  rw [hnone]
  exact fun h => h.elim (absurd hon) (fun h => h.elim (absurd hlive) (fun h => Bool.noConfusion h))

theorem exec_stepBuild_of_badSem (hsem : 16384 ≤ confSub (s.serveConf c.val) 4) :
    exec (.stepBuild c) s = .next (s.ctxFault c.val) :=
  congrArg Host.Outcome.next ((if_neg h.not_disabled).trans (if_pos hsem))

variable (hsem : confSub (s.serveConf c.val) 4 < 16384)
include hsem

theorem exec_stepBuild_of_noCount (hzero : s.sem c.val (confSub (s.serveConf c.val) 4) = 0) :
    exec (.stepBuild c) s = .next s :=
  congrArg Host.Outcome.next ((if_neg h.not_disabled).trans ((if_neg (Nat.not_le.2 hsem)).trans (if_pos hzero)))

theorem exec_stepBuild_of_count (hpos : 0 < s.sem c.val (confSub (s.serveConf c.val) 4)) :
    exec (.stepBuild c) s = .next ((BuildAcc.consumeAll { s := s.buildFrom c } c.val (s.ctx c.val).serving.step
      (s.serveConf c.val) (s.buildCount c)).finish c s ((s.buildFrom c).activeSeqs c.val)) := by
  have hcount : (if (s.buildFrom c).takesInputs then (s.ctx c.val).serving.handed.length
      else ((s.ctx c.val).serving.reqTail - (s.ctx c.val).serving.reqHead).toNat) = s.buildCount c := by
    rw [show (s.buildFrom c).takesInputs = s.takesInputs from (congrArg State.takesInputs (s.buildFrom_eq c) :)]
    rfl
  refine congrArg Host.Outcome.next ((if_neg h.not_disabled).trans ((if_neg (Nat.not_le.2 hsem)).trans
    ((if_neg (Nat.ne_of_gt hpos)).trans ?_)))
  dsimp only
  unfold BuildAcc.finish
  dsimp only
  rw [← hcount]
  rfl

/-- A step with no request and no ACTIVE sequence is empty. -/
theorem exec_stepBuild_empty (hpos : 0 < s.sem c.val (confSub (s.serveConf c.val) 4)) (hnone : s.buildCount c = 0)
    (hidle : s.activeSeqs c.val = []) :
    exec (.stepBuild c) s = .next (((s.buildFrom c).updCtx c.val id).updCtx c.val fun x =>
      { x with serving := { x.serving with step := (s.ctx c.val).serving.step + 1, build := some (s.emptyBuild c) } }) := by
  have hidle' : (s.buildFrom c).activeSeqs c.val = [] :=
    (State.activeSeqs_congr s (congrArg State.cfg (s.buildFrom_eq c) :) (by rw [State.buildFrom_ctx])).trans hidle
  rw [exec_stepBuild_of_count h hsem hpos, hnone, hidle']
  unfold BuildAcc.consumeAll
  rw [BuildAcc.finish_of_idle rfl hnone hidle']
  unfold State.emptyBuild
  rw [congrArg State.tick (s.buildFrom_eq c)]
  rfl

end

end

end Sys2Proof.Machine
end

section
/-! A build ends at a bad request, or ends and posts its command (R563, R569 to R579, R800). -/

namespace Sys2Proof.Machine

variable {c : CtxId} {s : State}

/-! ## A bad request -/

/-- A build of one record that breaks a rule faults the context. -/
theorem exec_stepBuild_of_bad (h : s.buildEnabled c) (hsem : confSub (s.serveConf c.val) 4 < 16384)
    (hpos : 0 < s.sem c.val (confSub (s.serveConf c.val) 4)) (hone : s.buildCount c = 1)
    (hpair : ¬(s.pair.role = 2 ∧ s.pair.state = 1)) (hlast : (s.ctx c.val).serving.lastRecord = none)
    (hbad : badRequest (s.hbmShare c.val (confSub (s.serveConf c.val) 5 +
      64 * ((s.ctx c.val).serving.reqHead.toNat % confSub (s.serveConf c.val) 6)) 64) = true) :
    ∃ t : State, exec (.stepBuild c) s = .next (t.ctxFault c.val) ∧
      t.sem c.val (confSub (s.serveConf c.val) 4) = s.sem c.val (confSub (s.serveConf c.val) 4) - 1 := by
  generalize hconf : s.serveConf c.val = conf at *
  let a : BuildAcc := { s := s.buildFrom c }
  have hserving : ((s.buildFrom c).ctx c.val).serving = (s.ctx c.val).serving := by rw [State.buildFrom_ctx]
  have hfrom : s.buildFrom c = s.setSem c.val (confSub conf 4) (s.sem c.val (confSub conf 4) - 1) := by
    rw [State.buildFrom_of_first c s hlast, hconf]
  have hrequest : badRequest (a.request c conf) = true := by
    have hpair' : ¬(a.s.pair.role = 2 ∧ a.s.pair.state = 1) := by
      rw [show a.s.pair = s.pair from (congrArg State.pair hfrom :)]
      exact hpair
    unfold BuildAcc.request BuildAcc.slot
    rw [if_neg hpair', show a.s.ctx c.val = (s.buildFrom c).ctx c.val from rfl, hserving]
    rw [show a.s.hbmShare c.val = s.hbmShare c.val from (congrArg (fun u : State => u.hbmShare c.val) hfrom :)]
    exact hbad
  refine ⟨a.forwarded c conf, ?_, ?_⟩
  · rw [exec_stepBuild_of_count h (hconf ▸ hsem) (hconf ▸ hpos), hone, hconf]
    unfold BuildAcc.consumeAll BuildAcc.consumeAll
    rw [show ({ s := s.buildFrom c } : BuildAcc) = a from rfl, BuildAcc.consume_of_bad rfl hrequest]
    rfl
  · rw [← State.lessOne_toNat c s (confSub conf 4)]
    refine State.sem_of_sems (m := (s.ctx c.val).sems) ?_
    rw [BuildAcc.forwarded_ctx, show a.s.ctx c.val = (s.buildFrom c).ctx c.val from rfl, State.buildFrom_ctx, hconf]

/-! ## The command of a step -/

/-- The descriptor a build chooses for its step (R571 to R579). -/
def State.stepCommand (s : State) (c : Nat) (b : StepBuild) : Bytes :=
  let f := confSub b.conf
  let origin := (f 13 + b.step * f 14) % 2 ^ 64
  let launch := max origin (s.now + f 12)
  let chosen :=
    if decide (f 14 ≠ 0) && decide ((if decide (f 14 ≠ 0) then (origin + f 15) % 2 ^ 64 else 0) <
        s.projection c (s.hbmShare c (f 8) 64) launch (f 16)) && field (s.hbmShare c (f 8 + 64) 64) 0 1 != 0 then
      s.hbmShare c (f 8 + 64) 64
    else s.hbmShare c (f 8) 64
  chosen.take 8 ++ toLe 8 launch ++ slice chosen 16 40 ++ toLe 4 b.step ++ slice chosen 60 4

/-- Without the deadline monitor the primary descriptor is chosen. -/
theorem State.stepCommand_of_unmonitored {b : StepBuild} (h : confSub b.conf 14 = 0) : s.stepCommand c.val b =
    (s.hbmShare c.val (confSub b.conf 8) 64).take 8 ++
      toLe 8 (max (confSub b.conf 13 % 2 ^ 64) (s.now + confSub b.conf 12)) ++
      slice (s.hbmShare c.val (confSub b.conf 8) 64) 16 40 ++ toLe 4 b.step ++
      slice (s.hbmShare c.val (confSub b.conf 8) 64) 60 4 := by
  have hmonitor : decide (confSub b.conf 14 ≠ 0) = false := decide_eq_false (Classical.not_not.2 h)
  unfold State.stepCommand
  dsimp only
  rw [hmonitor, Bool.false_and, Bool.false_and, if_neg Bool.false_ne_true, h, Nat.mul_zero, Nat.add_zero]

theorem State.finishBuild_serving (b : StepBuild) :
    ((s.finishBuild c.val b).ctx c.val).serving.build = some { b with descriptor := some (s.stepCommand c.val b) } := by
  unfold State.finishBuild
  extract_lets f primary fallback origin launch monitor deadline pp useFallback projected miss chosen desc u
  rw [State.updCtx_ctx]
  have hdesc : desc = s.stepCommand c.val b := by
    unfold State.stepCommand
    dsimp only [desc, chosen, useFallback, pp, deadline, monitor, launch, origin, fallback, primary, f]
  clear_value u desc
  rw [hdesc]

/-! ## Posting on ring 2 -/

section
variable (r : Nat) (d : Bytes)

theorem State.postOn_mems : (s.postOn c.val r d).cores = s.cores ∧ (s.postOn c.val r d).sramMem = s.sramMem ∧
    (s.postOn c.val r d).hbmMem = s.hbmMem := by
  unfold State.postOn
  split
  · exact ⟨rfl, rfl, rfl⟩
  · dsimp only
    rw [State.updRing_eq, State.hostWrite_eq]
    exact ⟨rfl, rfl, rfl⟩

theorem State.hostWrite_ctx (a : Nat) : (s.hostWrite a d).ctx c.val = s.ctx c.val := by
  rw [State.hostWrite_eq]
  rfl

theorem State.postOn_serving : ((s.postOn c.val r d).ctx c.val).serving = (s.ctx c.val).serving := by
  unfold State.postOn
  split
  · rfl
  · rw [State.updRing_ctx, State.hostWrite_ctx]

theorem State.postOn_ring (h : s.silent c.val = false) :
    ((s.postOn c.val r d).ring c.val r).tail = (s.ring c.val r).tail + 1 := by
  unfold State.postOn
  rw [if_neg (ne_true_of_eq_false h)]
  dsimp only
  rw [State.updRing_ring]
  unfold State.ring
  rw [State.hostWrite_ctx]

theorem State.postOn_hostMem (h : s.silent c.val = false) (hup : s.pcie.linkUp = true) :
    (s.postOn c.val r d).hostMem = s.hostMem.writeBytes
      ((s.ring c.val r).base.toNat + 64 * ((s.ring c.val r).tail.toNat % (s.ring c.val r).entries)) d := by
  unfold State.postOn
  rw [if_neg (ne_true_of_eq_false h)]
  dsimp only
  rw [State.updRing_eq]
  unfold State.hostWrite
  rw [if_pos hup]
  rfl

end

/-- The command of a finished build goes to ring 2, and the build is over. -/
def State.postStep (s : State) (c : CtxId) (b : StepBuild) (d : Bytes) : State :=
  (s.postOn c.val 2 d).updCtx c.val fun x =>
    { x with serving := { x.serving with build := none, posted := x.serving.posted ++ [(b.record, b.cycles)] } }

theorem State.postStep_serving (b : StepBuild) (d : Bytes) : ((s.postStep c b d).ctx c.val).serving =
    { (s.ctx c.val).serving with build := none, posted := (s.ctx c.val).serving.posted ++ [(b.record, b.cycles)] } := by
  unfold State.postStep
  rw [State.updCtx_ctx]
  dsimp only
  rw [State.postOn_serving]

/-- Without a build, or of a context that is not LIVE, nothing is posted. -/
theorem exec_stepPost_of_none (h : (s.ctx c.val).serving.build = none ∨ (s.ctx c.val).life.state ≠ .live) :
    exec (.stepPost c) s = .next s := by
  change execStepPost c s = _
  unfold execStepPost
  split
  · rfl
  · next b hb =>
    rw [if_pos (h.resolve_left (by rw [hb]; exact Option.some_ne_none b))]

section
variable {b : StepBuild} (hb : (s.ctx c.val).serving.build = some b) (hlive : (s.ctx c.val).life.state = .live)
include hb hlive

/-- A build that has its descriptor waits for the ring. -/
theorem exec_stepPost_of_ready {d : Bytes} (hd : b.descriptor = some d) :
    exec (.stepPost c) s = .next (if s.ringRoom c.val 2 then s.postStep c b d else s) := by
  change execStepPost c s = _
  unfold execStepPost
  rw [hb]
  dsimp only
  rw [if_neg (Classical.not_not.2 hlive), hd, Option.isNone_some, Bool.false_and, if_neg Bool.false_ne_true, hb]
  dsimp only
  rw [hd]
  rfl

variable (hd : b.descriptor = none)
include hd

theorem exec_stepPost_of_unfinished (hover : s.buildOver c.val b = false) : exec (.stepPost c) s = .next s := by
  change execStepPost c s = _
  unfold execStepPost
  rw [hb]
  dsimp only
  rw [if_neg (Classical.not_not.2 hlive), hd, hover, Bool.and_false, if_neg Bool.false_ne_true, hb]
  dsimp only
  rw [hd]

/-- A build that is over gets its descriptor and waits for the ring. -/
theorem exec_stepPost_of_over (hover : s.buildOver c.val b = true) {u : State} (hu : u = (s.finishBuild c.val b).trace .build)
    {b' : StepBuild} {d : Bytes} (hb' : (u.ctx c.val).serving.build = some b') (hd' : b'.descriptor = some d) :
    exec (.stepPost c) s = .next (if u.ringRoom c.val 2 then u.postStep c b' d else u) := by
  change execStepPost c s = _
  unfold execStepPost
  rw [hb]
  dsimp only
  rw [if_neg (Classical.not_not.2 hlive), hd, hover, Option.isNone_none, Bool.and_self, if_pos rfl, ← hu, hb']
  dsimp only
  rw [hd']
  rfl

end

end Sys2Proof.Machine
end

section
/-! The serving engine's steps, assembled. -/

namespace Sys2Proof.Machine

variable (c : CtxId) (s : State)

theorem State.buildCount_eq_zero (hown : ¬(s.pair.role = 2 ∧ s.pair.state = 1) →
      (s.ctx c.val).serving.reqTail = (s.ctx c.val).serving.reqHead)
    (hhanded : (s.pair.role = 2 ∧ s.pair.state = 1) → (s.ctx c.val).serving.handed = []) : s.buildCount c = 0 := by
  unfold State.buildCount
  split
  · next h => rw [hhanded ((State.takesInputs_iff s).1 h)]; rfl
  · next h => rw [hown (mt (State.takesInputs_iff s).2 h), BitVec.sub_self]; rfl

theorem State.buildCount_eq_one (hpair : ¬(s.pair.role = 2 ∧ s.pair.state = 1))
    (hone : (s.ctx c.val).serving.reqTail = (s.ctx c.val).serving.reqHead + 1) : s.buildCount c = 1 := by
  unfold State.buildCount
  rw [if_neg (mt (State.takesInputs_iff s).1 hpair), hone]
  bv_omega

/-- An empty step: its count is consumed, its build noted, and no memory changes at once. -/
theorem stepBuild_empty (h : s.buildEnabled c) (hsem : confSub (s.serveConf c.val) 4 < 16384)
    (hpos : 0 < s.sem c.val (confSub (s.serveConf c.val) 4)) (hnone : s.buildCount c = 0) (hidle : s.activeSeqs c.val = []) :
    ∃ t : State, exec (.stepBuild c) s = .next t ∧
      t.sem c.val (confSub (s.serveConf c.val) 4) = s.sem c.val (confSub (s.serveConf c.val) 4) - 1 ∧
      (t.ctx c.val).serving = { (s.ctx c.val).serving with
        step := (s.ctx c.val).serving.step + 1, build := some (s.emptyBuild c) } ∧
      ((s.ctx c.val).serving.lastRecord = none → t.hbm = s.hbm) ∧
      t.hbmMem = s.hbmMem ∧ t.sramMem = s.sramMem ∧ t.cores = s.cores := by
  have hfrom := State.buildFrom_eq c s
  refine ⟨_, exec_stepBuild_empty h hsem hpos hnone hidle, ?_, ?_, fun hlast => ?_, (congrArg State.hbmMem hfrom :),
    (congrArg State.sramMem hfrom :), (congrArg State.cores hfrom :)⟩
  · rw [← State.lessOne_toNat c s]
    refine State.sem_of_sems (m := (s.ctx c.val).sems) ?_
    rw [State.updCtx_ctx, State.updCtx_ctx, State.buildFrom_ctx]
    rfl
  · rw [State.updCtx_ctx, State.updCtx_ctx, State.buildFrom_ctx]
    rfl
  · exact (congrArg State.hbm (State.buildFrom_of_first c s hlast) :)

/-- What consuming one record makes of the table and the counts. -/
theorem BuildAcc.consume_spec (a : BuildAcc) (step : Nat) (conf : List Nat) (hf : a.fault = false) :
    let w := (a.s.ctx c.val).serving
    let b := a.request c conf
    let z := a.consume c.val step conf
    let w' := { w with reqHead := w.reqHead + 1, handed := w.handed.drop 1 }
    (badRequest b = true → z.fault = true) ∧
    (∀ i, badRequest b = false → field b 0 1 = 1 → a.s.freeSeq c.val = some i →
      z.fault = false ∧ z.joins = a.joins + 1 ∧ z.leaves = a.leaves ∧ z.refused = a.refused ∧ z.joined = i :: a.joined ∧
      (z.s.ctx c.val).serving = { w' with seqs := w.seqs.put i (joinedEntry b step a.s.tick.now) }) ∧
    (badRequest b = false → field b 0 1 = 1 → a.s.freeSeq c.val = none →
      z.fault = false ∧ z.refused = a.refused + 1 ∧ z.joins = a.joins ∧
      (z.s.ctx c.val).serving = { w' with refused := satAdd w.refused 1 }) ∧
    (badRequest b = false → field b 0 1 = 2 → field b 24 4 < a.s.cfgNum (0xD100 + c.val) 2 →
      (w.entry (field b 24 4)).active = true →
      z.fault = false ∧ z.leaves = a.leaves + 1 ∧ z.joins = a.joins ∧
      (z.s.ctx c.val).serving = { w' with seqs := w.seqs.del (field b 24 4) }) ∧
    (badRequest b = false → field b 0 1 = 2 →
      (a.s.cfgNum (0xD100 + c.val) 2 ≤ field b 24 4 ∨ (w.entry (field b 24 4)).active = false) → z.fault = true) := by
  intro w b z w'
  refine ⟨fun hbad => ?_, fun i hgood hkind hfree => ?_, fun hgood hkind hfree => ?_,
    fun hgood hkind hquota hthere => ?_, fun hgood hkind hnone => ?_⟩
  · exact congrArg BuildAcc.fault (BuildAcc.consume_of_bad hf hbad)
  · obtain ⟨t, hz, ht⟩ := BuildAcc.consume_of_join (step := step) hf hgood hkind hfree
    rw [show z = _ from hz]
    exact ⟨hf, rfl, rfl, rfl, rfl, ht⟩
  · obtain ⟨t, hz, ht⟩ := BuildAcc.consume_of_refused (step := step) hf hgood hkind hfree
    rw [show z = _ from hz]
    exact ⟨hf, rfl, rfl, ht⟩
  · obtain ⟨t, hz, ht⟩ := BuildAcc.consume_of_leave (step := step) hf hgood hkind hquota hthere
    rw [show z = _ from hz]
    exact ⟨hf, rfl, rfl, ht⟩
  · exact congrArg BuildAcc.fault (BuildAcc.consume_of_badLeave hf hgood hkind hnone)

variable {c s}

/-- A finished build is posted on ring 2. -/
theorem State.postStep_spec (b : StepBuild) (d : Bytes) :
    ((s.postStep c b d).ctx c.val).serving =
      { (s.ctx c.val).serving with build := none, posted := (s.ctx c.val).serving.posted ++ [(b.record, b.cycles)] } ∧
    (s.silent c.val = false → ((s.postStep c b d).ring c.val 2).tail = (s.ring c.val 2).tail + 1) ∧
    (s.silent c.val = false → s.pcie.linkUp = true → (s.postStep c b d).hostMem = s.hostMem.writeBytes
      ((s.ring c.val 2).base.toNat + 64 * ((s.ring c.val 2).tail.toNat % (s.ring c.val 2).entries)) d) ∧
    (s.postStep c b d).cores = s.cores ∧ (s.postStep c b d).sramMem = s.sramMem ∧
    (s.postStep c b d).hbmMem = s.hbmMem := by
  refine ⟨State.postStep_serving b d, fun hheard => ?_, fun hheard hup => State.postOn_hostMem 2 d hheard hup, State.postOn_mems 2 d⟩
  rw [← State.postOn_ring 2 d hheard]
  unfold State.postStep State.ring
  rw [State.updCtx_ctx]

theorem State.trace_ctx (k : Service) (d : Nat) : (s.trace k).ctx d = s.ctx d := by
  rw [State.trace_eq]
  rfl

/-- A build that is over is finished, and posted where the ring has room. -/
theorem stepPost_of_over {b : StepBuild} (hb : (s.ctx c.val).serving.build = some b)
    (hlive : (s.ctx c.val).life.state = .live) (hd : b.descriptor = none) (hover : s.buildOver c.val b = true) :
    let u := (s.finishBuild c.val b).trace .build
    ∃ d : Bytes, (u.ctx c.val).serving.build = some { b with descriptor := some d } ∧
      (∃ t : State, exec (.stepPost c) s = .next t ∧ (u.ringRoom c.val 2 = false → t = u) ∧
        (u.ringRoom c.val 2 = true → (t.ctx c.val).serving.build = none)) ∧
      (confSub b.conf 14 = 0 → d = (s.hbmShare c.val (confSub b.conf 8) 64).take 8 ++
        toLe 8 (max (confSub b.conf 13 % 2 ^ 64) (s.now + confSub b.conf 12)) ++
        slice (s.hbmShare c.val (confSub b.conf 8) 64) 16 40 ++ toLe 4 b.step ++
        slice (s.hbmShare c.val (confSub b.conf 8) 64) 60 4) := by
  intro u
  have hu : u = (s.finishBuild c.val b).trace .build := rfl
  have hbuild : (u.ctx c.val).serving.build = some { b with descriptor := some (s.stepCommand c.val b) } := by
    rw [hu, State.trace_ctx]
    exact State.finishBuild_serving b
  clear_value u
  refine ⟨_, hbuild, ⟨_, exec_stepPost_of_over hb hlive hd hover hu hbuild rfl, fun h => if_neg (ne_true_of_eq_false h),
    fun h => ?_⟩, State.stepCommand_of_unmonitored⟩
  rw [if_pos h, State.postStep_serving]

/-- Settles O40: a build takes its count, consumes its records by kind, and ends with its command on ring 2. -/
theorem servingSteps : Obligations.ServingSteps := by
  intro c s conf v sem enabled secondary
  refine ⟨exec_stepBuild_of_disabled, exec_stepBuild_of_badSem, exec_stepBuild_of_noCount, ?_, ?_, ?_, ?_, ?_, ?_, ?_, ?_⟩
  · intro h hsem hpos hown hhanded hidle
    exact stepBuild_empty c s h hsem hpos (State.buildCount_eq_zero c s hown hhanded) hidle
  · intro h hsem hpos hpair hone hlast hbad
    exact exec_stepBuild_of_bad h hsem hpos (State.buildCount_eq_one c s hpair hone) hpair hlast hbad
  · intro a step cf hf
    exact BuildAcc.consume_spec c a step cf hf
  · intro b d hb hlive hd
    have hexec := exec_stepPost_of_ready hb hlive hd
    exact ⟨fun hroom => ⟨_, hexec.trans (congrArg Host.Outcome.next (if_pos hroom)), State.postStep_spec b d⟩,
      fun hroom => hexec.trans (congrArg Host.Outcome.next (if_neg (ne_true_of_eq_false hroom)))⟩
  · intro b hb hlive hd
    exact ⟨exec_stepPost_of_unfinished hb hlive hd, stepPost_of_over hb hlive hd⟩
  · exact exec_stepPost_of_none
  · intro x hup hstage hpair u
    have hexec : exec (.ctxSeqReqTail c x) s = .next (u.seqReqTail c.val x) :=
      congrArg Host.Outcome.next (if_neg (State.hostHeard hup hstage hpair))
    have htest : (u.cfgNum (0xD100 + c.val) 6 < (x - (u.ctx c.val).serving.reqHead).toNat) ↔
        s.cfgNum (0xD100 + c.val) 6 < (x - v.reqHead).toNat := by
      rw [State.forwardIn_cfgNum, State.forwardIn_ctx]
    exact ⟨fun hfits => hexec.trans (congrArg Host.Outcome.next (if_neg (mt htest.1 (Nat.not_lt.2 hfits)))),
      fun hover => hexec.trans (congrArg Host.Outcome.next (State.seqReqTail_of_gt (htest.2 hover)))⟩
  · intro x hdeaf
    exact congrArg Host.Outcome.next (if_pos (State.not_hostHeard hdeaf))

end Sys2Proof.Machine
end

section
/-! Flits leave a port (R447 to R468). -/

namespace Sys2Proof.Machine

/-- A flit has left port l in the flit time whose CREDIT field is for `key`: it returns the credits owed there, and no
other link and nothing else has changed. -/
structure State.FlitSent (s t : State) (l : LinkId) (key : Nat) (x : Flit) : Prop where
  out : t.out = .flit l x (codeword (everyOther (flitWire x))) (codeword (everyOther ((flitWire x).drop 1))) :: s.out
  credit : x.credit = BitVec.ofNat 8 (min 255 ((s.link l.val).owed.get 0 key))
  owed : (t.link l.val).owed.get 0 key = (s.link l.val).owed.get 0 key - min 255 ((s.link l.val).owed.get 0 key)
  others : ∀ m, m ≠ l.val → t.link m = s.link m
  rest : { t with links := s.links, out := s.out } = s

/-- The place of the CREDIT field of flit time f among the credits owed. -/
def creditKey (l : LinkId) (f : Nat) : Nat := 4 * (creditFor l.val f).1 + (creditFor l.val f).2

section
variable (s : State) (l : LinkId) (f : Nat) (x : Flit)

/-- A flit with its CREDIT field filled for flit time f. -/
def State.credited : Flit :=
  { x with credit := BitVec.ofNat 8 (min 255 ((s.link l.val).owed.get 0 (creditKey l f))) }

/-- The credits owed at a key, 255 at most, are returned. -/
def Link.returnCredits (k : Link) (key : Nat) : Link :=
  { k with owed := k.owed.put key (k.owed.get 0 key - min 255 (k.owed.get 0 key)) }

theorem State.putFlit_eq : s.putFlit l.val f x = (s.updLink l.val fun k => k.returnCredits (creditKey l f)).emit
    (.flit l (s.credited l f x) (codeword (everyOther (flitWire (s.credited l f x))))
      (codeword (everyOther ((flitWire (s.credited l f x)).drop 1)))) := by
  unfold State.putFlit
  rw [linkId_ofNat]
  rfl

theorem State.link_emit (o : Output) (m : Nat) : (s.emit o).link m = s.link m := rfl

theorem State.putFlit_link : (s.putFlit l.val f x).link l.val = (s.link l.val).returnCredits (creditKey l f) := by
  rw [State.putFlit_eq, State.link_emit, State.updLink_link]

theorem State.putFlit_sent : s.FlitSent (s.putFlit l.val f x) l (creditKey l f) (s.credited l f x) := by
  rw [State.putFlit_eq]
  refine ⟨rfl, rfl, ?_, fun m hm => (State.link_emit ..).trans (s.updLink_link_ne l.val m _ hm), rfl⟩
  rw [State.link_emit, State.updLink_link]
  exact SMap.get_put ..

variable {s l f x}

/-- What the link noted before the flit left, its owed credits apart, is part of sending it. -/
theorem State.FlitSent.of_updLink {t : State} {key : Nat} {g : Link → Link} (hg : (g (s.link l.val)).owed = (s.link l.val).owed)
    (h : (s.updLink l.val g).FlitSent t l key x) : s.FlitSent t l key x := by
  have hlink : (s.updLink l.val g).link l.val = g (s.link l.val) := s.updLink_link l.val g
  refine ⟨h.out, ?_, ?_, fun m hm => (h.others m hm).trans (s.updLink_link_ne l.val m g hm), ?_⟩
  · rw [h.credit, hlink, hg]
  · rw [h.owed, hlink, hg]
  · exact (congrArg (fun u : State => { u with links := s.links }) h.rest :)

/-- A sequenced flit takes the next number and a place in the replay buffer. -/
theorem State.sendSequenced_spec (s : State) (l : LinkId) (f : Nat) (x : Flit) : ∃ y : Flit,
    s.FlitSent (s.sendSequenced l.val f x) l (creditKey l f) y ∧
    y.kind = x.kind ∧ y.ctx = x.ctx ∧ y.vc = x.vc ∧ y.payload = x.payload ∧ y.seq = (s.link l.val).txSeq ∧
    ∃ owed, (s.sendSequenced l.val f x).link l.val = { s.link l.val with
      txSeq := (s.link l.val).txSeq + 1
      replayBuf := (s.link l.val).replayBuf ++ [({ x with seq := (s.link l.val).txSeq }, 0)], owed := owed } := by
  unfold State.sendSequenced
  dsimp only
  refine ⟨_, .of_updLink rfl (State.putFlit_sent _ l f _), rfl, rfl, rfl, rfl, rfl, ?_⟩
  rw [State.putFlit_link, State.updLink_link]
  exact ⟨_, rfl⟩

/-- An IDLE flit carries the LINK_ACK. -/
theorem State.sendIdle_spec (s : State) (l : LinkId) (f : Nat) : ∃ y : Flit,
    s.FlitSent (s.sendIdle l.val f) l (creditKey l f) y ∧ y.kind = .idle ∧ y.payload = toLe 2 (s.link l.val).ack ∧
    ((s.sendIdle l.val f).link l.val).txSeq = (s.link l.val).txSeq ∧
    ((s.sendIdle l.val f).link l.val).replayBuf = (s.link l.val).replayBuf := by
  unfold State.sendIdle
  refine ⟨_, s.putFlit_sent l f _, rfl, rfl, ?_, ?_⟩ <;> rw [State.putFlit_link] <;> rfl

end

/-! ## The flit times of a port -/

section
variable {s : State} {l : LinkId} {f : Nat}

/-- What goes out in a flit time (R456, R459 to R461). -/
def State.flitTimeStep (s : State) (l f : Nat) : State :=
  let k := s.link l
  if f % 512 = 0 then s.sendControl l f
  else if k.nakDue then
    (s.updLink l fun k => { k with nakDue := false, nakTick := s.tick.now }).putFlit l f (plainFlit .nak k.rxSeq [])
  else match k.resend with
    | x :: rest => (s.updLink l fun k => { k with resend := rest }).putFlit l f (s.refreshFlit l x)
    | [] =>
      if 960 ≤ k.replayBuf.length then s.sendIdle l f
      else match s.slotFlit l with
        | none => s.sendIdle l f
        | some x => s.sendSlotFlit l f x

theorem exec_flitSend (hup : (s.link l.val).state = .up ∨ (s.link l.val).state = .quarantined) (hf : flitTime s.now = some f) :
    exec (.flitSend l) s = .next (s.flitTimeStep l.val f) := by
  change execFlitSend l s = _
  unfold execFlitSend
  dsimp only
  rw [if_neg (fun h => hup.elim h.1 h.2), hf]
  rfl

theorem exec_flitSend_of_none (h : flitTime s.now = none ∨
    ((s.link l.val).state ≠ .up ∧ (s.link l.val).state ≠ .quarantined)) : exec (.flitSend l) s = .next s := by
  change execFlitSend l s = _
  unfold execFlitSend
  dsimp only
  split
  · rfl
  · next hup => rw [h.resolve_right hup]

/-- A control flit time without a message, or with a full replay buffer, is IDLE. -/
theorem State.sendControl_of_idle (h : (s.link l.val).control = [] ∨ 960 ≤ (s.link l.val).replayBuf.length) :
    s.sendControl l.val f = s.sendIdle l.val f :=
  if_pos (h.imp_left List.isEmpty_iff.2)

theorem State.sendControl_spec (hsome : (s.link l.val).control ≠ []) (hroom : (s.link l.val).replayBuf.length < 960) :
    ∃ y : Flit, s.FlitSent (s.sendControl l.val f) l (creditKey l f) y ∧ y.kind = .control ∧ y.vc = 2 ∧
      y.seq = (s.link l.val).txSeq ∧ y.payload = toLe 2 (s.link l.val).ack ++ (takeMessages 248 (s.link l.val).control).1 ∧
      ((s.sendControl l.val f).link l.val).control = (takeMessages 248 (s.link l.val).control).2 ∧
      ((s.sendControl l.val f).link l.val).txSeq = (s.link l.val).txSeq + 1 := by
  have hsend : s.sendControl l.val f =
      (s.updLink l.val fun k => { k with control := (takeMessages 248 (s.link l.val).control).2 }).sendSequenced l.val f
        { plainFlit .control 0 (toLe 2 (s.link l.val).ack ++ (takeMessages 248 (s.link l.val).control).1) with vc := 2 } :=
    if_neg (fun h => h.elim (fun h => hsome (List.isEmpty_iff.1 h)) (fun h => absurd h (by omega)))
  obtain ⟨y, hsent, hkind, -, hvc, hpayload, hseq, owed, hlink⟩ := State.sendSequenced_spec
    (s.updLink l.val fun k => { k with control := (takeMessages 248 (s.link l.val).control).2 }) l f
    { plainFlit .control 0 (toLe 2 (s.link l.val).ack ++ (takeMessages 248 (s.link l.val).control).1) with vc := 2 }
  rw [← hsend] at hsent hlink
  rw [State.updLink_link] at hlink hseq
  exact ⟨y, .of_updLink rfl hsent, hkind, hvc, hseq, hpayload, congrArg Link.control hlink, congrArg Link.txSeq hlink⟩

/-- A flit resent is the flit of its number, with the LINK_ACK of now in a control flit. -/
theorem State.refreshFlit_spec (x : Flit) : (s.refreshFlit l.val x).kind = x.kind ∧ (s.refreshFlit l.val x).seq = x.seq ∧
    (x.kind ≠ .control → (s.refreshFlit l.val x).payload = x.payload) ∧
    (x.kind = .control → (s.refreshFlit l.val x).payload.take 2 = toLe 2 (s.link l.val).ack) := by
  by_cases hkind : x.kind = .control
  · have hfresh : s.refreshFlit l.val x = _ := if_neg (Classical.not_not.2 hkind)
    rw [hfresh]
    refine ⟨rfl, rfl, fun h => absurd hkind h, fun _ => ?_⟩
    exact List.take_left' (toLe_length ..)
  · have hsame : s.refreshFlit l.val x = x := if_pos hkind
    rw [hsame]
    exact ⟨rfl, rfl, fun _ => rfl, fun h => absurd h hkind⟩

/-- The flit of a slot is one of the slot's owner that holds a credit. -/
theorem State.slotFlit_some {y : Flit} (h : s.slotFlit l.val = some y) : s.engineOwner (34 + l.val) = some y.ctx.val ∧
    s.hasCredit l.val y = true ∧ (s.link l.val).state = .up := by
  unfold State.slotFlit at h
  split at h
  · exact (nomatch h)
  · next c howner =>
    split at h
    · exact (nomatch h)
    · next hruns =>
      have hy := List.find?_some h
      rw [Bool.and_eq_true, beq_iff_eq] at hy
      obtain ⟨hctx, hcredit⟩ := hy
      exact ⟨by rw [howner, hctx], hcredit, Classical.not_not.1 fun hdown => hruns (.inr (.inl hdown))⟩

theorem State.sendSlotFlit_spec (y : Flit) : ∃ x : Flit, s.FlitSent (s.sendSlotFlit l.val f y) l (creditKey l f) x ∧
    x.kind = y.kind ∧ x.ctx = y.ctx ∧ x.vc = y.vc ∧ x.payload = y.payload ∧ x.seq = (s.link l.val).txSeq ∧
    ((s.sendSlotFlit l.val f y).link l.val).txSeq = (s.link l.val).txSeq + 1 ∧
    ((s.sendSlotFlit l.val f y).link l.val).queue = (s.link l.val).queue.erase y ∧
    ((s.sendSlotFlit l.val f y).link l.val).replayBuf =
      (s.link l.val).replayBuf ++ [({ y with seq := (s.link l.val).txSeq }, 0)] ∧
    ((s.sendSlotFlit l.val f y).link l.val).credits.get 0 (4 * y.ctx.val + y.vc.toNat) =
      (s.link l.val).credits.get 0 (4 * y.ctx.val + y.vc.toNat) + 1 := by
  obtain ⟨x, hsent, hkind, hctx, hvc, hpayload, hseq, owed, hlink⟩ := State.sendSequenced_spec
    (s.updLink l.val fun k => { k with
      queue := k.queue.erase y
      credits := k.credits.put (4 * y.ctx.val + y.vc.toNat) (k.credits.get 0 (4 * y.ctx.val + y.vc.toNat) + 1) }) l f y
  change (s.sendSlotFlit l.val f y).link l.val = _ at hlink
  rw [State.updLink_link] at hlink hseq
  rw [hlink]
  exact ⟨x, .of_updLink rfl hsent, hkind, hctx, hvc, hpayload, hseq, rfl, rfl, rfl, SMap.get_put ..⟩

end

end Sys2Proof.Machine
end

section
/-! Blocks that fail, acknowledgements and replays (R449 to R457, R467, R488). -/

namespace Sys2Proof.Machine

theorem indexOf_eq_none {α : Type} {p : α → Bool} : ∀ {l : List α}, (∀ x ∈ l, p x = false) → indexOf p l = none
  | [], _ => rfl
  | x :: l, h => by
    unfold indexOf
    rw [h x List.mem_cons_self, if_neg Bool.false_ne_true, indexOf_eq_none fun y hy => h y (List.mem_cons_of_mem x hy)]
    rfl

theorem indexOf_append_cons {α : Type} {p : α → Bool} {x : α} {post : List α} (hx : p x = true) :
    ∀ {pre : List α}, (∀ y ∈ pre, p y = false) → indexOf p (pre ++ x :: post) = some pre.length
  | [], _ => by
    rw [List.nil_append]
    unfold indexOf
    rw [if_pos hx]
    rfl
  | y :: pre, h => by
    rw [List.cons_append]
    unfold indexOf
    rw [h y List.mem_cons_self, if_neg Bool.false_ne_true,
      indexOf_append_cons hx fun z hz => h z (List.mem_cons_of_mem y hz)]
    rfl

section
variable {seq : BitVec 10}

/-- A buffer holds no flit of a number. -/
theorem indexOf_seq_none {b : List (Flit × Nat)} (h : ∀ y ∈ b, y.1.seq ≠ seq) :
    indexOf (fun x : Flit × Nat => x.1.seq == seq) b = none :=
  indexOf_eq_none fun y hy => beq_false_of_ne (h y hy)

/-- The first flit of a number in a buffer. -/
theorem indexOf_seq_some {pre post : List (Flit × Nat)} {x : Flit} {n : Nat} (hx : x.seq = seq)
    (hpre : ∀ y ∈ pre, y.1.seq ≠ seq) :
    indexOf (fun x : Flit × Nat => x.1.seq == seq) (pre ++ (x, n) :: post) = some pre.length :=
  indexOf_append_cons (p := fun x : Flit × Nat => x.1.seq == seq) (beq_iff_eq.2 hx) fun y hy => beq_false_of_ne (hpre y hy)

theorem ackBuffer_of_none {b : List (Flit × Nat)} (h : ∀ y ∈ b, y.1.seq ≠ seq) : ackBuffer seq b = b := by
  unfold ackBuffer
  rw [indexOf_seq_none h]

theorem ackBuffer_of_some {pre post : List (Flit × Nat)} {x : Flit} {n : Nat} (hx : x.seq = seq)
    (hpre : ∀ y ∈ pre, y.1.seq ≠ seq) : ackBuffer seq (pre ++ (x, n) :: post) = post := by
  unfold ackBuffer
  rw [indexOf_seq_some hx hpre]
  dsimp only
  rw [← List.drop_drop, List.drop_left]
  rfl

end

/-! ## Blocks -/

theorem blockFails_iff (e : Fec) : blockFails e = true ↔ 6 < e.even ∨ 6 < e.odd := by
  unfold blockFails
  rw [Bool.or_eq_true, decide_eq_true_iff, decide_eq_true_iff]

section
variable (s : State) (l : LinkId) (e : Fec)

theorem State.countFec_of_clean (heven : e.even = 0) (hodd : e.odd = 0) : s.countFec l.val e = s := if_pos ⟨heven, hodd⟩

theorem State.countFec_of_corrected (h : e.even ≠ 0 ∨ e.odd ≠ 0) : s.countFec l.val e =
    s.updLink l.val fun k => { k with fecCorrected := satAdd k.fecCorrected 1 } :=
  if_neg fun hclean => h.elim (· hclean.1) (· hclean.2)

/-- Counting a correction changes a count of the link alone. -/
theorem State.countFec_link : ∃ n, (s.countFec l.val e).link l.val = { s.link l.val with fecCorrected := n } := by
  unfold State.countFec
  split
  · exact ⟨_, rfl⟩
  · exact ⟨_, s.updLink_link l.val _⟩

theorem State.countFec_tick : (s.countFec l.val e).tick = s.tick := by
  unfold State.countFec
  split <;> rfl

theorem State.updLink_congr {f g : Link → Link} (h : f (s.link l.val) = g (s.link l.val)) :
    s.updLink l.val f = s.updLink l.val g := by
  unfold State.updLink
  rw [h]

/-- The ticks of the flits discarded in the last 1,048,576 flit times, with a flit discarded now. -/
def State.discards : List Word :=
  s.tick.now :: (s.link l.val).discardTicks.filter fun t => decide (s.now < t.toNat + 1638400)

/-- What a link notes of a flit in error. -/
def State.noteError : State := (s.updLink l.val fun k => { k with
    replayWait := true, nakDue := k.nakDue || !k.replayWait }).updLink l.val fun k => { k with discardTicks := s.discards l }

theorem State.noteError_link : (s.noteError l).link l.val = { s.link l.val with
    replayWait := true, nakDue := (s.link l.val).nakDue || !(s.link l.val).replayWait, discardTicks := s.discards l } := by
  unfold State.noteError
  rw [State.updLink_link, State.updLink_link]

theorem State.noteError_others (m : Nat) (hm : m ≠ l.val) : (s.noteError l).link m = s.link m :=
  (State.updLink_link_ne _ l.val m _ hm).trans (s.updLink_link_ne l.val m _ hm)

variable {s l}

theorem State.badFlit_of_idle (hup : (s.link l.val).state ≠ .up) (hquarantined : (s.link l.val).state ≠ .quarantined) :
    s.badFlit l.val = s :=
  if_pos ⟨hup, hquarantined⟩

theorem State.badFlit_of_up (hup : (s.link l.val).state = .up ∨ (s.link l.val).state = .quarantined) :
    s.badFlit l.val = if 64 < (s.discards l).length then (s.noteError l).declareDown l.val else s.noteError l := by
  refine (if_neg fun h => hup.elim h.1 h.2).trans ?_
  unfold State.discardFlit
  dsimp only
  rw [State.updLink_link]
  rfl

/-- An instruction that gives a link a flit in error. -/
theorem failed_flit {i : Instr} (hi : exec i s = .next (s.badFlit l.val)) :
    ((s.link l.val).state = .up ∨ (s.link l.val).state = .quarantined → (s.discards l).length ≤ 64 →
      ∃ t : State, exec i s = .next t ∧ t.link l.val = (s.updLink l.val fun k => { k with
          replayWait := true, nakDue := k.nakDue || !k.replayWait, discardTicks := s.discards l }).link l.val ∧
        (∀ m, m ≠ l.val → t.link m = s.link m) ∧ { t with links := s.links } = s) ∧
    ((s.link l.val).state = .up ∨ (s.link l.val).state = .quarantined → 64 < (s.discards l).length →
      ∃ t : State, exec i s = .next (t.declareDown l.val) ∧ (t.link l.val).state = (s.link l.val).state ∧
        { t with links := s.links } = s) ∧
    ((s.link l.val).state ≠ .up → (s.link l.val).state ≠ .quarantined → exec i s = .next s) := by
  refine ⟨fun hup hfew => ⟨s.noteError l, ?_, ?_, s.noteError_others l, rfl⟩, fun hup hmany => ⟨s.noteError l, ?_, ?_, rfl⟩,
    fun hup hquarantined => ?_⟩
  · rw [hi, State.badFlit_of_up hup, if_neg (Nat.not_lt.2 hfew)]
  · rw [State.noteError_link, State.updLink_link]
  · rw [hi, State.badFlit_of_up hup, if_pos hmany]
  · rw [State.noteError_link]
  · rw [hi, State.badFlit_of_idle hup hquarantined]

/-! ## Acknowledgements and replays -/

section
variable {seq : BitVec 10} {credit : BitVec 8} {e : Fec} (hgood : blockFails e = false)
include hgood

theorem exec_linkAck_of_good : exec (.linkAckReceive l seq credit e) s = .next (((s.countFec l.val e).updLink l.val fun k =>
    { k with replayBuf := ackBuffer seq k.replayBuf }).takeCredits l.val credit) :=
  congrArg Host.Outcome.next (if_neg (ne_true_of_eq_false hgood))

theorem exec_linkAck_of_buffer {b : List (Flit × Nat)} (hb : ackBuffer seq (s.link l.val).replayBuf = b) :
    exec (.linkAckReceive l seq credit e) s = .next (((s.countFec l.val e).updLink l.val fun k =>
      { k with replayBuf := b }).takeCredits l.val credit) := by
  obtain ⟨n, hlink⟩ := s.countFec_link l e
  rw [exec_linkAck_of_good hgood]
  refine congrArg (fun u : State => Host.Outcome.next (u.takeCredits l.val credit)) (State.updLink_congr _ l ?_)
  rw [hlink, ← hb]

theorem exec_linkAck_of_none (hnone : ∀ y ∈ (s.link l.val).replayBuf, y.1.seq ≠ seq) :
    exec (.linkAckReceive l seq credit e) s =
      .next (((s.countFec l.val e).updLink l.val fun k => k).takeCredits l.val credit) := by
  obtain ⟨n, hlink⟩ := s.countFec_link l e
  rw [exec_linkAck_of_buffer hgood (ackBuffer_of_none hnone)]
  refine congrArg (fun u : State => Host.Outcome.next (u.takeCredits l.val credit)) (State.updLink_congr _ l ?_)
  rw [hlink]

theorem exec_nak_of_idle (hup : (s.link l.val).state ≠ .up) (hquarantined : (s.link l.val).state ≠ .quarantined) :
    exec (.nakReceive l seq credit e) s = .next (s.countFec l.val e) := by
  obtain ⟨n, hlink⟩ := s.countFec_link l e
  refine congrArg Host.Outcome.next ((if_neg (ne_true_of_eq_false hgood)).trans (if_pos ?_))
  rw [hlink]
  exact ⟨hup, hquarantined⟩

end

/-- A NAK has been counted and the credits of its flit taken. -/
def State.nakCounted (s : State) (l : LinkId) (credit : BitVec 8) (e : Fec) : State :=
  ((s.countFec l.val e).updLink l.val fun k => { k with replays := k.replays + 1 }).takeCredits l.val credit

theorem State.nakCounted_tick (s : State) (l : LinkId) (credit : BitVec 8) (e : Fec) :
    (s.nakCounted l credit e).tick = s.tick :=
  s.countFec_tick l e

theorem State.nakCounted_now (s : State) (l : LinkId) (credit : BitVec 8) (e : Fec) : (s.nakCounted l credit e).now = s.now :=
  congrArg (fun t : TickUnit => t.now.toNat) (s.nakCounted_tick l credit e)

theorem State.nakCounted_replayBuf (s : State) (l : LinkId) (credit : BitVec 8) (e : Fec) :
    ((s.nakCounted l credit e).link l.val).replayBuf = (s.link l.val).replayBuf := by
  obtain ⟨n, hlink⟩ := s.countFec_link l e
  unfold State.nakCounted State.takeCredits
  dsimp only
  rw [State.updLink_link, State.updLink_link, hlink]

/-- What a link notes of a replay from place i of a buffer on. -/
def Link.replayFrom (k : Link) (b : List (Flit × Nat)) (i : Nat) (seq : BitVec 10) (now : Word) : Link :=
  { k with
    replayBuf := b.take i ++ (b.drop i).map fun x => (x.1, x.2 + 1)
    resend := (b.drop i).map (·.1), lastReplay := some (seq, now) }

/-- The latest replay was of the same flit, less than 512 flit times ago. -/
def State.replayedLately (s : State) (l : LinkId) (seq : BitVec 10) : Bool :=
  match (s.link l.val).lastReplay with
  | none => false
  | some (n, t) => n == seq && decide (s.now < t.toNat + 800)

theorem State.replayedLately_of_late {s : State} {l : LinkId} {seq : BitVec 10}
    (h : ∀ t : Word, (s.link l.val).lastReplay = some (seq, t) → t.toNat + 800 ≤ s.now) : s.replayedLately l seq = false := by
  unfold State.replayedLately
  split
  · rfl
  · next n t hlast =>
    rw [Bool.and_eq_false_iff, decide_eq_false_iff_not, beq_eq_false_iff_ne]
    by_cases hn : n = seq
    · exact .inr (Nat.not_lt.2 (h t (hn ▸ hlast)))
    · exact .inl hn

section
variable {seq : BitVec 10} {credit : BitVec 8} {e : Fec} (hgood : blockFails e = false)
  (hup : (s.link l.val).state = .up ∨ (s.link l.val).state = .quarantined)
include hgood hup

theorem exec_nak_eq : exec (.nakReceive l seq credit e) s = .next (
    match indexOf (fun x : Flit × Nat => x.1.seq == seq) (s.link l.val).replayBuf with
    | none => s.nakCounted l credit e
    | some i =>
      if s.replayedLately l seq then s.nakCounted l credit e
      else if ((s.link l.val).replayBuf.drop i).any fun x => decide (4 ≤ x.2) then (s.nakCounted l credit e).declareDown l.val
      else (s.nakCounted l credit e).updLink l.val fun k => k.replayFrom (s.link l.val).replayBuf i seq s.tick.now) := by
  obtain ⟨n, hlink⟩ := s.countFec_link l e
  refine congrArg Host.Outcome.next ((if_neg (ne_true_of_eq_false hgood)).trans ?_)
  dsimp only
  rw [hlink, if_neg (fun h => hup.elim h.1 h.2)]
  dsimp only
  rw [show ((s.countFec l.val e).updLink l.val fun k => { k with replays := k.replays + 1 }).takeCredits l.val credit =
    s.nakCounted l credit e from rfl, State.nakCounted_now, State.nakCounted_tick]
  cases indexOf (fun x : Flit × Nat => x.1.seq == seq) (s.link l.val).replayBuf with
  | none => rfl
  | some i =>
    dsimp only
    rw [State.updLink_congr (s.nakCounted l credit e) l (g := fun k => k.replayFrom (s.link l.val).replayBuf i seq s.tick.now)
      (by rw [← State.nakCounted_replayBuf s l credit e]; rfl)]
    rfl

theorem exec_nak_of_none (hnone : ∀ y ∈ (s.link l.val).replayBuf, y.1.seq ≠ seq) :
    exec (.nakReceive l seq credit e) s = .next (s.nakCounted l credit e) := by
  rw [exec_nak_eq hgood hup, indexOf_seq_none hnone]

theorem exec_nak_of_lately (hlately : s.replayedLately l seq = true) :
    exec (.nakReceive l seq credit e) s = .next (s.nakCounted l credit e) := by
  rw [exec_nak_eq hgood hup]
  split
  · rfl
  · rw [if_pos hlately]

section
variable {pre post : List (Flit × Nat)} {x : Flit} {n : Nat} (hbuf : (s.link l.val).replayBuf = pre ++ (x, n) :: post)
  (hx : x.seq = seq) (hpre : ∀ y ∈ pre, y.1.seq ≠ seq) (hlate : s.replayedLately l seq = false)
include hbuf hx hpre hlate

theorem exec_nak_of_worn (hworn : ∃ y ∈ (x, n) :: post, 4 ≤ y.2) :
    exec (.nakReceive l seq credit e) s = .next ((s.nakCounted l credit e).declareDown l.val) := by
  obtain ⟨y, hy, hy4⟩ := hworn
  rw [exec_nak_eq hgood hup, hbuf, indexOf_seq_some hx hpre]
  dsimp only
  rw [hlate, if_neg Bool.false_ne_true, List.drop_left, if_pos (List.any_eq_true.2 ⟨y, hy, decide_eq_true hy4⟩)]

theorem exec_nak_of_fresh (hfresh : ∀ y ∈ (x, n) :: post, y.2 < 4) :
    exec (.nakReceive l seq credit e) s = .next ((s.nakCounted l credit e).updLink l.val fun k => { k with
      replayBuf := pre ++ ((x, n) :: post).map fun y => (y.1, y.2 + 1)
      resend := ((x, n) :: post).map (·.1), lastReplay := some (seq, s.tick.now) }) := by
  have hany : ¬(((x, n) :: post).any fun x => decide (4 ≤ x.2)) = true := by
    rw [List.any_eq_true]
    rintro ⟨y, hy, hy4⟩
    exact absurd (of_decide_eq_true hy4) (Nat.not_le.2 (hfresh y hy))
  rw [exec_nak_eq hgood hup, hbuf, indexOf_seq_some hx hpre]
  dsimp only
  rw [hlate, if_neg Bool.false_ne_true, List.drop_left, if_neg hany]
  unfold Link.replayFrom
  rw [List.take_left, List.drop_left]

end

end

end

end Sys2Proof.Machine
end

section
/-! Flits sent, acknowledged and replayed: the statement assembled. -/

namespace Sys2Proof.Machine

section
variable {l : LinkId} {s : State}

/-- FLIT_SEND sends one flit, of which p holds. -/
def State.sendsOne (s : State) (l : LinkId) (f : Nat) (p : State → Flit → Prop) : Prop :=
  ∃ (t : State) (x : Flit), exec (.flitSend l) s = .next t ∧ p t x ∧
    t.out = .flit l x (codeword (everyOther (flitWire x))) (codeword (everyOther ((flitWire x).drop 1))) :: s.out ∧
    x.credit = BitVec.ofNat 8 (min 255 ((s.link l.val).owed.get 0 (creditKey l f))) ∧
    (t.link l.val).owed.get 0 (creditKey l f) = (s.link l.val).owed.get 0 (creditKey l f) -
      min 255 ((s.link l.val).owed.get 0 (creditKey l f)) ∧
    (∀ m, m ≠ l.val → t.link m = s.link m) ∧ { t with links := s.links, out := s.out } = s

theorem State.sendsOne_of {f : Nat} {p : State → Flit → Prop} {t : State} {x : Flit} (ht : exec (.flitSend l) s = .next t)
    (hsent : s.FlitSent t l (creditKey l f) x) (hp : p t x) : s.sendsOne l f p := by
  obtain ⟨hout, hcredit, howed, hothers, hrest⟩ := hsent
  exact ⟨t, x, ht, hp, hout, hcredit, howed, hothers, hrest⟩

variable {f : Nat} (hup : (s.link l.val).state = .up ∨ (s.link l.val).state = .quarantined) (hf : flitTime s.now = some f)
include hup hf

/-- A flit time that sends IDLE. -/
theorem flitSend_idle (hidle : s.flitTimeStep l.val f = s.sendIdle l.val f) : s.sendsOne l f fun t x =>
    x.kind = .idle ∧ x.payload = toLe 2 (s.link l.val).ack ∧ (t.link l.val).txSeq = (s.link l.val).txSeq ∧
      (t.link l.val).replayBuf = (s.link l.val).replayBuf := by
  obtain ⟨y, hsent, hspec⟩ := s.sendIdle_spec l f
  exact State.sendsOne_of ((exec_flitSend hup hf).trans (congrArg Host.Outcome.next hidle)) hsent hspec

theorem flitSend_control (hcontrol : f % 512 = 0) (hsome : (s.link l.val).control ≠ [])
    (hroom : (s.link l.val).replayBuf.length < 960) : s.sendsOne l f fun t x =>
    x.kind = .control ∧ x.vc = 2 ∧ x.seq = (s.link l.val).txSeq ∧
      x.payload = toLe 2 (s.link l.val).ack ++ (takeMessages 248 (s.link l.val).control).1 ∧
      (t.link l.val).control = (takeMessages 248 (s.link l.val).control).2 ∧
      (t.link l.val).txSeq = (s.link l.val).txSeq + 1 := by
  obtain ⟨y, hsent, hspec⟩ := State.sendControl_spec (f := f) hsome hroom
  exact State.sendsOne_of ((exec_flitSend hup hf).trans (congrArg Host.Outcome.next (if_pos hcontrol))) hsent hspec

section
variable (hdata : f % 512 ≠ 0)
include hdata

theorem flitSend_nak (hdue : (s.link l.val).nakDue = true) : s.sendsOne l f fun t x =>
    x.kind = .nak ∧ x.seq = (s.link l.val).rxSeq ∧ (t.link l.val).nakDue = false ∧ (t.link l.val).nakTick = s.tick.now ∧
      (t.link l.val).txSeq = (s.link l.val).txSeq := by
  have hexec := (exec_flitSend hup hf).trans (congrArg Host.Outcome.next ((if_neg hdata).trans (if_pos hdue)))
  refine State.sendsOne_of hexec (State.FlitSent.of_updLink rfl (State.putFlit_sent _ l f _)) ⟨rfl, rfl, ?_⟩
  rw [State.putFlit_link, State.updLink_link]
  exact ⟨rfl, rfl, rfl⟩

variable (hdue : (s.link l.val).nakDue = false)
include hdue

omit hup hf in
/-- A data flit time with no NAK due goes on to the flits to resend. -/
theorem flitTimeStep_of_data : s.flitTimeStep l.val f =
    match (s.link l.val).resend with
    | x :: rest => (s.updLink l.val fun k => { k with resend := rest }).putFlit l.val f (s.refreshFlit l.val x)
    | [] =>
      if 960 ≤ (s.link l.val).replayBuf.length then s.sendIdle l.val f
      else match s.slotFlit l.val with
        | none => s.sendIdle l.val f
        | some x => s.sendSlotFlit l.val f x :=
  (if_neg hdata).trans (if_neg (ne_true_of_eq_false hdue))

theorem flitSend_resend {y : Flit} {rest : List Flit} (hresend : (s.link l.val).resend = y :: rest) :
    s.sendsOne l f fun t x => x.kind = y.kind ∧ x.seq = y.seq ∧ (y.kind ≠ .control → x.payload = y.payload) ∧
      (y.kind = .control → x.payload.take 2 = toLe 2 (s.link l.val).ack) ∧ (t.link l.val).resend = rest ∧
      (t.link l.val).txSeq = (s.link l.val).txSeq := by
  have hexec := exec_flitSend hup hf
  rw [flitTimeStep_of_data hdata hdue, hresend] at hexec
  obtain ⟨hkind, hseq, hpayload, hcontrol⟩ := State.refreshFlit_spec (s := s) (l := l) y
  refine State.sendsOne_of hexec (State.FlitSent.of_updLink rfl (State.putFlit_sent _ l f _)) ⟨hkind, hseq, hpayload, hcontrol, ?_⟩
  rw [State.putFlit_link, State.updLink_link]
  exact ⟨rfl, rfl⟩

variable (hresend : (s.link l.val).resend = [])
include hresend

theorem flitSend_no_flit (h : 960 ≤ (s.link l.val).replayBuf.length ∨ s.slotFlit l.val = none) :
    s.sendsOne l f fun t x =>
      x.kind = .idle ∧ x.payload = toLe 2 (s.link l.val).ack ∧ (t.link l.val).txSeq = (s.link l.val).txSeq ∧
      (t.link l.val).replayBuf = (s.link l.val).replayBuf := by
  refine flitSend_idle hup hf ?_
  rw [flitTimeStep_of_data hdata hdue, hresend]
  dsimp only
  split
  · rfl
  · next hroom => rw [h.resolve_left hroom]

theorem flitSend_slot {y : Flit} (hroom : (s.link l.val).replayBuf.length < 960) (hy : s.slotFlit l.val = some y) :
    s.sendsOne l f fun t x => x.kind = y.kind ∧ x.ctx = y.ctx ∧ x.vc = y.vc ∧ x.payload = y.payload ∧
      x.seq = (s.link l.val).txSeq ∧ (t.link l.val).txSeq = (s.link l.val).txSeq + 1 ∧
      (t.link l.val).queue = (s.link l.val).queue.erase y ∧
      (t.link l.val).replayBuf = (s.link l.val).replayBuf ++ [({ y with seq := (s.link l.val).txSeq }, 0)] ∧
      (t.link l.val).credits.get 0 (4 * y.ctx.val + y.vc.toNat) =
        (s.link l.val).credits.get 0 (4 * y.ctx.val + y.vc.toNat) + 1 := by
  have hexec := exec_flitSend hup hf
  rw [flitTimeStep_of_data hdata hdue, hresend] at hexec
  dsimp only at hexec
  rw [if_neg (Nat.not_le.2 hroom), hy] at hexec
  obtain ⟨x, hsent, hspec⟩ := State.sendSlotFlit_spec (s := s) (l := l) (f := f) y
  exact State.sendsOne_of hexec hsent hspec

end

end

/-- Settles O34: each flit time sends its flit, and each block is taken by its kind and errors. -/
theorem flitsSentAndReplayed : Obligations.FlitsSentAndReplayed := by
  unfold Obligations.FlitsSentAndReplayed
  refine ⟨fun l s => ⟨fun f hup hf => ⟨?_, ?_, ?_, ?_, ?_, ?_⟩, exec_flitSend_of_none, fun seq credit fec hgood => ⟨?_, ?_⟩⟩,
    fun l s => ⟨failed_flit rfl, fun seq credit fec hbad => ⟨?_, ?_⟩, fun fec => ⟨blockFails_iff fec, ?_, ?_⟩, ?_, ?_, ?_, ?_⟩⟩
  · exact fun hcontrol hidle => flitSend_idle hup hf ((if_pos hcontrol).trans (State.sendControl_of_idle hidle))
  · exact fun hcontrol hsome hroom => flitSend_control hup hf hcontrol hsome hroom
  · exact fun hdata hdue => flitSend_nak hup hf hdata hdue
  · exact fun y rest hdata hdue hresend => flitSend_resend hup hf hdata hdue hresend
  · exact fun hdata hdue hresend h => flitSend_no_flit hup hf hdata hdue hresend h
  · intro y hdata hdue hresend hroom hy
    obtain ⟨howner, hcredit, hstate⟩ := State.slotFlit_some hy
    exact ⟨howner, hcredit, hstate, flitSend_slot hup hf hdata hdue hresend hroom hy⟩
  · intro pre x n post hbuf hx hpre
    exact exec_linkAck_of_buffer hgood (hbuf ▸ ackBuffer_of_some hx hpre)
  · exact exec_linkAck_of_none hgood
  · exact failed_flit (congrArg Host.Outcome.next (if_pos hbad))
  · exact failed_flit (congrArg Host.Outcome.next (if_pos hbad))
  · exact s.countFec_of_clean l fec
  · exact s.countFec_of_corrected l fec
  · intro hwait hdue hlate
    exact congrArg Host.Outcome.next (if_pos ⟨hwait, hdue, hlate⟩)
  · intro h
    refine congrArg Host.Outcome.next (if_neg fun ⟨hwait, hdue, hlate⟩ => ?_)
    rcases h with h | h | h
    · exact Bool.false_ne_true (h.symm.trans hwait)
    · exact Bool.false_ne_true (hdue.symm.trans h)
    · exact absurd hlate (Nat.not_le.2 h)
  · intro seq credit fec hgood hup
    refine ⟨exec_nak_of_none hgood hup, fun t hlast hsoon => ?_, fun pre x n post hbuf hx hpre hlate => ⟨?_, ?_⟩⟩
    · refine exec_nak_of_lately hgood hup ?_
      unfold State.replayedLately
      rw [hlast]
      dsimp only
      rw [beq_self_eq_true, decide_eq_true hsoon, Bool.and_self]
    · exact exec_nak_of_worn hgood hup hbuf hx hpre (State.replayedLately_of_late hlate)
    · exact exec_nak_of_fresh hgood hup hbuf hx hpre (State.replayedLately_of_late hlate)
  · intro seq credit fec hgood hup hquarantined
    exact exec_nak_of_idle hgood hup hquarantined

end Sys2Proof.Machine
end

section
/-! Data flits arrive and go on to the port of their next hop (R448, R463, R470, R475). -/

namespace Sys2Proof.Machine

/-! ## Where a flit goes on to -/

/-- A state that differs from s in counters and numbers of its links alone. -/
structure State.PortsKept (s u : State) : Prop where
  rest : u = { s with links := u.links }
  same : ∀ m, (u.link m).peerAddr = (s.link m).peerAddr ∧ (u.link m).state = (s.link m).state ∧
    (u.link m).queue = (s.link m).queue ∧ (u.link m).transit = (s.link m).transit

namespace State.PortsKept
variable {s u w : State}

theorem refl (s : State) : s.PortsKept s := ⟨rfl, fun _ => ⟨rfl, rfl, rfl, rfl⟩⟩

theorem trans (h : s.PortsKept u) (h' : u.PortsKept w) : s.PortsKept w := by
  refine ⟨h'.rest.trans (congrArg (fun v : State => { v with links := w.links }) h.rest), fun m => ?_⟩
  obtain ⟨hpeer, hstate, hqueue, htransit⟩ := h.same m
  obtain ⟨hpeer', hstate', hqueue', htransit'⟩ := h'.same m
  exact ⟨hpeer'.trans hpeer, hstate'.trans hstate, hqueue'.trans hqueue, htransit'.trans htransit⟩

theorem updLink (s : State) (l : Nat) (g : Link → Link) (hg : ∀ k, (g k).peerAddr = k.peerAddr ∧ (g k).state = k.state ∧
    (g k).queue = k.queue ∧ (g k).transit = k.transit) : s.PortsKept (s.updLink l g) := by
  refine ⟨rfl, fun m => ?_⟩
  by_cases hm : m = l
  · subst hm
    rw [State.updLink_link]
    exact hg _
  · rw [State.updLink_link_ne _ _ _ _ hm]
    exact ⟨rfl, rfl, rfl, rfl⟩

theorem countFec (s : State) (l : LinkId) (e : Fec) : s.PortsKept (s.countFec l.val e) := by
  unfold State.countFec
  split
  · exact .refl s
  · exact .updLink s l.val _ fun _ => ⟨rfl, rfl, rfl, rfl⟩

theorem isMine (h : s.PortsKept u) (a : BitVec 16) : u.isMine a = s.isMine a := by
  unfold State.isMine
  rw [(h.same 8).1, h.rest]

theorem nextHop (h : s.PortsKept u) (dst : Nat) : u.nextHop dst = s.nextHop dst :=
  State.nextHop_congr (by rw [h.rest]) dst

theorem hopVc (h : s.PortsKept u) (n : Nat) (arrived : Option (Nat × Nat)) : u.hopVc n arrived = s.hopVc n arrived := by
  rw [h.rest]
  rfl

end State.PortsKept

/-- The place of a flit's context and VC in the tables of a link. -/
def flitKey (f : Flit) : Nat := 4 * f.ctx.val + f.vc.toNat

/-- The device a HEAD names. -/
def flitTarget (f : Flit) : BitVec 16 := Config.headerDst (f.payload.take 16)

section
variable (s : State) (l : LinkId) (f : Flit)

/-- Where a flit that arrives on link l goes on to. -/
def State.flitHop : Option (LinkId × BitVec 2) :=
  if f.kind = .head then
    if s.isMine (flitTarget f) then none
    else ((s.nextHop (flitTarget f).toNat).filter fun n => (s.link n).state == .up).map fun n =>
      (Fin.ofNat 12 n, s.hopVc n (some (f.vc.toNat, l.val)))
  else (s.link l.val).transit.get none (flitKey f)

/-- A HEAD for another device to which no hop leads. -/
def State.flitLost : Bool := f.kind = .head && (s.flitHop l f).isNone && !s.isMine (flitTarget f)

theorem State.PortsKept.flitHop {s u : State} (h : s.PortsKept u) : u.flitHop l f = s.flitHop l f := by
  unfold State.flitHop
  simp only [h.isMine, h.nextHop, h.hopVc, (h.same _).2.1, (h.same _).2.2.2]

theorem State.PortsKept.flitLost {s u : State} (h : s.PortsKept u) : u.flitLost l f = s.flitLost l f := by
  unfold State.flitLost
  rw [h.flitHop, h.isMine]

/-- What the arriving link notes of a flit that it passes on: its place freed, and its packet's way. -/
def Link.noteFlit (k : Link) (f : Flit) (hop : Option (LinkId × BitVec 2)) : Link :=
  { k with owed := k.owed.put (flitKey f) (k.owed.get 0 (flitKey f) + 1), transit := k.transit.put (flitKey f) hop }

/-- The state in which a flit has been noted by its link. -/
def State.flitNoted : State :=
  (s.updLink l.val fun k => { k with owed := k.owed.put (flitKey f) (k.owed.get 0 (flitKey f) + 1) }).updLink l.val fun k =>
    { k with transit := k.transit.put (flitKey f) (s.flitHop l f) }

theorem State.flitNoted_link : (s.flitNoted l f).link l.val = (s.link l.val).noteFlit f (s.flitHop l f) := by
  unfold State.flitNoted
  rw [State.updLink_link, State.updLink_link]
  rfl

theorem State.flitNoted_others {m : Nat} (hm : m ≠ l.val) : (s.flitNoted l f).link m = s.link m :=
  (State.updLink_link_ne _ _ _ _ hm).trans (State.updLink_link_ne _ _ _ _ hm)

theorem State.flitNoted_queue (m : Nat) : ((s.flitNoted l f).link m).queue = (s.link m).queue := by
  by_cases hm : m = l.val
  · subst hm
    rw [State.flitNoted_link]
    rfl
  · rw [State.flitNoted_others s l f hm]

/-- A flit that has been noted waits at the port of its next hop, is lost, or stays here. -/
def State.passOn (u : State) (f : Flit) (lost : Bool) : Option (LinkId × BitVec 2) → State
  | none => if lost then u.countLost [f.ctx.val] else u
  | some (n, vc) => u.updLink n.val fun k => { k with queue := k.queue ++ [{ f with vc := vc }] }

theorem State.passFlit_eq : s.passFlit l.val f = (s.flitNoted l f).passOn f (s.flitLost l f) (s.flitHop l f) := by
  have howed : s.PortsKept (s.updLink l.val fun k => { k with owed := k.owed.put (flitKey f) (k.owed.get 0 (flitKey f) + 1) }) :=
    .updLink s l.val _ fun _ => ⟨rfl, rfl, rfl, rfl⟩
  have hhop := howed.flitHop l f
  have hlost := howed.flitLost l f
  unfold State.flitNoted
  rw [← hhop, ← hlost]
  unfold State.passFlit State.passOn
  rfl

/-- A flit that is passed on changes links and contexts alone. -/
theorem State.passFlit_rest : s.passFlit l.val f = { s with
    links := (s.passFlit l.val f).links, ctxs := (s.passFlit l.val f).ctxs } := by
  rw [State.passFlit_eq]
  cases s.flitHop l f with
  | some hop => rfl
  | none =>
    unfold State.passOn
    dsimp only
    split
    · rw [State.countLost_eq]
      rfl
    · rfl

/-- What the arriving link notes stands, whatever joins its own queue. -/
theorem State.passFlit_link : ∃ w, (s.passFlit l.val f).link l.val =
    { (s.link l.val).noteFlit f (s.flitHop l f) with queue := w } := by
  have hlink := s.flitNoted_link l f
  rw [State.passFlit_eq, ← hlink]
  cases s.flitHop l f with
  | none =>
    refine ⟨((s.flitNoted l f).link l.val).queue, ?_⟩
    unfold State.passOn
    dsimp only
    split
    · rw [State.countLost_eq]
      rfl
    · rfl
  | some hop =>
    unfold State.passOn
    dsimp only
    by_cases hn : l.val = hop.1.val
    · rw [hn, State.updLink_link]
      exact ⟨_, rfl⟩
    · rw [State.updLink_link_ne _ _ _ _ hn]
      exact ⟨((s.flitNoted l f).link l.val).queue, rfl⟩

end

end Sys2Proof.Machine
end

section
/-! Flits in and out of order, and the control flit (R451 to R455, R461). -/

namespace Sys2Proof.Machine

section
variable (s : State) (l : LinkId) (f : Flit) (e : Fec)

theorem State.takeCredits_link (n : BitVec 8) : ∃ c, (s.takeCredits l.val n).link l.val = { s.link l.val with credits := c } :=
  ⟨_, s.updLink_link l.val _⟩

theorem State.PortsKept.takeCredits (n : BitVec 8) : s.PortsKept (s.takeCredits l.val n) := by
  unfold State.takeCredits
  exact .updLink s l.val _ fun _ => ⟨rfl, rfl, rfl, rfl⟩

/-- A sequenced flit in order has been taken by its link, with the credits it returns. -/
def State.flitTaken : State := ((s.countFec l.val e).updLink l.val Link.deliver).takeCredits l.val f.credit

theorem State.flitTaken_kept : s.PortsKept (s.flitTaken l f e) :=
  (State.PortsKept.countFec s l e).trans ((State.PortsKept.updLink _ l.val Link.deliver fun _ => ⟨rfl, rfl, rfl, rfl⟩).trans
    (State.PortsKept.takeCredits _ l f.credit))

theorem State.flitTaken_link : ∃ n c, (s.flitTaken l f e).link l.val =
    { (s.link l.val).deliver with fecCorrected := n, credits := c } := by
  obtain ⟨n, hn⟩ := s.countFec_link l e
  obtain ⟨c, hc⟩ := ((s.countFec l.val e).updLink l.val Link.deliver).takeCredits_link l f.credit
  refine ⟨n, c, hc.trans ?_⟩
  rw [State.updLink_link, hn]
  rfl

/-- The state a data flit in order leaves. -/
def State.dataTaken : State := (s.flitTaken l f e).passFlit l.val f

theorem State.dataTaken_rest : s.dataTaken l f e = { s with
    links := (s.dataTaken l f e).links, ctxs := (s.dataTaken l f e).ctxs } := by
  refine (State.passFlit_rest (s.flitTaken l f e) l f).trans ?_
  exact congrArg (fun v : State => { v with links := (s.dataTaken l f e).links, ctxs := (s.dataTaken l f e).ctxs })
    (s.flitTaken_kept l f e).rest

theorem State.dataTaken_link : ∃ n c w, (s.dataTaken l f e).link l.val =
    { (s.link l.val).deliver with
      fecCorrected := n, credits := c, queue := w
      owed := (s.link l.val).owed.put (flitKey f) ((s.link l.val).owed.get 0 (flitKey f) + 1)
      transit := (s.link l.val).transit.put (flitKey f) (s.flitHop l f) } := by
  obtain ⟨n, c, hlink⟩ := s.flitTaken_link l f e
  obtain ⟨w, hw⟩ := (s.flitTaken l f e).passFlit_link l f
  refine ⟨n, c, w, hw.trans ?_⟩
  rw [hlink, (s.flitTaken_kept l f e).flitHop l f]
  rfl

theorem State.dataTaken_eq :
    s.dataTaken l f e = ((s.flitTaken l f e).flitNoted l f).passOn f (s.flitLost l f) (s.flitHop l f) := by
  unfold State.dataTaken
  rw [State.passFlit_eq, (s.flitTaken_kept l f e).flitHop l f, (s.flitTaken_kept l f e).flitLost l f]

theorem State.flitTaken_noted (m : Nat) :
    (((s.flitTaken l f e).flitNoted l f).link m).queue = (s.link m).queue ∧
      ((s.flitTaken l f e).flitNoted l f).ctxs = s.ctxs := by
  refine ⟨(State.flitNoted_queue _ l f m).trans ((s.flitTaken_kept l f e).same m).2.2.1, ?_⟩
  exact (congrArg State.ctxs (s.flitTaken_kept l f e).rest :)

variable {s l f}

/-- A flit with a next hop waits at that port. -/
theorem State.dataTaken_of_hop {n : LinkId} {vc : BitVec 2} (h : s.flitHop l f = some (n, vc)) :
    ((s.dataTaken l f e).link n.val).queue = (s.link n.val).queue ++ [{ f with vc := vc }] ∧
      (s.dataTaken l f e).ctxs = s.ctxs := by
  obtain ⟨hqueue, hctxs⟩ := s.flitTaken_noted l f e n.val
  rw [State.dataTaken_eq, h]
  refine ⟨?_, hctxs⟩
  unfold State.passOn
  dsimp only
  rw [State.updLink_link, ← hqueue]

/-- A flit that stays here waits at no port. -/
theorem State.dataTaken_of_here (h : s.flitHop l f = none) (hlost : s.flitLost l f = false) :
    (s.dataTaken l f e).ctxs = s.ctxs ∧ ∀ m, ((s.dataTaken l f e).link m).queue = (s.link m).queue := by
  rw [State.dataTaken_eq, h]
  unfold State.passOn
  dsimp only
  rw [if_neg (ne_true_of_eq_false hlost)]
  exact ⟨(s.flitTaken_noted l f e 0).2, fun m => (s.flitTaken_noted l f e m).1⟩

theorem State.countLost_link (c : List Nat) (m : Nat) : (s.countLost c).link m = s.link m := by
  rw [State.countLost_eq]
  rfl

/-- A HEAD without a way is counted in its context. -/
theorem State.dataTaken_of_lost (h : s.flitHop l f = none) (hlost : s.flitLost l f = true) :
    ((s.dataTaken l f e).ctx f.ctx.val).unroutable = satAdd (s.ctx f.ctx.val).unroutable 1 ∧
      ∀ m, ((s.dataTaken l f e).link m).queue = (s.link m).queue := by
  rw [State.dataTaken_eq, h]
  unfold State.passOn
  dsimp only
  rw [if_pos hlost]
  refine ⟨?_, fun m => ?_⟩
  · rw [State.countLost_unroutable, State.ctx_congr (s.flitTaken_noted l f e 0).2, List.count_singleton_self]
  · rw [State.countLost_link]
    exact (s.flitTaken_noted l f e m).1

/-! ## The way of a HEAD and of a BODY -/

theorem State.flitHop_of_body (hkind : f.kind = .body) : s.flitHop l f = (s.link l.val).transit.get none (flitKey f) :=
  if_neg (by rw [hkind]; decide)

theorem State.flitLost_of_body (hkind : f.kind = .body) : s.flitLost l f = false := by
  unfold State.flitLost
  rw [hkind]
  rfl

section
variable (hkind : f.kind = .head)
include hkind

theorem State.flitHop_of_mine (hmine : s.isMine (flitTarget f) = true) : s.flitHop l f = none ∧ s.flitLost l f = false := by
  refine ⟨(if_pos hkind).trans (if_pos hmine), ?_⟩
  unfold State.flitLost
  rw [hmine, Bool.not_true, Bool.and_false]

variable (hother : s.isMine (flitTarget f) = false)
include hother

theorem State.flitHop_of_other : s.flitHop l f =
    ((s.nextHop (flitTarget f).toNat).filter fun n => (s.link n).state == .up).map fun n =>
      (Fin.ofNat 12 n, s.hopVc n (some (f.vc.toNat, l.val))) :=
  (if_pos hkind).trans (if_neg (ne_true_of_eq_false hother))

theorem State.flitHop_of_up {n : Nat} (hnext : s.nextHop (flitTarget f).toNat = some n) (hup : (s.link n).state = .up) :
    s.flitHop l f = some (Fin.ofNat 12 n, s.hopVc n (some (f.vc.toNat, l.val))) := by
  rw [State.flitHop_of_other hkind hother, hnext, Option.filter_some, if_pos (beq_iff_eq.2 hup)]
  rfl

theorem State.flitHop_of_none (h : s.nextHop (flitTarget f).toNat = none ∨
      ∃ n, s.nextHop (flitTarget f).toNat = some n ∧ (s.link n).state ≠ .up) :
    s.flitHop l f = none ∧ s.flitLost l f = true := by
  have hhop : s.flitHop l f = none := by
    rw [State.flitHop_of_other hkind hother]
    rcases h with hnone | ⟨n, hnext, hdown⟩
    · rw [hnone]
      rfl
    · rw [hnext, Option.filter_some, if_neg (by rwa [beq_iff_eq])]
      rfl
  refine ⟨hhop, ?_⟩
  unfold State.flitLost
  rw [hhop, hkind, hother]
  rfl

end

end

end Sys2Proof.Machine
end

section
/-! Data and control flits as instructions, and the messages of a control flit (R461, R472, R481, R596). -/

namespace Sys2Proof.Machine

section
variable {s : State} {l : LinkId} {f : Flit} {e : Fec} (hgood : blockFails e = false)

theorem State.countFec_state : ((s.countFec l.val e).link l.val).state = (s.link l.val).state :=
  ((State.PortsKept.countFec s l e).same l.val).2.1

theorem State.countFec_rxSeq : ((s.countFec l.val e).link l.val).rxSeq = (s.link l.val).rxSeq := by
  obtain ⟨n, hn⟩ := s.countFec_link l e
  rw [hn]

include hgood

theorem exec_dataFlit_of_other (h : (s.link l.val).state ≠ .up ∨ (f.kind ≠ .head ∧ f.kind ≠ .body)) :
    exec (.dataFlitReceive l f e) s = .next (s.countFec l.val e) := by
  refine congrArg Host.Outcome.next ((if_neg (ne_true_of_eq_false hgood)).trans (if_pos ?_))
  rwa [State.countFec_state]

section
variable (hup : (s.link l.val).state = .up) (hkind : f.kind = .head ∨ f.kind = .body)
include hup hkind

omit hgood in
theorem State.dataFlit_here :
    ¬(((s.countFec l.val e).link l.val).state ≠ .up ∨ (f.kind ≠ .head ∧ f.kind ≠ .body)) := by
  rw [State.countFec_state]
  exact fun h => h.elim (absurd hup) fun h => hkind.elim h.1 h.2

theorem exec_dataFlit_in_order (hseq : f.seq = (s.link l.val).rxSeq) :
    exec (.dataFlitReceive l f e) s = .next (s.dataTaken l f e) := by
  refine congrArg Host.Outcome.next ((if_neg (ne_true_of_eq_false hgood)).trans
    ((if_neg (State.dataFlit_here hup hkind)).trans (if_neg ?_)))
  rw [State.countFec_rxSeq]
  exact Classical.not_not.2 hseq

theorem exec_dataFlit_out_of_order (hseq : f.seq ≠ (s.link l.val).rxSeq) :
    exec (.dataFlitReceive l f e) s = .next ((s.countFec l.val e).discardFlit l.val) := by
  refine congrArg Host.Outcome.next ((if_neg (ne_true_of_eq_false hgood)).trans
    ((if_neg (State.dataFlit_here hup hkind)).trans (if_pos ?_)))
  rwa [State.countFec_rxSeq]

end

/-! ## Control flits -/

section
variable (s l f e)

/-- The state in which a control flit has freed what its LINK_ACK names. -/
def State.acked : State := (s.countFec l.val e).updLink l.val fun k =>
  { k with replayBuf := ackBuffer (BitVec.ofNat 10 (field f.payload 0 2)) k.replayBuf }

omit hgood in
theorem State.acked_link : ∃ n, (s.acked l f e).link l.val = { s.link l.val with
    fecCorrected := n, replayBuf := ackBuffer (BitVec.ofNat 10 (field f.payload 0 2)) (s.link l.val).replayBuf } := by
  obtain ⟨n, hn⟩ := s.countFec_link l e
  refine ⟨n, ?_⟩
  unfold State.acked
  rw [State.updLink_link, hn]

omit hgood in
theorem State.countFec_others {m : Nat} (hm : m ≠ l.val) : (s.countFec l.val e).link m = s.link m := by
  unfold State.countFec
  split
  · rfl
  · exact State.updLink_link_ne _ _ _ _ hm

omit hgood in
theorem State.acked_rest : { s.acked l f e with links := s.links } = s :=
  (congrArg (fun v : State => { v with links := s.links }) (State.PortsKept.countFec s l e).rest :)

/-- The state in which a control flit in order has been taken. -/
def State.controlTaken : State := ((s.acked l f e).updLink l.val Link.deliver).takeCredits l.val f.credit

omit hgood in
theorem State.controlTaken_link : ∃ n c, (s.controlTaken l f e).link l.val = { (s.link l.val).deliver with
    fecCorrected := n, credits := c
    replayBuf := ackBuffer (BitVec.ofNat 10 (field f.payload 0 2)) (s.link l.val).replayBuf } := by
  obtain ⟨n, hn⟩ := s.acked_link l f e
  obtain ⟨c, hc⟩ := ((s.acked l f e).updLink l.val Link.deliver).takeCredits_link l f.credit
  refine ⟨n, c, hc.trans ?_⟩
  rw [State.updLink_link, hn]
  rfl

omit hgood in
theorem State.controlTaken_rest : { s.controlTaken l f e with links := s.links } = s := s.acked_rest l f e

omit hgood in
theorem State.controlTaken_others {m : Nat} (hm : m ≠ l.val) : (s.controlTaken l f e).link m = s.link m := by
  unfold State.controlTaken State.takeCredits State.acked
  dsimp only
  rw [State.updLink_link_ne _ _ _ _ hm, State.updLink_link_ne _ _ _ _ hm, State.updLink_link_ne _ _ _ _ hm,
    State.countFec_others s l e hm]

end

theorem exec_controlFlit_of_other (msgs : List CtlMsg)
    (h : ((s.link l.val).state ≠ .up ∧ (s.link l.val).state ≠ .quarantined) ∨ f.kind ≠ .control) :
    exec (.controlFlitReceive l f e msgs) s = .next (s.countFec l.val e) := by
  refine congrArg Host.Outcome.next ((if_neg (ne_true_of_eq_false hgood)).trans (if_pos ?_))
  rwa [State.countFec_state]

variable (hup : (s.link l.val).state = .up ∨ (s.link l.val).state = .quarantined) (hkind : f.kind = .control)
include hup hkind

omit hgood in
theorem State.controlFlit_here : ¬((((s.countFec l.val e).link l.val).state ≠ .up ∧
    ((s.countFec l.val e).link l.val).state ≠ .quarantined) ∨ f.kind ≠ .control) := by
  rw [State.countFec_state]
  exact fun h => h.elim (fun h => hup.elim h.1 h.2) (absurd hkind)

theorem exec_controlFlit_in_order (msgs : List CtlMsg) (hseq : f.seq = (s.link l.val).rxSeq) :
    exec (.controlFlitReceive l f e msgs) s = .next (msgs.foldl State.takeMessage (s.controlTaken l f e)) := by
  refine congrArg Host.Outcome.next ((if_neg (ne_true_of_eq_false hgood)).trans
    ((if_neg (State.controlFlit_here hup hkind)).trans (if_neg ?_)))
  rw [State.countFec_rxSeq]
  exact Classical.not_not.2 hseq

theorem exec_controlFlit_out_of_order (msgs : List CtlMsg) (hseq : f.seq ≠ (s.link l.val).rxSeq) :
    exec (.controlFlitReceive l f e msgs) s = .next ((s.acked l f e).discardFlit l.val) := by
  refine congrArg Host.Outcome.next ((if_neg (ne_true_of_eq_false hgood)).trans
    ((if_neg (State.controlFlit_here hup hkind)).trans (if_pos ?_)))
  rwa [State.countFec_rxSeq]

end

/-! ## Messages -/

section
variable (s : State)

/-- A message has been queued on every link that is UP. -/
def State.floodedBy (t : State) (b : Bytes) : Prop := ∀ l < 12, (s.link l).state = .up → b ∈ (t.link l).control

theorem State.flood_floodedBy (b : Bytes) : s.floodedBy (s.flood b) b := by
  obtain ⟨m, hm, -, hin⟩ := s.flood_eq b
  rw [hm]
  exact hin

theorem State.floodedBy_congr {s u : State} (h : u.links = s.links) {t : State} {b : Bytes} (ht : u.floodedBy t b) :
    s.floodedBy t b := by
  unfold State.floodedBy State.link at ht ⊢
  rwa [h] at ht

theorem State.relayLead_of_lower {a : BitVec 16} {x : BitVec 32} (h : x.toNat ≤ s.topo.leadEpoch.toNat) :
    s.relayLead x a = s :=
  if_pos h

theorem State.relayLead_of_higher {a : BitVec 16} {x : BitVec 32} (h : s.topo.leadEpoch.toNat < x.toNat) :
    (s.relayLead x a).topo.leadEpoch = x ∧ (s.relayLead x a).topo.leadAddr = a ∧
      s.floodedBy (s.relayLead x a) (leadChangeBytes x a) := by
  have hrelay : s.relayLead x a = (s.takeLead x a).flood (leadChangeBytes x a) := if_neg (Nat.not_le.2 h)
  obtain ⟨m, p, o, hlead⟩ := State.takeLead_of_higher h a
  obtain ⟨q, hq, -, -⟩ := (s.takeLead x a).flood_eq (leadChangeBytes x a)
  have hflooded := (s.takeLead x a).flood_floodedBy (leadChangeBytes x a)
  rw [hrelay]
  refine ⟨?_, ?_, State.floodedBy_congr (congrArg State.links hlead :) hflooded⟩
  · rw [hq, hlead]
  · rw [hq, hlead]

/-- The part of the topology that a follower's links and map entries leave. -/
structure State.RoleKept (u : State) : Prop where
  role : u.topo.role = s.topo.role
  version : u.topo.mapVersion = s.topo.mapVersion

theorem State.relink_roleKept (hrole : s.topo.role ≠ 1) : s.RoleKept s.relink := by
  have hfold (ls : List Nat) : ∀ u : State, s.RoleKept u → s.RoleKept (ls.foldl (fun s l =>
      let k := s.link l
      let dev := (s.mapEntry k.peerAddr.toNat).dev
      if k.peerAddr = 0xFFFF then s
      else if k.state = .up ∧ dev = .quarantined then s.enter l .quarantined
      else if k.state = .quarantined ∧ dev = .admitted then (s.enter l .up).reportLinks
      else s) u) := by
    induction ls with
    | nil => exact fun u hu => hu
    | cons l ls ih =>
      intro u hu
      refine ih _ ?_
      dsimp only
      split
      · exact hu
      · split
        · exact ⟨hu.role, hu.version⟩
        · split
          · obtain ⟨m, d, p, o, hm, -, hkeep⟩ := (u.enter l .up).reportLinks_eq
            have hp : p = u.topo := (hkeep (by rw [show (u.enter l .up).topo = u.topo from rfl, hu.role]; exact hrole)).1
            rw [hm, hp]
            exact ⟨hu.role, hu.version⟩
          · exact hu
  exact hfold _ s ⟨rfl, rfl⟩

theorem State.takeMap_topo (v : BitVec 32) (es : List (BitVec 16 × BitVec 64)) (hrole : s.topo.role ≠ 1) :
    (s.takeMap v es).topo.role = s.topo.role ∧ (s.takeMap v es).topo.mapVersion = v := by
  have hfold (put : State → BitVec 16 × BitVec 64 → State) (hput : ∀ u x, (put u x).topo.role = u.topo.role)
      (es : List (BitVec 16 × BitVec 64)) : ∀ u : State, (es.foldl put u).topo.role = u.topo.role := by
    induction es with
    | nil => exact fun u => rfl
    | cons x es ih => exact fun u => (ih (put u x)).trans (hput u x)
  unfold State.takeMap
  rw [if_neg hrole]
  dsimp only
  refine ⟨hfold _ ?_ es s, rfl⟩
  exact fun _ _ => rfl

/-- A new map version is taken by every device but the lead. -/
theorem State.takeMessage_mapUpdate {v : BitVec 32} (es : List (BitVec 16 × BitVec 64)) (hrole : s.topo.role ≠ 1)
    (hnew : s.topo.mapVersion ≠ v) : (s.takeMessage (.mapUpdate v es)).topo.mapVersion = v := by
  have htake : s.takeMessage (.mapUpdate v es) = ((s.takeMap v es).relink).flood (mapBytes v es) :=
    if_neg fun h => h.elim hrole hnew
  obtain ⟨hrole', hversion⟩ := s.takeMap_topo v es hrole
  have hkept := ((s.takeMap v es).relink_roleKept (by rwa [hrole'])).version.trans hversion
  rw [htake]
  generalize (s.takeMap v es).relink = u at hkept
  obtain ⟨q, hq, -, -⟩ := u.flood_eq (mapBytes v es)
  rw [hq]
  exact hkept

section
variable {up : LinkId} {d : BitVec 8} {w : BitVec 12}

theorem State.takeMessage_upstream_refused
    (h : s.topo.role = 1 ∨ 32 < d.toNat ∨ (s.pair.role = 2 ∧ s.pair.state = 1)) :
    s.takeMessage (.upstreamAssign up d w) = s :=
  if_pos h

theorem mem_linksOfMask (w : Nat → Bool) (l : LinkId) :
    l ∈ ((List.range 12).filter w).map (Fin.ofNat 12) ↔ w l.val = true := by
  rw [List.mem_map]
  constructor
  · rintro ⟨n, hn, rfl⟩
    obtain ⟨hlt, hw⟩ := List.mem_filter.1 hn
    rwa [show (Fin.ofNat 12 n).val = n from Nat.mod_eq_of_lt (List.mem_range.1 hlt)]
  · intro h
    exact ⟨l.val, List.mem_filter.2 ⟨List.mem_range.2 l.isLt, h⟩, linkId_ofNat l⟩

theorem State.takeMessage_upstream (hrole : s.topo.role ≠ 1) (hdepth : d.toNat ≤ 32)
    (hpair : s.pair.role ≠ 2 ∨ s.pair.state ≠ 1) :
    (s.takeMessage (.upstreamAssign up d w)).tick.upstream = some up ∧
    (s.takeMessage (.upstreamAssign up d w)).tick.depth = d ∧
    (∀ l : LinkId, l ∈ (s.takeMessage (.upstreamAssign up d w)).tick.downstream ↔ w.getLsbD l.val = true) ∧
    (s.takeMessage (.upstreamAssign up d w)).tick.state = s.tick.state ∧
    (s.tick.upstream ≠ some up → (s.takeMessage (.upstreamAssign up d w)).tick.measured = false) := by
  have htake : s.takeMessage (.upstreamAssign up d w) = _ := if_neg (by
    rintro (h | h | ⟨h, h'⟩)
    · exact hrole h
    · exact absurd h (Nat.not_lt.2 hdepth)
    · exact hpair.elim (· h) (· h'))
  rw [htake]
  refine ⟨rfl, rfl, fun l => mem_linksOfMask w.getLsbD l, rfl, fun hnew => ?_⟩
  change (s.tick.measured && decide (s.tick.upstream = some up)) = false
  rw [decide_eq_false hnew, Bool.and_false]

end

/-! ## The lowest SERIAL -/

theorem State.takeMessage_lower {x : BitVec 128} (h : ∀ y, s.topo.lowestSerial = some y → x.toNat < y.toNat) :
    (s.takeMessage (.lowestSerial x)).topo.lowestSerial = some x ∧
      s.floodedBy (s.takeMessage (.lowestSerial x)) (ctlBytes 3 (toLe 16 x.toNat)) := by
  let u : State := { s with topo := { s.topo with lowestSerial := some x } }
  have htake : s.takeMessage (.lowestSerial x) = u.flood (ctlBytes 3 (toLe 16 x.toNat)) := by
    refine if_pos ?_
    cases hlow : s.topo.lowestSerial with
    | none => rfl
    | some y => exact decide_eq_true (h y hlow)
  obtain ⟨q, hq, -, -⟩ := u.flood_eq (ctlBytes 3 (toLe 16 x.toNat))
  rw [htake]
  refine ⟨?_, State.floodedBy_congr rfl (u.flood_floodedBy _)⟩
  rw [hq]

theorem State.takeMessage_not_lower {x y : BitVec 128} (hy : s.topo.lowestSerial = some y) (h : y.toNat ≤ x.toNat) :
    s.takeMessage (.lowestSerial x) = s := by
  refine if_neg ?_
  rw [hy]
  exact fun hlt => absurd (of_decide_eq_true hlt) (Nat.not_lt.2 h)

end

end Sys2Proof.Machine
end

section
/-! Packets land (R448, R541; log entry 32). -/

namespace Sys2Proof.Machine

section
variable {s : State} {c : CtxId} {off : Nat} {sem : BitVec 16} {data : Bytes}

theorem State.ownsShares_of_accepting (h : s.accepting c.val = true) : s.ownsShares c.val = true := by
  unfold State.accepting at h
  unfold State.ownsShares
  rw [Bool.or_eq_true, beq_iff_eq, beq_iff_eq] at h
  rcases h with h | h <;> rw [h]

/-- A packet's signal with no transfer to wait for. -/
theorem State.hubDone_sem (hclosed : ∀ x ∈ s.hbm.xfers, s.hubOpen c.val none true x = false ∧ s.hubOpen c.val none false x = false)
    (hsem : sem.toNat < 16384) (hfits : s.sem c.val sem.toNat < 0xFFFFFFFF) :
    s.hubDone c.val none [.sem sem 1] = s.setSem c.val sem.toNat (s.sem c.val sem.toNat + 1) := by
  have hnone (w : Bool) : ∀ x ∈ s.hbm.xfers, s.hubOpen c.val none w x = false := fun x hx => by
    cases w with
    | true => exact (hclosed x hx).1
    | false => exact (hclosed x hx).2
  rw [State.hubDone_of_none _ hnone, List.foldl_cons, List.foldl_nil]
  change s.signalSem (keyCtx (2 * c.val)) sem.toNat 1 = _
  rw [keyCtx_two_mul]
  exact State.signalSem_of_fits hsem (by omega)

/-- Bytes for SRAM land in the share of every enabled core. -/
theorem State.foldl_putSram (hsize : s.inShare c.val 0 off data.length = true) (howns : s.ownsShares c.val = true)
    (ks : List Nat) : ks.foldl (fun s k => s.putSram c.val k off data) s = { s with
      sramMem := ks.foldl (fun m k => m.writeBytes (s.absAddr c.val k 0 off) data) s.sramMem } := by
  have hfold (ks : List Nat) : ∀ m : Memory, ks.foldl (fun s k => s.putSram c.val k off data) { s with sramMem := m } =
      { s with sramMem := ks.foldl (fun m k => m.writeBytes (s.absAddr c.val k 0 off) data) m } := by
    induction ks with
    | nil => exact fun m => rfl
    | cons k ks ih =>
      intro m
      have hput : ({ s with sramMem := m } : State).putSram c.val k off data =
          { s with sramMem := m.writeBytes (s.absAddr c.val k 0 off) data } :=
        if_pos (Bool.and_eq_true_iff.2 ⟨hsize, howns⟩)
      rw [List.foldl_cons, hput, ih]
      rfl
  exact hfold ks s.sramMem

theorem ctxId_ofNat (c : CtxId) : Fin.ofNat 64 c.val = c := Fin.ext (Nat.mod_eq_of_lt c.isLt)

/-- The transfer that carries a packet's bytes to HBM and then signals. -/
def State.packetXfer (s : State) (c : CtxId) (a : Nat) (sem : BitVec 16) (data : Bytes) : Xfer :=
  { id := s.hbm.nextXfer, ctx := c, write := true, hub := true, submitted := s.tick.now
    lines := linesOf a data.length, effects := [.mem .hbm a data, .sem sem 1] }

/-- The bytes of a packet have been submitted for HBM. -/
def State.packetSent (s : State) (c : CtxId) (a : Nat) (data : Bytes) : State :=
  s.addXfer { ctx := c, write := true, hub := true, lines := linesOf a data.length, effects := [.mem .hbm a data] }

/-- A signal joins the open transfer just added, and no other. -/
theorem State.packetSent_signalled (hclosed : ∀ x ∈ s.hbm.xfers, s.hubOpen c.val none true x = false ∧
      s.hubOpen c.val none false x = false) {a : Nat} :
    ({ s.packetSent c a data with hbm := { (s.packetSent c a data).hbm with
      xfers := mapIf ((s.packetSent c a data).hubOpen c.val none true)
        (fun x => { x with effects := x.effects ++ [.sem sem 1] }) (s.packetSent c a data).hbm.xfers } } : State) =
      { s with hbm := { s.hbm with
        xfers := s.hbm.xfers ++ [s.packetXfer c a sem data], nextXfer := s.hbm.nextXfer + 1 } } := by
  have hold : mapIf (s.hubOpen c.val none true) (fun x => { x with effects := x.effects ++ [.sem sem 1] }) s.hbm.xfers =
      s.hbm.xfers :=
    (List.map_congr_left fun x hx => if_neg (ne_true_of_eq_false (hclosed x hx).1)).trans (List.map_id' _)
  have hnew : mapIf (s.hubOpen c.val none true) (fun x => { x with effects := x.effects ++ [.sem sem 1] })
      [{ s.packetXfer c a sem data with effects := [.mem .hbm a data] }] = [s.packetXfer c a sem data] := by
    have hopen : s.hubOpen c.val none true { s.packetXfer c a sem data with effects := [.mem .hbm a data] } = true := by
      simp only [State.hubOpen, State.packetXfer, beq_self_eq_true, Bool.and_self]
    unfold mapIf
    rw [List.map_singleton, if_pos hopen]
    rfl
  have hall : mapIf (s.hubOpen c.val none true) (fun x => { x with effects := x.effects ++ [.sem sem 1] })
      (s.hbm.xfers ++ [{ s.packetXfer c a sem data with effects := [.mem .hbm a data] }]) =
      s.hbm.xfers ++ [s.packetXfer c a sem data] :=
    List.map_append.trans (congr (congrArg (· ++ ·) hold) hnew)
  rw [← hall]
  rfl

section
variable (hclosed : ∀ x ∈ s.hbm.xfers, s.hubOpen c.val none true x = false ∧ s.hubOpen c.val none false x = false)
  (hsem : sem.toNat < 16384) (hfits : s.sem c.val sem.toNat < 0xFFFFFFFF)
  (howns : s.ownsShares c.val = true)
include hclosed hsem hfits howns

theorem State.landWrite_sram (hsize : s.inShare c.val 0 off data.length = true) :
    s.landWrite c.val 0 off sem data = ({ s with
      sramMem := s.enabledCores.foldl (fun m k => m.writeBytes (s.absAddr c.val k 0 off) data) s.sramMem } : State).setSem
        c.val sem.toNat (s.sem c.val sem.toNat + 1) := by
  unfold State.landWrite
  rw [hsize, if_neg (by decide), if_pos rfl, State.foldl_putSram hsize howns]
  exact State.hubDone_sem (s := { s with sramMem := _ }) hclosed hsem hfits

theorem State.landWrite_reservoir (hsize : s.inShare c.val 2 off data.length = true) :
    s.landWrite c.val 2 off sem data = ({ s with
      resMem := s.resMem.writeBytes (s.absAddr c.val 0 2 off) data } : State).setSem
        c.val sem.toNat (s.sem c.val sem.toNat + 1) := by
  have hput : s.hubPut c.val none (spaceMem 2) (s.absAddr c.val 0 2 off) data =
      { s with resMem := s.resMem.writeBytes (s.absAddr c.val 0 2 off) data } :=
    if_neg (by rw [howns]; decide)
  unfold State.landWrite
  rw [hsize, if_neg (by decide), if_neg (by decide), hput]
  exact State.hubDone_sem (s := { s with resMem := _ }) hclosed hsem hfits

omit howns in
/-- A packet for no memory only signals. -/
theorem State.landWrite_nowhere {space : Nat} (hspace : 2 < space) :
    s.landWrite c.val space off sem data = s.setSem c.val sem.toNat (s.sem c.val sem.toNat + 1) := by
  unfold State.landWrite
  rw [if_pos (.inl hspace)]
  exact State.hubDone_sem hclosed hsem hfits

/-- A packet for HBM submits its bytes. -/
theorem State.landWrite_hbm (hsize : s.inShare c.val 1 off data.length = true) :
    (data = [] → s.landWrite c.val 1 off sem data = s.setSem c.val sem.toNat (s.sem c.val sem.toNat + 1)) ∧
    (data ≠ [] → s.landWrite c.val 1 off sem data = { s with hbm := { s.hbm with
      xfers := s.hbm.xfers ++ [s.packetXfer c (s.absAddr c.val 0 1 off) sem data], nextXfer := s.hbm.nextXfer + 1 } }) := by
  have hput : s.hubPut c.val none (spaceMem 1) (s.absAddr c.val 0 1 off) data =
      s.hubMove c.val none true (linesOf (s.absAddr c.val 0 1 off) data.length) [.mem .hbm (s.absAddr c.val 0 1 off) data] :=
    if_neg (by rw [howns]; decide)
  unfold State.landWrite
  rw [hsize, if_neg (by decide), if_neg (by decide), hput]
  refine ⟨fun hdata => ?_, fun hdata => ?_⟩
  · subst hdata
    exact State.hubDone_sem hclosed hsem hfits
  · have hlines : ¬(linesOf (s.absAddr c.val 0 1 off) data.length).isEmpty = true := by
      rw [List.isEmpty_iff, linesOf_eq_nil]
      exact fun h => hdata (List.eq_nil_of_length_eq_zero h)
    have hnone : ¬s.hbm.xfers.any (s.hubOpen c.val none true) = true := by
      rw [List.any_eq_true]
      rintro ⟨x, hx, hopen⟩
      exact absurd hopen (ne_true_of_eq_false (hclosed x hx).1)
    have hmove : s.hubMove c.val none true (linesOf (s.absAddr c.val 0 1 off) data.length)
        [.mem .hbm (s.absAddr c.val 0 1 off) data] =
        s.packetSent c (s.absAddr c.val 0 1 off) data := by
      refine (if_neg hlines).trans ((if_neg hnone).trans ?_)
      rw [ctxId_ofNat]
      rfl
    have hopen := State.hubMove_open (s := s) (c := c) (uid := none) (w := true) [.mem .hbm (s.absAddr c.val 0 1 off) data]
      (by rwa [List.isEmpty_iff] at hlines)
    rw [hmove] at hopen ⊢
    exact (State.hubDone_of_write _ hopen).trans (State.packetSent_signalled hclosed)

end

end

end Sys2Proof.Machine
end

section
/-! Arrivals assembled: data flits, control flits, messages and packets. -/

namespace Sys2Proof.Machine

section
variable {s : State} {l : LinkId} {f : Flit} {e : Fec}

/-- What a data flit in order leaves, whatever its way. -/
theorem State.dataTaken_spec : ((s.dataTaken l f e).link l.val).rxSeq = (s.link l.val).rxSeq + 1 ∧
    ((s.dataTaken l f e).link l.val).delivered = true ∧ ((s.dataTaken l f e).link l.val).replayWait = false ∧
    ((s.dataTaken l f e).link l.val).nakDue = false ∧
    ((s.dataTaken l f e).link l.val).owed.get 0 (flitKey f) = (s.link l.val).owed.get 0 (flitKey f) + 1 ∧
    ((s.dataTaken l f e).link l.val).transit.get none (flitKey f) = s.flitHop l f := by
  obtain ⟨n, c, w, hlink⟩ := s.dataTaken_link l f e
  rw [hlink]
  exact ⟨rfl, rfl, rfl, rfl, SMap.get_put .., SMap.get_put ..⟩

/-- A data flit in order: its link, the rest of the device, and the way of a HEAD or BODY. -/
theorem dataFlit_arrives (hgood : blockFails e = false) (hup : (s.link l.val).state = .up)
    (hkind : f.kind = .head ∨ f.kind = .body) (hseq : f.seq = (s.link l.val).rxSeq) :
    ∃ t : State, exec (.dataFlitReceive l f e) s = .next t ∧
      (t.link l.val).rxSeq = (s.link l.val).rxSeq + 1 ∧ (t.link l.val).delivered = true ∧
      (t.link l.val).replayWait = false ∧ (t.link l.val).nakDue = false ∧
      (t.link l.val).owed.get 0 (flitKey f) = (s.link l.val).owed.get 0 (flitKey f) + 1 ∧
      t.cores = s.cores ∧ t.hbmMem = s.hbmMem ∧ t.sramMem = s.sramMem ∧ t.out = s.out ∧
      (∀ n, n < 12 → f.kind = .head → s.isMine (flitTarget f) = false → s.nextHop (flitTarget f).toNat = some n →
        (s.link n).state = .up →
        (t.link n).queue = (s.link n).queue ++ [{ f with vc := s.hopVc n (some (f.vc.toNat, l.val)) }] ∧
        (t.link l.val).transit.get none (flitKey f) = some (Fin.ofNat 12 n, s.hopVc n (some (f.vc.toNat, l.val))) ∧
        t.ctxs = s.ctxs) ∧
      (f.kind = .head → s.isMine (flitTarget f) = false →
        (s.nextHop (flitTarget f).toNat = none ∨
          ∃ n, s.nextHop (flitTarget f).toNat = some n ∧ (s.link n).state ≠ .up) →
        (t.ctx f.ctx.val).unroutable = satAdd (s.ctx f.ctx.val).unroutable 1 ∧
        (t.link l.val).transit.get none (flitKey f) = none ∧ ∀ m, (t.link m).queue = (s.link m).queue) ∧
      (f.kind = .head → s.isMine (flitTarget f) = true → t.ctxs = s.ctxs ∧
        (t.link l.val).transit.get none (flitKey f) = none ∧ ∀ m, (t.link m).queue = (s.link m).queue) ∧
      (∀ n vc, f.kind = .body → (s.link l.val).transit.get none (flitKey f) = some (n, vc) →
        (t.link n.val).queue = (s.link n.val).queue ++ [{ f with vc := vc }] ∧ t.ctxs = s.ctxs) ∧
      (f.kind = .body → (s.link l.val).transit.get none (flitKey f) = none →
        t.ctxs = s.ctxs ∧ ∀ m, (t.link m).queue = (s.link m).queue) := by
  obtain ⟨hrx, hdelivered, hwait, hnak, howed, htransit⟩ := State.dataTaken_spec (s := s) (l := l) (f := f) (e := e)
  have hrest := s.dataTaken_rest l f e
  refine ⟨_, exec_dataFlit_in_order hgood hup hkind hseq, hrx, hdelivered, hwait, hnak, howed, (congrArg State.cores hrest :),
    (congrArg State.hbmMem hrest :), (congrArg State.sramMem hrest :), (congrArg State.out hrest :), ?_, ?_, ?_, ?_, ?_⟩
  · intro n hn hhead hother hnext hnup
    have hhop := State.flitHop_of_up (l := l) hhead hother hnext hnup
    obtain ⟨hqueue, hctxs⟩ := State.dataTaken_of_hop e hhop
    rw [show (Fin.ofNat 12 n).val = n from Nat.mod_eq_of_lt hn] at hqueue
    exact ⟨hqueue, htransit.trans hhop, hctxs⟩
  · intro hhead hother hnone
    obtain ⟨hhop, hlost⟩ := State.flitHop_of_none (l := l) hhead hother hnone
    obtain ⟨hcount, hqueue⟩ := State.dataTaken_of_lost e hhop hlost
    exact ⟨hcount, htransit.trans hhop, hqueue⟩
  · intro hhead hmine
    obtain ⟨hhop, hlost⟩ := State.flitHop_of_mine (l := l) hhead hmine
    obtain ⟨hctxs, hqueue⟩ := State.dataTaken_of_here e hhop hlost
    exact ⟨hctxs, htransit.trans hhop, hqueue⟩
  · exact fun n vc hbody hway => State.dataTaken_of_hop e ((State.flitHop_of_body hbody).trans hway)
  · exact fun hbody hway =>
      State.dataTaken_of_here e ((State.flitHop_of_body hbody).trans hway) (State.flitLost_of_body hbody)

/-- A control flit in order or out of it. -/
theorem controlFlit_arrives (msgs : List CtlMsg) (hgood : blockFails e = false)
    (hup : (s.link l.val).state = .up ∨ (s.link l.val).state = .quarantined) (hkind : f.kind = .control) :
    (f.seq = (s.link l.val).rxSeq →
      ∃ u : State, exec (.controlFlitReceive l f e msgs) s = .next (msgs.foldl State.takeMessage u) ∧
        (u.link l.val).rxSeq = (s.link l.val).rxSeq + 1 ∧ (u.link l.val).replayWait = false ∧
        (u.link l.val).replayBuf = ackBuffer (BitVec.ofNat 10 (field f.payload 0 2)) (s.link l.val).replayBuf ∧
        { u with links := s.links } = s ∧ (∀ m, m ≠ l.val → u.link m = s.link m)) ∧
    (f.seq ≠ (s.link l.val).rxSeq →
      ∃ u : State, exec (.controlFlitReceive l f e msgs) s = .next (u.discardFlit l.val) ∧
        (u.link l.val).rxSeq = (s.link l.val).rxSeq ∧ { u with links := s.links } = s ∧
        (u.link l.val).replayBuf = ackBuffer (BitVec.ofNat 10 (field f.payload 0 2)) (s.link l.val).replayBuf) := by
  refine ⟨fun hseq => ?_, fun hseq => ?_⟩
  · obtain ⟨n, c, hlink⟩ := s.controlTaken_link l f e
    refine ⟨_, exec_controlFlit_in_order hgood hup hkind msgs hseq, ?_, ?_, ?_, s.controlTaken_rest l f e,
      fun m hm => s.controlTaken_others l f e hm⟩ <;> rw [hlink] <;> rfl
  · obtain ⟨n, hlink⟩ := s.acked_link l f e
    refine ⟨_, exec_controlFlit_out_of_order hgood hup hkind msgs hseq, ?_, s.acked_rest l f e, ?_⟩ <;> rw [hlink]

end

/-! ## Packets -/

section
variable {s : State} {p : Packet}

theorem exec_packetLand_of_mine (hmine : s.isMine p.dst = true) (haccepts : s.accepting p.ctx.val = true) :
    exec (.packetLand p) s = .next ((s.forwardIn p.ctx.val (.packet p)).landPacket p) :=
  congrArg Host.Outcome.next ((if_neg (by rw [hmine]; decide)).trans (if_pos haccepts))

theorem exec_packetLand_of_gone (hmine : s.isMine p.dst = true) (hgone : s.accepting p.ctx.val = false) :
    exec (.packetLand p) s = .next { s with discardedInactive := satAdd s.discardedInactive 1 } :=
  congrArg Host.Outcome.next ((if_neg (by rw [hmine]; decide)).trans (if_neg (ne_true_of_eq_false hgone)))

/-- What a packet that names a space, an offset and a semaphore writes and signals. -/
theorem State.landWrite_spec {u : State} {c : CtxId} {off : Nat} {sem : BitVec 16} {data : Bytes} (space : BitVec 8)
    (howns : u.ownsShares c.val = true) (hsize : u.inShare c.val space.toNat off data.length = true)
    (hclosed : ∀ x ∈ u.hbm.xfers, u.hubOpen c.val none true x = false ∧ u.hubOpen c.val none false x = false)
    (hsem : sem.toNat < 16384) (hfits : u.sem c.val sem.toNat < 0xFFFFFFFF) :
    let t := u.landWrite c.val space.toNat off sem data
    t.cores = u.cores ∧ t.stageMem = u.stageMem ∧ t.hbmMem = u.hbmMem ∧
      (space = 2 → t.resMem = u.resMem.writeBytes (u.absAddr c.val 0 2 off) data ∧ t.sramMem = u.sramMem) ∧
      (space = 0 → t.resMem = u.resMem ∧ t.sramMem =
        u.enabledCores.foldl (fun m k => m.writeBytes (u.absAddr c.val k 0 off) data) u.sramMem) ∧
      ((space = 0 ∨ space = 2) → t.sem c.val sem.toNat = u.sem c.val sem.toNat + 1) ∧
      (space = 1 → data ≠ [] → t.resMem = u.resMem ∧ t.sramMem = u.sramMem ∧ ∃ x : Xfer,
        t.hbm.xfers = u.hbm.xfers ++ [x] ∧ x.ctx = c ∧ x.write = true ∧ x.submitted = u.tick.now ∧
        x.lines = linesOf (u.absAddr c.val 0 1 off) data.length ∧
        x.effects = [.mem .hbm (u.absAddr c.val 0 1 off) data, .sem sem 1]) := by
  intro t
  have ht : t = u.landWrite c.val space.toNat off sem data := rfl
  clear_value t
  have hcount (v : State) (n : Nat) (hn : n ≤ 0xFFFFFFFF) : (v.setSem c.val sem.toNat n).sem c.val sem.toNat = n :=
    State.setSem_sem v c.val sem.toNat hn
  by_cases h0 : space = 0
  · subst h0
    rw [show t = _ from ht.trans (State.landWrite_sram hclosed hsem hfits howns hsize)]
    exact ⟨rfl, rfl, rfl, fun h => absurd h (by decide), fun _ => ⟨rfl, rfl⟩, fun _ => hcount _ _ (by omega),
      fun h => absurd h (by decide)⟩
  by_cases h1 : space = 1
  · subst h1
    obtain ⟨hempty, hfull⟩ := State.landWrite_hbm hclosed hsem hfits howns hsize
    by_cases hdata : data = []
    · rw [show t = _ from ht.trans (hempty hdata)]
      exact ⟨rfl, rfl, rfl, fun h => absurd h (by decide), fun h => absurd h h0, fun h => absurd h (by decide),
        fun _ h => absurd hdata h⟩
    · rw [show t = _ from ht.trans (hfull hdata)]
      exact ⟨rfl, rfl, rfl, fun h => absurd h (by decide), fun h => absurd h h0, fun h => absurd h (by decide),
        fun _ _ => ⟨rfl, rfl, _, rfl, rfl, rfl, rfl, rfl, rfl⟩⟩
  by_cases h2 : space = 2
  · subst h2
    rw [show t = _ from ht.trans (State.landWrite_reservoir hclosed hsem hfits howns hsize)]
    exact ⟨rfl, rfl, rfl, fun _ => ⟨rfl, rfl⟩, fun h => absurd h h0, fun _ => hcount _ _ (by omega), fun h => absurd h h1⟩
  · have hbig : 2 < space.toNat := by bv_omega
    rw [show t = _ from ht.trans (State.landWrite_nowhere hclosed hsem hfits hbig)]
    exact ⟨rfl, rfl, rfl, fun h => absurd h h2, fun h => absurd h h0, fun h => (h.elim h0 h2).elim, fun h => absurd h h1⟩

end

/-- Settles O35: arrivals are taken by kind and order, messages by content, packets by target and context. -/
theorem flitsAndPacketsArrive : Obligations.FlitsAndPacketsArrive := by
  unfold Obligations.FlitsAndPacketsArrive
  refine ⟨fun l f fec s => ⟨fun hbad => ⟨?_, fun msgs => ?_⟩, fun hgood hup hkind hseq => dataFlit_arrives hgood hup hkind hseq,
      fun hgood hup hkind hseq => exec_dataFlit_out_of_order hgood hup hkind hseq,
      fun hgood h => exec_dataFlit_of_other hgood h, fun msgs hgood hup hkind => controlFlit_arrives msgs hgood hup hkind,
      fun msgs hgood h => exec_controlFlit_of_other hgood msgs h⟩,
    fun s => ⟨fun e a h => s.relayLead_of_lower h, fun e a h => s.relayLead_of_higher h,
      fun v es hrole hnew => s.takeMessage_mapUpdate es hrole hnew, fun v es h => if_pos h,
      fun up d w => ⟨s.takeMessage_upstream, s.takeMessage_upstream_refused⟩,
      fun x => ⟨s.takeMessage_lower, fun y hy h => s.takeMessage_not_lower hy h⟩, fun r => rfl⟩,
    fun s p => ⟨fun h => ?_, fun hmine hgone => exec_packetLand_of_gone hmine hgone, fun hmine haccepts => ⟨?_, ?_⟩⟩⟩
  · exact congrArg Host.Outcome.next (if_pos hbad)
  · exact congrArg Host.Outcome.next (if_pos hbad)
  · exact congrArg Host.Outcome.next (if_pos (by rw [h]; rfl))
  · exact exec_packetLand_of_mine hmine haccepts
  · intro space off sem huse hsize hclosed hsem hfits
    refine ⟨_, exec_packetLand_of_mine hmine haccepts, ?_⟩
    have hforward := State.forwardIn_eq s p.ctx.val (.packet p)
    have hland : (s.forwardIn p.ctx.val (.packet p)).landPacket p =
        (s.forwardIn p.ctx.val (.packet p)).landWrite p.ctx.val space.toNat off sem p.data := by
      unfold State.landPacket
      rw [huse]
    rw [hland, hforward]
    exact State.landWrite_spec space (State.ownsShares_of_accepting haccepts) hsize hclosed hsem hfits

end Sys2Proof.Machine
end
